-- ==== Sys2Proof/Word.lean ====
section
/-! DEFINITION. The word and byte types (R11), the named sets of the spec that commands and state both name
(R17), and the description of one field of a word (R10). -/

namespace Sys2Proof

/-- A parameter or window word (R11). -/
abbrev Word := BitVec 32

/-- One byte of a message, a frame or a stored record. -/
abbrev Byte := BitVec 8

/-- A field of one word: its address (bank × 256 + word), its lowest bit and its width (R10). -/
structure Fld where
  addr : Nat
  lo : Nat
  width : Nat
  deriving DecidableEq, Repr

/-- The two host ports (R657): the SPI host port and the two-wire management target. -/
inductive HostPort where
  | spi
  | twoWire
  deriving DecidableEq, Repr

/-- The four Faces (R17). F1 and F2 have no offset or rate of their own (R31). -/
inductive Face where
  | f0
  | f1
  | f2
  | f3
  deriving DecidableEq, Repr

/-- The two Faces that hold an offset and a rate (R33). -/
inductive MainFace where
  | f0
  | f3
  deriving DecidableEq, Repr

/-- The twelve modes (R17, R701). -/
inductive Mode where
  | rise
  | grand
  | follow
  | relay
  | holdover
  | freeRun
  | measure
  | calibrate
  | maintain
  | standby
  | transit
  | safeHold
  deriving DecidableEq, Repr

/-- The eight power domains (R592). -/
inductive Domain where
  | aon
  | oven
  | time
  | out
  | net
  | pipe
  | array
  | host
  deriving DecidableEq, Repr

/-- The regulators (R609). -/
inductive Regulator where
  | core
  | tick
  | serdes
  | ana
  | aon
  deriving DecidableEq, Repr

/-- The banks that hold an arm code (R708's table of arm codes). -/
inductive ArmBank where
  | tb
  | str
  | srv
  | nts
  | grd
  deriving DecidableEq, Repr

/-- One sample of the Guard's sensors (the sensor table): the four die temperatures or the package temperature in 0.1 mK,
whether the package sensor is open or shorted, a supply or rail in mV, or the light code. -/
inductive SensorSample where
  | die (t0 t1 t2 t3 : Int)
  | package (t : Int) (broken : Bool)
  | vmain (mv : Nat)
  | vheat (mv : Nat)
  | vbat (mv : Nat)
  | core (mv : Nat)
  | aonRail (mv : Nat)
  | light (code : Nat)
  deriving DecidableEq, Repr

end Sys2Proof
end

