-- ==== Sys2Proof/Syntax.lean ====
section
/-! DEFINITION. The commands: one constructor per row of spec/opcode_table.json, with the operands that the world
outside the block supplies. -/

namespace Sys2Proof

/-- Where a two-wire transaction meets an SPI message that has the engine, or takes it in the same engine cycle (R675,
R679): nowhere, at its first address, or at the address of its read phase. -/
inductive TwMeets where
  | nothing
  | address
  | readAddress
  deriving DecidableEq, Repr

/-- The commands of the opcode table. Each docstring cites the rule of its row. -/
inductive Instr where
  /-- R752: AON powers up; the power sequencer begins in S3 with the VMAIN qualifier asserted and reports the start
  cause. -/
  | aonStart (vbat : Bool) (maddr : Nat)
  /-- R612: REG_AON output falls below 0.70 V; the start-cause flag is written and AON logic resets. -/
  | brownout (present : Bool)
  /-- R755: RST_N held low for 1 us or longer holds every domain other than AON and OVEN down. -/
  | coldReset
  /-- R755: RST_N rises; the domains start without restore and the mode becomes Rise. -/
  | resetRelease (maddr : Nat)
  /-- R623: Command 0x01 drops and restarts OUT, NET, PIPE, ARRAY and HOST without restore. -/
  | warmReset (p : HostPort) (arg : Word)
  /-- R705: Command 0x02 resets one port, tile, the pipeline or the NTS unit. -/
  | blockReset (p : HostPort) (arg : Word)
  /-- R706: The target of a block reset begins its start sequence and CMD_STATUS reaches DONE. -/
  | blockResetDone
  /-- R705: Command 0x03 puts the device into Safe Hold at the host's request. -/
  | safeEnter (p : HostPort) (arg : Word)
  /-- R761: Command 0x04 with its argument releases Safe Hold unless a Guard cause forbids it. -/
  | safeRelease (p : HostPort) (arg : Word)
  /-- R705: Command 0x05 latches all Faces, LAT_TALLY and LAT_ERA for the port at one tick boundary. -/
  | faceLatch (p : HostPort) (arg : Word)
  /-- R743: A write to MODE_REQ requests a mode, which is judged under the permitted-transition table. -/
  | modeReq (p : HostPort) (v : Word)
  /-- R753: PLL lock, HOST up, Rise calibrations ended and WARM (or the override) end Rise. -/
  | riseComplete
  /-- R596: A PWR.CMD DROP asks to drop a domain and its dependants, refused if a voter other than HOST holds one. -/
  | dropDomain (p : HostPort) (v : Word)
  /-- R598: An orderly drop finishes after its blocks drain: the retention section is saved, clamps applied and the
  regulator turned off. -/
  | domainDropped (d : Domain)
  /-- R602: A domain's regulator settles, isolation is released and the retention restore runs. -/
  | domainStarted (d : Domain)
  /-- R610: A regulator at its limit or under 90 % for 100 us drops its domains abruptly. -/
  | regulatorFault (r : Regulator) (mv ma : Nat)
  /-- R614: A write to LEVEL_REQ changes the effective performance level. -/
  | levelReq (p : HostPort) (v : Word)
  /-- R616: REG_CORE settles at the new level and PIPE applies the new caps if raising. -/
  | levelChangeDone
  /-- R615: A 10 ms sample of the hottest die sensor feeds the thermal-cap qualifier. -/
  | tcapSample
  /-- R625: A write of STATE 1, 2 or 3 to SLEEP_REQ requests entry to S1, S2 or S3. -/
  | sleepReq (p : HostPort) (v : Word)
  /-- R634: A write of STATE 0 to SLEEP_REQ wakes the device from S1 or S2. -/
  | wakeRequest (p : HostPort) (v : Word)
  /-- R632: The sleep entry reaches its target state and ENTERING clears. -/
  | sleepEntryDone
  /-- R636: A qualified activation of an armed wake pin sets SEEN and wakes a sleeping device. -/
  | wakePin (k : Nat)
  /-- R635: A wake pin sampled at its inactive level becomes armed and its ARMED bit sets. -/
  | wakePinArmed (k : Nat)
  /-- R634: The transit clock reaches WAKE_AT with AT_EN set and wakes the device. -/
  | wakeAt
  /-- R637: HOST is ON after a wake; WAKING clears and PWR_WAKE is raised. -/
  | wakeDone
  /-- R593: WAKE_HOLD seconds after a wake end the WAKE voter's hold. -/
  | wakeHoldExpired
  /-- R644: The VMAIN qualifier asserts; up domains drop abruptly, sections are saved and AON moves to VBAT in S3. -/
  | handover (vbat : Nat) (present : Bool)
  /-- R645: VMAIN is lost in S3 and REG_AON switches to VBAT within 2 us. -/
  | vmainLossInS3
  /-- R646: The VMAIN qualifier releases in S3; AON returns to VMAIN and, with VMAIN_RET, the device wakes. -/
  | vmainReturn (maddr : Nat)
  /-- R791: An I/O supply held within a window for 1 ms makes its bank present. -/
  | vioBankPresent (h : Bool) (mv maddr : Nat)
  /-- R791: An I/O supply outside every window for 10 us makes its bank absent. -/
  | vioBankAbsent (h : Bool)
  /-- R52: A read of a Face SEC_HI word latches that Face's words and LAT_TALLY for the reading port. -/
  | faceReadLatch (p : HostPort) (f : Face)
  /-- R16: A read of a _HI word latches the lower words for the reading port. -/
  | multiwordHiRead (p : HostPort) (a : Nat)
  /-- R16: A write of a _HI word applies the whole multi-word parameter with the port's held lower words. -/
  | multiwordHiWrite (p : HostPort) (a : Nat) (v : Word)
  /-- R37: A write of F0 or F3 RATE_HI requests a rate change, accepted within the rate-step limit and re-based. -/
  | rateWrite (p : HostPort) (f : MainFace) (v : Word)
  /-- R35: A write of F0 or F3 STEP_HI requests a step, applied at the next tick if within STEP_LIMIT. -/
  | hostStep (p : HostPort) (f : MainFace) (v : Word)
  /-- R40: A write of PEND_DELTA_HI holds a delta for a later commit. -/
  | pendDeltaWrite (p : HostPort) (v : Word)
  /-- R39: A write of the arm code to a bank's ARM word arms that bank for 100 ms for the writing port. -/
  | armBank (p : HostPort) (b : ArmBank) (v : Word)
  /-- R42: A write of the complement code to STR.COMMIT while armed applies the latched delta without the step limit.
  -/
  | commitDelta (p : HostPort) (v : Word)
  /-- R44: The arm window ends while still armed; the arming clears and ARM_EXPIRED is raised. -/
  | armExpired (b : ArmBank)
  /-- R711: A write to an ARM_CODE changes the code at once and clears any arming of its bank. -/
  | armCodeWrite (p : HostPort) (b : ArmBank) (v : Word)
  /-- R712: A write of 1 to a BANK_LOCK bit locks the RL fields of TB, STR, SRV or NTS until cold reset. -/
  | bankLockWrite (p : HostPort) (v : Word)
  /-- R46: A LEAP_CTL write setting INSERT or DELETE schedules a leap if its conditions hold. -/
  | leapSchedule (p : HostPort) (v : Word)
  /-- R49: A LEAP_CTL write of NONE while a leap is pending cancels it outside the smear window. -/
  | leapCancel (p : HostPort) (v : Word)
  /-- R47: F0 reaches LEAP_AT; UTC_OFFSET changes by one, LEAP_DONE is set and a Ledger entry written. -/
  | leapApplied
  /-- R48: F0 enters the smear window and IN_SMEAR is set. -/
  | smearWindowOpen
  /-- R48: The smear window closes, F2 equals F1 and IN_SMEAR clears. -/
  | smearWindowClose
  /-- R50: An armed write to UTC_OFFSET moves F1 and F2 at the next tick and writes a Ledger entry. -/
  | utcOffsetWrite (p : HostPort) (v : Word)
  /-- R62: A 250 ms cavity sample runs the heater loop and the T_INBAND qualifier. -/
  | ovenSample (a b : Int) (vheat drive commanded : Nat)
  /-- R86: WARM is not set within 15 min of heating and OVEN_FAULT SLOW_WARM is reported. -/
  | slowWarmTimeout
  /-- R65: An armed write of OVEN_EN starts or stops the heater, releasing T_INBAND when stopped. -/
  | ovenEnWrite (p : HostPort) (v : Word)
  /-- R88: The 50 ms heater ramp ends; a latched enable restarts heating. -/
  | heaterRampDone
  /-- R72: 4,096 in-window resonator cycles set PLL_LOCK; the Tally starts counting at the first lock. -/
  | pllLocked
  /-- R74: PLL_LOCK clears while the Tally runs; TICK_UNLOCK is raised and reported to the Guard. -/
  | tickUnlock
  /-- R830: An X32 window ends at 32,768 crystal cycles or after 2 s and is judged. -/
  | x32WindowEnd (ticks : Nat) (completed : Bool) (slips : Nat)
  /-- R75: A 10 s REF gate against the check reference ends and its deviation is qualified. -/
  | refGateEnd (dev : Int)
  /-- R70: A write of a *_DWELL word applies the held threshold descriptor and resets the run count. -/
  | thresholdDescriptorWrite (p : HostPort) (a : Nat) (v : Word)
  /-- R92: An edge after the prescaler arrives at a fine channel and receives a full, coarse-only or no stamp. -/
  | refEdge (n sub k : Nat) (falling short : Bool)
  /-- R89: The vernier conversion ends and the stamp is composed and sent to the internal tap and queue. -/
  | stampCompose (n cnt : Nat) (met : Bool)
  /-- R100: A 1 ms window ends and the count of offered EDGE entries restarts. -/
  | vqRateWindowEnd
  /-- R98: A read of VQ.Vn_ENTRY_HI pops the head entry and latches its low word for the port. -/
  | vqEntryRead (p : HostPort) (n : Nat)
  /-- R111: A read of VQ.Vn_FIFO alternates between popping an entry and returning its latched low word. -/
  | vqFifoRead (p : HostPort) (n : Nat)
  /-- R97: A write of 1 to VQ.Vn_FLUSH empties the queue. -/
  | vqFlush (p : HostPort) (n : Nat) (v : Word)
  /-- R113: A write to VC.Vn_MARK places a host marker in the channel's queue. -/
  | vcMark (p : HostPort) (n : Nat) (v : Word)
  /-- R112: A write to a channel's control, delay or VCAL words takes effect after the conversion and writes a marker.
  -/
  | vcCtlWrite (p : HostPort) (a : Nat) (v : Word)
  /-- R114: A channel disable completes; a latched enable restarts the channel with an ENABLED marker. -/
  | vcDrainDone (n : Nat)
  /-- R104: IDLE_LIMIT ms pass without a stamped edge; IDLE is set and VC_IDLE raised. -/
  | vcIdle (n : Nat)
  /-- R110: A measure unit's gate ends; its statistics move to the result words and GATE_DONE is set. -/
  | measureGateEnd (m : Nat)
  /-- R138: A write of RUN to VCAL.Vn_CAL_CTL starts a full calibration run. -/
  | calRun (p : HostPort) (n : Nat) (v : Word)
  /-- R138: A write of TRIM_ONLY starts a trim-only calibration run. -/
  | calTrimOnly (p : HostPort) (n : Nat) (v : Word)
  /-- R128: A write of DISCARD restores nominal widths and step and erases the stored table. -/
  | calDiscard (p : HostPort) (n : Nat) (v : Word)
  /-- R133: A due channel not in use, or a deferred one at a stamped edge, starts a run by itself. -/
  | calAutoStart (n : Nat)
  /-- R133: A channel's table reaches MAX_AGE hours and the channel becomes due. -/
  | calDue (n : Nat)
  /-- R66: A 1 s sample of die-temperature drift feeds the channel's drift qualifier. -/
  | calDriftSample (n : Nat)
  /-- R135: TRIM_PERIOD seconds pass and a trim-only run is due on each enabled channel. -/
  | trimPeriodDue
  /-- R120: N density hits arrive and the uniformity and coverage tests are applied. -/
  | calHitsCollected (n : Nat) (quarters : List (List Nat))
  /-- R118: Fewer than N hits arrive within TIMEOUT and the run aborts NO_EDGES. -/
  | calNoEdgesTimeout (n : Nat)
  /-- R123: A vernier trim measurement over G ticks ends and the trim code is adjusted or accepted. -/
  | trimMeasurementDone (n slow fast : Nat)
  /-- R129: A TSU DLL holds 1,024 in-window ticks and sets LOCKED. -/
  | dllLocked (t : Nat)
  /-- R131: A TSU DLL clears LOCKED; DLL_UNLOCK is raised and the port enters TS_SETTLING. -/
  | dllUnlock (t : Nat)
  /-- R132: A write of 1 to a DLL_CMD bit forces a TSU to re-acquire unless its link is in service. -/
  | dllReacquire (p : HostPort) (v : Word)
  /-- R149: 1.5 periods pass without an on-time stamp and the PIN slot declares loss of signal. -/
  | refLos (n : Nat)
  /-- R150: 1.5 Sync intervals pass without a usable Sync and the NET slot declares loss of signal. -/
  | netSyncTimeout (n : Nat)
  /-- R155: A sentence arrives on GRX0 or GRX1 and is accepted, counted or ignored; `line` is without its CR LF. -/
  | nmeaSentence (g : Nat) (line : List Nat)
  /-- R156: A quality verdict ages past MSG_TIMEOUT and stops being fresh. -/
  | nmeaVerdictExpired (g kind : Nat)
  /-- R153: 5 s pass without an ESMC PDU and SYNCE_QL becomes DNU. -/
  | esmcTimeout (n : Nat)
  /-- R161: 10 s pass without an integrity verdict and the slot's verdict becomes UNKNOWN. -/
  | integVerdictTimeout (n : Nat)
  /-- R163: A slot's wait-to-restore ends, making it eligible and possibly reverting the selection. -/
  | wtrExpired (n : Nat)
  /-- R164: A write to REFM.SEL_REQ selects a slot, runs AUTO or deselects. -/
  | selReq (p : HostPort) (v : Word)
  /-- R173: A write of the selected slot to ABS_CLEAR asks STR for a step of its absorbed offset. -/
  | absClear (p : HostPort) (v : Word)
  /-- R175: A write of ANT_CTL.EN starts the antenna ramp or opens and discharges the switch. -/
  | antCtlWrite (p : HostPort) (v : Word)
  /-- R177: A write of CLR clears ANT_FAULT, resets the failure count and restarts a ramp. -/
  | antClr (p : HostPort) (v : Word)
  /-- R175: The 2 ms antenna ramp completes without failure. -/
  | antRampDone
  /-- R175: The 1 ms discharge ends; a latched enable starts a full ramp. -/
  | antDischargeDone
  /-- R176: Current at the limit for 500 us during the ramp opens the switch as a failure. -/
  | antRampLimitFail
  /-- R176: A short after the ramp trips the switch within 50 us as a failure. -/
  | antShortTrip
  /-- R177: The back-off after a failure ends and a new ramp starts. -/
  | antRetry
  /-- R177: 64 s without a trip after a good ramp reset the failure count. -/
  | antCountReset
  /-- R179: A 1 ms switch-temperature sample may open the switch thermally or restart the ramp. -/
  | antTempSample (temp : Int)
  /-- R180: A 1 ms current sample detects an open antenna and raises ANT_OPEN. -/
  | antCurrentSample (ima : Nat)
  /-- R188: SRV updates the loop from the latest measurements and submits a rate change to STR. -/
  | srvUpdate
  /-- R195: SRV.CMD REACQUIRE with cause JUMP makes REFM treat the selected slot as a new switch. -/
  | reacquire (p : HostPort) (v : Word)
  /-- R198: SRV.CMD RESUME leaves HOLDOVER when a slot is selected and HO_EXIT = 1. -/
  | resumeServo (p : HostPort) (v : Word)
  /-- R200: Once a second in HOLDOVER SRV sets F0's rate from the entry rate, correction and prediction. -/
  | hoRateUpdate
  /-- R199: HO_LIMIT seconds of holdover put SRV in FROZEN and the mode in Free-run. -/
  | hoLimitReached
  /-- R209: At each F0 second multiple of 600 a drift record is written and the estimator updated. -/
  | driftRecord
  /-- R204: No good prediction arrives for the next interval; w begins to fall and PRED_STALE is raised. -/
  | predDecayStart
  /-- R209: An armed write to SRV.HIST_CLEAR empties the drift history and zeroes EST_COUNT. -/
  | histClear (p : HostPort) (v : Word)
  /-- R230: An output's scheduled edge is launched on the pad. -/
  | outputEdge (n : Nat)
  /-- R254: A write to OUTn_CTL enables, disables or reconfigures an output. -/
  | outputCtlWrite (p : HostPort) (n : Nat) (v : Word)
  /-- R227: A write of OUTn_AT_SEC_HI arms the one-shot. -/
  | oneshotArm (p : HostPort) (n : Nat) (v : Word)
  /-- R240: PCR.CMD ALIGN sets the output offset to its policy's target. -/
  | alignOutput (p : HostPort) (v : Word)
  /-- R241: PCR.CMD SLEW_ALIGN moves the output offset toward its target at SLEW_MAX. -/
  | slewAlign (p : HostPort) (v : Word)
  /-- R241: PCR.CMD STOP ends a slew where it stands. -/
  | slewStop (p : HostPort) (v : Word)
  /-- R228: PCR.CMD DISARM returns a one-shot to IDLE. -/
  | disarm (p : HostPort) (v : Word)
  /-- R241: The output offset reaches its target; SLEWING clears and OUT_ALIGN_DONE is raised. -/
  | slewDone (n : Nat)
  /-- R246: 1 ms after squelch begins a high time is ended and the output held at squelch level. -/
  | squelchHoldTimeout (n : Nat)
  /-- R256: An output disable completes; a latched enable restarts the output. -/
  | outputDrainDone (n : Nat)
  /-- R249: A write of PCR.VER_CTL starts or stops loopback verification. -/
  | verCtlWrite (p : HostPort) (v : Word)
  /-- R250: A 1,000 ms verification gate ends and its error statistics are stored. -/
  | verGateEnd
  /-- R264: A 10 us PCS sample qualifies the link up or drops it. -/
  | pcsSample (p : Nat) (lock hiBer remoteFault anDone fullDuplex fecLock : Bool) (code corr uncorr : Nat)
  /-- R269: A received frame is FCS-checked, counted in one counter and buffered for INTAKE. -/
  | rxFrame (p : Nat) (bytes : List Byte) (bin ago : Nat)
  /-- R284: The received pause time runs out and the port may start frames again. -/
  | rxPauseEnd (p : Nat)
  /-- R276: A 64 ns sample of the receive-buffer level asserts or releases XOFF. -/
  | rxbLevelSample (p : Nat)
  /-- R277: Half the last pause time passes with XOFF asserted and the PAUSE is sent again. -/
  | pauseRepeat (p : Nat)
  /-- R280: A waiting PAUSE frame leaves in the first sufficient gap of the timeline. -/
  | pauseFrameSend (p : Nat)
  /-- R286: A transmitted frame's last FCS byte leaves the MAC and is counted. -/
  | txFrameDone (p : Nat)
  /-- R290: A write of SNAP.CTL.TRIG places a snapshot at the next tick boundary. -/
  | snapTrig (h : HostPort) (v : Word)
  /-- R290: The Tally reaches a multiple of SNAP.PERIOD and a snapshot falls. -/
  | snapPeriodic
  /-- R295: The hold window ends without link; held unslotted frames are discarded. -/
  | holdWindowExpired (p : Nat)
  /-- R262: A write to MACn.CTL enables or disables the port. -/
  | portCtlWrite (h : HostPort) (p : Nat) (v : Word)
  /-- R299: A port disable completes; a latched enable starts the port's full sequence. -/
  | portDrainDone (p : Nat)
  /-- R274: A write of IFe_CTL applies an interface entry with its held address words. -/
  | ifCtlWrite (h : HostPort) (p e : Nat) (v : Word)
  /-- R312: A write of RUN to MACn.LAT_CAL starts latency calibration if the port is eligible. -/
  | latCalRun (h : HostPort) (p : Nat) (v : Word)
  /-- R315: A write of DISCARD zeroes the mode's ADJ values and erases the stored copy. -/
  | latCalDiscard (h : HostPort) (p : Nat) (v : Word)
  /-- R313: 256 loop frames are measured and TX_ADJ and RX_ADJ set, or the run aborts on spread. -/
  | latCalDone (p : Nat) (mean : Int) (spread : Nat)
  /-- R314: The loopback PCS has not locked within 1 ms and the run aborts NO_LOOP. -/
  | latCalNoLoop (p : Nat)
  /-- R317: A 100 us measurement of RX_VAR and TX_VAR may complete settling. -/
  | tsSettleMeasure (p : Nat) (rxVar txVar : Int)
  /-- R318: Settling not done within 20 ms clears LINK_UP and requalifies the link. -/
  | tsSettleSlow (p : Nat)
  /-- R323: A 1 ms window ends and the port's slot margin is adapted. -/
  | marginWindowEnd (p : Nat)
  /-- R324: A slotted frame reaches its commit point and is committed or takes the missed-slot path. -/
  | slotCommit (p : Nat)
  /-- R330: A slotted frame crosses the frontier and its actual stamp is checked against its slot. -/
  | slottedFrameLaunch (p bin : Nat)
  /-- R345: INTAKE takes a frame from a receive buffer with a context and an issue token. -/
  | intake
  /-- R343: SORT parses and classifies a context and hands it on or ends it. -/
  | sortCtx
  /-- R457: ADMIT judges an NTP, NTS or PTP request context and admits or ends it. -/
  | admitCtx
  /-- R325: READ obtains a departure slot and computes the Face values for the context. -/
  | readCtx
  /-- R432: SEAL composes the reply, writes its timestamps and seals NTS replies. -/
  | sealCtx (i : Nat)
  /-- R341: LAUNCH stages a composed frame on its port against its slot. -/
  | launchCtx (i : Nat)
  /-- R348: A context not ended within CTX_TIMEOUT ends EXPIRED. -/
  | ctxExpired (i : Nat)
  /-- R360: A write to PIPE.HK_ANNOUNCE sends gratuitous ARP and unsolicited NA on a port. -/
  | hkAnnounce (p : HostPort) (v : Word)
  /-- R364: A read of PIPE.MBX_DATA returns and removes the next 4 bytes of the oldest record. -/
  | mbxDataRead (p : HostPort)
  /-- R364: A write of 1 to PIPE.MBX_FLUSH empties the mailbox. -/
  | mbxFlush (p : HostPort) (v : Word)
  /-- R366: A write of PIPE.CTL.EN stops or starts INTAKE, draining contexts when stopped. -/
  | pipeCtlWrite (p : HostPort) (v : Word)
  /-- R366: The last context ends after a disable or block reset and PIPE restarts if latched. -/
  | pipeDrainDone
  /-- R379: A MASTER port's announce interval elapses and an Announce is originated. -/
  | ptpAnnounceTx (p : Nat) (grant : Option Nat)
  /-- R379: A MASTER port's or grantee's Sync interval elapses and a one-step Sync is originated. -/
  | ptpSyncTx (p : Nat) (grant : Option Nat)
  /-- R378: A tracking port's random Delay_Req interval elapses and a Delay_Req is sent. -/
  | ptpDelayReqTx (p : Nat)
  /-- R385: A foreign-master record receives no Announce within ANN_TMO intervals and expires. -/
  | foreignMasterExpired (p i : Nat)
  /-- R388: The PRE_MASTER time ends and the port becomes MASTER. -/
  | preMasterDone (p : Nat)
  /-- R399: A unicast grant reaches the end of its duration and lapses. -/
  | ucGrantLapse (i : Nat)
  /-- R400: A port with UC_REQ requests or renews unicast transmission from its master. -/
  | ucRequestTx (p : Nat)
  /-- R406: A write of 1 to PTP.SM_COMMIT applies new synchronization metadata atomically. -/
  | smCommit (p : HostPort) (v : Word)
  /-- R407: A MASTER port sends the metadata TLV in a multicast Management message. -/
  | smManagementTx (p : Nat)
  /-- R438: KEY_CMD ROTATE draws a new key into an EMPTY slot and starts a rotation. -/
  | ntsRotate (p : HostPort) (v : Word)
  /-- R443: KEY_CMD RETIRE destroys a GRACE slot's key at once. -/
  | ntsRetire (p : HostPort) (v : Word)
  /-- R443: KEY_CMD WIPE_ALL destroys every key, keeping GEN_NEXT. -/
  | ntsWipeAll (p : HostPort) (v : Word)
  /-- R440: The ACTIVE slot's age reaches ROT_PERIOD and an automatic rotation begins. -/
  | ntsAutoRotate
  /-- R441: 60 s after a refused automatic rotation the unit tries again. -/
  | ntsRotateRetry
  /-- R438: The rotation makes the new slot ACTIVE and the old one GRACE in one tick. -/
  | ntsRotationSwitch
  /-- R442: A GRACE slot's remaining time reaches 0 and its key is destroyed. -/
  | ntsGraceEnd (k : Nat)
  /-- R446: A write to NTS.MINT_CMD starts minting cookies for the writing port. -/
  | mintCmd (p : HostPort) (v : Word)
  /-- R446: The mint finishes; MINT_OUT holds the cookies and the input words are cleared. -/
  | mintDone (p : HostPort)
  /-- R461: A write of 1 to ADM.FLUSH empties the flow table and refills the overflow bucket. -/
  | admFlush (p : HostPort) (v : Word)
  /-- R474: A write of GO looks up an address in the flow table without changing it. -/
  | admLookup (p : HostPort) (v : Word)
  /-- R475: A write of OVRo_CTL applies an override's prefix, rate and depth together. -/
  | ovrCtlWrite (p : HostPort) (o : Nat) (v : Word)
  /-- R461: ADM draws a new hash key once the random source is healthy, emptying the table. -/
  | admHashKeyDraw
  /-- R508: A write of a tile's EN starts it or begins its drain. -/
  | tileEnWrite (p : HostPort) (t : Nat) (v : Word)
  /-- R508: A tile completes its start sequence and enters READY. -/
  | tileStarted (t : Nat)
  /-- R512: A tile disable completes; a latched enable restarts it. -/
  | tileDrainDone (t : Nat)
  /-- R493: A tile row write finishes and the row is set VALID or left invalid. -/
  | rowWriteDone (target stuck : Nat) (good : Bool)
  /-- R499: An analog recalibration ends and is accepted or refused. -/
  | tileRecalDone (t : Nat) (sums : List (List Nat))
  /-- R500: 1 s after a refused recalibration the tile tries again. -/
  | tileRecalRetry (t : Nat)
  /-- R501: A tile's calibration age or temperature qualifier makes it due for recalibration. -/
  | tileRecalDue (t : Nat)
  /-- R502: A due tile has waited RECAL_WAIT_MAX and accepts no new job. -/
  | tileRecalWaitExpired (t : Nat)
  /-- R504: TV_PERIOD seconds of READY time make a test-vector check due. -/
  | tileCheckDue (t : Nat)
  /-- R503: A test-vector check ends in pass or failure. -/
  | tileCheckDone (t : Nat) (codes : List Nat) (ecc : List (Nat × Bool))
  /-- R510: ARR.CMD RECAL queues a recalibration of an analog tile. -/
  | arrRecal (p : HostPort) (v : Word)
  /-- R510: ARR.CMD CHECK queues a test-vector check. -/
  | arrCheck (p : HostPort) (v : Word)
  /-- R511: ARR.CMD RESET abandons the tile's work and restarts it. -/
  | tileReset (p : HostPort) (v : Word)
  /-- R520: A write of Mm_CTL.EN enables or disables a model. -/
  | modelCtlWrite (p : HostPort) (m : Nat) (v : Word)
  /-- R525: ARR.LOAD_CTL GO starts an image load into a tile or layer store. -/
  | loadGo (p : HostPort) (v : Word)
  /-- R529: ARR.LOAD_CTL ABORT cancels the running load. -/
  | loadAbort (p : HostPort) (v : Word)
  /-- R526: A write to ARRW.LOAD_DATA feeds four image bytes to the load engine. -/
  | loadDataWrite (p : HostPort) (v : Word)
  /-- R531: A job is offered to the queue or ends VOID FULL. -/
  | jobOffer (cls n : Nat)
  /-- R161: Once a second REFM offers an integrity job for each eligible slot. -/
  | integJobOffer (n : Nat)
  /-- R469: Every ABUSE_INTV ms ADM offers a batch of flows for scoring. -/
  | abuseBatchOffer
  /-- R537: A write of 1 to ARR.USER_SUBMIT offers a USER job. -/
  | userSubmit (p : HostPort) (v : Word)
  /-- R532: A queued job starts once its model's tiles are READY. -/
  | jobStart (codes : List Nat) (ecc : List (Nat × Nat × Bool)) (reloads : List (Option Nat))
  /-- R534: A job not yet started passes its deadline and ends VOID. -/
  | jobDeadline (k : Nat)
  /-- R535: A job's last roll ends and the job completes DONE or VOID and delivers its result. -/
  | jobComplete (m : Nat)
  /-- R547: A Guard sensor sample is qualified and counted toward a trip. -/
  | grdSensorSample (x : SensorSample)
  /-- R545: A lid-mesh check drives and reads back each serpentine. -/
  | meshCheck (opens shorts wrong : Nat)
  /-- R544: A TAMP input held active for QUAL AON cycles is latched as an activation. -/
  | tampActivation (n : Nat) (active : Bool)
  /-- R574: FORCE_SAFE_N held low for 4 AON cycles trips the FORCE source. -/
  | forceSafeN (low : Bool)
  /-- R549: A write of 1 to a GRD.TRIPPED bit clears the trip if its source is quiet. -/
  | trippedClear (p : HostPort) (v : Word)
  /-- R557: A write of 1 to GRD.LOCK locks the Guard configuration. -/
  | grdLock (p : HostPort) (v : Word)
  /-- R558: An armed write of 0 to GRD.LOCK unlocks the configuration and writes a Ledger entry. -/
  | grdUnlock (p : HostPort) (v : Word)
  /-- R566: Every 250 ms in Transit the Guard wakes for 40 us to sample its battery-powered sources. -/
  | lowdutyWindow (temp : Int) (broken : Bool) (vbat aon light opens shorts wrong : Nat)
  /-- R561: A wide-distance machine holds an invalid codeword; it is recorded and the machine recovers. -/
  | codewordDetected (machine slot value : Nat)
  /-- R563: A health test of the random source fails; output stops and RNG_OK clears. -/
  | trngHealthFail
  /-- R563: Every 10 s the start-up test is repeated and RNG_OK set at the first pass. -/
  | trngRetest (pass : Bool)
  /-- R565: A read of GRD.RNG_DATA returns 32 bits from the host DRBG. -/
  | rngDataRead (p : HostPort)
  /-- R580: The head group of the Ledger queue is written, read back and committed by its COUNT write. -/
  | ldgGroupCommit (worn : List Bool)
  /-- R587: Reads of LDG.ENTRY words return a slot, with ENTRY_7 advancing SEL. -/
  | ldgEntryRead (p : HostPort) (k : Nat)
  /-- R665: An SPI NOP message returns only the status byte. -/
  | spiNop (early : Bool) (bytes : List Byte)
  /-- R833: An SPI READ message fetches words from the window and returns them with a CRC. -/
  | spiRead (early : Bool) (bytes : List Byte)
  /-- R660: An SPI WRITE message applies its words after its CRCs verify. -/
  | spiWrite (early : Bool) (bytes : List Byte)
  /-- R671: A two-wire NOP transaction returns the status byte. -/
  | twNop (addr : Nat) (meets : TwMeets) (bytes : List Byte) (n : Nat)
  /-- R674: A two-wire READ fetches its words in a burst and returns them. -/
  | twRead (addr : Nat) (meets : TwMeets) (bytes : List Byte) (n : Nat)
  /-- R673: A two-wire WRITE is collected whole and verified by its PEC. -/
  | twWrite (addr : Nat) (meets : TwMeets) (bytes : List Byte) (waits : Bool) (n : Nat)
  /-- R693: A collected two-wire write is applied once the engine is free. -/
  | twWriteApply
  /-- R676: SCL held low over 25 ms abandons the two-wire transaction. -/
  | twTimeout
  /-- R681: A CLAIM TAKE applied at the CLAIM_CODE write grants a lease on the engine. -/
  | claimTake (p : HostPort) (ms code : Nat)
  /-- R683: A CLAIM RELEASE with the matching code ends the lease. -/
  | claimRelease (p : HostPort) (code : Nat)
  /-- R684: A lease reaches its time and ends after any holder message in progress. -/
  | claimExpired
  /-- R685: A BB_CMD READ job reads bytes from a board-bus device. -/
  | bbRead (p : HostPort) (v : Word)
  /-- R685: A BB_CMD PAGE job writes the SFF-8472 page select. -/
  | bbPage (p : HostPort) (v : Word)
  /-- R685: A BB_CMD WRITE job writes up to 4 bytes to an enabled address. -/
  | bbWrite (p : HostPort) (v : Word)
  /-- R687: The board-bus controller loses arbitration and releases the lines. -/
  | bbArbLost
  /-- R688: After the bus is free and the back-off ends the job retries from START. -/
  | bbRetry
  /-- R690: A board-bus job ends DONE, NACK or ARB_LOST and raises its event. -/
  | bbJobDone (acked : Bool) (data : List Byte)
  /-- R689: The bus is not free within 50 ms or SCL is held over 25 ms and the job ends TIMEOUT. -/
  | bbTimeout
  /-- R658: An access through DATA or DATA_HOLD acts on the pointed parameter, DATA incrementing PTR_WORD. -/
  | dataAccess (p : HostPort) (keep write : Bool) (v : Word)
  /-- R709: A write to PTR_BANK or PTR_WORD sets the port's pointer and resets its FIFO alternation. -/
  | pointerWrite (p : HostPort) (bank : Bool) (v : Word)
  /-- R703: An access to an alias word acts on its bank/word without moving the pointers. -/
  | aliasAccess (p : HostPort) (k : Nat) (write : Bool) (v : Word)
  /-- R15: A write to a parameter with no row of its own is judged and applied or discarded. -/
  | registerWrite (p : HostPort) (a : Nat) (v : Word)
  /-- R722: A write of 1 to an EVT sticky bit clears it and any cause bits of its number. -/
  | stickyClear (p : HostPort) (g : Nat) (v : Word)
  /-- R725: A write of 1 to a group A cause bit clears that cause only. -/
  | causeClear (p : HostPort) (hi : Bool) (v : Word)
  /-- R728: The 1 us release pulse of an interrupt line ends and the line is driven low again. -/
  | irqPulseEnd (b : Bool)
  /-- R782: A write to OBS.CTL or OUT_MASK changes tracing at the next word boundary. -/
  | obsCtlWrite (p : HostPort) (mask : Bool) (v : Word)
  /-- R773: A write to OBS.MARK forms a MARK trace record. -/
  | obsMark (p : HostPort) (v : Word)
  /-- R775: At each Tally multiple of 2^20 a TIME record is sent. -/
  | traceTimeRecord
  /-- R119: During collection one bin reaches N/4 hits and the calibration run aborts SATURATED at once. -/
  | calBinSaturated (n bin : Nat)
  /-- R554: The Guard finishes overwriting and reading back every destroyed key and leaves ZEROISING. -/
  | zeroisationComplete
  /-- R686: A board-bus job waiting for a busy bus starts its first transfer once the bus has been free for the
  required time. -/
  | freeBusTransferStart
  /-- R774: At each 51.2 ns word boundary the trace port sends the next FIFO word, or a SYNC when the FIFO is empty or
  255 words have passed without one. -/
  | traceWordBoundary
  deriving DecidableEq, Repr

end Sys2Proof
end

