-- ==== Sys2Proof/Machine/Events.lean ====
section
/-! DEFINITION. The events of R734: a number, and for a group A name its cause bit (63 outside group A, R733). -/

namespace Sys2Proof.Machine

/-- One event name: its number and its cause bit, 63 outside group A. -/
abbrev EventId := Nat × Nat

end Sys2Proof.Machine

namespace Sys2Proof.Machine.Ev

def ERA_CHANGE : EventId := (0, 0)
def STEP_REFUSED : EventId := (1, 1)
def RATE_REFUSED : EventId := (1, 2)
def STEP_COMMITTED : EventId := (2, 3)
def ARM_MISMATCH : EventId := (3, 4)
def ARM_EXPIRED : EventId := (3, 5)
def LEAP_DONE : EventId := (4, 6)
def WARM_SET : EventId := (5, 7)
def WARM_LOST : EventId := (5, 8)
def OVEN_FAULT : EventId := (6, 9)
def TICK_UNLOCK : EventId := (7, 10)
def TICK_SLIP : EventId := (8, 11)
def TICK_SUSPECT : EventId := (9, 12)
def X32_SUSPECT : EventId := (9, 13)
def TICK_REF_DISAGREE : EventId := (10, 14)
def VC_RANGE : EventId := (11, 15)
def VC_VERN_OVR : EventId := (11, 16)
def VC_IDLE : EventId := (12, 17)
def VQ_OVERFLOW : EventId := (13, 18)
def VQ_WATERMARK : EventId := (14, 19)
def CAL_DONE : EventId := (15, 20)
def CAL_ABORT : EventId := (15, 21)
def REF_QUAL : EventId := (16, 22)
def REF_LOS : EventId := (16, 23)
def REF_IQ : EventId := (17, 24)
def REF_INTEG : EventId := (17, 25)
def SEL_CHANGE : EventId := (18, 26)
def SEL_REFUSED : EventId := (19, 27)
def SWITCH_HELD : EventId := (19, 28)
def ANT_FAULT : EventId := (20, 29)
def ANT_THERMAL : EventId := (21, 30)
def ANT_OPEN : EventId := (21, 31)
def SRV_LOCK : EventId := (22, 32)
def SRV_CLAMP : EventId := (23, 33)
def SRV_JUMP : EventId := (23, 34)
def HO_ENTER : EventId := (24, 35)
def HO_EXIT : EventId := (24, 36)
def HO_BUDGET : EventId := (25, 37)
def EST_READY : EventId := (26, 38)
def PRED_STALE : EventId := (26, 39)
def OUT_MISSED : EventId := (27, 40)
def OUT_SKIP : EventId := (27, 41)
def OUT_INPUT_JUMP : EventId := (28, 42)
def OUT_FOLLOW_LOST : EventId := (28, 43)
def OUT_ALIGN_DONE : EventId := (29, 44)
def OUT_MISALIGN : EventId := (30, 45)
def OUT_VERIFY_FAIL : EventId := (31, 46)
def LINK_UP : EventId := (32, 63)
def LINK_DOWN : EventId := (33, 63)
def RXB_DROP : EventId := (34, 63)
def RXB_XOFF : EventId := (35, 63)
def MAC_CNT_HALF : EventId := (36, 63)
def SNAP_DONE : EventId := (37, 63)
def SNAP_MISSED : EventId := (38, 63)
def DLL_UNLOCK : EventId := (39, 63)
def LAT_CAL_ABORT : EventId := (40, 63)
def LAT_CAL_DONE : EventId := (41, 63)
def TS_SETTLED : EventId := (42, 63)
def TS_SETTLE_SLOW : EventId := (43, 63)
def SLOT_MISS_DROP : EventId := (44, 63)
def TX_STAMP_DEV : EventId := (45, 63)
def PIPE_EXPIRED : EventId := (46, 63)
def PIPE_CTX_FULL : EventId := (47, 63)
def HK_LIMIT : EventId := (48, 63)
def MBX_FULL : EventId := (49, 63)
def PIPE_VOID : EventId := (50, 63)
def PTP_CLASS : EventId := (51, 63)
def PTP_PARENT : EventId := (52, 63)
def PTP_UTC_MISMATCH : EventId := (53, 63)
def PTP_GRANT_DENIED : EventId := (54, 63)
def PTP_UC_FULL : EventId := (55, 63)
def NTP_COND : EventId := (56, 63)
def NTS_NAK : EventId := (57, 63)
def NTS_ROTATED : EventId := (58, 63)
def NTS_ROT_REFUSED : EventId := (59, 63)
def NTS_GRACE_END : EventId := (60, 63)
def NTS_KEYS_GONE : EventId := (61, 63)
def ADM_OVERFLOW : EventId := (62, 63)
def ADM_SCORE_VOID : EventId := (63, 63)
def TILE_SAT : EventId := (64, 63)
def TILE_ECC : EventId := (65, 63)
def TILE_STUCK : EventId := (66, 63)
def TILE_RECAL_FAIL : EventId := (67, 63)
def TILE_TV_FAIL : EventId := (68, 63)
def TILE_FAIL : EventId := (69, 63)
def LOAD_DONE : EventId := (70, 63)
def LOAD_ABORT : EventId := (71, 63)
def JOB_VOID : EventId := (72, 63)
def GRD_NOTE : EventId := (73, 63)
def GRD_ALARM : EventId := (74, 63)
def GRD_ZEROIZE : EventId := (75, 63)
def GRD_UNLOCK : EventId := (76, 63)
def GRD_CODEWORD : EventId := (77, 63)
def LDG_QUEUE_LOST : EventId := (78, 63)
def LDG_NEAR : EventId := (79, 63)
def LDG_FULL : EventId := (80, 63)
def PARAM_REJECT : EventId := (96, 63)
def PWR_REFUSED : EventId := (97, 63)
def PWR_DOMAIN : EventId := (98, 63)
def PWR_REG_FAULT : EventId := (99, 63)
def PWR_RET_FAIL : EventId := (100, 63)
def PWR_BROWNOUT : EventId := (101, 63)
def PWR_LEVEL : EventId := (102, 63)
def PWR_TCAP : EventId := (103, 63)
def WAKE_PIN : EventId := (104, 63)
def PWR_SLEEP : EventId := (105, 63)
def PWR_WAKE : EventId := (106, 63)
def PWR_HANDOVER : EventId := (107, 63)
def CLAIM_EXPIRED : EventId := (108, 63)
def BOARD_DONE : EventId := (109, 63)
def BOARD_FAIL : EventId := (110, 63)
def HOST_FRAME_ERR : EventId := (111, 63)
def MODE_CHANGE : EventId := (112, 63)
def MODE_REFUSED : EventId := (113, 63)
def SAFE_ENTERED : EventId := (114, 63)
def SAFE_RELEASED : EventId := (115, 63)
def CMD_DONE : EventId := (116, 63)

end Sys2Proof.Machine.Ev
end

