-- ==== Sys2Proof/Machine/Bits.lean ====
section
/-! DEFINITION. Bit fields, signed readings, byte order and integer helpers that every block uses
(R10, R11). -/

namespace Sys2Proof.Machine

/-- The `width` bits of `v` from bit `lo` up. -/
def bitsAt (v lo width : Nat) : Nat := (v / 2 ^ lo) % 2 ^ width

/-- `v` with its `width` bits from bit `lo` replaced by those of `x`. -/
def withBits (v lo width x : Nat) : Nat :=
  v - bitsAt v lo width * 2 ^ lo + (x % 2 ^ width) * 2 ^ lo

/-- Bit `k` of `v`. -/
def bitOf (v k : Nat) : Bool := (v / 2 ^ k) % 2 == 1

/-- The two's complement reading of the low `width` bits of `v`. -/
def signedOf (width v : Nat) : Int :=
  let u := v % 2 ^ width
  if u < 2 ^ (width - 1) then (u : Int) else (u : Int) - 2 ^ width

/-- The `width`-bit two's complement code of `i`, wrapping. -/
def codeOf (width : Nat) (i : Int) : Nat := (i % (2 ^ width : Int)).toNat

/-- `i` held within the signed `width`-bit range. -/
def saturateSigned (width : Nat) (i : Int) : Int :=
  max (-(2 ^ (width - 1) : Int)) (min (2 ^ (width - 1) - 1 : Int) i)

/-- `n + k`, stopping at `top` (a saturating counter). -/
def satAdd (top n k : Nat) : Nat := min top (n + k)

/-- The word whose unsigned value is `n` mod 2^32. -/
def wordOf (n : Nat) : Word := BitVec.ofNat 32 n

/-- The word whose two's complement value is `i` mod 2^32. -/
def wordOfInt (i : Int) : Word := BitVec.ofNat 32 (codeOf 32 i)

/-- 1 for true, 0 for false: a flag as a field value. -/
def flagVal (b : Bool) : Nat := if b then 1 else 0

/-- The bytes of a word, most significant first (R11). -/
def bytesOfWord (w : Word) : List Byte :=
  [w.extractLsb' 24 8, w.extractLsb' 16 8, w.extractLsb' 8 8, w.extractLsb' 0 8]

/-- The number a byte list spells, most significant byte first. -/
def beNat (bs : List Byte) : Nat := bs.foldl (fun a b => a * 256 + b.toNat) 0

/-- `n` as `k` bytes, most significant first. -/
def beBytes : Nat → Nat → List Byte
  | 0, _ => []
  | k + 1, n => BitVec.ofNat 8 (n / 256 ^ k) :: beBytes k n

/-- The words a byte list spells, four bytes each, a short last word padded with zeros. -/
def wordsOfBytes : List Byte → List Word
  | [] => []
  | a :: b :: c :: d :: rest => wordOf (beNat [a, b, c, d]) :: wordsOfBytes rest
  | short => [wordOf (beNat (short ++ List.replicate (4 - short.length) 0))]

/-- `k` bytes of `bs` from `off`. -/
def slice (bs : List Byte) (off k : Nat) : List Byte := (bs.drop off).take k

/-- The big-endian number in the `k` bytes of `bs` from `off`. -/
def natAt (bs : List Byte) (off k : Nat) : Nat := beNat (slice bs off k)

/-- `bs` with the bytes from `off` replaced by `new` (the list keeps its length). -/
def patch (bs : List Byte) (off : Nat) (new : List Byte) : List Byte :=
  (bs.take off ++ new ++ bs.drop (off + new.length)).take bs.length

/-- Whether `v` lies from `lo` to `hi`. -/
def within (v lo hi : Nat) : Bool := decide (lo ≤ v) && decide (v ≤ hi)

/-- Rounds a rational to the nearest integer, a tie away from zero. -/
def roundRat (q : Rat) : Int := if q < 0 then -(⌊-q + 1 / 2⌋) else ⌊q + 1 / 2⌋

/-- The element at `i` of a list, replaced by `f` of it. -/
def modifyAt {α : Type} (f : α → α) : Nat → List α → List α
  | _, [] => []
  | 0, a :: l => f a :: l
  | n + 1, a :: l => a :: modifyAt f n l

/-- The value listed for key `k`, if any. -/
def lookupKey {α : Type} (k : Nat) : List (Nat × α) → Option α
  | [] => none
  | (j, a) :: l => if j = k then some a else lookupKey k l

/-- The list, strictly rising in its keys, with `a` at key `k`. -/
def insertKey {α : Type} (k : Nat) (a : α) : List (Nat × α) → List (Nat × α)
  | [] => [(k, a)]
  | (j, b) :: l =>
    if k < j then (k, a) :: (j, b) :: l
    else if k = j then (k, a) :: l
    else (j, b) :: insertKey k a l

/-- The list without key `k`. -/
def eraseKey {α : Type} (k : Nat) (l : List (Nat × α)) : List (Nat × α) := l.filter (fun x => x.1 != k)

/-- Numbers 0 to 31 of the set bits of `v`, below `n`. -/
def setBits (v n : Nat) : List Nat := (List.range n).filter (bitOf v)

/-- One bit of a CRC register of `width` bits with polynomial `poly`, most significant bit first. -/
def crcBit (width poly r : Nat) (b : Bool) : Nat :=
  let top := bitOf r (width - 1) != b
  let shifted := (r * 2) % 2 ^ width
  if top then shifted ^^^ poly else shifted

/-- A CRC without reflection or final inversion over bytes, most significant bit first (R666, R672, R210). -/
def crcBytes (width poly init : Nat) (bs : List Byte) : Nat :=
  bs.foldl (fun r b => [7, 6, 5, 4, 3, 2, 1, 0].foldl (fun q k => crcBit width poly q (bitOf b.toNat k)) r) init

/-- The CRC-16 of SPI data and drift records: polynomial 0x1021, initial value 0xFFFF. -/
def crc16 (bs : List Byte) : Nat := crcBytes 16 0x1021 0xFFFF bs

/-- The CRC-8 of SPI headers and two-wire PECs: polynomial 0x07, initial value 0. -/
def crc8 (bs : List Byte) : Nat := crcBytes 8 0x07 0 bs

/-- One byte through the CRC-32 of IEEE 802.3. -/
def crc32Byte (r : Nat) (b : Byte) : Nat :=
  (List.range 8).foldl (fun q _ => if q % 2 = 1 then (q / 2) ^^^ 0xEDB88320 else q / 2) (r ^^^ b.toNat)

/-- Rounds a rational toward plus infinity. -/
def ceilRat (q : Rat) : Int := ⌈q⌉

end Sys2Proof.Machine
end

