-- ==== Sys2Proof/Machine/Flags.lean ====
section
/-! DEFINITION. The threshold qualifier that every block shares (R18, R66 to R71): two levels, two dwells, a run of
consecutive samples. -/

namespace Sys2Proof.Machine

/-- A qualifier: asserted or not, and the run of consecutive samples beyond the opposite level (R66). -/
structure Qual where
  on : Bool := false
  run : Nat := 0
  deriving DecidableEq, Repr

/-- The direction of a threshold: an upper limit asserts above its level, a lower limit below it (R545). -/
inductive Limit where
  | upper
  | lower
  deriving DecidableEq, Repr

/-- A threshold descriptor: assert level, release level and the two dwells in samples (R70, R71). -/
structure Descriptor where
  assertAt : Int
  releaseAt : Int
  assertDwell : Nat
  releaseDwell : Nat
  deriving DecidableEq, Repr

/-- Whether `x` lies strictly beyond `level` in the sense of the limit (R67). -/
def Limit.beyond (d : Limit) (x level : Int) : Bool :=
  match d with
  | .upper => decide (level < x)
  | .lower => decide (x < level)

/-- Whether `x` lies strictly on the release side of `level` (R67). -/
def Limit.inside (d : Limit) (x level : Int) : Bool :=
  match d with
  | .upper => decide (x < level)
  | .lower => decide (level < x)

/-- One sample through a qualifier: a sample equal to either level changes nothing (R67); a sample strictly beyond
the level that leads to the other state lengthens the run, and the dwell-th turns the state over (R66); any other
sample resets the run (R68). -/
def Qual.sample (d : Limit) (k : Descriptor) (x : Int) (q : Qual) : Qual :=
  if x = k.assertAt ∨ x = k.releaseAt then q
  else if q.on then
    if d.inside x k.releaseAt then
      if q.run + 1 ≥ k.releaseDwell then { on := false, run := 0 } else { q with run := q.run + 1 }
    else { q with run := 0 }
  else
    if d.beyond x k.assertAt then
      if q.run + 1 ≥ k.assertDwell then { on := true, run := 0 } else { q with run := q.run + 1 }
    else { q with run := 0 }

/-- The descriptor that three words hold: two signed levels and a word with the assert dwell in bits 15:0 and the
release dwell in bits 31:16, where 0 means the assert dwell (R70). -/
def Descriptor.ofWords (a r d : BitVec 32) : Descriptor :=
  { assertAt := signedOf 32 a.toNat, releaseAt := signedOf 32 r.toNat,
    assertDwell := bitsAt d.toNat 0 16,
    releaseDwell := if bitsAt d.toNat 16 16 = 0 then bitsAt d.toNat 0 16 else bitsAt d.toNat 16 16 }

/-- Whether a descriptor is accepted (R71): an assert dwell of at least 1, and a release level not beyond the assert
level on the asserting side. -/
def Descriptor.ok (d : Limit) (k : Descriptor) : Bool :=
  decide (1 ≤ k.assertDwell) &&
    (match d with
      | .upper => decide (k.releaseAt ≤ k.assertAt)
      | .lower => decide (k.assertAt ≤ k.releaseAt))

end Sys2Proof.Machine
end

