-- ==== Sys2Proof/Machine/RegMap.lean ====
section
/-! DEFINITION. The register map: for every word of the 24 banks (R708) its access masks (R12), its reset value
(R14), its range (R15), what each reset kind keeps of it (R713) and its part in the retention set (R604).
Words that a block computes when they are read appear here with their reset value and no stored state. -/

namespace Sys2Proof.Machine

/-- All 32 bits. -/
def full : Nat := 0xFFFFFFFF

/-- One word of a bank, or `cnt` like words in a row. The masks say which bits have which access code (R12).
`warm`, `oven`, `aon` and `start` are the bits that R713 keeps: marked kept (warm), kept (OVEN) or AON (kept), and
the bits a start of the bank's domain keeps. `ret` is the bits in the retention set (R604). A written value is in
range when it lies from `least` to `most`, or is 0 where `zero` holds (R15). -/
structure Row where
  lo : Nat
  cnt : Nat := 1
  rw : Nat := 0
  w1c : Nat := 0
  w1s : Nat := 0
  wa : Nat := 0
  rl : Nat := 0
  wo : Nat := 0
  reset : Nat := 0
  warm : Nat := 0
  oven : Nat := 0
  aon : Nat := 0
  start : Nat := 0
  ret : Nat := 0
  least : Nat := 0
  most : Nat := 0xFFFFFFFF
  zero : Bool := false
  deriving DecidableEq, Repr

/-- A group of words that a bank repeats `num` times, `stride` words apart, from word `base`. -/
structure Group where
  base : Nat
  stride : Nat
  num : Nat
  rows : List Row
  deriving DecidableEq, Repr

/-- The row whose words include `w`. -/
def findRow (w : Nat) : List Row → Option Row
  | [] => none
  | r :: l => if r.lo ≤ w ∧ w < r.lo + r.cnt then some r else findRow w l

/-- The row of a repeated group that describes word `w`. -/
def findInGroups (w : Nat) : List Group → Option Row
  | [] => none
  | g :: l =>
    if g.base ≤ w ∧ w < g.base + g.stride * g.num then
      match findRow ((w - g.base) % g.stride) g.rows with
      | some r => some r
      | none => findInGroups w l
    else findInGroups w l

/-- Words of HIF with an address of their own. -/
def rowsHif : List Row :=
  [{ lo := 0x00, w1s := 0x80218, warm := full, start := full },
   { lo := 0x01, aon := full },
   { lo := 0x04, cnt := 4, rw := full, ret := full },
   { lo := 0x10, cnt := 8, rw := 0x80001FFF, ret := 0x80001FFF },
   { lo := 0x20, w1c := 0x30000 },
   { lo := 0x21, rw := 3, reset := 2 },
   { lo := 0x22 },
   { lo := 0x23 },
   { lo := 0x24 },
   { lo := 0x25 },
   { lo := 0x26 },
   { lo := 0x40, rw := 7, reset := 2 },
   { lo := 0x41, rw := 0xFFFF },
   { lo := 0x42, wo := full },
   { lo := 0x43, w1c := 0x3000000 },
   { lo := 0x44, rw := full },
   { lo := 0x45 },
   { lo := 0x60, cnt := 32 }]

/-- Repeated groups of HIF. -/
def groupsHif : List Group :=
  []

/-- Words of PWR with an address of their own. -/
def rowsPwr : List Row :=
  [{ lo := 0x00, w1c := 0x1F00, reset := 1, warm := full, aon := 0x1000 },
   { lo := 0x01, reset := 2, warm := full },
   { lo := 0x02, rw := 0xFE, reset := 0xFE, warm := full },
   { lo := 0x03, warm := full },
   { lo := 0x04, warm := full },
   { lo := 0x05, wo := full, warm := full },
   { lo := 0x06, rw := 3, warm := full },
   { lo := 0x07, rw := full, reset := 0x10C8E0, warm := full },
   { lo := 0x08, rw := full, reset := 0x100590, warm := full },
   { lo := 0x09, rw := full, reset := 0x3E8000A, warm := full },
   { lo := 0x0A, warm := full },
   { lo := 0x0B, warm := full },
   { lo := 0x0C, cnt := 4, warm := full },
   { lo := 0x10, warm := full },
   { lo := 0x11, warm := full },
   { lo := 0x12, rw := full, reset := 0xA, warm := full, least := 1, most := 600 },
   { lo := 0x13, rw := 0xFC, reset := 0xFC, warm := full },
   { lo := 0x14, warm := full },
   { lo := 0x15, warm := full, aon := full },
   { lo := 0x18, warm := full },
   { lo := 0x19, warm := full },
   { lo := 0x1A, warm := full },
   { lo := 0x1B, warm := full },
   { lo := 0x1C, warm := full },
   { lo := 0x20, wo := full, warm := full },
   { lo := 0x21, w1c := 0x30000, warm := full, aon := 0x20F00 },
   { lo := 0x22, rw := 0x3FF, reset := 0x100, warm := full, aon := full },
   { lo := 0x23, w1c := 0xF0000, warm := full },
   { lo := 0x24, rw := full, warm := full, aon := full, least := 0, most := 65535 },
   { lo := 0x25, rw := full, warm := full, aon := full },
   { lo := 0x26, warm := full },
   { lo := 0x27, warm := full },
   { lo := 0x28, warm := full, aon := 2 },
   { lo := 0x29, warm := full },
   { lo := 0x2A, rw := full, reset := 0x9C4F2B8, warm := full, aon := full },
   { lo := 0x2B, warm := full, aon := full },
   { lo := 0x2C, warm := full },
   { lo := 0x2D, warm := full },
   { lo := 0x2E, warm := full },
   { lo := 0x2F, warm := full },
   { lo := 0x30, warm := full },
   { lo := 0x31, warm := full, aon := full },
   { lo := 0x32, warm := full, aon := full }]

/-- Repeated groups of PWR. -/
def groupsPwr : List Group :=
  []

/-- Words of EVT with an address of their own. -/
def rowsEvt : List Row :=
  [{ lo := 0x00, w1c := full },
   { lo := 0x01, w1c := full },
   { lo := 0x02, w1c := 0x1FFFF },
   { lo := 0x03, w1c := 0x1FFFFF },
   { lo := 0x04, cnt := 4 },
   { lo := 0x08, rw := full, ret := full },
   { lo := 0x09, rw := full, ret := full },
   { lo := 0x0A, rw := 0x1FFFF, ret := 0x1FFFF },
   { lo := 0x0B, rw := 0x1FFFFF, ret := 0x1FFFFF },
   { lo := 0x0C, rw := full, reset := full, ret := full },
   { lo := 0x0D, rw := full, reset := full, ret := full },
   { lo := 0x0E, rw := 0x1FFFF, reset := 0x1FFFF, ret := 0x1FFFF },
   { lo := 0x0F, rw := 0x1FFFFF, reset := 0x1FFFFF, ret := 0x1FFFFF },
   { lo := 0x10, rw := full, ret := full },
   { lo := 0x11, rw := full, ret := full },
   { lo := 0x12, rw := 0x1FFFF, ret := 0x1FFFF },
   { lo := 0x13, rw := 0x1FFFFF, ret := 0x1FFFFF },
   { lo := 0x14, w1c := full },
   { lo := 0x15, w1c := 0x7FFF },
   { lo := 0x16, rw := 0x33, reset := 3, ret := 0x33 },
   { lo := 0x17 },
   { lo := 0x18 },
   { lo := 0x19 },
   { lo := 0x1A }]

/-- Repeated groups of EVT. -/
def groupsEvt : List Group :=
  []

/-- Words of TB with an address of their own. -/
def rowsTb : List Row :=
  [{ lo := 0x00, w1c := 0x1F0000, oven := 0x1070F },
   { lo := 0x01, rw := 0xF6, wa := 1, reset := 0x87, warm := 0xF4, oven := 3, ret := 0xF4 },
   { lo := 0x02, oven := full },
   { lo := 0x03 },
   { lo := 0x04 },
   { lo := 0x05 },
   { lo := 0x06, wa := full, reset := 0x528, oven := full, least := 500, most := 1320 },
   { lo := 0x07, oven := full },
   { lo := 0x08, oven := full },
   { lo := 0x09, aon := full },
   { lo := 0x0E, rl := 0xFFFF, reset := 0x3A95 },
   { lo := 0x0F, wo := full },
   { lo := 0x10 },
   { lo := 0x11 },
   { lo := 0x12, rw := full, reset := 0xF4240, warm := full, ret := full },
   { lo := 0x13, rw := full, reset := 0x7A120, warm := full, ret := full },
   { lo := 0x14, rw := full, reset := 3, warm := full, ret := full },
   { lo := 0x15 },
   { lo := 0x20 },
   { lo := 0x21 }]

/-- Repeated groups of TB. -/
def groupsTb : List Group :=
  []

/-- Words of STR with an address of their own. -/
def rowsStr : List Row :=
  [{ lo := 0x00, w1c := 0x300, warm := 0xFFFFFF67 },
   { lo := 0x02, warm := full, aon := full },
   { lo := 0x03, rl := 0xFFFF, reset := 0x6C1D, warm := full, ret := 0xFFFF },
   { lo := 0x04, wo := full, warm := full },
   { lo := 0x05, wo := full, warm := full },
   { lo := 0x06, wa := 0x3FFFFFFF, reset := 0x3E8, warm := full, ret := 0x3FFFFFFF, least := 1, most := 1000000000 },
   { lo := 0x07, wa := 0xFFFFFFF, reset := 0x10C6F8, warm := full, ret := 0xFFFFFFF, least := 1, most := 134217728 },
   { lo := 0x08, rw := 1, warm := full },
   { lo := 0x09, rw := full },
   { lo := 0x0A, rw := full },
   { lo := 0x0B, rw := full },
   { lo := 0x0C, warm := full },
   { lo := 0x0D, warm := full },
   { lo := 0x0E, warm := full },
   { lo := 0x0F, warm := full },
   { lo := 0x18, warm := full },
   { lo := 0x19, rw := 0xFFFF, warm := full },
   { lo := 0x1A, rw := full, warm := full },
   { lo := 0x1B, wo := full, warm := full },
   { lo := 0x1C, wo := full, warm := full },
   { lo := 0x1D, warm := full },
   { lo := 0x1E, warm := full },
   { lo := 0x1F, warm := full },
   { lo := 0x29, rw := 0xFFFF, warm := full },
   { lo := 0x2A, rw := full, warm := full },
   { lo := 0x2B, wo := full, warm := full },
   { lo := 0x2C, wo := full, warm := full },
   { lo := 0x2D, cnt := 3, warm := full },
   { lo := 0x30, rw := 0x13, w1c := 0x100, warm := full, ret := 0x10 },
   { lo := 0x31, wa := 0xFFFF, warm := full, ret := 0xFFFF },
   { lo := 0x32, rw := full, warm := full },
   { lo := 0x33, rw := full, warm := full },
   { lo := 0x40, cnt := 16, warm := full },
   { lo := 0x50, warm := full },
   { lo := 0x51, warm := full }]

/-- Repeated groups of STR. -/
def groupsStr : List Group :=
  []

/-- Words of VC with an address of their own. -/
def rowsVc : List Row :=
  []

/-- Repeated groups of VC. -/
def groupsVc : List Group :=
  [{ base := 0x20, stride := 16, num := 8, rows :=
      [{ lo := 0x00, rw := 0xFFFFF, reset := 0x2000, warm := full, ret := 0xFFFFF },
       { lo := 0x01, w1c := 0x1F00, warm := full },
       { lo := 0x02, rw := full, warm := full, ret := full },
       { lo := 0x03, rw := full, reset := 0x7D0, warm := full, ret := full, least := 1, most := 65535 },
       { lo := 0x04, rw := full, warm := full, ret := full, least := 0, most := 60000 },
       { lo := 0x05, warm := full },
       { lo := 0x06, warm := full },
       { lo := 0x07, warm := full },
       { lo := 0x08, wo := full, warm := full },
       { lo := 0x09, warm := full },
       { lo := 0x0A, warm := full }] },
   { base := 0xC0, stride := 16, num := 4, rows :=
      [{ lo := 0x00, rw := 0xFFF, warm := full },
       { lo := 0x01, rw := full, reset := 0x3E8, warm := full, least := 1, most := 100000 },
       { lo := 0x02, warm := full },
       { lo := 0x03, warm := full },
       { lo := 0x04, warm := full },
       { lo := 0x05, warm := full },
       { lo := 0x06, warm := full },
       { lo := 0x07, warm := full },
       { lo := 0x08, warm := full },
       { lo := 0x09, warm := full },
       { lo := 0x0A, warm := full },
       { lo := 0x0B, w1c := 0x100, warm := full }] }]

/-- Words of VCAL with an address of their own. -/
def rowsVcal : List Row :=
  [{ lo := 0x00, rw := 3, reset := 3, warm := full, ret := 3 },
   { lo := 0x01, warm := full },
   { lo := 0x02, rw := full, reset := 0x13, warm := full, ret := full, least := 17, most := 20 },
   { lo := 0x03, rw := full, reset := 0x32, warm := full, ret := full, least := 10, most := 1000 },
   { lo := 0x04, rw := full, reset := 0xA8, warm := full, ret := full, least := 0, most := 8760 },
   { lo := 0x05, rw := full, reset := 0x258, warm := full, ret := full, least := 10, most := 86400, zero := true },
   { lo := 0x06, rw := full, reset := 0x9C40, warm := full, ret := full },
   { lo := 0x07, rw := full, reset := 0x7530, warm := full, ret := full },
   { lo := 0x08, rw := full, reset := 0xA, warm := full, ret := full },
   { lo := 0x09, warm := full },
   { lo := 0x0A, rw := full, warm := full, least := 0, most := 7 },
   { lo := 0x10, wo := full, warm := full },
   { lo := 0x20, cnt := 16, warm := full },
   { lo := 0x30, rw := 0x1F07, warm := full },
   { lo := 0x31, warm := full },
   { lo := 0x38, cnt := 8, w1c := 0x100, warm := full }]

/-- Repeated groups of VCAL. -/
def groupsVcal : List Group :=
  [{ base := 0x40, stride := 24, num := 8, rows :=
      [{ lo := 0x00, rw := 0x110, wo := 7, reset := 0x100, warm := full, ret := 0x110 },
       { lo := 0x01, w1c := 0x300, warm := full },
       { lo := 0x02, reset := 0x8000, warm := full, aon := full },
       { lo := 0x03, warm := full, aon := full },
       { lo := 0x04, warm := full, aon := full },
       { lo := 0x05, warm := full, aon := full },
       { lo := 0x06, warm := full },
       { lo := 0x07, warm := full },
       { lo := 0x08, cnt := 16, reset := 0x8000800, warm := full, aon := full }] }]

/-- Words of VQ with an address of their own. -/
def rowsVq : List Row :=
  [{ lo := 0x80, cnt := 8 }]

/-- Repeated groups of VQ. -/
def groupsVq : List Group :=
  [{ base := 0x00, stride := 16, num := 8, rows :=
      [{ lo := 0x00, warm := full },
       { lo := 0x01, warm := full },
       { lo := 0x02, warm := full },
       { lo := 0x03, rw := full, reset := 0x800, warm := full, ret := full, least := 1, most := 4096 },
       { lo := 0x04, wo := full, warm := full }] }]

/-- Words of REFM with an address of their own. -/
def rowsRefm : List Row :=
  [{ lo := 0x00, w1c := 0x300, warm := full },
   { lo := 0x01, rw := 0xF1, reset := 0x70, warm := full, ret := 0xF1 },
   { lo := 0x02, wo := full, warm := full },
   { lo := 0x03, reset := 0xFF, warm := full },
   { lo := 0x04, rw := full, reset := full, warm := full, ret := full },
   { lo := 0x05, rw := 0xFFFF, reset := 0xFFFF, warm := full, ret := 0xFFFF },
   { lo := 0x06, warm := full },
   { lo := 0x07, warm := full },
   { lo := 0x08, warm := full },
   { lo := 0x09, rw := full, reset := 0x64, warm := full, ret := full, least := 1, most := 1000000 },
   { lo := 0x0A, wo := full, warm := full },
   { lo := 0x10, rw := 0xF3, wo := 4, warm := full, ret := 0xF3 },
   { lo := 0x11, w1c := 0x1000000, warm := full },
   { lo := 0x12, warm := full },
   { lo := 0x13, rw := full, reset := 0x162010, warm := full, ret := full },
   { lo := 0x14, rw := full, reset := 0x1312D0, warm := full, ret := full },
   { lo := 0x15, rw := full, reset := 4, warm := full, ret := full }]

/-- Repeated groups of REFM. -/
def groupsRefm : List Group :=
  [{ base := 0x20, stride := 8, num := 2, rows :=
      [{ lo := 0x00, rw := 0xF0F3F, reset := 0x30431, warm := full, ret := 0xF0F3F },
       { lo := 0x01, warm := full },
       { lo := 0x02, warm := full },
       { lo := 0x03, warm := full },
       { lo := 0x04, warm := full }] },
   { base := 0x40, stride := 16, num := 12, rows :=
      [{ lo := 0x00, rw := 0xFF3F, reset := 0xE00, warm := full, ret := 0xFF3F },
       { lo := 0x01, w1c := 0x7FF0000, warm := full },
       { lo := 0x02, rw := full, reset := 0x3B9ACA00, warm := full, ret := full, least := 1, most := 4000000000 },
       { lo := 0x03, rw := full, reset := 1, warm := full, ret := full, least := 1, most := 65535 },
       { lo := 0x04, rw := full, reset := 0x2710, warm := full, ret := full, least := 1, most := 1000000 },
       { lo := 0x05, rw := full, warm := full, ret := full },
       { lo := 0x06, rw := full, warm := full, ret := full },
       { lo := 0x07, rw := 0xFFFFFF, reset := 0x2000A, warm := full, ret := 0xFFFFFF },
       { lo := 0x08, rw := full, reset := 0x3C, warm := full, ret := full, least := 0, most := 3600 },
       { lo := 0x09, reset := 0x300000E, warm := full },
       { lo := 0x0A, warm := full },
       { lo := 0x0B, warm := full },
       { lo := 0x0C, warm := full },
       { lo := 0x0D, warm := full }] }]

/-- Words of SRV with an address of their own. -/
def rowsSrv : List Row :=
  [{ lo := 0x00, w1c := 0xF00, warm := full, aon := 0x10 },
   { lo := 0x01, rw := 0x1FF, reset := 0x13, warm := full, ret := 0x1FF },
   { lo := 0x02, wo := full, warm := full },
   { lo := 0x03, rw := full, reset := 0x32, warm := full, ret := full, least := 1, most := 100000 },
   { lo := 0x04, rw := full, reset := 0xC8, warm := full, ret := full, least := 0, most := 1000000 },
   { lo := 0x05, rw := full, reset := 0x640000, warm := full, ret := full },
   { lo := 0x06, rw := full, reset := 0x1F40000, warm := full, ret := full },
   { lo := 0x07, rw := full, reset := 0x40010, warm := full, ret := full },
   { lo := 0x08, rw := full, reset := 0x258, warm := full, ret := full, least := 10, most := 86400 },
   { lo := 0x09, rw := full, reset := 0xA, warm := full, ret := full, least := 0, most := 600 },
   { lo := 0x0A, rw := full, warm := full, ret := full, least := 60, most := 2592000, zero := true },
   { lo := 0x0B, rw := full, reset := 0x3E8, warm := full, ret := full },
   { lo := 0x0C, warm := full },
   { lo := 0x0D, warm := full },
   { lo := 0x0E, rw := full, reset := 0xE10, warm := full, ret := full, least := 60, most := 86400 },
   { lo := 0x0F, rw := full, reset := 0x4E20, warm := full, ret := full, least := 1, most := 1000000 },
   { lo := 0x10, warm := full },
   { lo := 0x11, warm := full },
   { lo := 0x12, warm := full },
   { lo := 0x13, warm := full },
   { lo := 0x14, warm := full },
   { lo := 0x15, warm := full },
   { lo := 0x20, rw := 0xF, reset := 0xC, warm := full, aon := full },
   { lo := 0x21, rw := full, reset := 0x1194, warm := full, aon := full },
   { lo := 0x22, wa := full, warm := full, aon := full },
   { lo := 0x23, wa := full, warm := full, aon := full },
   { lo := 0x24, wa := full, warm := full, aon := full },
   { lo := 0x25, wa := full, warm := full, aon := full },
   { lo := 0x26, warm := full, aon := full },
   { lo := 0x27, warm := full, aon := full },
   { lo := 0x28, rw := full, reset := 0x1F4, warm := full, ret := full },
   { lo := 0x30, warm := full, aon := full },
   { lo := 0x31, rw := full, warm := full, least := 0, most := 4095 },
   { lo := 0x32, cnt := 4, warm := full },
   { lo := 0x36, wa := full, warm := full },
   { lo := 0x3E, rl := 0xFFFF, reset := 0x5E27, warm := full, ret := 0xFFFF },
   { lo := 0x3F, wo := full, warm := full }]

/-- Repeated groups of SRV. -/
def groupsSrv : List Group :=
  []

/-- Words of PCR with an address of their own. -/
def rowsPcr : List Row :=
  [{ lo := 0x00, rw := 3, warm := full, ret := 3 },
   { lo := 0x01, warm := full },
   { lo := 0x02, wo := full, warm := full },
   { lo := 0x03, rw := full, reset := 0x3E8, warm := full, ret := full, least := 1, most := 100000 },
   { lo := 0x04, rw := full, reset := 0xA, warm := full, ret := full, least := 1, most := 1000000 },
   { lo := 0x05, rw := full, reset := 0x64, warm := full, ret := full },
   { lo := 0x08, rw := 0x7F1, warm := full, ret := 0x7F1 },
   { lo := 0x09, rw := full, reset := 0x1E, warm := full, ret := full, least := 1, most := 10000 },
   { lo := 0x0A, warm := full },
   { lo := 0x0B, warm := full },
   { lo := 0x0C, warm := full },
   { lo := 0x0D, w1c := 0x100, warm := full }]

/-- Repeated groups of PCR. -/
def groupsPcr : List Group :=
  [{ base := 0x20, stride := 16, num := 12, rows :=
      [{ lo := 0x00, rw := 0x37FFFF, reset := 0x10002, warm := full, ret := 0x37FFFF },
       { lo := 0x01, w1c := 0x1F00, warm := full },
       { lo := 0x02, rw := full, reset := 1, warm := full, ret := full, least := 1, most := 4294967295 },
       { lo := 0x03, rw := full, reset := 1, warm := full, ret := full, least := 1, most := 4294967295 },
       { lo := 0x04, rw := full, reset := 0x3E8, warm := full, ret := full, least := 1, most := 4000000000 },
       { lo := 0x05, rw := full, warm := full, ret := full },
       { lo := 0x06, rw := full, warm := full, ret := full },
       { lo := 0x07, rw := full, warm := full, ret := full },
       { lo := 0x08, rw := full, warm := full, ret := full },
       { lo := 0x09, rw := full, warm := full, ret := full, least := 0, most := 999999999 },
       { lo := 0x0A, rw := 0xFFFF, warm := full, ret := 0xFFFF },
       { lo := 0x0B, rw := full, warm := full, ret := full },
       { lo := 0x0C, rw := full, warm := full, ret := full },
       { lo := 0x0D, rw := full, warm := full, ret := full },
       { lo := 0x0E, warm := full },
       { lo := 0x0F, warm := full }] }]

/-- Words of MAC with an address of their own. -/
def rowsMac : List Row :=
  [{ lo := 0x00, rw := 0x7F, reset := 0x40, ret := 0x7F },
   { lo := 0x01, w1c := 0x3F0000 },
   { lo := 0x02, rw := 0xFFFF, ret := 0xFFFF },
   { lo := 0x03, rw := full, ret := full },
   { lo := 0x04, rw := full, reset := 0x5F2, ret := full, least := 1518, most := 9216 },
   { lo := 0x05, rw := full, ret := full, least := 0, most := 100 },
   { lo := 0x06, rw := full, reset := 0xA, ret := full, least := 1, most := 1000 },
   { lo := 0x07, rw := full, reset := 0xC000800, ret := full },
   { lo := 0x08, rw := full, reset := 0xFFFF, ret := full, least := 1, most := 65535 },
   { lo := 0x09 },
   { lo := 0x0A },
   { lo := 0x0B, w1c := full },
   { lo := 0x0C, w1c := 0xFFFF },
   { lo := 0x60, rw := 0xF7, reset := 4, ret := 0xF7 },
   { lo := 0x61, w1c := 0x1F00 },
   { lo := 0x62, wo := full },
   { lo := 0x63 },
   { lo := 0x64, rw := full, reset := 0x25807D0, ret := full },
   { lo := 0x65, reset := 0x7D0 },
   { lo := 0x66, rw := full, ret := full },
   { lo := 0x67, rw := full, ret := full },
   { lo := 0x68, rw := full, ret := full },
   { lo := 0x69 },
   { lo := 0x6A },
   { lo := 0x6B, rw := full, reset := 0x32, ret := full, least := 10, most := 1000 },
   { lo := 0x6C },
   { lo := 0x6D },
   { lo := 0x6E },
   { lo := 0x6F },
   { lo := 0x80, cnt := 48 }]

/-- Repeated groups of MAC. -/
def groupsMac : List Group :=
  [{ base := 0x10, stride := 2, num := 4, rows :=
      [{ lo := 0x00, rw := 0x8000FFFF, ret := 0x8000FFFF },
       { lo := 0x01, rw := full, ret := full }] },
   { base := 0x20, stride := 8, num := 8, rows :=
      [{ lo := 0x00, rw := 0xFFF007F, ret := 0xFFF007F },
       { lo := 0x01, rw := full, ret := full },
       { lo := 0x02, cnt := 4, rw := full, ret := full }] },
   { base := 0x70, stride := 4, num := 4, rows :=
      [{ lo := 0x00 },
       { lo := 0x01 },
       { lo := 0x02 },
       { lo := 0x03 }] }]

/-- Words of SNAP with an address of their own. -/
def rowsSnap : List Row :=
  [{ lo := 0x00, rw := 6, wo := 1, ret := 4 },
   { lo := 0x01, w1c := 0x100 },
   { lo := 0x02, rw := full, reset := 0x3E8, ret := full, least := 1, most := 60000 },
   { lo := 0x03 },
   { lo := 0x04 },
   { lo := 0x05 },
   { lo := 0x06 },
   { lo := 0x07 },
   { lo := 0x40, cnt := 192 }]

/-- Repeated groups of SNAP. -/
def groupsSnap : List Group :=
  []

/-- Words of PTP with an address of their own. -/
def rowsPtp : List Row :=
  [{ lo := 0x00, rw := 0xF, ret := 0xF },
   { lo := 0x01, w1c := 0x700 },
   { lo := 0x02, rw := 0xFF0FFF, reset := 0x7F, ret := 0xFF0FFF },
   { lo := 0x03, rw := 0xFFFF, reset := 0x8080, ret := 0xFFFF },
   { lo := 0x04, rw := full, ret := full },
   { lo := 0x05, rw := full, ret := full },
   { lo := 0x06, rw := full, reset := 0x7340706, ret := full },
   { lo := 0x07, rw := full, reset := 0xF8F8BB34, ret := full },
   { lo := 0x08, rw := 0xFFFF00FF, reset := 0x4E5D0021, ret := 0xFFFF00FF },
   { lo := 0x09, rw := full, reset := 0xA0A0A0A0, ret := full },
   { lo := 0x0A, rw := full, reset := 0xA0A0A0A0, ret := full },
   { lo := 0x0B, rw := full, reset := 0xA8C0, ret := full, least := 0, most := 86400 },
   { lo := 0x0C, rw := full, reset := 0x1000, ret := full, least := 0, most := 4096 },
   { lo := 0x0D, rw := full, reset := 0x80000, ret := full, least := 0, most := 524288 },
   { lo := 0x0E, rw := full, reset := 0x12C, ret := full, least := 10, most := 1000 },
   { lo := 0x0F },
   { lo := 0x10 },
   { lo := 0x11, reset := 0xFE06F8 },
   { lo := 0x18, rw := 0x7F, ret := 0x7F },
   { lo := 0x19, wo := full },
   { lo := 0x20, cnt := 16, rw := full, ret := full }]

/-- Repeated groups of PTP. -/
def groupsPtp : List Group :=
  [{ base := 0x40, stride := 32, num := 4, rows :=
      [{ lo := 0x00, rw := 0xF7F37, reset := 0x40800, ret := 0xF7F37 },
       { lo := 0x01, w1c := 0x300 },
       { lo := 0x02, rw := full, reset := 0x3FDFDFE, ret := full },
       { lo := 0x03, rw := full, reset := 0x2710, ret := full, least := 1, most := 1000000 },
       { lo := 0x04 },
       { lo := 0x05 },
       { lo := 0x06 },
       { lo := 0x07 },
       { lo := 0x08 },
       { lo := 0x09 },
       { lo := 0x0A },
       { lo := 0x0B },
       { lo := 0x0C },
       { lo := 0x0D, rw := full, ret := full },
       { lo := 0x0E, cnt := 4, rw := full, ret := full },
       { lo := 0x12, rw := full, reset := 0x3C, ret := full, least := 10, most := 1000 },
       { lo := 0x14, cnt := 12 }] }]

/-- Words of PIPE with an address of their own. -/
def rowsPipe : List Row :=
  [{ lo := 0x00, rw := 0xF1, reset := 0xF1, ret := 0xF1 },
   { lo := 0x01, w1c := 0x1F00 },
   { lo := 0x02, reset := 0x5DC0BB80 },
   { lo := 0x03, rw := full, reset := 0x40, ret := full, least := 1, most := 512 },
   { lo := 0x04, rw := full, reset := 0xC8, ret := full, least := 100, most := 10000 },
   { lo := 0x05 },
   { lo := 0x06, rw := full },
   { lo := 0x08, rw := full, reset := 0x2710, ret := full, least := 1, most := 1000000 },
   { lo := 0x09, wo := full },
   { lo := 0x0A, rw := 0xFFF00F3, reset := 0x10000F0, ret := 0xFFF00F3 },
   { lo := 0x0B },
   { lo := 0x0C },
   { lo := 0x0D, wo := full },
   { lo := 0x0E },
   { lo := 0x20, cnt := 20 },
   { lo := 0x34 },
   { lo := 0x40, rw := 0x1F, reset := 3, ret := 0x1F },
   { lo := 0x41, reset := 0x1001 },
   { lo := 0x42, rw := full, reset := 0x15180, ret := full, least := 0, most := 86400 },
   { lo := 0x43, rw := full, reset := 0x64, ret := full, least := 0, most := 1000000 },
   { lo := 0x44, rw := full, reset := 0x3E8, ret := full, least := 1, most := 1000000000 },
   { lo := 0x45, rw := full, reset := 0x3E8, ret := full, least := 0, most := 1000000000 },
   { lo := 0x46, rw := 0xF0F, reset := 0x10A, ret := 0xF0F },
   { lo := 0x47, rw := full, reset := 6, ret := full, least := 4, most := 17 },
   { lo := 0x48, rw := 0x3FFF, reset := 0x40, ret := 0x3FFF },
   { lo := 0x50, cnt := 8, rw := full, reset := 0x50505300, ret := full },
   { lo := 0x58, rw := full, reset := 0x50545000, ret := full },
   { lo := 0x60 },
   { lo := 0x61 },
   { lo := 0x62 }]

/-- Repeated groups of PIPE. -/
def groupsPipe : List Group :=
  []

/-- Words of ADM with an address of their own. -/
def rowsAdm : List Row :=
  [{ lo := 0x00, rw := 0xF0F, reset := 0x207, ret := 0xF0F },
   { lo := 0x01, w1c := 0x700 },
   { lo := 0x02, rw := full, reset := 0x40, ret := full, least := 1, most := 1000000 },
   { lo := 0x03, rw := full, reset := 0x80, ret := full, least := 1, most := 65535 },
   { lo := 0x04, rw := full, reset := 0x186A0, ret := full, least := 1, most := 10000000 },
   { lo := 0x05, rw := full, reset := 0x3E8, ret := full, least := 1, most := 65535 },
   { lo := 0x06, rw := 0x1FF01FF, reset := 0x1000100, ret := 0x1FF01FF },
   { lo := 0x07, rw := 0x1FF01FF, reset := 0x1000100, ret := 0x1FF01FF },
   { lo := 0x08, rw := 0x1FF01FF, reset := 0x400080, ret := 0x1FF01FF },
   { lo := 0x09, rw := 0x1FF01FF, reset := 0x40010, ret := 0x1FF01FF },
   { lo := 0x0A, rw := full, reset := 0x3C, ret := full, least := 1, most := 3600 },
   { lo := 0x0B, rw := full, reset := 0x3E8, ret := full, least := 1, most := 60000 },
   { lo := 0x0C },
   { lo := 0x0D, wo := full },
   { lo := 0x10 },
   { lo := 0x11 },
   { lo := 0x12 },
   { lo := 0x13 },
   { lo := 0x14 },
   { lo := 0x15 },
   { lo := 0x16 },
   { lo := 0x17 },
   { lo := 0x20, rw := 2, wo := 1, ret := 2 },
   { lo := 0x21, cnt := 4, rw := full, ret := full },
   { lo := 0x25 },
   { lo := 0x26 },
   { lo := 0x27 }]

/-- Repeated groups of ADM. -/
def groupsAdm : List Group :=
  [{ base := 0x40, stride := 8, num := 16, rows :=
      [{ lo := 0x00, rw := 0xFF0F, ret := 0xFF0F },
       { lo := 0x01, cnt := 4, rw := full, ret := full },
       { lo := 0x05, rw := full, reset := 0x40, ret := full, least := 1, most := 1000000 },
       { lo := 0x06, rw := full, reset := 0x80, ret := full, least := 1, most := 65535 }] }]

/-- Words of NTS with an address of their own. -/
def rowsNts : List Row :=
  [{ lo := 0x00, rw := 0x73, reset := 0x22, aon := 0x72, ret := 1 },
   { lo := 0x01, w1c := 0x300, aon := 0x40 },
   { lo := 0x02, rw := full, reset := 0x15180, aon := full, least := 3600, most := 2592000 },
   { lo := 0x03, rl := 0xFFFF, reset := 0x4D93 },
   { lo := 0x04, wo := full },
   { lo := 0x05, wa := 0x7F },
   { lo := 0x06 },
   { lo := 0x07, reset := 1, aon := full },
   { lo := 0x10, cnt := 8, aon := full },
   { lo := 0x18, cnt := 8, aon := full },
   { lo := 0x20, cnt := 8, aon := full },
   { lo := 0x30, wo := full },
   { lo := 0x31 },
   { lo := 0x32 },
   { lo := 0x40, cnt := 8, wo := full },
   { lo := 0x48, cnt := 8, wo := full },
   { lo := 0x50 },
   { lo := 0x51 },
   { lo := 0x52 },
   { lo := 0x53 },
   { lo := 0x54, aon := full }]

/-- Repeated groups of NTS. -/
def groupsNts : List Group :=
  []

/-- Words of ARR with an address of their own. -/
def rowsArr : List Row :=
  [{ lo := 0x00, rw := 3, reset := 3, ret := 3 },
   { lo := 0x01 },
   { lo := 0x02 },
   { lo := 0x03, rw := full, reset := 0x1E, ret := full, least := 5, most := 600 },
   { lo := 0x04, rw := full, reset := 0x3A98, ret := full },
   { lo := 0x05, rw := full, reset := 0x2710, ret := full },
   { lo := 0x06, rw := full, reset := 0x10001, ret := full },
   { lo := 0x07, rw := full, reset := 0x1388, ret := full, least := 100, most := 60000 },
   { lo := 0x08, rw := full, reset := 0x258, ret := full, least := 60, most := 3600 },
   { lo := 0x09, rw := full, reset := 0x1000, ret := full, least := 1, most := 65535 },
   { lo := 0x0A, wo := full },
   { lo := 0x10, w1c := 0x30000 },
   { lo := 0x11 },
   { lo := 0x12 },
   { lo := 0x13 },
   { lo := 0x14, rw := full, reset := 0xA, ret := full, least := 1, most := 1000 },
   { lo := 0x15, rw := 0xFFFF, reset := 0xE080, ret := 0xFFFF },
   { lo := 0x16 },
   { lo := 0x17 },
   { lo := 0x18, rw := 0xFF03 },
   { lo := 0x19, rw := full, reset := 0x3E8, least := 1, most := 60000 },
   { lo := 0x1A, wo := full },
   { lo := 0x1B },
   { lo := 0x60, wo := full },
   { lo := 0x61 },
   { lo := 0x62, rw := 0x1F },
   { lo := 0x63 },
   { lo := 0x64 }]

/-- Repeated groups of ARR. -/
def groupsArr : List Group :=
  [{ base := 0x80, stride := 8, num := 12, rows :=
      [{ lo := 0x00, rw := 1, ret := 1 },
       { lo := 0x01, w1c := 0x3F00 },
       { lo := 0x02 },
       { lo := 0x03 },
       { lo := 0x04 },
       { lo := 0x05, aon := full },
       { lo := 0x06 }] },
   { base := 0xE0, stride := 8, num := 4, rows :=
      [{ lo := 0x00, rw := 1, ret := 1 },
       { lo := 0x01, w1c := 0x3F00 },
       { lo := 0x02 },
       { lo := 0x05, aon := full },
       { lo := 0x06 }] },
   { base := 0x20, stride := 16, num := 4, rows :=
      [{ lo := 0x00, rw := 0xF, ret := 0xF },
       { lo := 0x01, rw := 0x1FFFFF, reset := 1, ret := 0x1FFFFF },
       { lo := 0x04, rw := 0x70F0FFF, ret := 0x70F0FFF },
       { lo := 0x07, rw := 0x70F0FFF, ret := 0x70F0FFF },
       { lo := 0x0A, rw := 0x70F0FFF, ret := 0x70F0FFF },
       { lo := 0x0D, rw := 0x70F0FFF, ret := 0x70F0FFF },
       { lo := 0x05, rw := 0x7FFFFFF, ret := 0x7FFFFFF },
       { lo := 0x08, rw := 0x7FFFFFF, ret := 0x7FFFFFF },
       { lo := 0x0B, rw := 0x7FFFFFF, ret := 0x7FFFFFF },
       { lo := 0x0E, rw := 0x7FFFFFF, ret := 0x7FFFFFF },
       { lo := 0x06, rw := 0x1FFFFF, reset := 1, ret := 0x1FFFFF },
       { lo := 0x09, rw := 0x1FFFFF, reset := 1, ret := 0x1FFFFF },
       { lo := 0x0C, rw := 0x1FFFFF, reset := 1, ret := 0x1FFFFF },
       { lo := 0x0F, rw := 0x1FFFFF, reset := 1, ret := 0x1FFFFF }] }]

/-- Words of ARRW with an address of their own. -/
def rowsArrw : List Row :=
  [{ lo := 0x00, wo := full },
   { lo := 0x10, cnt := 64, rw := full },
   { lo := 0x80, cnt := 128 }]

/-- Repeated groups of ARRW. -/
def groupsArrw : List Group :=
  []

/-- Words of GRD with an address of their own. -/
def rowsGrd : List Row :=
  [{ lo := 0x00, w1c := 0x300, reset := 0x81, warm := full, aon := 0x350 },
   { lo := 0x02, rw := 1, warm := full, aon := full },
   { lo := 0x03, rl := 0xFFFF, reset := 0x2B71, warm := full, aon := full },
   { lo := 0x04, wo := full, warm := full },
   { lo := 0x05, w1c := 0x1FFFFFF, warm := full, aon := full },
   { lo := 0x06, warm := full, aon := full },
   { lo := 0x07, warm := full },
   { lo := 0x08, rl := 0xFF0F, reset := 0x400, warm := full, aon := full },
   { lo := 0x10, cnt := 4, warm := full },
   { lo := 0x14, warm := full },
   { lo := 0x15, warm := full },
   { lo := 0x16, warm := full },
   { lo := 0x17, warm := full },
   { lo := 0x18, warm := full },
   { lo := 0x19, warm := full },
   { lo := 0x1A, warm := full },
   { lo := 0x1B, warm := full },
   { lo := 0x20, rl := 0xF0F07, reset := 0x10107, warm := full, aon := full },
   { lo := 0x22, rl := 0xF0F07, reset := 0x10101, warm := full, aon := full },
   { lo := 0x24, rl := 0xF0F07, reset := 0x10101, warm := full, aon := full },
   { lo := 0x26, rl := 0xF0F07, reset := 0x10101, warm := full, aon := full },
   { lo := 0x28, rl := 0xF0F07, reset := 0x10101, warm := full, aon := full },
   { lo := 0x2A, rl := 0xF0F07, reset := 0x10103, warm := full, aon := full },
   { lo := 0x2C, rl := 0xF0F07, reset := 0x10101, warm := full, aon := full },
   { lo := 0x2E, rl := 0xF0F07, reset := 0x10101, warm := full, aon := full },
   { lo := 0x30, rl := 0xF0F07, reset := 0x10103, warm := full, aon := full },
   { lo := 0x32, rl := 0xF0F07, reset := 0x10103, warm := full, aon := full },
   { lo := 0x34, rl := 0xF0F07, reset := 0x10103, warm := full, aon := full },
   { lo := 0x36, rl := 0xF0F07, reset := 0x40205, warm := full, aon := full },
   { lo := 0x38, rl := 0xF0F07, reset := 0x40205, warm := full, aon := full },
   { lo := 0x3A, rl := 0xF0F07, reset := 0x10103, warm := full, aon := full },
   { lo := 0x3C, rl := 0xF0F07, reset := 0x10103, warm := full, aon := full },
   { lo := 0x3E, rl := 0xF0F07, reset := 0x10103, warm := full, aon := full },
   { lo := 0x40, rl := 0xF0F07, reset := 0x10103, warm := full, aon := full },
   { lo := 0x42, rl := 0xF0F07, reset := 0x10103, warm := full, aon := full },
   { lo := 0x44, rl := 0xF0F07, reset := 0x10103, warm := full, aon := full },
   { lo := 0x46, rl := 0xF0F07, reset := 0x10103, warm := full, aon := full },
   { lo := 0x48, rl := 0xF0F07, reset := 0x10101, warm := full, aon := full },
   { lo := 0x4A, rl := 0xF0F07, reset := 0x10101, warm := full, aon := full },
   { lo := 0x4C, rl := 0xF0F07, reset := 0x10103, warm := full, aon := full },
   { lo := 0x4E, rl := 0xF0F07, reset := 0x10101, warm := full, aon := full },
   { lo := 0x50, rl := 0xF0F07, reset := 0x10103, warm := full, aon := full },
   { lo := 0x60, rl := full, reset := 0x124F80, warm := full, aon := full },
   { lo := 0x61, rl := full, reset := 0x118C30, warm := full, aon := full },
   { lo := 0x62, rl := full, reset := 0xBB80004, warm := full, aon := full },
   { lo := 0x63, rl := full, reset := 0xFFF92230, warm := full, aon := full },
   { lo := 0x64, rl := full, reset := 0xFFF9E580, warm := full, aon := full },
   { lo := 0x65, rl := full, reset := 0xA000A, warm := full, aon := full },
   { lo := 0x66, rl := full, reset := 0x249F0, warm := full, aon := full },
   { lo := 0x67, rl := full, reset := 0x186A0, warm := full, aon := full },
   { lo := 0x68, rl := full, reset := 0xA000A, warm := full, aon := full },
   { lo := 0x69, rl := full, reset := 0xDBBA0, warm := full, aon := full },
   { lo := 0x6A, rl := full, reset := 0xCF850, warm := full, aon := full },
   { lo := 0x6B, rl := full, reset := 0x40004, warm := full, aon := full },
   { lo := 0x6C, rl := full, reset := 0x493E0, warm := full, aon := full },
   { lo := 0x6D, rl := full, reset := 0x30D40, warm := full, aon := full },
   { lo := 0x6E, rl := full, reset := 0xA000A, warm := full, aon := full },
   { lo := 0x6F, rl := full, reset := 0xE10, warm := full, aon := full },
   { lo := 0x70, rl := full, reset := 0xDAC, warm := full, aon := full },
   { lo := 0x71, rl := full, reset := 0xA000A, warm := full, aon := full },
   { lo := 0x72, rl := full, reset := 0x157C, warm := full, aon := full },
   { lo := 0x73, rl := full, reset := 0x1518, warm := full, aon := full },
   { lo := 0x74, rl := full, reset := 0xA000A, warm := full, aon := full },
   { lo := 0x75, rl := full, reset := 0x898, warm := full, aon := full },
   { lo := 0x76, rl := full, reset := 0x8FC, warm := full, aon := full },
   { lo := 0x77, rl := full, reset := 0x40004, warm := full, aon := full },
   { lo := 0x78, rl := full, reset := 0x3AC, warm := full, aon := full },
   { lo := 0x79, rl := full, reset := 0x3CA, warm := full, aon := full },
   { lo := 0x7A, rl := full, reset := 0x20002, warm := full, aon := full },
   { lo := 0x7B, rl := full, reset := 0x424, warm := full, aon := full },
   { lo := 0x7C, rl := full, reset := 0x406, warm := full, aon := full },
   { lo := 0x7D, rl := full, reset := 0x20002, warm := full, aon := full },
   { lo := 0x7E, rl := full, reset := 0x398, warm := full, aon := full },
   { lo := 0x7F, rl := full, reset := 0x3B6, warm := full, aon := full },
   { lo := 0x80, rl := full, reset := 0x40004, warm := full, aon := full },
   { lo := 0x81, rl := full, reset := 0x40, warm := full, aon := full },
   { lo := 0x82, rl := full, reset := 0x20, warm := full, aon := full },
   { lo := 0x83, rl := full, reset := 0x10001, warm := full, aon := full },
   { lo := 0xC0, w1c := 0x1000000, warm := full, aon := 0x1007FFF },
   { lo := 0xC1, rw := full, warm := full, least := 0, most := 4095 },
   { lo := 0xC2, cnt := 8, warm := full },
   { lo := 0xCA, cnt := 4, warm := full },
   { lo := 0xCE, warm := full, aon := full },
   { lo := 0xCF, warm := full, aon := full },
   { lo := 0xD0, rw := full, warm := full, least := 0, most := 63 },
   { lo := 0xD1, cnt := 5, warm := full }]

/-- Repeated groups of GRD. -/
def groupsGrd : List Group :=
  [{ base := 0x20, stride := 2, num := 25, rows :=
      [{ lo := 0x01, warm := full, aon := full }] }]

/-- Words of OBS with an address of their own. -/
def rowsObs : List Row :=
  [{ lo := 0x00, rw := 0xF0FF9, reset := 0x80FF8 },
   { lo := 0x01, w1c := 0x100 },
   { lo := 0x02, rw := 0xF0FFFFF, reset := 0xF0FFFFE },
   { lo := 0x03, wo := full },
   { lo := 0x04 },
   { lo := 0x05 },
   { lo := 0x06 },
   { lo := 0x07, rw := full },
   { lo := 0x20, cnt := 12 }]

/-- Repeated groups of OBS. -/
def groupsObs : List Group :=
  []

/-- The words of bank `b` (R708). -/
def bankRows (b : Nat) : List Row × List Group :=
  match b with
  | 0 => (rowsHif, groupsHif)
  | 1 => (rowsPwr, groupsPwr)
  | 2 => (rowsEvt, groupsEvt)
  | 3 => (rowsTb, groupsTb)
  | 4 => (rowsStr, groupsStr)
  | 5 => (rowsVc, groupsVc)
  | 6 => (rowsVcal, groupsVcal)
  | 7 => (rowsVq, groupsVq)
  | 8 => (rowsRefm, groupsRefm)
  | 9 => (rowsSrv, groupsSrv)
  | 10 => (rowsPcr, groupsPcr)
  | 11 => (rowsMac, groupsMac)
  | 12 => (rowsMac, groupsMac)
  | 13 => (rowsMac, groupsMac)
  | 14 => (rowsMac, groupsMac)
  | 15 => (rowsSnap, groupsSnap)
  | 16 => (rowsPtp, groupsPtp)
  | 17 => (rowsPipe, groupsPipe)
  | 18 => (rowsAdm, groupsAdm)
  | 19 => (rowsNts, groupsNts)
  | 20 => (rowsArr, groupsArr)
  | 21 => (rowsArrw, groupsArrw)
  | 22 => (rowsGrd, groupsGrd)
  | 23 => (rowsObs, groupsObs)
  | _ => ([], [])

/-- What the register map says of the word at `a` (bank × 256 + word); none for a reserved or unmapped word. -/
def rowAt (a : Nat) : Option Row :=
  let m := bankRows (a / 256)
  match findRow (a % 256) m.1 with
  | some r => some r
  | none => findInGroups (a % 256) m.2

/-- What an unlisted word reads as: its reset value (R14), or 0 where no word is mapped (R698, R708). Addresses from
0x10000 up are the window words the model stores (R698): MODE_NOW and CMD_STATUS read 0 by this definition. -/
def resetWord (a : Nat) : Word :=
  match rowAt a with
  | some r => wordOf r.reset
  | none => 0

end Sys2Proof.Machine
end

