-- ==== Sys2Proof/Machine/State.lean ====
section
/-! DEFINITION. The state of the block, all plain data: the registers, what each block holds beyond its registers, the
commands that wait, and the state after reset. -/

namespace Sys2Proof.Machine

/-- The words that hold a value other than their reset value: strictly rising in the address (bank × 256 + word),
no entry equal to `resetWord`. -/
abbrev RegFile := List (Nat × Word)

/-- Why the machine stops with a fault. No command of this block does: the spec gives every command an effect. -/
inductive Fault where
  /-- Raised by no command; kept so that the interface's fault outcome has a value. Safe: it stops nothing. -/
  | none
  deriving DecidableEq, Repr

/-- Why a command is turned away. -/
inductive Refusal where
  /-- Raised by an arm of `exec` whose command has no meaning yet. Safe: it proves nothing about the command. -/
  | notModelled (mnemonic : String)
  deriving DecidableEq, Repr

/-! ### Events and observation -/

/-- The event logic (R720 to R733): sticky bit n for event n, cause bit k for cause k, the last event raised, the
Tally word at that raise, the count of raises, and for each line whether its 1 µs release pulse is running (R728). -/
structure EventState where
  sticky : BitVec 128 := 0
  causes : BitVec 47 := 0
  last : EventId := (0, 0)
  lastTally : Word := 0
  raises : Word := 0
  pulseA : Bool := false
  pulseB : Bool := false
  deriving DecidableEq, Repr

/-- One trace record that has been formed but has not reached the FIFO: its kind, its TICK and its payload (R772). -/
structure TraceRec where
  kind : Nat
  tick : Nat
  body : List Word
  deriving DecidableEq, Repr

/-- One word of the trace FIFO, and whether it ends a record. -/
structure TraceWord where
  word : Word
  last : Bool
  deriving DecidableEq, Repr

/-- The trace port (R771 to R785). `batch` holds the records of the present tick, which enter the FIFO in the order of
R776 when the tick ends or the port sends a word. `sinceSync` counts the words sent since a SYNC. -/
structure ObsState where
  batch : List TraceRec := []
  fifo : List TraceWord := []
  seq : Nat := 0
  dropping : Bool := false
  lostNow : Nat := 0
  started : Bool := false
  sinceSync : Nat := 0
  outCount : Nat := 0
  sent : Option Word := none
  ctlNow : Word := 0x80FF8
  maskNow : Word := 0xF0FFFFE
  deriving DecidableEq, Repr

/-! ### Host ports -/

/-- The result of a port's last message that was not BUSY, as the status byte reports it (R667). -/
structure MsgResult where
  crcErr : Bool := false
  done : Bool := false
  refused : Bool := false
  reject : Bool := false
  deriving DecidableEq, Repr

/-- What one host port holds (R16, R52, R658, R662, R680, R698). `holds` are the lower words written and not yet
applied, `latches` the words a read has latched, both by word address. `claimWord` is the CLAIM word held for CLAIM_CODE,
`out` the bytes the last message returned, `leaseEnd` the interface clock at which its last lease ended. -/
structure PortState where
  ptrBank : Nat := 0
  ptrWord : Nat := 0
  holds : List (Nat × Word) := []
  latches : List (Nat × Word) := []
  fifoSecond : Bool := false
  claimWord : Word := 0
  rejLast : Word := 0
  rejCount : Word := 0
  cmdArg : Word := 0
  ldgSel : Nat := 0
  sumSel : Nat := 0
  result : MsgResult := {}
  out : List Byte := []
  leaseEnd : Option Nat := none
  deriving DecidableEq, Repr

/-- A claim lease on the register engine (R681): its holder, its code and the interface clock at which it ends. -/
structure Lease where
  holder : HostPort
  code : Nat
  ends : Nat
  deriving DecidableEq, Repr

/-- A two-wire write that has been collected and waits for the engine (R673, R693). -/
structure TwWrite where
  window : Nat
  words : List Word
  deriving DecidableEq, Repr

/-- Where a board-bus job stands (R686 to R688): it waits for a free bus, its transfer runs, or it waits after a lost
arbitration. -/
inductive BoardPhase where
  | waiting
  | running
  | backoff
  deriving DecidableEq, Repr

/-- The board-bus job in progress (R685 to R689): the BB_CMD word, where it stands, and the interface clock before which
its back-off is not over (R688). -/
structure BoardJob where
  cmd : Word
  phase : BoardPhase
  retryAt : Nat := 0
  deriving DecidableEq, Repr

/-- The Host Interface beyond its registers. `clock` counts ticks of 800 ps since HOST started, for the leases and the
gap of R681. `cmdLatched` is the CMD write that runs at the end of the message that carries it (R704), `blockReset` the
target of a block reset in progress, `madd` the MADDR straps as sampled (R807), `usedUntil` the clock until which the last
message's words may still be applied or fetched (R660, R674). -/
structure HifState where
  spi : PortState := {}
  tw : PortState := {}
  clock : Nat := 0
  lease : Option Lease := none
  twWrite : Option TwWrite := none
  job : Option BoardJob := none
  cmdLatched : Option Nat := none
  blockReset : Option Nat := none
  madd : Option Nat := none
  usedUntil : Nat := 0
  deriving DecidableEq, Repr

/-! ### Power, sleep and modes -/

/-- One stored copy of a retention section (R605): a valid mark, a sequence number and the words saved. -/
structure RetCopy where
  valid : Bool := false
  seq : Nat := 0
  words : List (Nat × Word) := []
  deriving DecidableEq, Repr

/-- The two copies of one section. -/
structure RetSection where
  a : RetCopy := {}
  b : RetCopy := {}
  deriving DecidableEq, Repr

/-- The Power Manager beyond its registers: the sections of domains 2 to 7 in order (R604), the thermal-cap qualifier,
the level a change moves to (R616), DROPs that wait for a start (R619), the domains that a regulator fault keeps down
until a new vote (R610), those that start without a restore (R608) and those that a warm reset starts without votes (R623), RST_N low, a cold
reset that waits for VMAIN (R655), whether AON has started and whether its
first wake is still to come (R752), the start-cause flag (R612), GUARD's and WAKE's votes (R593), a latched wake cause
(R638, R652), a warm reset that waits for the wake (R656), the VMAIN qualifier, the wake pins' levels, the transit
clock in units of 2^-48 s (R639), the ticks of the present
256 cycles of the AON crystal, the
windows X32_OFS has learnt from (R641), the events put off to a HOST start (R730), and the modes of the I/O banks
(R791). -/
structure PowerState where
  ret : Vector RetSection 6 := Vector.replicate 6 {}
  tcap : Qual := {}
  levelTo : Option Nat := none
  dropWaiting : List Nat := []
  dropping : List Nat := []
  barred : List Nat := []
  plain : List Nat := []
  forced : List Nat := []
  rstLow : Bool := false
  coldDue : Bool := false
  started : Bool := false
  fresh : Bool := false
  flag : Option Nat := none
  guardVote : Bool := false
  wakeHold : Option Nat := none
  wakeLatched : Option Nat := none
  warmAfterWake : Bool := false
  vmainLow : Bool := true
  pinLevels : Nat := 0
  tclk : Nat := 0
  aonPhase : Nat := 0
  x32Windows : Nat := 0
  handoverDue : Bool := false
  brownoutDue : Bool := false
  vioH : Option Nat := none
  vioO : Option Nat := none
  deriving DecidableEq, Repr

/-- The mode, its predecessor and cause (R739), the base mode that counts while the mode is Maintain or Safe Hold
(R740), the request with its result and reason (R743), and whether Safe Hold was in force when TIME last stopped
(R753). The tick in which Safe Hold was entered (R767), the tick and the cause of the last cause that found it in force
(R769), and the tick in which Rise last completed (R768). -/
structure ModeState where
  now : Mode := .rise
  prev : Option Mode := none
  cause : Nat := 0
  base : Mode := .rise
  reqMode : Nat := 0
  reqResult : Nat := 0
  reqReason : Nat := 0
  safeAtStop : Bool := false
  safeTick : Option (Nat × Nat) := none
  late : Option ((Nat × Nat) × Nat) := none
  riseTick : Option (Nat × Nat) := none
  deriving DecidableEq, Repr

/-! ### Guard and Ledger -/

/-- One Guard source beyond its registers (R547, R548): its qualifier, its last samples (newest first, true for an
event) and the era of its last NOTE entry. -/
structure GuardSource where
  q : Qual := {}
  recent : List Bool := []
  notedEra : Option Nat := none
  deriving DecidableEq, Repr

/-- The Guard beyond its registers: the 25 sources, the TAMP inputs at their active level, FORCE_SAFE_N low, the TAMP and
FORCE_SAFE_N latches that a battery window has still to read, the battery windows since a mesh check (R566), the pattern that
the mesh was last driven with, whether the last TB verdict was sound, the reads of the host's random instance and the draws of the true random source. -/
structure GuardState where
  sources : Vector GuardSource 25 := Vector.replicate 25 {}
  tampActive : Vector Bool 4 := Vector.replicate 4 false
  forceLow : Bool := false
  tampLatch : Vector Bool 4 := Vector.replicate 4 false
  forceLatch : Bool := false
  windows : Nat := 0
  pattern : Nat := 0
  verdictSound : Bool := true
  hostReads : Nat := 0
  draws : Nat := 0
  deriving DecidableEq, Repr

/-- An event handed to the Ledger (R577 to R579): source and event code, T, era, time, its 6 data bytes and its
continuation bytes, if any; and the AON cycle in which it arrived, told by the transit clock (R590). -/
structure LedgerEvent where
  src : Nat
  evt : Nat
  t : Bool
  era : Nat
  time : Nat
  data : List Byte
  cont : Option (List Byte)
  cycle : Nat := 0
  deriving DecidableEq, Repr

/-- A Ledger slot below COUNT: the 32 bytes of an entry, or a worn slot (R583). -/
inductive LedgerSlot where
  | entry (bytes : List Byte)
  | worn
  deriving DecidableEq, Repr

/-- The summary record of one source code (R586). -/
structure LedgerSum where
  count : Nat := 0
  unwritten : Nat := 0
  era : Nat := 0
  evt : Nat := 0
  t : Bool := false
  time : Nat := 0
  deriving DecidableEq, Repr

/-- The Ledger: committed slots from slot 0 up, the queue (head first) and the summary records by source code. -/
structure LedgerState where
  slots : List LedgerSlot := []
  queue : List LedgerEvent := []
  sums : List (Nat × LedgerSum) := []
  deriving DecidableEq, Repr

/-! ### Arming -/

/-- An arming (R39, R710): the host port it belongs to, and the Tally at which its 100 ms end; none while TIME is
down. -/
structure Arming where
  port : HostPort
  ends : Option Nat
  deriving DecidableEq, Repr

/-- The arming of each bank, if it is armed. -/
structure Arms where
  tb : Option Arming := none
  str : Option Arming := none
  srv : Option Arming := none
  nts : Option Arming := none
  grd : Option Arming := none
  deriving DecidableEq, Repr

/-! ### Steering -/

/-- A Face's parameters (R26): the offset in pips and the rate in units of 2^-60. -/
structure FaceReg where
  ofs : Int := 0
  rate : Int := 0
  deriving DecidableEq, Repr

/-- A smear window of a leap scheduled with SMEAR_EN (R47, R48): LEAP_AT, +1 or -1, and whether the leap has been
applied. -/
structure Smear where
  at_ : Nat
  d : Int
  applied : Bool := false
  deriving DecidableEq, Repr

/-- What every Face is computed from (R26, R31, R47): the two main Faces, UTC_OFFSET and the smears. -/
structure Faces where
  f0 : FaceReg := {}
  f3 : FaceReg := {}
  utc : Int := 0
  smears : List Smear := []
  deriving DecidableEq, Repr

/-- The parameters that the present tick's readers still see (R28, R55): the tick in which the changes fell, the parameters
before them, and the place in the order of R54 of the last change of F0 among them (0 for none). -/
structure PriorFaces where
  tick : Nat
  faces : Faces
  rank : Nat := 0
  deriving DecidableEq, Repr

/-- Steering beyond its registers: the two Faces as they stand from the next tick boundary on, the delta latched for a
commit with its Face, whether PEND_DELTA holds a delta, the smears of the scheduled and the just applied leap, newest
first, and the parameters before the last tick boundary at which any of them changed (R28). -/
structure SteerState where
  f0 : FaceReg := {}
  f3 : FaceReg := {}
  latched : Option (MainFace × Int) := none
  held : Bool := false
  smears : List Smear := []
  prior : Option PriorFaces := none
  deriving DecidableEq, Repr

/-! ### Time base -/

/-- What the heater's 50 ms ramp does (R58): no ramp, up as heating starts, down as it stops. -/
inductive HeaterRamp where
  | none
  | up
  | down
  deriving DecidableEq, Repr

/-- The time base beyond its registers: the qualifiers of the oven (R62, R59 and the edges of its chapter) and of the
tick-integrity checks (R78), counts of 250 ms samples since heating began, since WARM was set and towards OVEN_HOURS,
the heater drives of the last 60 s and the last two REF gates (newest first, R63), the slot under check (R77), the
heater's ramp (R58), an enable latched while it falls (R88), and whether the first fault since OVEN start is in the Ledger (R86). -/
structure TimeBaseState where
  inband : Qual := {}
  vheatLow : Qual := {}
  sensorBad : Qual := {}
  overtemp : Qual := {}
  heaterOpen : Qual := {}
  slow : Bool := false
  heatSamples : Nat := 0
  warmSamples : Nat := 0
  hourSamples : Nat := 0
  drives : List Nat := []
  gates : List Int := []
  checkSlot : Option Nat := none
  x32 : Qual := {}
  ref : Qual := {}
  ramp : HeaterRamp := .none
  latched : Bool := false
  faultLogged : Bool := false
  deriving DecidableEq, Repr

/-! ### Vernier capture -/

/-- A stamp (R89, R90): its instant in subticks of the era, its polarity (true for falling) and its flags. -/
structure Stamp where
  t : Int
  falling : Bool
  late : Bool
  suspect : Bool
  deriving DecidableEq, Repr

/-- A conversion in progress: the latched Tally, the bin, the polarity, whether it is coarse-only, and the settings
it is composed with (R91, R112): E of the bin's end, the bin's width, S_q, the delays, PRESC > 0, and whether the edge came without
PLL_LOCK or without a valid table (R98). -/
structure Conversion where
  tally : Nat
  falling : Bool
  coarse : Bool
  suspect : Bool
  edgeEnd : Nat
  width : Nat
  sq : Nat
  delays : Int
  prescaled : Bool
  deriving DecidableEq, Repr

/-- A run of lost or withheld edges (R99, R100): its cause, the edges its RANGE entry will count (0 once the entry is
written), the tick of its first edge, and whether the run is still going. -/
structure RangeRun where
  cause : Nat
  edges : Nat
  tick : Nat
  running : Bool
  deriving DecidableEq, Repr

/-- What waits on a channel behind the conversions in progress (R112, R113): a marker with its tick and tag, or a write
to the channel's word at an offset: 0 for CTL, 2 for DELAY_OFS, 0x40 and 0x41 for CAL_CTL and CAL_STAT. -/
inductive Later where
  | mark (tick tag : Nat)
  | write (k : Nat) (v : Word)
  deriving DecidableEq, Repr

/-- A fine channel beyond its registers: the previous edge (R92), conversions in progress (oldest first), runs with
a RANGE entry to come, the count of the present 1 ms window (R100), whether the level is at the watermark (R103), the
host queue (head first), what waits behind the conversions (oldest first), and a disable that is completing (R114). -/
structure Channel where
  prevEdge : Option Int := none
  conv : List Conversion := []
  ranges : List RangeRun := []
  window : Nat := 0
  windowCount : Nat := 0
  above : Bool := false
  queue : List (BitVec 64) := []
  later : List Later := []
  stopping : Bool := false
  deriving DecidableEq, Repr

/-- A stamp that a measure unit has taken: its instant, its polarity, and whether its channel is START and STOP. -/
structure UnitStamp where
  t : Int
  falling : Bool
  start : Bool
  stop : Bool
  deriving DecidableEq, Repr

/-- A measure unit's running gate: the stamps it has taken, newest first (R108 to R110). -/
structure MeasureUnit where
  stamps : List UnitStamp := []
  deriving DecidableEq, Repr

/-- A calibration run in progress (R116 to R127): full or trim-only, its source, the hits of each quarter by bin,
the widths it has computed, and the trim measurements made with the code under trial; `held` when the slot is
withheld from selection (R143). -/
structure CalRun where
  full : Bool
  held : Bool
  rise : Bool := false
  widths : Option (List Nat) := none
  measured : Nat := 0
  trim : Nat := 0
  deriving DecidableEq, Repr

/-- A channel's calibration beyond its registers: the run, the drift qualifier, whether a table is stored, the trim
code once a run has moved it, the last histogram, writes held during a run (R140), and the stored AON table's age in
seconds of TIME running. `wanted` is a host's run that R134 holds: true for a full run. -/
structure CalChannel where
  run : Option CalRun := none
  drift : Qual := {}
  stored : Bool := false
  trim : Option Nat := none
  hist : List Nat := []
  heldWords : List (Nat × Word) := []
  ageSecs : Nat := 0
  trimDue : Bool := false
  wanted : Option Bool := none
  deriving DecidableEq, Repr

/-! ### References -/

/-- A reference slot beyond its registers: the last on-time stamp and the last stamp of any polarity, the on-time
stamp whose width is open, runs of good and bad intervals, the on-time stamps since ACQUIRING (newest first, at most 32,
R168), whether the loss timer runs (R149) and the level has changed, whether a loss or a disqualification came before
(R163), the labels (R160), the clockClass of the selected master, the job's verdict (R161) with the mean residual and
the path delay it used, whether a new master waits for its first usable Sync (R174), and whether the frequency assist
of SyncE is in use (R151). -/
structure RefSlot where
  lastOn : Option Int := none
  widthOpen : Option Int := none
  widthBad : Bool := false
  good : Nat := 0
  bad : Nat := 0
  resid : List (Int × Option Int) := []
  losArmed : Bool := false
  levelMoved : Bool := false
  lostBefore : Bool := false
  label : Option Int := none
  labelRun : Nat := 0
  labelNext : Option Int := none
  labelEdge : Option (Int × Int) := none
  job : Nat := 3
  jobMean : Option Rat := none
  jobMpd : Option Int := none
  iqLast : Nat := 14
  integLast : Nat := 3
  syncLog : Int := 0
  annClass : Option Nat := none
  reswitch : Bool := false
  assist : Bool := false
  deriving DecidableEq, Repr

/-- What a $PMQST sentence states (R157): the character of STATE, TACC in ns and FLAGS. -/
structure Pmqst where
  state : Nat
  tacc : Option Nat
  flags : Nat
  deriving DecidableEq, Repr

/-- The fresh verdicts of one message UART (R156, R158): IQ codes and a fresh $PMQST; and the last UTC second below second
60 that labelled edges, with its label (R160). -/
structure Uart where
  rmc : Option Nat := none
  gga : Option Nat := none
  gsa : Option Nat := none
  pmqst : Option Pmqst := none
  tod : Option (Int × Int) := none
  deriving DecidableEq, Repr

/-- The Reference Manager beyond its registers: slots, UARTs, the antenna switch's temperature qualifier, its run of
low-current samples, its current samples of the last hour (newest first), whether its first failure is in the Ledger
(R178), the Tally at which its wait ends (R177), whether a host asked for the held switch (R169), and the request or scan
that waits for a calibration to end (R184). -/
structure RefmState where
  slots : Vector RefSlot 12 := Vector.replicate 12 {}
  uarts : Vector Uart 2 := Vector.replicate 2 {}
  antTemp : Qual := {}
  lowRun : Nat := 0
  ima : List Nat := []
  antLogged : Bool := false
  antEnds : Nat := 0
  heldManual : Bool := false
  waiting : Option Nat := none
  deriving DecidableEq, Repr

/-! ### Servo -/

/-- The servo beyond its registers. `i` is a fractional frequency (R188). `meas` and `freqs` are the phase and frequency
measurements since the last update. `lastE` and `lastAt` are the last accepted measurement and its Tally, `acceptedAt` the Tally of the last one accepted from
any slot (R421); `rates` and
`errs` are F0's rate and |e| over time, newest first, each with its Tally (R197, R206). `re` is the entry rate in units of
2^-60, `eE` the mean |e| at entry in ns, `lossSecs` the seconds of holdover with cause LOSS (R199). `theta` is the filtered
package temperature, none before its first sample, and `thetaH` its value at the last accepted measurement, in 0.01 K;
`atH` is that measurement's Tally at the entry to holdover. `est` and `cov` are the estimator's coefficients and
covariance, `resid` its last 144 residuals (R201). `predFor` is the F0 second at which the interval of the last predictor
job ends, `pred` the last good prediction, `predEnd` the end of its interval, `decaying` whether PRED_STALE has been raised
for it (R204). The last fields describe the drift interval in progress (R210): the Tally at which it began and up to which
it is summed, F0's rate, the package temperature and the heater drive summed over its ticks, the last measurement before
it, the F0 second of the last record, and the flags. -/
structure ServoState where
  i : Rat := 0
  lock : Qual := {}
  meas : List Int := []
  freqs : List Rat := []
  fresh : Bool := false
  lastE : Option Int := none
  lastAt : Nat := 0
  acceptedAt : Option Nat := none
  lockedAt : Nat := 0
  rejects : Nat := 0
  within : Nat := 0
  rates : List (Nat × Int) := []
  errs : List (Nat × Nat) := []
  re : Int := 0
  eE : Rat := 0
  lossSecs : Nat := 0
  overBudget : Bool := false
  theta : Option Rat := none
  thetaH : Rat := 0
  atH : Nat := 0
  est : List Rat := [0, 0, 0, 0]
  cov : List (List Rat) := []
  estOrigin : Nat := 0
  resid : List Int := []
  outliers : Nat := 0
  hist : List (Nat × List Byte) := []
  predFor : Option Nat := none
  pred : Int := 0
  predEnd : Option Nat := none
  decaying : Bool := false
  ivStart : Nat := 0
  ivSeen : Nat := 0
  ivRate : Int := 0
  ivTemp : Int := 0
  ivHeat : Nat := 0
  ivE : Option Int := none
  lastRec : Option Nat := none
  ivLocked : Bool := false
  ivWarm : Bool := false
  ivHold : Bool := false
  ivPred : Bool := false
  ivStep : Bool := false
  ivSwitch : Bool := false
  deriving DecidableEq, Repr

/-! ### Outputs -/

/-- One pulse of an output: the index of its rising edge (R223), the output times of its two edges, the DELAY_OFS and INV
it took (R253), the launch instant of its rising edge, and that of its falling edge once it is settled: committed (R231)
or kept from a POLICY write (R253). -/
structure OutEdge where
  k : Int := 0
  u : Int := 0
  fall : Int := 0
  delay : Int := 0
  inv : Bool := false
  at_ : Int
  fallAt : Option Int := none
  deriving DecidableEq, Repr

/-- An output beyond its registers (R221 to R248): O_n; whether it runs; a disable that completes; the output time before
which it does not start (R229); whether it has started; the INV its idle level takes; the pulse in progress; the rising
edges committed (R231), earliest first; the index up to which rising edges are worked off, and the instant since which the
present schedule holds; the instant of its last falling edge; its launches of the last millisecond as the pad shows them,
newest first (R250); a slew (the instant it was last settled and, under FOLLOW_INPUT, its goal); the last measurement, the
part of it not applied, whether one was applied since the enable, whether the next one acts as ALIGN; MISALIGN above its
warning; and the edges skipped. -/
structure OutState where
  ofs : Int := 0
  running : Bool := false
  stopping : Bool := false
  gate : Option Int := none
  started : Bool := false
  inv : Bool := false
  high : Option OutEdge := none
  plan : List OutEdge := []
  lastK : Int := 0
  since : Int := 0
  lastFall : Option Int := none
  launched : List (Bool × Int) := []
  slew : Option (Int × Int) := none
  m : Int := 0
  pend : Int := 0
  applied : Bool := false
  alignFirst : Bool := false
  misAbove : Bool := false
  skipped : Nat := 0
  deriving DecidableEq, Repr

/-- The errors of the present verification gate, in subticks, newest first (R250). -/
structure PacerState where
  outs : Vector OutState 12 := Vector.replicate 12 {}
  errors : List Int := []
  deriving DecidableEq, Repr

/-! ### Ethernet ports -/

/-- A frame in a receive buffer (R275): its bytes without the FCS, the entry the MAC assigned (R272) and its receive
stamp, none for NO_STAMP (R310). -/
structure RxFrame where
  bytes : List Byte
  entry : Nat
  trx : Option Int
  deriving DecidableEq, Repr

/-- What a frame on its way out counts as (R286). -/
inductive TxKind where
  | pause
  | slotted
  | unslotted
  | relay
  deriving DecidableEq, Repr

/-- A copy the transparent relay made (R331 to R334), not yet committed: the frame as received, its receive stamp,
the F0 rate, the slot and the BOARD_TX of its last grant (R335), and its misses. -/
structure RelayCopy where
  bytes : List Byte
  trx : Int
  rate : Int
  slot : Int
  granted : Int
  board : Int
  misses : Nat
  deriving DecidableEq, Repr

/-- An unslotted frame that waits or is held (R295, R358): its bytes, whether it is a housekeeping reply, and whether a
hold window has held it once (R296). -/
structure PlainFrame where
  bytes : List Byte
  reply : Bool
  held : Bool := false
  deriving DecidableEq, Repr

/-- One stored latency calibration (R315). -/
structure LatEntry where
  tx : Int
  rx : Int
  deriving DecidableEq, Repr

/-! ### The request pipeline -/

/-- The six stages, and a frame staged on its port (R340). -/
inductive Stage where
  | sort
  | admission
  | read
  | seal
  | launch
  | staged
  deriving DecidableEq, Repr

/-- What a context's frame is (R346, R376, R428, R431). -/
inductive Duty where
  | request
  | ntp
  | nts
  | kissRate
  | kissNts
  | delayReq
  | delayResp
  | sync
  | announce
  | signaling
  | management
  deriving DecidableEq, Repr

/-- A Face with the parameters it is computed from (R325). -/
structure FaceView where
  face : Face
  reg : FaceReg
  utc : Int
  smears : List Smear
  deriving DecidableEq, Repr

/-- What ADMIT binds for an NTS request (R430): key slot, generation, C2S and S2C, placeholders and the Unique Identifier
field. -/
structure KeyBind where
  slot : Nat
  gen : Nat
  c2s : Nat
  s2c : Nat
  more : Nat
  uid : List Byte
  deriving DecidableEq, Repr

/-- Where a frame goes: Ethernet address, IP address (none for the Ethernet transport) and UDP port. -/
structure Dest where
  mac : List Byte
  ip : List Byte
  udp : Nat
  deriving DecidableEq, Repr

/-- A context (R344): whether the PTP service originated it, its port, entry, SORT class (0 to 6 in
the order of the class table) and the entry's tag as at SORT, T_rx, its
stage and duty, the frame received, source address and destination of the reply, the message without its stamps, its
frame, the slot and its grant, the frame length reserved, the Face view, misses, the key binding, the BOARD_TX of its
grant (R335), the instant of its allocation (R348), and whether its outcome has been counted at an earlier commit, so that
the port alone still holds it (R346). -/
structure Ctx where
  orig : Bool
  port : Nat
  entry : Nat
  cls : Nat := 6
  tag : Option (Nat × Nat) := none
  trx : Option Int := none
  stage : Stage := .sort
  duty : Duty := .request
  frame : List Byte := []
  srcIp : List Byte := []
  dest : Dest := { mac := [], ip := [], udp := 0 }
  msg : List Byte := []
  out : List Byte := []
  slot : Int := 0
  granted : Int := 0
  len : Nat := 0
  view : Option FaceView := none
  misses : Nat := 0
  key : Option KeyBind := none
  board : Int := 0
  born : Int := 0
  ended : Bool := false
  leapAt : Option Nat := none
  deriving DecidableEq, Repr

/-- What a committed frame was made from: what it takes to give it another slot (R285, R328, R329). -/
inductive TxOrigin where
  | none
  | context (c : Ctx)
  | relayed (r : RelayCopy)
  deriving DecidableEq, Repr

/-- A frame that the port transmits: its bytes without the FCS, its slot instant and the BOARD_TX of its grant (R308,
R335), if it has a slot, and what it was made from. -/
structure TxFrame where
  kind : TxKind
  bytes : List Byte
  slot : Int := 0
  board : Int := 0
  origin : TxOrigin := .none
  deriving DecidableEq, Repr

/-- A port beyond its registers: good samples since the last bad one (R264), the receive buffer, the XOFF qualifier
(R276), a waiting PAUSE frame's quanta and since when it waits (R280), relay copies, frames committed and frames on the
wire (R324), the frame that left last with its FCS (R267), unslotted frames, whether a hold window has not run out (R296),
the start and end of the last received pause (R284), the second and count of the housekeeping rate (R358), agreeing
measurements and the last of them (R317), the margin window's largest N in subticks and miss (R323), the counts made in
the last tick that counted (R291, R302), whether a latency calibration is owed to Calibrate (R316), and the tick of the
last write of BOARD_TX, BOARD_RX and ASYM with the words in force in it (R335). -/
structure EthPort where
  good : Nat := 0
  rx : List RxFrame := []
  xoff : Qual := {}
  pauseOut : Option (Nat × Int) := none
  relays : List RelayCopy := []
  committed : List TxFrame := []
  wire : List TxFrame := []
  sent : List Byte := []
  plain : List PlainFrame := []
  holdOpen : Bool := false
  paused : Option (Int × Int) := none
  hkSecond : Nat := 0
  hkCount : Nat := 0
  agreeing : Nat := 0
  lastVars : Option (Int × Int) := none
  largestN : Option Int := none
  missed : Bool := false
  counted : Nat × List (Nat × Nat) := (0, [])
  latDue : Bool := false
  boards : Option (Nat × List Word) := none
  deriving DecidableEq, Repr

/-- The pipeline beyond its registers: contexts oldest first, the two buckets in units of 1/1,250,000,000 token with
the Tally of their last filling, the round-robin pointer, and the mailbox. -/
structure PipeState where
  ctxs : List Ctx := []
  issue : Nat := 64 * 1250000000
  nts : Nat := 64 * 1250000000
  filled : Nat := 0
  next : Nat := 0
  mailbox : List Byte := []
  deriving DecidableEq, Repr

/-! ### PTP -/

/-- The dataset an Announce carries (R386, R394). -/
structure Dataset where
  gm : Nat
  prio1 : Nat
  prio2 : Nat
  cls : Nat
  acc : Nat
  oslv : Nat
  steps : Nat
  utc : Nat
  flags : Nat
  source : Nat
  deriving DecidableEq, Repr

/-- A foreign-master record (R384): its sourcePortIdentity, its addresses, the announce interval's log, the Tally of
its last Announce, whether it is qualified, and the last dataset. -/
structure Foreign where
  id : Nat
  mac : List Byte
  ip : List Byte
  log : Int
  last : Nat
  ok : Bool := false
  data : Dataset
  deriving DecidableEq, Repr

/-- A two-step Sync that waits for its Follow_Up (R391): sequenceId, t2 in pips, T_rx, correction, log interval and
its Tally. -/
structure SyncWait where
  seq : Nat
  t2 : Int
  trx : Int
  corr : Int
  log : Int
  at_ : Nat
  deriving DecidableEq, Repr

/-- A request for unicast messages (R400): the Tally at which it was sent last, and the Tally and the duration in seconds of
the grant that answered it. -/
structure UcAsk where
  asked : Nat
  granted : Option (Nat × Nat) := none
  deriving DecidableEq, Repr

/-- A PTP port beyond its registers: foreign masters, path-delay samples (newest first), the last ms, the sequenceId of
the last usable Sync, a two-step Sync, the Delay_Req that is out (sequenceId and t3), the log interval of the master's
Delay_Resp and the Tally from which the next Delay_Req may leave, sequence counters by messageType, the identity of its
Erbest, the Tally at which PRE_MASTER began (R388), the last period boundary of its multicast Announce, Sync and Management
messages (R379, R405, R407), and its requests for unicast messages by messageType (R400). -/
structure PtpPort where
  masters : List Foreign := []
  samples : List Int := []
  ms : Option Int := none
  lastSeq : Option Nat := none
  waiting : Option SyncWait := none
  asked : Option (Nat × Int) := none
  respLog : Option Int := none
  dreqAt : Nat := 0
  seqs : List (Nat × Nat) := []
  best : Option Nat := none
  preAt : Nat := 0
  annAt : Option Nat := none
  syncAt : Option Nat := none
  metaAt : Option Nat := none
  asks : List (Nat × UcAsk) := []
  deriving DecidableEq, Repr

/-- A unicast grant (R397 to R399): port, grantee (sourcePortIdentity and address), entry and its tag, source
address, message type, period, the Tally at which it lapses, the Tally of its last period boundary (R379), its sequence
counter, and the Delay_Reqs of the present second (R401). -/
structure Grant where
  port : Nat
  id : Nat
  dest : Dest
  entry : Nat
  tag : Option (Nat × Nat)
  srcIp : List Byte
  kind : Nat
  log : Int
  ends : Nat
  last : Nat := 0
  seq : Nat := 0
  second : Nat := 0
  used : Nat := 0
  deriving DecidableEq, Repr

/-- The PTP service beyond its registers: ports, grants, and the metadata applied last (R406). -/
structure PtpState where
  ports : Vector PtpPort 4 := Vector.replicate 4 {}
  grants : List Grant := []
  metadata : List Byte := []
  deriving DecidableEq, Repr

/-! ### NTP and NTS -/

/-- NTP beyond its registers: stratum, Reference ID and root delay of the last synchronised condition of this era
(R421), and the Tallies of the last offset changes of F0 to F3. -/
structure NtpState where
  last : Option (Nat × Nat × Nat) := none
  changed : Vector Nat 4 := Vector.replicate 4 0
  deriving DecidableEq, Repr

/-- A mint in progress (R446, R454): the slot ACTIVE at the MINT_CMD write, its generation, the COUNT, and the C2S and
S2C that the port's input words held. -/
structure MintJob where
  slot : Nat
  gen : Nat
  count : Nat
  c2s : List Byte
  s2c : List Byte
  deriving DecidableEq, Repr

/-- One host port's mint (R445 to R447): its input words, its cookie words, its state and slot code, and the mint in
progress. -/
structure MintPort where
  c2s : Vector Word 8 := Vector.replicate 8 0
  s2c : Vector Word 8 := Vector.replicate 8 0
  out : List Word := []
  state : Nat := 0
  slot : Nat := 0
  job : Option MintJob := none
  deriving DecidableEq, Repr

/-- NTS beyond its registers: the keys of the eight slots, a rotation in progress (the slot it fills, its key and
whether it is automatic), the reason of the last refused automatic rotation and the second of the transit clock it was
tried in (R441), each port's mint, the nonces drawn, and those drawn since the last reseed (R434). -/
structure NtsState where
  nonces : Nat := 0
  sinceSeed : Nat := 0
  keys : Vector (Option Nat) 8 := Vector.replicate 8 none
  rotation : Option (Nat × Nat × Bool) := none
  lastRefusal : Option Nat := none
  triedAt : Nat := 0
  switched : Option ((Nat × Nat) × Option Nat) := none
  spi : MintPort := {}
  tw : MintPort := {}
  deriving DecidableEq, Repr

/-! ### Admission -/

/-- A flow (R461): family and key, its set, tokens in units of 2^-24 request, the last update in ticks, score and the
tick it arrived, tag, counts since the score, the tick of its last use, and the tick of its last kiss. -/
structure Flow where
  v6 : Bool
  key : Nat
  set_ : Nat
  tokens : Nat
  last : Int
  score : Option (Nat × Nat) := none
  tag : Nat
  reqs : Nat := 0
  refs : Nat := 0
  used : Int
  kissed : Option Int := none
  deriving DecidableEq, Repr

/-- Admission beyond its registers: the hash key's draw number, the flow table, the overflow bucket, the next tag. -/
structure AdmState where
  key : Option Nat := none
  flows : List Flow := []
  ovfTokens : Nat := 1000 * 2 ^ 24
  ovfLast : Int := 0
  nextTag : Nat := 0
  deriving DecidableEq, Repr

/-- The network side: ports, whether a snapshot of the counters falls at the next tick boundary and the Tally of the last
one (R290, R291), stored latency calibrations by port × 4 + mode (AON), and the services. -/
structure NetState where
  ports : Vector EthPort 4 := Vector.replicate 4 {}
  snapDue : Bool := false
  snapLast : Option Nat := none
  lat : List (Nat × LatEntry) := []
  pipe : PipeState := {}
  ptp : PtpState := {}
  ntp : NtpState := {}
  nts : NtsState := {}
  adm : AdmState := {}
  deriving DecidableEq, Repr

/-! ### The array fabric -/

/-- A row of a tile or of a layer image: its weight bytes as last written, its VALID bit (R492), and how many of its data
cells stayed stuck at another level (R494). -/
structure TileRow where
  bytes : List Byte
  valid : Bool
  stuck : Nat := 0
  deriving DecidableEq, Repr

/-- A test vector (R524): its inputs and the results expected. -/
structure TestVector where
  inputs : List Int
  want : List Int
  deriving DecidableEq, Repr

/-- What a tile or a layer-store image holds in non-volatile memory (R524, R526): IMG_OK, the header's fields, the rows
written (a row not listed has VALID = 0) and the test vectors. -/
structure Image where
  ok : Bool := false
  kind : Nat := 0
  model : Nat := 0
  stage : Nat := 0
  block : Nat := 0
  mask : Nat := 0
  gen : Nat := 0
  rows : List (Nat × TileRow) := []
  vectors : List TestVector := []
  deriving DecidableEq, Repr

/-- What a tile is doing: one operation at a time (R497). -/
inductive TileOp where
  | idle
  | roll
  | row (n : Nat) (bytes : List Byte)
  | recal
  | check
  deriving DecidableEq, Repr

/-- A tile beyond its registers: its image and its STUCK count (non-volatile), OFS and GAIN of each converter (R498), its
operation, whether its start sequence runs, whether it runs it again once a load has ended (R507), FAILED, a
disable that completes with an enable latched (R512), a reset that waits for the row write's pulse (R511), a
recalibration or a check that is wanted, jobs held off (R502), one recalibration refused and its retry awaited
(R500), one check failed (R505), the temperature qualifier, and the era of its last Ledger entry (R506). -/
structure Tile where
  img : Image := {}
  stuck : Nat := 0
  coefs : List (Nat × Nat) := []
  op : TileOp := .idle
  starting : Bool := false
  restart : Bool := false
  failed : Bool := false
  draining : Bool := false
  resetting : Bool := false
  wantRecal : Bool := false
  wantCheck : Bool := false
  hold : Bool := false
  refusedOnce : Bool := false
  retryDue : Bool := false
  checkFailed : Bool := false
  temp : Qual := {}
  failEra : Option Nat := none
  deriving DecidableEq, Repr

/-- A load in progress (R525 to R529): its target, the bytes received and their CRC so far, the header bytes, the row being
received, rows that wait to be written (row number and bytes), rows received, test-vector bytes, and whether the CRC has
matched. -/
structure ImageLoad where
  target : Nat
  got : Nat := 0
  crc : Nat := 0xFFFFFFFF
  head : List Byte := []
  part : List Byte := []
  rows : List (Nat × List Byte) := []
  rowsGot : Nat := 0
  tail : List Byte := []
  crcOk : Bool := false
  writing : Bool := false
  deriving DecidableEq, Repr

/-- A job (R531): its class, model, origin and deadline, its data inputs by vector, the flow tags of an ABUSE batch; once
started, the tiles and layer images it holds, the results of its final stage, v of each vector (R519) and, if a roll spoiled
it, the reason and the tile. -/
structure ArrJob where
  cls : Nat
  model : Nat
  origin : Nat
  deadline : Nat
  inputs : List (List Int)
  tags : List Nat := []
  tiles : List Nat := []
  layers : List Nat := []
  results : List (List Int) := []
  values : List Int := []
  spoilt : Option (Nat × Nat) := none
  deriving DecidableEq, Repr

/-- The Array Fabric beyond its registers: tiles A0 to A11 (0 to 11) and D0 to D3 (12 to 15), the layer store, the load
in progress, the queue (oldest first), the jobs that run, and the set at which the next ABUSE batch begins. -/
structure ArrayState where
  tiles : Vector Tile 16 := Vector.replicate 16 {}
  layers : Vector Image 4 := Vector.replicate 4 {}
  load : Option ImageLoad := none
  queue : List ArrJob := []
  running : List ArrJob := []
  sweep : Nat := 0
  deriving DecidableEq, Repr

/-- The whole state. `pending` is the queue of waiting commands, first in first out. `raised` collects the events of
one engine cycle and is empty between commands (R733). `tally` counts ticks since TIME last started (R23). `draws`
counts the free values taken so far; it is the model's own field. -/
structure State where
  pending : List Instr := []
  regs : RegFile := []
  raised : List EventId := []
  draws : Nat := 0
  tally : Nat := 0
  evt : EventState := {}
  obs : ObsState := {}
  hif : HifState := {}
  pwr : PowerState := {}
  mode : ModeState := {}
  grd : GuardState := {}
  ldg : LedgerState := {}
  arms : Arms := {}
  str : SteerState := {}
  tb : TimeBaseState := {}
  vc : Vector Channel 8 := Vector.replicate 8 {}
  meas : Vector MeasureUnit 4 := Vector.replicate 4 {}
  cal : Vector CalChannel 8 := Vector.replicate 8 {}
  refm : RefmState := {}
  srv : ServoState := {}
  pcr : PacerState := {}
  net : NetState := {}
  arr : ArrayState := {}
  deriving DecidableEq, Repr

/-- The machine right after reset: every register at its reset value (none listed), only AON on, nothing held. -/
def State.reset : State := {}

end Sys2Proof.Machine
end

