-- ==== Sys2Proof/Machine/Nmea.lean ====
section
/-! DEFINITION. NMEA 0183 sentences: checksum, fields, dates and the $PMQST sentence (R155 to R158, R160). -/

namespace Sys2Proof.Machine

/-- A comma, an asterisk, a dollar sign. -/
def chComma : Nat := 44
def chStar : Nat := 42
def chDollar : Nat := 36

/-- The exclusive or of the characters, the NMEA checksum. -/
def xorAll (l : List Nat) : Nat := l.foldl (fun a b => a ^^^ b) 0

/-- The value of a hex digit character. -/
def hexDigit (c : Nat) : Option Nat :=
  if 48 ≤ c ∧ c ≤ 57 then some (c - 48)
  else if 65 ≤ c ∧ c ≤ 70 then some (c - 55)
  else if 97 ≤ c ∧ c ≤ 102 then some (c - 87)
  else none

/-- The value of a decimal numeral; none when a character is no digit or there is none. -/
def decimal (l : List Nat) : Option Nat :=
  if l = [] then none
  else l.foldl (fun a c => a.bind (fun n => if 48 ≤ c ∧ c ≤ 57 then some (n * 10 + (c - 48)) else none)) (some 0)

/-- The fields between commas. -/
def fieldsOf (l : List Nat) : List (List Nat) :=
  l.foldr (fun c acc => if c = chComma then [] :: acc
    else match acc with
      | [] => [[c]]
      | f :: fs => (c :: f) :: fs) [[]]

/-- The part before the first asterisk and the part after it, if there is one. -/
def splitStar (l : List Nat) : List Nat × Option (List Nat) :=
  let body := l.takeWhile (fun c => c != chStar)
  (body, if body.length < l.length then some (l.drop (body.length + 1)) else none)

/-- How a sentence fares (R155): its fields, or a length or checksum failure. -/
def nmeaFields (line : List Nat) (reqCsum : Bool) : Option (List (List Nat)) :=
  match line with
  | [] => none
  | c :: rest =>
    if c ≠ chDollar ∨ 80 < line.length then none
    else
      match splitStar rest with
      | (body, none) => if reqCsum then none else some (fieldsOf body)
      | (body, some [a, b]) =>
        match hexDigit a, hexDigit b with
        | some x, some y => if x * 16 + y = xorAll body then some (fieldsOf body) else none
        | _, _ => none
      | (_, some _) => none

/-- Whether a name is that of a three-letter sentence type from a two-letter talker (R155). -/
def isType (name : List Nat) (a b c : Nat) : Bool :=
  name.length == 5 && (name.take 2).all (fun x => within x 65 90) && name.drop 2 == [a, b, c]

/-- Days from 1970-01-01 to a civil date. -/
def civilDays (y m d : Nat) : Int :=
  let yy : Int := if m ≤ 2 then (y : Int) - 1 else y
  let era := yy / 400
  let yoe := yy - era * 400
  let mp : Int := (if m ≤ 2 then (m : Int) + 9 else (m : Int) - 3)
  let doy := (153 * mp + 2) / 5 + (d : Int) - 1
  let doe := yoe * 365 + yoe / 4 - yoe / 100 + doy
  era * 146097 + doe - 719468

/-- The UTC second since 1970 of hhmmss and a date, and whether it is a second 60; second 60 follows second 59. -/
def utcSecond (time : List Nat) (y m d : Nat) : Option (Int × Bool) :=
  match decimal (time.take 6) with
  | none => none
  | some t =>
    if (time.take 6).length = 6 ∧ t / 10000 ≤ 23 ∧ t / 100 % 100 ≤ 59 ∧ t % 100 ≤ 60 ∧ 1 ≤ m ∧ m ≤ 12 ∧ 1 ≤ d ∧
        d ≤ 31 then
      some (civilDays y m d * 86400 + (t / 10000 * 3600 + t / 100 % 100 * 60 + t % 100 : Nat), t % 100 == 60)
    else none

/-- The UTC second that a ZDA or RMC sentence gives, and whether it is a second 60. -/
def sentenceTime (fs : List (List Nat)) : Option (Int × Bool) :=
  let name := fs.getD 0 []
  let f (k : Nat) := fs.getD k []
  if isType name 90 68 65 then
    match decimal (f 2), decimal (f 3), decimal (f 4) with
    | some d, some m, some y => utcSecond (f 1) y m d
    | _, _, _ => none
  else if isType name 82 77 67 then
    match decimal (f 9) with
    | some x => utcSecond (f 1) (2000 + x % 100) (x / 100 % 100) (x / 10000)
    | none => none
  else none

/-- A number field that may be empty: outer none for a malformed or out-of-range field (R157). -/
def optField (l : List Nat) (most : Nat) : Option (Option Nat) :=
  if l = [] then some none
  else match decimal l with
    | some n => if n ≤ most then some (some n) else none
    | none => none

/-- What a $PMQST sentence states; none when it is ignored (R157). -/
def pmqst (fs : List (List Nat)) : Option Pmqst :=
  let f (k : Nat) := fs.getD k []
  let kindOk := f 2 == [71] || f 2 == [65] || f 2 == [84]
  let stateOk := f 3 == [76] || f 3 == [72] || f 3 == [87] || f 3 == [70]
  if fs.length = 7 ∧ decimal (f 1) = some 1 ∧ kindOk = true ∧ stateOk = true ∧ (f 6).length = 2 then
    match optField (f 4) 999999, optField (f 5) 999999, hexDigit ((f 6).getD 0 0), hexDigit ((f 6).getD 1 0) with
    | some tacc, some _, some hi, some lo =>
      if hi * 16 + lo < 8 then some { state := (f 3).headD 0, tacc := tacc, flags := hi * 16 + lo } else none
    | _, _, _, _ => none
  else none

/-- Whether a fresh $PMQST states a time accuracy of at most `k` ns. -/
def Pmqst.near (x : Pmqst) (k : Nat) : Bool :=
  match x.tacc with
  | some n => decide (n ≤ k)
  | none => false

/-- The IQ of a fresh $PMQST (R158). -/
def Pmqst.iq (x : Pmqst) (prtcTacc : Nat) : Nat :=
  if x.state = 87 ∨ x.state = 70 ∨ bitOf x.flags 0 = true then 15
  else if x.state = 76 then (if x.near prtcTacc then 1 else 2)
  else if x.near (10 * prtcTacc) then 3 else 7

/-- The mean of the SNR fields of a GSV sentence, and the satellites in view. -/
def gsvOf (fs : List (List Nat)) : Nat × Nat :=
  let view := (decimal (fs.getD 3 [])).getD 0
  let snrs := ([7, 11, 15, 19] : List Nat).filterMap (fun k => decimal (fs.getD k []))
  (view, if snrs.length = 0 then 0 else snrs.sum / snrs.length)

end Sys2Proof.Machine
end

