-- ==== Sys2Proof/Config.lean ====
section
/-! DEFINITION. What one part fixes and the spec does not number: factory values, results of the cryptographic
primitives and of the random source, and the free values. Each is a constant without a body that evaluates. -/

namespace Sys2Proof.Config

/-- A value the spec leaves open, fresh for each draw number. -/
opaque freeValue : Nat → Nat

/-- A signed value the spec leaves open, fresh for each draw number. -/
opaque freeInt : Nat → Int

/-- The 16-byte factory serial of the part, as one number (R576). -/
opaque serial : Nat

/-- The n-th draw of the true random source after its conditioner (R562). -/
opaque trueRandom : Nat → Nat

/-- The n-th 32-bit output of the DRBG instance kept for the host (R565). -/
opaque hostRandom : Nat → BitVec 32

/-- The oven setpoint of the part, in 0.1 mK units (trimmed at the factory). -/
opaque ovenSetpoint : Int

/-- The initial variance of the drift estimator's coefficients (R201 states none). -/
opaque estPrior : Rat

/-- The factory path delay of a channel for FAC_SEL item 0 to 23, in subticks (R89). -/
opaque facDelay : Nat → Nat → Int

/-- The factory trim code of a channel. -/
opaque facTrim : Nat → Nat

/-- The factory latency of a port's mode, in subticks: transmit (true) or receive (R311). -/
opaque latFac : Nat → Nat → Bool → Int

/-- The factory loopback path of a port's mode, in subticks (R313). -/
opaque loopFac : Nat → Nat → Int

/-- Where a port's start grid lies in a mode, in subticks (R320). -/
opaque gridPhase : Nat → Nat → Int

/-- Whether an alignment marker occupies a grid interval of a port with RS-FEC (R320). -/
opaque markerAt : Nat → Int → Bool

/-- The set of a flow key under the hash key of a draw: family, key (taken mod 16,384). -/
opaque flowHash : Nat → Bool → Nat → Nat

/-- The n-th 16-byte nonce of the NTS unit's DRBG (R434). -/
opaque nonce : Nat → Nat

/-- TTL or hop limit, and DSCP, of frames the spec gives none for: PTP (0) and echo replies (1). -/
opaque ipHops : Nat → Nat
opaque ipDscp : Nat → Nat

/-- The Ethernet address a port uses for Pp_UC_MASTER (R400 names only the IP address). -/
opaque masterMac : Nat → Nat

end Sys2Proof.Config
end

