-- ==== Sys2Proof/Machine/RegNames.lean ====
section
/-! DEFINITION. The spec's names of the words (namespace A: addresses, bank × 256 + word) and of their fields
(namespace F), from the field maps of the chapters. -/

namespace Sys2Proof.Machine.A

def STR_STAT : Nat := 0x400 + (0x00)
def STR_ERA : Nat := 0x400 + (0x02)
def STR_ARM_CODE : Nat := 0x400 + (0x03)
def STR_ARM : Nat := 0x400 + (0x04)
def STR_COMMIT : Nat := 0x400 + (0x05)
def STR_STEP_LIMIT : Nat := 0x400 + (0x06)
def STR_RATE_STEP_LIMIT : Nat := 0x400 + (0x07)
def STR_PEND_CTL : Nat := 0x400 + (0x08)
def STR_PEND_DELTA_HI : Nat := 0x400 + (0x09)
def STR_PEND_DELTA_MID : Nat := 0x400 + (0x0A)
def STR_PEND_DELTA_LO : Nat := 0x400 + (0x0B)
def STR_LAST_REFUSED_HI : Nat := 0x400 + (0x0C)
def STR_LAST_REFUSED_MID : Nat := 0x400 + (0x0D)
def STR_LAST_REFUSED_LO : Nat := 0x400 + (0x0E)
def STR_LAST_REFUSED_INFO : Nat := 0x400 + (0x0F)
def STR_F0_TRIM_SRC : Nat := 0x400 + (0x18)
def STR_F0_RATE_HI : Nat := 0x400 + (0x19)
def STR_F0_RATE_LO : Nat := 0x400 + (0x1A)
def STR_F0_STEP_HI : Nat := 0x400 + (0x1B)
def STR_F0_STEP_LO : Nat := 0x400 + (0x1C)
def STR_F0_OFS_HI : Nat := 0x400 + (0x1D)
def STR_F0_OFS_MID : Nat := 0x400 + (0x1E)
def STR_F0_OFS_LO : Nat := 0x400 + (0x1F)
def STR_F3_RATE_HI (i : Nat) : Nat := 0x400 + (0x29 + i)
def STR_LEAP_CTL : Nat := 0x400 + (0x30)
def STR_UTC_OFFSET : Nat := 0x400 + (0x31)
def STR_LEAP_AT_HI : Nat := 0x400 + (0x32)
def STR_LEAP_AT_LO : Nat := 0x400 + (0x33)
def STR_F0_SEC_HI (i : Nat) : Nat := 0x400 + (0x40 + i)
def STR_LAT_TALLY_HI : Nat := 0x400 + (0x50)
def STR_LAT_TALLY_LO : Nat := 0x400 + (0x51)
def TB_STAT : Nat := 0x300 + (0x00)
def TB_CTL : Nat := 0x300 + (0x01)
def TB_OVEN_SETPOINT : Nat := 0x300 + (0x02)
def TB_OVEN_TEMP : Nat := 0x300 + (0x03)
def TB_OVEN_ERR : Nat := 0x300 + (0x04)
def TB_HEAT_DRIVE : Nat := 0x300 + (0x05)
def TB_HEAT_ILIM : Nat := 0x300 + (0x06)
def TB_WARM_AGE : Nat := 0x300 + (0x07)
def TB_WARMUP_LAST : Nat := 0x300 + (0x08)
def TB_OVEN_HOURS : Nat := 0x300 + (0x09)
def TB_ARM_CODE : Nat := 0x300 + (0x0E)
def TB_ARM : Nat := 0x300 + (0x0F)
def TB_TIM_X32_TICKS : Nat := 0x300 + (0x10)
def TB_TIM_REF_DEV : Nat := 0x300 + (0x11)
def TB_TIM_REF_ASSERT : Nat := 0x300 + (0x12)
def TB_TIM_REF_RELEASE : Nat := 0x300 + (0x13)
def TB_TIM_REF_DWELL : Nat := 0x300 + (0x14)
def TB_TIM_SLIP_COUNT : Nat := 0x300 + (0x15)
def TB_TALLY_HI : Nat := 0x300 + (0x20)
def TB_TALLY_LO : Nat := 0x300 + (0x21)
def VC_Vn_CTL (n : Nat) : Nat := 0x500 + (0x20 + 0x10 * n + 0x0)
def VC_Vn_STAT (n : Nat) : Nat := 0x500 + (0x20 + 0x10 * n + 0x1)
def VC_Vn_DELAY_OFS (n : Nat) : Nat := 0x500 + (0x20 + 0x10 * n + 0x2)
def VC_Vn_RATE_LIMIT (n : Nat) : Nat := 0x500 + (0x20 + 0x10 * n + 0x3)
def VC_Vn_IDLE_LIMIT (n : Nat) : Nat := 0x500 + (0x20 + 0x10 * n + 0x4)
def VC_Vn_EDGES (n : Nat) : Nat := 0x500 + (0x20 + 0x10 * n + 0x5)
def VC_Vn_LOST (n : Nat) : Nat := 0x500 + (0x20 + 0x10 * n + 0x6)
def VC_Vn_LIMITED (n : Nat) : Nat := 0x500 + (0x20 + 0x10 * n + 0x7)
def VC_Vn_MARK (n : Nat) : Nat := 0x500 + (0x20 + 0x10 * n + 0x8)
def VC_Vn_LAST_HI (n : Nat) : Nat := 0x500 + (0x20 + 0x10 * n + 0x9)
def VC_Vn_LAST_LO (n : Nat) : Nat := 0x500 + (0x20 + 0x10 * n + 0xA)
def VC_Mm_CTL (m : Nat) : Nat := 0x500 + (0xC0 + 0x10 * m + 0x0)
def VC_Mm_GATE (m : Nat) : Nat := 0x500 + (0xC0 + 0x10 * m + 0x1)
def VC_Mm_COUNT (m : Nat) : Nat := 0x500 + (0xC0 + 0x10 * m + 0x2)
def VC_Mm_SUM_HI (m : Nat) : Nat := 0x500 + (0xC0 + 0x10 * m + 0x3)
def VC_Mm_SUM_LO (m : Nat) : Nat := 0x500 + (0xC0 + 0x10 * m + 0x4)
def VC_Mm_MIN_HI (m : Nat) : Nat := 0x500 + (0xC0 + 0x10 * m + 0x5)
def VC_Mm_MIN_LO (m : Nat) : Nat := 0x500 + (0xC0 + 0x10 * m + 0x6)
def VC_Mm_MAX_HI (m : Nat) : Nat := 0x500 + (0xC0 + 0x10 * m + 0x7)
def VC_Mm_MAX_LO (m : Nat) : Nat := 0x500 + (0xC0 + 0x10 * m + 0x8)
def VC_Mm_RMS (m : Nat) : Nat := 0x500 + (0xC0 + 0x10 * m + 0x9)
def VC_Mm_UNPAIRED (m : Nat) : Nat := 0x500 + (0xC0 + 0x10 * m + 0xA)
def VC_Mm_STAT (m : Nat) : Nat := 0x500 + (0xC0 + 0x10 * m + 0xB)
def VQ_Vn_ENTRY_HI (n : Nat) : Nat := 0x700 + (0x10 * n + 0x0)
def VQ_Vn_ENTRY_LO (n : Nat) : Nat := 0x700 + (0x10 * n + 0x1)
def VQ_Vn_LEVEL (n : Nat) : Nat := 0x700 + (0x10 * n + 0x2)
def VQ_Vn_WMARK (n : Nat) : Nat := 0x700 + (0x10 * n + 0x3)
def VQ_Vn_FLUSH (n : Nat) : Nat := 0x700 + (0x10 * n + 0x4)
def VCAL_CTL : Nat := 0x600 + (0x00)
def VCAL_STAT : Nat := 0x600 + (0x01)
def VCAL_HITS_LOG2 : Nat := 0x600 + (0x02)
def VCAL_TIMEOUT : Nat := 0x600 + (0x03)
def VCAL_MAX_AGE : Nat := 0x600 + (0x04)
def VCAL_TRIM_PERIOD : Nat := 0x600 + (0x05)
def VCAL_DRIFT_ASSERT : Nat := 0x600 + (0x06)
def VCAL_DRIFT_RELEASE : Nat := 0x600 + (0x07)
def VCAL_DRIFT_DWELL : Nat := 0x600 + (0x08)
def VCAL_DIE_TEMP : Nat := 0x600 + (0x09)
def VCAL_HIST_SEL : Nat := 0x600 + (0x0A)
def VCAL_DLL_CMD : Nat := 0x600 + (0x10)
def VCAL_HIST (i : Nat) : Nat := 0x600 + (0x20 + i)
def VCAL_FAC_SEL : Nat := 0x600 + (0x30)
def VCAL_FAC_DATA : Nat := 0x600 + (0x31)
def VCAL_DLL (i : Nat) : Nat := 0x600 + (0x38 + i)
def VCAL_Vn_CAL_CTL (n : Nat) : Nat := 0x600 + (0x40 + 0x18 * n + 0x0)
def VCAL_Vn_CAL_STAT (n : Nat) : Nat := 0x600 + (0x40 + 0x18 * n + 0x1)
def VCAL_Vn_SQ (n : Nat) : Nat := 0x600 + (0x40 + 0x18 * n + 0x2)
def VCAL_Vn_TRIM (n : Nat) : Nat := 0x600 + (0x40 + 0x18 * n + 0x3)
def VCAL_Vn_TAB_TEMP (n : Nat) : Nat := 0x600 + (0x40 + 0x18 * n + 0x4)
def VCAL_Vn_TAB_HOURS (n : Nat) : Nat := 0x600 + (0x40 + 0x18 * n + 0x5)
def VCAL_Vn_RESULT (n : Nat) : Nat := 0x600 + (0x40 + 0x18 * n + 0x6)
def VCAL_Vn_RUNS (n : Nat) : Nat := 0x600 + (0x40 + 0x18 * n + 0x7)
def VCAL_Vn_W (n : Nat) (i : Nat) : Nat := 0x600 + (0x40 + 0x18 * n + 0x8 + i)
def REFM_STAT : Nat := 0x800 + (0x00)
def REFM_CTL : Nat := 0x800 + (0x01)
def REFM_SEL_REQ : Nat := 0x800 + (0x02)
def REFM_SEL_NOW : Nat := 0x800 + (0x03)
def REFM_LADDER_A : Nat := 0x800 + (0x04)
def REFM_LADDER_B : Nat := 0x800 + (0x05)
def REFM_SEL_PHASE_HI : Nat := 0x800 + (0x06)
def REFM_SEL_PHASE_MID : Nat := 0x800 + (0x07)
def REFM_SEL_PHASE_LO : Nat := 0x800 + (0x08)
def REFM_PRTC_TACC : Nat := 0x800 + (0x09)
def REFM_ABS_CLEAR : Nat := 0x800 + (0x0A)
def REFM_ANT_CTL : Nat := 0x800 + (0x10)
def REFM_ANT_STAT : Nat := 0x800 + (0x11)
def REFM_ANT_IMA : Nat := 0x800 + (0x12)
def REFM_ANT_TEMP_ASSERT : Nat := 0x800 + (0x13)
def REFM_ANT_TEMP_RELEASE : Nat := 0x800 + (0x14)
def REFM_ANT_TEMP_DWELL : Nat := 0x800 + (0x15)
def REFM_GRXg_CTL (g : Nat) : Nat := 0x800 + (0x20 + 8 * g)
def REFM_GRXg_GOOD (g : Nat) : Nat := 0x800 + (0x21 + 8 * g)
def REFM_GRXg_ERR (g : Nat) : Nat := 0x800 + (0x22 + 8 * g)
def REFM_GRXg_IGNORED (g : Nat) : Nat := 0x800 + (0x23 + 8 * g)
def REFM_GRXg_GSV (g : Nat) : Nat := 0x800 + (0x24 + 8 * g)
def REFM_Sn_CTL (n : Nat) : Nat := 0x800 + (0x40 + 0x10 * n + 0x0)
def REFM_Sn_STAT (n : Nat) : Nat := 0x800 + (0x40 + 0x10 * n + 0x1)
def REFM_Sn_PERIOD_NUM (n : Nat) : Nat := 0x800 + (0x40 + 0x10 * n + 0x2)
def REFM_Sn_PERIOD_DEN (n : Nat) : Nat := 0x800 + (0x40 + 0x10 * n + 0x3)
def REFM_Sn_PER_TOL (n : Nat) : Nat := 0x800 + (0x40 + 0x10 * n + 0x4)
def REFM_Sn_WID_MIN (n : Nat) : Nat := 0x800 + (0x40 + 0x10 * n + 0x5)
def REFM_Sn_WID_MAX (n : Nat) : Nat := 0x800 + (0x40 + 0x10 * n + 0x6)
def REFM_Sn_QUAL (n : Nat) : Nat := 0x800 + (0x40 + 0x10 * n + 0x7)
def REFM_Sn_WTR (n : Nat) : Nat := 0x800 + (0x40 + 0x10 * n + 0x8)
def REFM_Sn_IQ (n : Nat) : Nat := 0x800 + (0x40 + 0x10 * n + 0x9)
def REFM_Sn_ABS_OFS_HI (n : Nat) : Nat := 0x800 + (0x40 + 0x10 * n + 0xA)
def REFM_Sn_ABS_OFS_MID (n : Nat) : Nat := 0x800 + (0x40 + 0x10 * n + 0xB)
def REFM_Sn_ABS_OFS_LO (n : Nat) : Nat := 0x800 + (0x40 + 0x10 * n + 0xC)
def REFM_Sn_FAULTS (n : Nat) : Nat := 0x800 + (0x40 + 0x10 * n + 0xD)
def SRV_STAT : Nat := 0x900 + (0x00)
def SRV_CTL : Nat := 0x900 + (0x01)
def SRV_CMD : Nat := 0x900 + (0x02)
def SRV_SLEW_MAX : Nat := 0x900 + (0x03)
def SRV_OUTLIER : Nat := 0x900 + (0x04)
def SRV_LOCK_ASSERT : Nat := 0x900 + (0x05)
def SRV_LOCK_RELEASE : Nat := 0x900 + (0x06)
def SRV_LOCK_DWELL : Nat := 0x900 + (0x07)
def SRV_HO_AVG : Nat := 0x900 + (0x08)
def SRV_HO_SKIP : Nat := 0x900 + (0x09)
def SRV_HO_LIMIT : Nat := 0x900 + (0x0A)
def SRV_HO_ERR_LIMIT : Nat := 0x900 + (0x0B)
def SRV_HO_ERR : Nat := 0x900 + (0x0C)
def SRV_HO_TIME : Nat := 0x900 + (0x0D)
def SRV_PRED_DECAY : Nat := 0x900 + (0x0E)
def SRV_PRED_CLAMP : Nat := 0x900 + (0x0F)
def SRV_PHASE_ERR : Nat := 0x900 + (0x10)
def SRV_RATE_NOW : Nat := 0x900 + (0x11)
def SRV_HO_CORR : Nat := 0x900 + (0x12)
def SRV_PRED_NOW : Nat := 0x900 + (0x13)
def SRV_PRED_W : Nat := 0x900 + (0x14)
def SRV_OUTLIERS : Nat := 0x900 + (0x15)
def SRV_EST_CTL : Nat := 0x900 + (0x20)
def SRV_EST_TREF : Nat := 0x900 + (0x21)
def SRV_EST_Y0 : Nat := 0x900 + (0x22)
def SRV_EST_A : Nat := 0x900 + (0x23)
def SRV_EST_B1 : Nat := 0x900 + (0x24)
def SRV_EST_B2 : Nat := 0x900 + (0x25)
def SRV_EST_COUNT : Nat := 0x900 + (0x26)
def SRV_EST_RMS : Nat := 0x900 + (0x27)
def SRV_EST_UA : Nat := 0x900 + (0x28)
def SRV_HIST_HEAD : Nat := 0x900 + (0x30)
def SRV_HIST_SEL : Nat := 0x900 + (0x31)
def SRV_HIST_DATA (i : Nat) : Nat := 0x900 + (0x32 + i)
def SRV_HIST_CLEAR : Nat := 0x900 + (0x36)
def SRV_ARM_CODE : Nat := 0x900 + (0x3E)
def SRV_ARM : Nat := 0x900 + (0x3F)
def PCR_CTL : Nat := 0xA00 + (0x00)
def PCR_SQ_NOW : Nat := 0xA00 + (0x01)
def PCR_CMD : Nat := 0xA00 + (0x02)
def PCR_SLEW_MAX : Nat := 0xA00 + (0x03)
def PCR_FOLLOW_STEP : Nat := 0xA00 + (0x04)
def PCR_MIS_WARN : Nat := 0xA00 + (0x05)
def PCR_VER_CTL : Nat := 0xA00 + (0x08)
def PCR_VER_LIMIT : Nat := 0xA00 + (0x09)
def PCR_VER_COUNT : Nat := 0xA00 + (0x0A)
def PCR_VER_MEAN : Nat := 0xA00 + (0x0B)
def PCR_VER_MAXABS : Nat := 0xA00 + (0x0C)
def PCR_VER_STAT : Nat := 0xA00 + (0x0D)
def PCR_OUTn_CTL (n : Nat) : Nat := 0xA00 + (0x20 + 0x10 * n + 0x0)
def PCR_OUTn_STAT (n : Nat) : Nat := 0xA00 + (0x20 + 0x10 * n + 0x1)
def PCR_OUTn_PERIOD_NUM (n : Nat) : Nat := 0xA00 + (0x20 + 0x10 * n + 0x2)
def PCR_OUTn_PERIOD_DEN (n : Nat) : Nat := 0xA00 + (0x20 + 0x10 * n + 0x3)
def PCR_OUTn_WIDTH (n : Nat) : Nat := 0xA00 + (0x20 + 0x10 * n + 0x4)
def PCR_OUTn_PHASE_HI (n : Nat) : Nat := 0xA00 + (0x20 + 0x10 * n + 0x5)
def PCR_OUTn_PHASE_LO (n : Nat) : Nat := 0xA00 + (0x20 + 0x10 * n + 0x6)
def PCR_OUTn_AT_SEC_HI (n : Nat) : Nat := 0xA00 + (0x20 + 0x10 * n + 0x7)
def PCR_OUTn_AT_SEC_LO (n : Nat) : Nat := 0xA00 + (0x20 + 0x10 * n + 0x8)
def PCR_OUTn_AT_NS (n : Nat) : Nat := 0xA00 + (0x20 + 0x10 * n + 0x9)
def PCR_OUTn_AT_PIP (n : Nat) : Nat := 0xA00 + (0x20 + 0x10 * n + 0xA)
def PCR_OUTn_DELAY_OFS (n : Nat) : Nat := 0xA00 + (0x20 + 0x10 * n + 0xB)
def PCR_OUTn_FOLLOW_OFS_HI (n : Nat) : Nat := 0xA00 + (0x20 + 0x10 * n + 0xC)
def PCR_OUTn_FOLLOW_OFS_LO (n : Nat) : Nat := 0xA00 + (0x20 + 0x10 * n + 0xD)
def PCR_OUTn_MISALIGN_HI (n : Nat) : Nat := 0xA00 + (0x20 + 0x10 * n + 0xE)
def PCR_OUTn_MISALIGN_LO (n : Nat) : Nat := 0xA00 + (0x20 + 0x10 * n + 0xF)
def MAC_CTL (p : Nat) : Nat := (0x0B + p) * 256 + (0x00)
def MAC_STAT (p : Nat) : Nat := (0x0B + p) * 256 + (0x01)
def MAC_MAC_ADDR_HI (p : Nat) : Nat := (0x0B + p) * 256 + (0x02)
def MAC_MAC_ADDR_LO (p : Nat) : Nat := (0x0B + p) * 256 + (0x03)
def MAC_MAX_LEN (p : Nat) : Nat := (0x0B + p) * 256 + (0x04)
def MAC_HOLD_WINDOW (p : Nat) : Nat := (0x0B + p) * 256 + (0x05)
def MAC_LINK_QUAL (p : Nat) : Nat := (0x0B + p) * 256 + (0x06)
def MAC_RXB_WM (p : Nat) : Nat := (0x0B + p) * 256 + (0x07)
def MAC_PAUSE_QUANTA (p : Nat) : Nat := (0x0B + p) * 256 + (0x08)
def MAC_RXB_LEVEL (p : Nat) : Nat := (0x0B + p) * 256 + (0x09)
def MAC_PAUSE_REMAIN (p : Nat) : Nat := (0x0B + p) * 256 + (0x0A)
def MAC_CNT_HALF_A (p : Nat) : Nat := (0x0B + p) * 256 + (0x0B)
def MAC_CNT_HALF_B (p : Nat) : Nat := (0x0B + p) * 256 + (0x0C)
def MAC_MCASTe_HI (p : Nat) (e : Nat) : Nat := (0x0B + p) * 256 + (0x10 + 2 * e)
def MAC_MCASTe_LO (p : Nat) (e : Nat) : Nat := (0x0B + p) * 256 + (0x11 + 2 * e)
def MAC_IFe_CTL (p : Nat) (e : Nat) : Nat := (0x0B + p) * 256 + (0x20 + 8 * e)
def MAC_IFe_V4 (p : Nat) (e : Nat) : Nat := (0x0B + p) * 256 + (0x21 + 8 * e)
def MAC_IFe_V6 (p : Nat) (e : Nat) (i : Nat) : Nat := (0x0B + p) * 256 + (0x22 + 8 * e + i)
def MAC_CNT_i (p : Nat) (i : Nat) : Nat := (0x0B + p) * 256 + (0x80 + i)
def SNAP_CTL : Nat := 0xF00 + (0x00)
def SNAP_STAT : Nat := 0xF00 + (0x01)
def SNAP_PERIOD : Nat := 0xF00 + (0x02)
def SNAP_SEQ : Nat := 0xF00 + (0x03)
def SNAP_MISSED : Nat := 0xF00 + (0x04)
def SNAP_ERA : Nat := 0xF00 + (0x05)
def SNAP_TALLY_HI : Nat := 0xF00 + (0x06)
def SNAP_TALLY_LO : Nat := 0xF00 + (0x07)
def SNAP_Pp_CNT_i (i : Nat) : Nat := 0xF00 + (0x40 + i)
def MAC_TS_CTL (p : Nat) : Nat := (0x0B + p) * 256 + (0x60)
def MAC_TS_STAT (p : Nat) : Nat := (0x0B + p) * 256 + (0x61)
def MAC_LAT_CAL (p : Nat) : Nat := (0x0B + p) * 256 + (0x62)
def MAC_LAT_RESULT (p : Nat) : Nat := (0x0B + p) * 256 + (0x63)
def MAC_MARGIN (p : Nat) : Nat := (0x0B + p) * 256 + (0x64)
def MAC_MARGIN_NOW (p : Nat) : Nat := (0x0B + p) * 256 + (0x65)
def MAC_BOARD_TX (p : Nat) : Nat := (0x0B + p) * 256 + (0x66)
def MAC_BOARD_RX (p : Nat) : Nat := (0x0B + p) * 256 + (0x67)
def MAC_ASYM (p : Nat) : Nat := (0x0B + p) * 256 + (0x68)
def MAC_RX_VAR (p : Nat) : Nat := (0x0B + p) * 256 + (0x69)
def MAC_TX_VAR (p : Nat) : Nat := (0x0B + p) * 256 + (0x6A)
def MAC_TX_DEV_LIMIT (p : Nat) : Nat := (0x0B + p) * 256 + (0x6B)
def MAC_MISS_A (p : Nat) : Nat := (0x0B + p) * 256 + (0x6C)
def MAC_MISS_B (p : Nat) : Nat := (0x0B + p) * 256 + (0x6D)
def MAC_DROP_C (p : Nat) : Nat := (0x0B + p) * 256 + (0x6E)
def MAC_DEV_B (p : Nat) : Nat := (0x0B + p) * 256 + (0x6F)
def MAC_LATm_TX_FAC (p : Nat) (m : Nat) : Nat := (0x0B + p) * 256 + (0x70 + 4 * m)
def MAC_LATm_RX_FAC (p : Nat) (m : Nat) : Nat := (0x0B + p) * 256 + (0x71 + 4 * m)
def MAC_LATm_TX_ADJ (p : Nat) (m : Nat) : Nat := (0x0B + p) * 256 + (0x72 + 4 * m)
def MAC_LATm_RX_ADJ (p : Nat) (m : Nat) : Nat := (0x0B + p) * 256 + (0x73 + 4 * m)
def PIPE_CTL : Nat := 0x1100 + (0x00)
def PIPE_STAT : Nat := 0x1100 + (0x01)
def PIPE_CAP_NOW : Nat := 0x1100 + (0x02)
def PIPE_BURST : Nat := 0x1100 + (0x03)
def PIPE_CTX_TIMEOUT : Nat := 0x1100 + (0x04)
def PIPE_CTX_INUSE : Nat := 0x1100 + (0x05)
def PIPE_CTX_PEAK : Nat := 0x1100 + (0x06)
def PIPE_HK_RATE : Nat := 0x1100 + (0x08)
def PIPE_HK_ANNOUNCE : Nat := 0x1100 + (0x09)
def PIPE_MBX_CTL : Nat := 0x1100 + (0x0A)
def PIPE_MBX_LEVEL : Nat := 0x1100 + (0x0B)
def PIPE_MBX_DATA : Nat := 0x1100 + (0x0C)
def PIPE_MBX_FLUSH : Nat := 0x1100 + (0x0D)
def PIPE_MBX_DROPPED : Nat := 0x1100 + (0x0E)
def PIPE_OUT_c (c : Nat) : Nat := 0x1100 + (0x20 + c)
def PIPE_ORIG : Nat := 0x1100 + (0x34)
def PTP_CTL : Nat := 0x1000 + (0x00)
def PTP_STAT : Nat := 0x1000 + (0x01)
def PTP_DOMAIN : Nat := 0x1000 + (0x02)
def PTP_PRIO : Nat := 0x1000 + (0x03)
def PTP_CLOCK_ID_HI : Nat := 0x1000 + (0x04)
def PTP_CLOCK_ID_LO : Nat := 0x1000 + (0x05)
def PTP_CLASS_MAP_A : Nat := 0x1000 + (0x06)
def PTP_CLASS_MAP_B : Nat := 0x1000 + (0x07)
def PTP_CLK_ACC : Nat := 0x1000 + (0x08)
def PTP_TSRC_A : Nat := 0x1000 + (0x09)
def PTP_TSRC_B : Nat := 0x1000 + (0x0A)
def PTP_LEAP_WARN : Nat := 0x1000 + (0x0B)
def PTP_UC_MAX : Nat := 0x1000 + (0x0C)
def PTP_UC_SYNC_BUDGET : Nat := 0x1000 + (0x0D)
def PTP_UC_DUR_MAX : Nat := 0x1000 + (0x0E)
def PTP_UC_NOW : Nat := 0x1000 + (0x0F)
def PTP_UC_SYNC_NOW : Nat := 0x1000 + (0x10)
def PTP_CLASS_NOW : Nat := 0x1000 + (0x11)
def PTP_SM_CTL : Nat := 0x1000 + (0x18)
def PTP_SM_COMMIT : Nat := 0x1000 + (0x19)
def PTP_SM_DATA (i : Nat) : Nat := 0x1000 + (0x20 + i)
def PTP_Pp_CTL (p : Nat) : Nat := 0x1000 + (0x40 + 0x20 * p + 0x0)
def PTP_Pp_STAT (p : Nat) : Nat := 0x1000 + (0x40 + 0x20 * p + 0x1)
def PTP_Pp_INTV (p : Nat) : Nat := 0x1000 + (0x40 + 0x20 * p + 0x2)
def PTP_Pp_MAX_PATH (p : Nat) : Nat := 0x1000 + (0x40 + 0x20 * p + 0x3)
def PTP_Pp_PARENT_HI (p : Nat) : Nat := 0x1000 + (0x40 + 0x20 * p + 0x4)
def PTP_Pp_PARENT_LO (p : Nat) : Nat := 0x1000 + (0x40 + 0x20 * p + 0x5)
def PTP_Pp_PARENT_INFO (p : Nat) : Nat := 0x1000 + (0x40 + 0x20 * p + 0x6)
def PTP_Pp_GM_QUAL (p : Nat) : Nat := 0x1000 + (0x40 + 0x20 * p + 0x7)
def PTP_Pp_GM_PRIO (p : Nat) : Nat := 0x1000 + (0x40 + 0x20 * p + 0x8)
def PTP_Pp_OFFSET_HI (p : Nat) : Nat := 0x1000 + (0x40 + 0x20 * p + 0x9)
def PTP_Pp_OFFSET_LO (p : Nat) : Nat := 0x1000 + (0x40 + 0x20 * p + 0xA)
def PTP_Pp_MPD_HI (p : Nat) : Nat := 0x1000 + (0x40 + 0x20 * p + 0xB)
def PTP_Pp_MPD_LO (p : Nat) : Nat := 0x1000 + (0x40 + 0x20 * p + 0xC)
def PTP_Pp_UC_MASTER_V4 (p : Nat) : Nat := 0x1000 + (0x40 + 0x20 * p + 0xD)
def PTP_Pp_UC_MASTER_V6 (p : Nat) (i : Nat) : Nat := 0x1000 + (0x40 + 0x20 * p + 0xE + i)
def PTP_Pp_UC_DUR_REQ (p : Nat) : Nat := 0x1000 + (0x40 + 0x20 * p + 0x12)
def PTP_Pp_CNT (p : Nat) (i : Nat) : Nat := 0x1000 + (0x40 + 0x20 * p + 0x14 + i)
def NTP_CTL : Nat := 0x1100 + (0x40)
def NTP_STAT : Nat := 0x1100 + (0x41)
def NTP_LEAP_WARN : Nat := 0x1100 + (0x42)
def NTP_DISP_FLOOR : Nat := 0x1100 + (0x43)
def NTP_DISP_MAX : Nat := 0x1100 + (0x44)
def NTP_FREE_DISP : Nat := 0x1100 + (0x45)
def NTP_STRATA : Nat := 0x1100 + (0x46)
def NTP_KOD_POLL : Nat := 0x1100 + (0x47)
def NTP_IP : Nat := 0x1100 + (0x48)
def NTP_REFID_PINs (s : Nat) : Nat := 0x1100 + (0x50 + s)
def NTP_REFID_NET : Nat := 0x1100 + (0x58)
def NTP_CNT_V3 : Nat := 0x1100 + (0x60)
def NTP_CNT_V4 : Nat := 0x1100 + (0x61)
def NTP_CNT_UNSYNC : Nat := 0x1100 + (0x62)
def NTS_CTL : Nat := 0x1300 + (0x00)
def NTS_STAT : Nat := 0x1300 + (0x01)
def NTS_ROT_PERIOD : Nat := 0x1300 + (0x02)
def NTS_ARM_CODE : Nat := 0x1300 + (0x03)
def NTS_ARM : Nat := 0x1300 + (0x04)
def NTS_KEY_CMD : Nat := 0x1300 + (0x05)
def NTS_KEY_RESULT : Nat := 0x1300 + (0x06)
def NTS_GEN_NEXT : Nat := 0x1300 + (0x07)
def NTS_Kk_STATE (k : Nat) : Nat := 0x1300 + (0x10 + k)
def NTS_Kk_GEN (k : Nat) : Nat := 0x1300 + (0x18 + k)
def NTS_Kk_SECS (k : Nat) : Nat := 0x1300 + (0x20 + k)
def NTS_MINT_CMD : Nat := 0x1300 + (0x30)
def NTS_MINT_STAT : Nat := 0x1300 + (0x31)
def NTS_MINT_OUT : Nat := 0x1300 + (0x32)
def NTS_MINT_C2S (i : Nat) : Nat := 0x1300 + (0x40 + i)
def NTS_MINT_S2C (i : Nat) : Nat := 0x1300 + (0x48 + i)
def NTS_CNT_SEALED : Nat := 0x1300 + (0x50)
def NTS_CNT_NAK_COOKIE : Nat := 0x1300 + (0x51)
def NTS_CNT_NAK_AUTH : Nat := 0x1300 + (0x52)
def NTS_CNT_MINTED : Nat := 0x1300 + (0x53)
def NTS_ROTATIONS : Nat := 0x1300 + (0x54)
def ADM_CTL : Nat := 0x1200 + (0x00)
def ADM_STAT : Nat := 0x1200 + (0x01)
def ADM_RATE : Nat := 0x1200 + (0x02)
def ADM_DEPTH : Nat := 0x1200 + (0x03)
def ADM_OVF_RATE : Nat := 0x1200 + (0x04)
def ADM_OVF_DEPTH : Nat := 0x1200 + (0x05)
def ADM_MULT_01 : Nat := 0x1200 + (0x06)
def ADM_MULT_23 : Nat := 0x1200 + (0x07)
def ADM_MULT_45 : Nat := 0x1200 + (0x08)
def ADM_MULT_67 : Nat := 0x1200 + (0x09)
def ADM_SCORE_TMO : Nat := 0x1200 + (0x0A)
def ADM_KOD_GAP : Nat := 0x1200 + (0x0B)
def ADM_OCCUPANCY : Nat := 0x1200 + (0x0C)
def ADM_FLUSH : Nat := 0x1200 + (0x0D)
def ADM_CNT_ADMITTED : Nat := 0x1200 + (0x10)
def ADM_CNT_DROP : Nat := 0x1200 + (0x11)
def ADM_CNT_KOD : Nat := 0x1200 + (0x12)
def ADM_CNT_NEW_FLOWS : Nat := 0x1200 + (0x13)
def ADM_CNT_EVICTIONS : Nat := 0x1200 + (0x14)
def ADM_CNT_OVF_CHARGED : Nat := 0x1200 + (0x15)
def ADM_CNT_BAD_SRC : Nat := 0x1200 + (0x16)
def ADM_CNT_SCORE_DROPPED : Nat := 0x1200 + (0x17)
def ADM_LOOKUP_CTL : Nat := 0x1200 + (0x20)
def ADM_LOOKUP_ADDR (i : Nat) : Nat := 0x1200 + (0x21 + i)
def ADM_LOOKUP_RESULT : Nat := 0x1200 + (0x25)
def ADM_LOOKUP_TOKENS : Nat := 0x1200 + (0x26)
def ADM_LOOKUP_RATE : Nat := 0x1200 + (0x27)
def ADM_OVRo_CTL (o : Nat) : Nat := 0x1200 + (0x40 + 8 * o)
def ADM_OVRo_ADDR (o : Nat) (i : Nat) : Nat := 0x1200 + (0x41 + 8 * o + i)
def ADM_OVRo_RATE (o : Nat) : Nat := 0x1200 + (0x45 + 8 * o)
def ADM_OVRo_DEPTH (o : Nat) : Nat := 0x1200 + (0x46 + 8 * o)
def ARR_CTL : Nat := 0x1400 + (0x00)
def ARR_READY : Nat := 0x1400 + (0x01)
def ARR_FAILED : Nat := 0x1400 + (0x02)
def ARR_RECAL_PERIOD : Nat := 0x1400 + (0x03)
def ARR_RECAL_T_ASSERT : Nat := 0x1400 + (0x04)
def ARR_RECAL_T_RELEASE : Nat := 0x1400 + (0x05)
def ARR_RECAL_T_DWELL : Nat := 0x1400 + (0x06)
def ARR_RECAL_WAIT_MAX : Nat := 0x1400 + (0x07)
def ARR_TV_PERIOD : Nat := 0x1400 + (0x08)
def ARR_TV_TOL : Nat := 0x1400 + (0x09)
def ARR_CMD : Nat := 0x1400 + (0x0A)
def ARR_Aa_CTL (a : Nat) : Nat := 0x1400 + (0x80 + 8 * a)
def ARR_Aa_STAT (a : Nat) : Nat := 0x1400 + (0x81 + 8 * a)
def ARR_Aa_CAL_AGE (a : Nat) : Nat := 0x1400 + (0x82 + 8 * a)
def ARR_Aa_CAL_TEMP (a : Nat) : Nat := 0x1400 + (0x83 + 8 * a)
def ARR_Aa_GAIN_SPAN (a : Nat) : Nat := 0x1400 + (0x84 + 8 * a)
def ARR_Aa_CELLS (a : Nat) : Nat := 0x1400 + (0x85 + 8 * a)
def ARR_Aa_TV (a : Nat) : Nat := 0x1400 + (0x86 + 8 * a)
def ARR_Dd_CTL (d : Nat) : Nat := 0x1400 + (0xE0 + 8 * d)
def ARR_Dd_STAT (d : Nat) : Nat := 0x1400 + (0xE1 + 8 * d)
def ARR_Dd_ECC (d : Nat) : Nat := 0x1400 + (0xE2 + 8 * d)
def ARR_Dd_ROWS (d : Nat) : Nat := 0x1400 + (0xE5 + 8 * d)
def ARR_Dd_TV (d : Nat) : Nat := 0x1400 + (0xE6 + 8 * d)
def ARR_JOB_STAT : Nat := 0x1400 + (0x10)
def ARR_JOB_DONE : Nat := 0x1400 + (0x11)
def ARR_JOB_VOID : Nat := 0x1400 + (0x12)
def ARR_LAST_VOID : Nat := 0x1400 + (0x13)
def ARR_ABUSE_INTV : Nat := 0x1400 + (0x14)
def ARR_INTEG_TH : Nat := 0x1400 + (0x15)
def ARR_LAST_DESC_HI : Nat := 0x1400 + (0x16)
def ARR_LAST_DESC_LO : Nat := 0x1400 + (0x17)
def ARR_USER_DESC : Nat := 0x1400 + (0x18)
def ARR_USER_DEADLINE : Nat := 0x1400 + (0x19)
def ARR_USER_SUBMIT : Nat := 0x1400 + (0x1A)
def ARR_USER_STAT : Nat := 0x1400 + (0x1B)
def ARR_Mm_CTL (m : Nat) : Nat := 0x1400 + (0x20 + 0x10 * m)
def ARR_Mm_OUT (m : Nat) : Nat := 0x1400 + (0x21 + 0x10 * m)
def ARR_Mm_Ss_TILES (m : Nat) (s : Nat) : Nat := 0x1400 + (0x24 + 0x10 * m + 3 * s)
def ARR_Mm_Ss_CTL (m : Nat) (s : Nat) : Nat := 0x1400 + (0x25 + 0x10 * m + 3 * s)
def ARR_Mm_Ss_Q (m : Nat) (s : Nat) : Nat := 0x1400 + (0x26 + 0x10 * m + 3 * s)
def ARR_LOAD_CTL : Nat := 0x1400 + (0x60)
def ARR_LOAD_STAT : Nat := 0x1400 + (0x61)
def ARR_IMG_SEL : Nat := 0x1400 + (0x62)
def ARR_IMG_INFO : Nat := 0x1400 + (0x63)
def ARR_IMG_GEN : Nat := 0x1400 + (0x64)
def ARRW_LOAD_DATA : Nat := 0x1500 + (0x00)
def ARRW_IN (i : Nat) : Nat := 0x1500 + (0x10 + i)
def ARRW_OUT (i : Nat) : Nat := 0x1500 + (0x80 + i)
def GRD_STAT : Nat := 0x1600 + (0x00)
def GRD_LOCK : Nat := 0x1600 + (0x02)
def GRD_ARM_CODE : Nat := 0x1600 + (0x03)
def GRD_ARM : Nat := 0x1600 + (0x04)
def GRD_TRIPPED : Nat := 0x1600 + (0x05)
def GRD_CW_LAST : Nat := 0x1600 + (0x06)
def GRD_RNG_DATA : Nat := 0x1600 + (0x07)
def GRD_TAMP_CFG : Nat := 0x1600 + (0x08)
def GRD_TEMP_D (i : Nat) : Nat := 0x1600 + (0x10 + i)
def GRD_TEMP_PKG : Nat := 0x1600 + (0x14)
def GRD_V_MAIN : Nat := 0x1600 + (0x15)
def GRD_V_HEAT : Nat := 0x1600 + (0x16)
def GRD_V_BAT : Nat := 0x1600 + (0x17)
def GRD_V_CORE : Nat := 0x1600 + (0x18)
def GRD_V_AON : Nat := 0x1600 + (0x19)
def GRD_LIGHT : Nat := 0x1600 + (0x1A)
def GRD_MESH : Nat := 0x1600 + (0x1B)
def GRD_Sx_CFG (x : Nat) : Nat := 0x1600 + (0x20 + 2 * x)
def GRD_Sx_COUNT (x : Nat) : Nat := 0x1600 + (0x21 + 2 * x)
def GRD_Sx_ASSERT (x : Nat) (i : Nat) : Nat := 0x1600 + (0x60 + 3 * x + i)
def LDG_STAT : Nat := 0x1600 + (0xC0)
def LDG_SEL : Nat := 0x1600 + (0xC1)
def LDG_ENTRY (i : Nat) : Nat := 0x1600 + (0xC2 + i)
def LDG_SERIAL (i : Nat) : Nat := 0x1600 + (0xCA + i)
def LDG_QUEUE_LOST : Nat := 0x1600 + (0xCE)
def LDG_BAD_SLOTS : Nat := 0x1600 + (0xCF)
def LDG_SUM_SEL : Nat := 0x1600 + (0xD0)
def LDG_SUM (i : Nat) : Nat := 0x1600 + (0xD1 + i)
def PWR_STAT : Nat := 0x100 + (0x00)
def PWR_DOM_STAT : Nat := 0x100 + (0x01)
def PWR_HOST_VOTE : Nat := 0x100 + (0x02)
def PWR_VOTES_A : Nat := 0x100 + (0x03)
def PWR_VOTES_B : Nat := 0x100 + (0x04)
def PWR_CMD : Nat := 0x100 + (0x05)
def PWR_LEVEL_REQ : Nat := 0x100 + (0x06)
def PWR_TCAP_ASSERT : Nat := 0x100 + (0x07)
def PWR_TCAP_RELEASE : Nat := 0x100 + (0x08)
def PWR_TCAP_DWELL : Nat := 0x100 + (0x09)
def PWR_LAST_REFUSAL : Nat := 0x100 + (0x0A)
def PWR_LAST_REF_TALLY : Nat := 0x100 + (0x0B)
def PWR_REFUSALS_A (i : Nat) : Nat := 0x100 + (0x0C + i)
def PWR_ABORTS : Nat := 0x100 + (0x10)
def PWR_DOWN_ACCESS : Nat := 0x100 + (0x11)
def PWR_WAKE_HOLD : Nat := 0x100 + (0x12)
def PWR_RET_CTL : Nat := 0x100 + (0x13)
def PWR_RET_STAT : Nat := 0x100 + (0x14)
def PWR_START_CAUSE : Nat := 0x100 + (0x15)
def PWR_REG_CORE : Nat := 0x100 + (0x18)
def PWR_REG_TICK : Nat := 0x100 + (0x19)
def PWR_REG_SERDES : Nat := 0x100 + (0x1A)
def PWR_REG_ANA : Nat := 0x100 + (0x1B)
def PWR_REG_AON : Nat := 0x100 + (0x1C)
def PWR_SLEEP_REQ : Nat := 0x100 + (0x20)
def PWR_SLEEP_STAT : Nat := 0x100 + (0x21)
def PWR_WAKE_CFG : Nat := 0x100 + (0x22)
def PWR_WAKE_STAT : Nat := 0x100 + (0x23)
def PWR_WAKE_AT_HI : Nat := 0x100 + (0x24)
def PWR_WAKE_AT_LO : Nat := 0x100 + (0x25)
def PWR_TCLK_HI : Nat := 0x100 + (0x26)
def PWR_TCLK_LO : Nat := 0x100 + (0x27)
def PWR_TCLK_STAT : Nat := 0x100 + (0x28)
def PWR_TCLK_Y : Nat := 0x100 + (0x29)
def PWR_TCLK_CFG : Nat := 0x100 + (0x2A)
def PWR_X32_OFS : Nat := 0x100 + (0x2B)
def PWR_ANCHOR_INFO : Nat := 0x100 + (0x2C)
def PWR_ANCHOR_TALLY_HI : Nat := 0x100 + (0x2D)
def PWR_ANCHOR_TALLY_LO : Nat := 0x100 + (0x2E)
def PWR_ANCHOR_TCLK_HI : Nat := 0x100 + (0x2F)
def PWR_ANCHOR_TCLK_LO : Nat := 0x100 + (0x30)
def PWR_HANDOVERS : Nat := 0x100 + (0x31)
def PWR_VBAT_SECS : Nat := 0x100 + (0x32)
def HIF_PORT_STAT : Nat := 0x000 + (0x20)
def HIF_TW_CTL : Nat := 0x000 + (0x21)
def HIF_SPI_CNT_A : Nat := 0x000 + (0x22)
def HIF_SPI_CNT_B : Nat := 0x000 + (0x23)
def HIF_TW_CNT_A : Nat := 0x000 + (0x24)
def HIF_TW_CNT_B : Nat := 0x000 + (0x25)
def HIF_CLAIM_CNT : Nat := 0x000 + (0x26)
def HIF_BB_CTL : Nat := 0x000 + (0x40)
def HIF_BB_WR_ADDR : Nat := 0x000 + (0x41)
def HIF_BB_CMD : Nat := 0x000 + (0x42)
def HIF_BB_STAT : Nat := 0x000 + (0x43)
def HIF_BB_WDATA : Nat := 0x000 + (0x44)
def HIF_BB_CNT : Nat := 0x000 + (0x45)
def HIF_BB_DATA (i : Nat) : Nat := 0x000 + (0x60 + i)
def HIF_BANK_LOCK : Nat := 0x000 + (0x00)
def HIF_RESET_INFO : Nat := 0x000 + (0x01)
def HIF_SCRATCH (i : Nat) : Nat := 0x000 + (0x04 + i)
def HIF_ALIAS (i : Nat) : Nat := 0x000 + (0x10 + i)
def EVT_STICKY_A (i : Nat) : Nat := 0x200 + (0x00 + i)
def EVT_LIVE_A (i : Nat) : Nat := 0x200 + (0x04 + i)
def EVT_EN_A (i : Nat) : Nat := 0x200 + (0x08 + i)
def EVT_RTA_A (i : Nat) : Nat := 0x200 + (0x0C + i)
def EVT_RTB_A (i : Nat) : Nat := 0x200 + (0x10 + i)
def EVT_CAUSE_LO : Nat := 0x200 + (0x14)
def EVT_CAUSE_HI : Nat := 0x200 + (0x15)
def EVT_IRQ_CTL : Nat := 0x200 + (0x16)
def EVT_IRQ_STAT : Nat := 0x200 + (0x17)
def EVT_LAST : Nat := 0x200 + (0x18)
def EVT_LAST_TALLY : Nat := 0x200 + (0x19)
def EVT_RAISES : Nat := 0x200 + (0x1A)
def OBS_CTL : Nat := 0x1700 + (0x00)
def OBS_STAT : Nat := 0x1700 + (0x01)
def OBS_OUT_MASK : Nat := 0x1700 + (0x02)
def OBS_MARK : Nat := 0x1700 + (0x03)
def OBS_WORDS : Nat := 0x1700 + (0x04)
def OBS_RECORDS : Nat := 0x1700 + (0x05)
def OBS_DROPPED : Nat := 0x1700 + (0x06)
def OBS_PEAK : Nat := 0x1700 + (0x07)
def OBS_OUTn_SKIPPED (i : Nat) : Nat := 0x1700 + (0x20 + i)
def VQ_Vn_FIFO (n : Nat) : Nat := 0x700 + (0x80 + n)

end Sys2Proof.Machine.A

namespace Sys2Proof.Machine.F

def STR_ERA_ERA : Fld := ⟨A.STR_ERA, 0, 16⟩
def STR_ARM_CODE_ARM_CODE : Fld := ⟨A.STR_ARM_CODE, 0, 16⟩
def STR_STEP_LIMIT_LIMIT : Fld := ⟨A.STR_STEP_LIMIT, 0, 30⟩
def STR_RATE_STEP_LIMIT_LIMIT : Fld := ⟨A.STR_RATE_STEP_LIMIT, 0, 28⟩
def STR_F0_RATE_HI_HI : Fld := ⟨A.STR_F0_RATE_HI, 0, 16⟩
def STR_F0_RATE_LO_HI : Fld := ⟨A.STR_F0_RATE_LO, 0, 16⟩
def TB_ARM_CODE_ARM_CODE : Fld := ⟨A.TB_ARM_CODE, 0, 16⟩
def VC_Mm_CTL_EN (m : Nat) : Fld := ⟨A.VC_Mm_CTL m, 0, 1⟩
def VC_Mm_CTL_FUNC (m : Nat) : Fld := ⟨A.VC_Mm_CTL m, 1, 3⟩
def VC_Mm_CTL_START (m : Nat) : Fld := ⟨A.VC_Mm_CTL m, 4, 4⟩
def VC_Mm_CTL_STOP (m : Nat) : Fld := ⟨A.VC_Mm_CTL m, 8, 4⟩
def VC_Mm_STAT_RUNNING (m : Nat) : Fld := ⟨A.VC_Mm_STAT m, 0, 1⟩
def VC_Mm_STAT_GATE_DONE (m : Nat) : Fld := ⟨A.VC_Mm_STAT m, 8, 1⟩
def VCAL_CTL_AUTO : Fld := ⟨A.VCAL_CTL, 0, 1⟩
def VCAL_CTL_RISE_RUN : Fld := ⟨A.VCAL_CTL, 1, 1⟩
def VCAL_STAT_BUSY : Fld := ⟨A.VCAL_STAT, 0, 8⟩
def VCAL_STAT_DUE : Fld := ⟨A.VCAL_STAT, 8, 8⟩
def VCAL_STAT_DEFERRED : Fld := ⟨A.VCAL_STAT, 16, 8⟩
def VCAL_FAC_SEL_CH : Fld := ⟨A.VCAL_FAC_SEL, 0, 3⟩
def VCAL_FAC_SEL_ITEM : Fld := ⟨A.VCAL_FAC_SEL, 8, 5⟩
def VCAL_Vn_RESULT_REASON (n : Nat) : Fld := ⟨A.VCAL_Vn_RESULT n, 0, 4⟩
def VCAL_Vn_RESULT_TEST (n : Nat) : Fld := ⟨A.VCAL_Vn_RESULT n, 4, 2⟩
def VCAL_Vn_RESULT_BIN (n : Nat) : Fld := ⟨A.VCAL_Vn_RESULT n, 8, 5⟩
def VCAL_Vn_RESULT_QUARTER (n : Nat) : Fld := ⟨A.VCAL_Vn_RESULT n, 14, 2⟩
def REFM_STAT_HELD : Fld := ⟨A.REFM_STAT, 0, 1⟩
def REFM_STAT_SEL_REFUSED_SEEN : Fld := ⟨A.REFM_STAT, 8, 1⟩
def REFM_STAT_HELD_SEEN : Fld := ⟨A.REFM_STAT, 9, 1⟩
def REFM_CTL_REVERT : Fld := ⟨A.REFM_CTL, 0, 1⟩
def REFM_CTL_IQ_MIN : Fld := ⟨A.REFM_CTL, 4, 4⟩
def REFM_SEL_NOW_SLOT : Fld := ⟨A.REFM_SEL_NOW, 0, 4⟩
def REFM_SEL_NOW_PENDING : Fld := ⟨A.REFM_SEL_NOW, 4, 4⟩
def REFM_SEL_NOW_HELD : Fld := ⟨A.REFM_SEL_NOW, 8, 1⟩
def REFM_SEL_NOW_MANUAL : Fld := ⟨A.REFM_SEL_NOW, 9, 1⟩
def REFM_SEL_NOW_ABSORBING : Fld := ⟨A.REFM_SEL_NOW, 10, 1⟩
def REFM_ANT_CTL_EN : Fld := ⟨A.REFM_ANT_CTL, 0, 1⟩
def REFM_ANT_CTL_VSEL : Fld := ⟨A.REFM_ANT_CTL, 1, 1⟩
def REFM_ANT_CTL_CLR : Fld := ⟨A.REFM_ANT_CTL, 2, 1⟩
def REFM_ANT_CTL_SLOT : Fld := ⟨A.REFM_ANT_CTL, 4, 4⟩
def REFM_ANT_STAT_STATE : Fld := ⟨A.REFM_ANT_STAT, 0, 3⟩
def REFM_ANT_STAT_FAILS : Fld := ⟨A.REFM_ANT_STAT, 4, 4⟩
def REFM_ANT_STAT_WAIT_S : Fld := ⟨A.REFM_ANT_STAT, 8, 8⟩
def REFM_ANT_STAT_ANT_FAULT : Fld := ⟨A.REFM_ANT_STAT, 16, 1⟩
def REFM_ANT_STAT_OPEN_SEEN : Fld := ⟨A.REFM_ANT_STAT, 24, 1⟩
def REFM_GRXg_CTL_EN (g : Nat) : Fld := ⟨A.REFM_GRXg_CTL g, 0, 1⟩
def REFM_GRXg_CTL_BAUD (g : Nat) : Fld := ⟨A.REFM_GRXg_CTL g, 1, 3⟩
def REFM_GRXg_CTL_REQ_CSUM (g : Nat) : Fld := ⟨A.REFM_GRXg_CTL g, 4, 1⟩
def REFM_GRXg_CTL_TOD_EDGE (g : Nat) : Fld := ⟨A.REFM_GRXg_CTL g, 5, 1⟩
def REFM_GRXg_CTL_SAT_MIN (g : Nat) : Fld := ⟨A.REFM_GRXg_CTL g, 8, 4⟩
def REFM_GRXg_CTL_MSG_TIMEOUT (g : Nat) : Fld := ⟨A.REFM_GRXg_CTL g, 16, 4⟩
def REFM_Sn_QUAL_QUAL_COUNT (n : Nat) : Fld := ⟨A.REFM_Sn_QUAL n, 0, 16⟩
def REFM_Sn_QUAL_BAD_RUN (n : Nat) : Fld := ⟨A.REFM_Sn_QUAL n, 16, 8⟩
def REFM_Sn_IQ_IQ (n : Nat) : Fld := ⟨A.REFM_Sn_IQ n, 0, 4⟩
def REFM_Sn_IQ_IQ_SRC (n : Nat) : Fld := ⟨A.REFM_Sn_IQ n, 4, 3⟩
def REFM_Sn_IQ_RAW (n : Nat) : Fld := ⟨A.REFM_Sn_IQ n, 8, 8⟩
def REFM_Sn_IQ_SYNCE_QL (n : Nat) : Fld := ⟨A.REFM_Sn_IQ n, 16, 4⟩
def REFM_Sn_IQ_INTEG (n : Nat) : Fld := ⟨A.REFM_Sn_IQ n, 24, 2⟩
def SRV_EST_CTL_LAMBDA_LOG2 : Fld := ⟨A.SRV_EST_CTL, 0, 4⟩
def SRV_HIST_HEAD_NEXT : Fld := ⟨A.SRV_HIST_HEAD, 0, 12⟩
def SRV_HIST_HEAD_COUNT : Fld := ⟨A.SRV_HIST_HEAD, 16, 13⟩
def SRV_ARM_CODE_ARM_CODE : Fld := ⟨A.SRV_ARM_CODE, 0, 16⟩
def PCR_CTL_NO_WARM_WAIT : Fld := ⟨A.PCR_CTL, 0, 1⟩
def PCR_CTL_VERIFY_SAFE : Fld := ⟨A.PCR_CTL, 1, 1⟩
def PCR_CMD_OUT : Fld := ⟨A.PCR_CMD, 0, 4⟩
def PCR_CMD_OP : Fld := ⟨A.PCR_CMD, 4, 4⟩
def PCR_VER_CTL_EN : Fld := ⟨A.PCR_VER_CTL, 0, 1⟩
def PCR_VER_CTL_OUT : Fld := ⟨A.PCR_VER_CTL, 4, 4⟩
def PCR_VER_CTL_CH : Fld := ⟨A.PCR_VER_CTL, 8, 3⟩
def PCR_VER_STAT_RUNNING : Fld := ⟨A.PCR_VER_STAT, 0, 1⟩
def PCR_VER_STAT_FAIL_SEEN : Fld := ⟨A.PCR_VER_STAT, 8, 1⟩
def PCR_OUTn_AT_NS_NS (n : Nat) : Fld := ⟨A.PCR_OUTn_AT_NS n, 0, 30⟩
def PCR_OUTn_AT_PIP_PIP (n : Nat) : Fld := ⟨A.PCR_OUTn_AT_PIP n, 0, 16⟩
def MAC_RXB_WM_LOW (p : Nat) : Fld := ⟨A.MAC_RXB_WM p, 0, 16⟩
def MAC_RXB_WM_HIGH (p : Nat) : Fld := ⟨A.MAC_RXB_WM p, 16, 16⟩
def MAC_MCASTe_HI_EN (p : Nat) (e : Nat) : Fld := ⟨A.MAC_MCASTe_HI p e, 31, 1⟩
def SNAP_CTL_TRIG : Fld := ⟨A.SNAP_CTL, 0, 1⟩
def SNAP_CTL_HOLD : Fld := ⟨A.SNAP_CTL, 1, 1⟩
def SNAP_CTL_PERIOD_EN : Fld := ⟨A.SNAP_CTL, 2, 1⟩
def SNAP_STAT_FRESH : Fld := ⟨A.SNAP_STAT, 0, 1⟩
def SNAP_STAT_MISSED_SEEN : Fld := ⟨A.SNAP_STAT, 8, 1⟩
def MAC_LAT_CAL_RUN (p : Nat) : Fld := ⟨A.MAC_LAT_CAL p, 0, 1⟩
def MAC_LAT_CAL_DISCARD (p : Nat) : Fld := ⟨A.MAC_LAT_CAL p, 1, 1⟩
def MAC_LAT_RESULT_REASON (p : Nat) : Fld := ⟨A.MAC_LAT_RESULT p, 0, 4⟩
def MAC_LAT_RESULT_MODE (p : Nat) : Fld := ⟨A.MAC_LAT_RESULT p, 4, 2⟩
def MAC_LAT_RESULT_SPREAD (p : Nat) : Fld := ⟨A.MAC_LAT_RESULT p, 8, 8⟩
def MAC_MARGIN_MAX (p : Nat) : Fld := ⟨A.MAC_MARGIN p, 0, 16⟩
def MAC_MARGIN_FLOOR (p : Nat) : Fld := ⟨A.MAC_MARGIN p, 16, 16⟩
def MAC_MISS_A_RESLOT (p : Nat) : Fld := ⟨A.MAC_MISS_A p, 0, 16⟩
def MAC_MISS_A_RESEAL (p : Nat) : Fld := ⟨A.MAC_MISS_A p, 16, 16⟩
def MAC_MISS_B_DROP (p : Nat) : Fld := ⟨A.MAC_MISS_B p, 0, 16⟩
def MAC_MISS_B_STALE (p : Nat) : Fld := ⟨A.MAC_MISS_B p, 16, 16⟩
def MAC_DROP_C_SETTLE_DROP (p : Nat) : Fld := ⟨A.MAC_DROP_C p, 0, 16⟩
def MAC_DROP_C_SAFE_DROP (p : Nat) : Fld := ⟨A.MAC_DROP_C p, 16, 16⟩
def MAC_DEV_B_NO_SLOT (p : Nat) : Fld := ⟨A.MAC_DEV_B p, 0, 16⟩
def MAC_DEV_B_TX_DEV (p : Nat) : Fld := ⟨A.MAC_DEV_B p, 16, 16⟩
def PIPE_CAP_NOW_ISSUE : Fld := ⟨A.PIPE_CAP_NOW, 0, 16⟩
def PIPE_CAP_NOW_NTS : Fld := ⟨A.PIPE_CAP_NOW, 16, 16⟩
def PIPE_MBX_CTL_EN : Fld := ⟨A.PIPE_MBX_CTL, 0, 1⟩
def PIPE_MBX_CTL_MALFORMED : Fld := ⟨A.PIPE_MBX_CTL, 1, 1⟩
def PIPE_MBX_CTL_PORTS : Fld := ⟨A.PIPE_MBX_CTL, 4, 4⟩
def PIPE_MBX_CTL_SNAP_LEN : Fld := ⟨A.PIPE_MBX_CTL, 16, 12⟩
def PTP_CTL_SAFE_SILENT : Fld := ⟨A.PTP_CTL, 0, 1⟩
def PTP_CTL_UTC_VALID : Fld := ⟨A.PTP_CTL, 1, 1⟩
def PTP_CTL_SM_EN : Fld := ⟨A.PTP_CTL, 2, 1⟩
def PTP_CTL_SM_CARRIER : Fld := ⟨A.PTP_CTL, 3, 1⟩
def PTP_STAT_FOLLOWING : Fld := ⟨A.PTP_STAT, 0, 1⟩
def PTP_STAT_FOLLOW_PORT : Fld := ⟨A.PTP_STAT, 4, 2⟩
def PTP_STAT_UTC_MISMATCH : Fld := ⟨A.PTP_STAT, 6, 1⟩
def PTP_STAT_MISMATCH_SEEN : Fld := ⟨A.PTP_STAT, 8, 1⟩
def PTP_STAT_UC_FULL_SEEN : Fld := ⟨A.PTP_STAT, 9, 1⟩
def PTP_STAT_DENY_SEEN : Fld := ⟨A.PTP_STAT, 10, 1⟩
def PTP_DOMAIN_DOMAIN : Fld := ⟨A.PTP_DOMAIN, 0, 8⟩
def PTP_DOMAIN_MAJOR_SDO : Fld := ⟨A.PTP_DOMAIN, 8, 4⟩
def PTP_DOMAIN_MINOR_SDO : Fld := ⟨A.PTP_DOMAIN, 16, 8⟩
def PTP_PRIO_PRIORITY1 : Fld := ⟨A.PTP_PRIO, 0, 8⟩
def PTP_PRIO_PRIORITY2 : Fld := ⟨A.PTP_PRIO, 8, 8⟩
def PTP_CLOCK_ID_HI_HI : Fld := ⟨A.PTP_CLOCK_ID_HI, 24, 8⟩
def PTP_CLOCK_ID_LO_HI : Fld := ⟨A.PTP_CLOCK_ID_LO, 24, 8⟩
def PTP_CLK_ACC_ACC : Fld := ⟨A.PTP_CLK_ACC, 0, 8⟩
def PTP_CLK_ACC_OSLV : Fld := ⟨A.PTP_CLK_ACC, 16, 16⟩
def PTP_TSRC_A_TSRC_A : Fld := ⟨A.PTP_TSRC_A, 0, 8⟩
def PTP_TSRC_A_TSRC_B : Fld := ⟨A.PTP_TSRC_A, 0, 8⟩
def PTP_TSRC_B_TSRC_A : Fld := ⟨A.PTP_TSRC_B, 0, 8⟩
def PTP_TSRC_B_TSRC_B : Fld := ⟨A.PTP_TSRC_B, 0, 8⟩
def PTP_UC_NOW_GRANTEES : Fld := ⟨A.PTP_UC_NOW, 0, 13⟩
def PTP_UC_NOW_DENIED : Fld := ⟨A.PTP_UC_NOW, 16, 16⟩
def PTP_CLASS_NOW_CLASS : Fld := ⟨A.PTP_CLASS_NOW, 0, 8⟩
def PTP_CLASS_NOW_COND : Fld := ⟨A.PTP_CLASS_NOW, 8, 3⟩
def PTP_CLASS_NOW_SAFE : Fld := ⟨A.PTP_CLASS_NOW, 11, 1⟩
def PTP_CLASS_NOW_ACC : Fld := ⟨A.PTP_CLASS_NOW, 16, 8⟩
def PTP_SM_CTL_LEN : Fld := ⟨A.PTP_SM_CTL, 0, 7⟩
def PTP_SM_DATA_SM_DATA_0 (i : Nat) : Fld := ⟨A.PTP_SM_DATA i, 24, 8⟩
def PTP_Pp_STAT_STATE (p : Nat) : Fld := ⟨A.PTP_Pp_STAT p, 0, 3⟩
def PTP_Pp_STAT_ERBEST (p : Nat) : Fld := ⟨A.PTP_Pp_STAT p, 3, 1⟩
def PTP_Pp_STAT_PARENT_SEEN (p : Nat) : Fld := ⟨A.PTP_Pp_STAT p, 8, 1⟩
def PTP_Pp_STAT_TMO_SEEN (p : Nat) : Fld := ⟨A.PTP_Pp_STAT p, 9, 1⟩
def PTP_Pp_INTV_LOG_ANN (p : Nat) : Fld := ⟨A.PTP_Pp_INTV p, 0, 8⟩
def PTP_Pp_INTV_LOG_SYNC (p : Nat) : Fld := ⟨A.PTP_Pp_INTV p, 8, 8⟩
def PTP_Pp_INTV_LOG_DREQ (p : Nat) : Fld := ⟨A.PTP_Pp_INTV p, 16, 8⟩
def PTP_Pp_INTV_ANN_TMO (p : Nat) : Fld := ⟨A.PTP_Pp_INTV p, 24, 8⟩
def NTP_STAT_COND : Fld := ⟨A.NTP_STAT, 0, 3⟩
def NTP_STAT_SYNCED : Fld := ⟨A.NTP_STAT, 3, 1⟩
def NTP_STAT_LI : Fld := ⟨A.NTP_STAT, 4, 2⟩
def NTP_STAT_STRATUM : Fld := ⟨A.NTP_STAT, 8, 8⟩
def NTP_STRATA_FREE_STRATUM : Fld := ⟨A.NTP_STRATA, 0, 4⟩
def NTP_STRATA_FOLLOW_STRATUM : Fld := ⟨A.NTP_STRATA, 8, 4⟩
def NTP_IP_TTL : Fld := ⟨A.NTP_IP, 0, 8⟩
def NTP_IP_DSCP : Fld := ⟨A.NTP_IP, 8, 6⟩
def NTS_CTL_EN : Fld := ⟨A.NTS_CTL, 0, 1⟩
def NTS_CTL_AUTO_ROT : Fld := ⟨A.NTS_CTL, 1, 1⟩
def NTS_CTL_GRACE : Fld := ⟨A.NTS_CTL, 4, 3⟩
def NTS_STAT_ACTIVE_SLOT : Fld := ⟨A.NTS_STAT, 0, 3⟩
def NTS_STAT_HAS_ACTIVE : Fld := ⟨A.NTS_STAT, 3, 1⟩
def NTS_STAT_ROT_BUSY : Fld := ⟨A.NTS_STAT, 4, 1⟩
def NTS_STAT_DRAINING : Fld := ⟨A.NTS_STAT, 5, 1⟩
def NTS_STAT_ZEROISED : Fld := ⟨A.NTS_STAT, 6, 1⟩
def NTS_STAT_RESEED_LATE : Fld := ⟨A.NTS_STAT, 7, 1⟩
def NTS_STAT_ROT_REFUSED_SEEN : Fld := ⟨A.NTS_STAT, 8, 1⟩
def NTS_STAT_NAK_SEEN : Fld := ⟨A.NTS_STAT, 9, 1⟩
def NTS_ARM_CODE_ARM_CODE : Fld := ⟨A.NTS_ARM_CODE, 0, 16⟩
def NTS_KEY_CMD_OP : Fld := ⟨A.NTS_KEY_CMD, 0, 4⟩
def NTS_KEY_CMD_SLOT : Fld := ⟨A.NTS_KEY_CMD, 4, 3⟩
def NTS_KEY_RESULT_OP : Fld := ⟨A.NTS_KEY_RESULT, 0, 4⟩
def NTS_KEY_RESULT_REASON : Fld := ⟨A.NTS_KEY_RESULT, 8, 4⟩
def NTS_MINT_CMD_COUNT : Fld := ⟨A.NTS_MINT_CMD, 0, 4⟩
def NTS_MINT_CMD_AEAD : Fld := ⟨A.NTS_MINT_CMD, 16, 16⟩
def NTS_MINT_STAT_STATE : Fld := ⟨A.NTS_MINT_STAT, 0, 4⟩
def NTS_MINT_STAT_SLOT : Fld := ⟨A.NTS_MINT_STAT, 4, 3⟩
def NTS_MINT_STAT_WORDS_LEFT : Fld := ⟨A.NTS_MINT_STAT, 8, 8⟩
def ADM_STAT_NO_KEY : Fld := ⟨A.ADM_STAT, 0, 1⟩
def ADM_STAT_OVF_SEEN : Fld := ⟨A.ADM_STAT, 8, 1⟩
def ADM_STAT_VOID_SEEN : Fld := ⟨A.ADM_STAT, 9, 1⟩
def ADM_STAT_BADSRC_SEEN : Fld := ⟨A.ADM_STAT, 10, 1⟩
def ADM_LOOKUP_CTL_GO : Fld := ⟨A.ADM_LOOKUP_CTL, 0, 1⟩
def ADM_LOOKUP_CTL_FAMILY : Fld := ⟨A.ADM_LOOKUP_CTL, 1, 1⟩
def ADM_LOOKUP_RESULT_DONE : Fld := ⟨A.ADM_LOOKUP_RESULT, 0, 1⟩
def ADM_LOOKUP_RESULT_FOUND : Fld := ⟨A.ADM_LOOKUP_RESULT, 1, 1⟩
def ADM_LOOKUP_RESULT_STATIC : Fld := ⟨A.ADM_LOOKUP_RESULT, 2, 1⟩
def ADM_LOOKUP_RESULT_OVR : Fld := ⟨A.ADM_LOOKUP_RESULT, 4, 4⟩
def ADM_LOOKUP_RESULT_OVR_HIT : Fld := ⟨A.ADM_LOOKUP_RESULT, 3, 1⟩
def ADM_LOOKUP_RESULT_SCORE : Fld := ⟨A.ADM_LOOKUP_RESULT, 8, 8⟩
def ADM_LOOKUP_RESULT_BAND : Fld := ⟨A.ADM_LOOKUP_RESULT, 16, 3⟩
def ADM_OVRo_CTL_EN (o : Nat) : Fld := ⟨A.ADM_OVRo_CTL o, 0, 1⟩
def ADM_OVRo_CTL_FAMILY (o : Nat) : Fld := ⟨A.ADM_OVRo_CTL o, 1, 1⟩
def ADM_OVRo_CTL_EXEMPT (o : Nat) : Fld := ⟨A.ADM_OVRo_CTL o, 2, 1⟩
def ADM_OVRo_CTL_NO_SCORE (o : Nat) : Fld := ⟨A.ADM_OVRo_CTL o, 3, 1⟩
def ADM_OVRo_CTL_LEN (o : Nat) : Fld := ⟨A.ADM_OVRo_CTL o, 8, 8⟩
def ARR_CTL_RECAL_AUTO : Fld := ⟨A.ARR_CTL, 0, 1⟩
def ARR_CTL_TV_AUTO : Fld := ⟨A.ARR_CTL, 1, 1⟩
def ARR_CMD_TILE : Fld := ⟨A.ARR_CMD, 0, 5⟩
def ARR_CMD_OP : Fld := ⟨A.ARR_CMD, 8, 4⟩
def ARR_Aa_CTL_EN (a : Nat) : Fld := ⟨A.ARR_Aa_CTL a, 0, 1⟩
def ARR_Aa_GAIN_SPAN_GAIN_MIN (a : Nat) : Fld := ⟨A.ARR_Aa_GAIN_SPAN a, 0, 16⟩
def ARR_Aa_GAIN_SPAN_GAIN_MAX (a : Nat) : Fld := ⟨A.ARR_Aa_GAIN_SPAN a, 16, 16⟩
def ARR_Aa_CELLS_STUCK (a : Nat) : Fld := ⟨A.ARR_Aa_CELLS a, 0, 16⟩
def ARR_Aa_CELLS_ROWS_INVALID (a : Nat) : Fld := ⟨A.ARR_Aa_CELLS a, 16, 10⟩
def ARR_Aa_TV_PASS (a : Nat) : Fld := ⟨A.ARR_Aa_TV a, 0, 16⟩
def ARR_Aa_TV_FAIL (a : Nat) : Fld := ⟨A.ARR_Aa_TV a, 16, 16⟩
def ARR_Dd_CTL_EN (d : Nat) : Fld := ⟨A.ARR_Dd_CTL d, 0, 1⟩
def ARR_Dd_ECC_CORR (d : Nat) : Fld := ⟨A.ARR_Dd_ECC d, 0, 16⟩
def ARR_Dd_ECC_UNCORR (d : Nat) : Fld := ⟨A.ARR_Dd_ECC d, 16, 16⟩
def ARR_Dd_ROWS_ROWS_INVALID (d : Nat) : Fld := ⟨A.ARR_Dd_ROWS d, 0, 9⟩
def ARR_JOB_STAT_QUEUED : Fld := ⟨A.ARR_JOB_STAT, 0, 5⟩
def ARR_JOB_STAT_RUNNING : Fld := ⟨A.ARR_JOB_STAT, 8, 4⟩
def ARR_JOB_STAT_JOB_VOID_SEEN : Fld := ⟨A.ARR_JOB_STAT, 16, 1⟩
def ARR_JOB_STAT_LOAD_ABORT_SEEN : Fld := ⟨A.ARR_JOB_STAT, 17, 1⟩
def ARR_LAST_VOID_CLASS : Fld := ⟨A.ARR_LAST_VOID, 0, 2⟩
def ARR_LAST_VOID_MODEL : Fld := ⟨A.ARR_LAST_VOID, 4, 2⟩
def ARR_LAST_VOID_REASON : Fld := ⟨A.ARR_LAST_VOID, 8, 4⟩
def ARR_LAST_VOID_TILE : Fld := ⟨A.ARR_LAST_VOID, 16, 5⟩
def ARR_INTEG_TH_SUSPECT_AT : Fld := ⟨A.ARR_INTEG_TH, 0, 8⟩
def ARR_INTEG_TH_FAIL_AT : Fld := ⟨A.ARR_INTEG_TH, 8, 8⟩
def ARR_USER_DESC_MODEL : Fld := ⟨A.ARR_USER_DESC, 0, 2⟩
def ARR_USER_DESC_TAG : Fld := ⟨A.ARR_USER_DESC, 8, 8⟩
def ARR_USER_STAT_STATE : Fld := ⟨A.ARR_USER_STAT, 0, 2⟩
def ARR_USER_STAT_REASON : Fld := ⟨A.ARR_USER_STAT, 8, 4⟩
def ARR_USER_STAT_TAG : Fld := ⟨A.ARR_USER_STAT, 16, 8⟩
def ARR_Mm_CTL_EN (m : Nat) : Fld := ⟨A.ARR_Mm_CTL m, 0, 1⟩
def ARR_Mm_CTL_NSTAGES (m : Nat) : Fld := ⟨A.ARR_Mm_CTL m, 1, 2⟩
def ARR_Mm_CTL_BIAS (m : Nat) : Fld := ⟨A.ARR_Mm_CTL m, 3, 1⟩
def ARR_Mm_OUT_OUT_SCALE (m : Nat) : Fld := ⟨A.ARR_Mm_OUT m, 0, 16⟩
def ARR_Mm_OUT_OUT_SHIFT (m : Nat) : Fld := ⟨A.ARR_Mm_OUT m, 16, 5⟩
def ARR_Mm_Ss_TILES_TILES (m : Nat) (s : Nat) : Fld := ⟨A.ARR_Mm_Ss_TILES m s, 0, 20⟩
def ARR_Mm_Ss_TILES_LAYER (m : Nat) (s : Nat) : Fld := ⟨A.ARR_Mm_Ss_TILES m s, 24, 3⟩
def ARR_Mm_Ss_CTL_IN_LEN (m : Nat) (s : Nat) : Fld := ⟨A.ARR_Mm_Ss_CTL m s, 0, 12⟩
def ARR_Mm_Ss_CTL_OUT_LEN (m : Nat) (s : Nat) : Fld := ⟨A.ARR_Mm_Ss_CTL m s, 12, 12⟩
def ARR_Mm_Ss_CTL_SPLIT (m : Nat) (s : Nat) : Fld := ⟨A.ARR_Mm_Ss_CTL m s, 24, 2⟩
def ARR_Mm_Ss_CTL_ACT (m : Nat) (s : Nat) : Fld := ⟨A.ARR_Mm_Ss_CTL m s, 26, 1⟩
def ARR_Mm_Ss_Q_SCALE (m : Nat) (s : Nat) : Fld := ⟨A.ARR_Mm_Ss_Q m s, 0, 16⟩
def ARR_Mm_Ss_Q_SHIFT (m : Nat) (s : Nat) : Fld := ⟨A.ARR_Mm_Ss_Q m s, 16, 5⟩
def ARR_LOAD_CTL_TARGET : Fld := ⟨A.ARR_LOAD_CTL, 0, 5⟩
def ARR_LOAD_CTL_OP : Fld := ⟨A.ARR_LOAD_CTL, 8, 2⟩
def ARR_LOAD_STAT_STATE : Fld := ⟨A.ARR_LOAD_STAT, 0, 2⟩
def ARR_LOAD_STAT_SPACE : Fld := ⟨A.ARR_LOAD_STAT, 4, 4⟩
def ARR_LOAD_STAT_REASON : Fld := ⟨A.ARR_LOAD_STAT, 8, 4⟩
def ARR_LOAD_STAT_ROWS_DONE : Fld := ⟨A.ARR_LOAD_STAT, 16, 10⟩
def ARR_IMG_SEL_TARGET : Fld := ⟨A.ARR_IMG_SEL, 0, 5⟩
def ARR_IMG_INFO_IMG_OK : Fld := ⟨A.ARR_IMG_INFO, 0, 1⟩
def ARR_IMG_INFO_KIND : Fld := ⟨A.ARR_IMG_INFO, 1, 1⟩
def ARR_IMG_INFO_MODEL : Fld := ⟨A.ARR_IMG_INFO, 4, 2⟩
def ARR_IMG_INFO_STAGE : Fld := ⟨A.ARR_IMG_INFO, 8, 2⟩
def ARR_IMG_INFO_BLOCK : Fld := ⟨A.ARR_IMG_INFO, 12, 2⟩
def ARR_IMG_INFO_GROUP_MASK : Fld := ⟨A.ARR_IMG_INFO, 16, 8⟩
def ARRW_IN_IN_0 (i : Nat) : Fld := ⟨A.ARRW_IN i, 24, 8⟩
def GRD_LOCK_LOCK : Fld := ⟨A.GRD_LOCK, 0, 1⟩
def GRD_ARM_CODE_ARM_CODE : Fld := ⟨A.GRD_ARM_CODE, 0, 16⟩
def GRD_CW_LAST_VALUE : Fld := ⟨A.GRD_CW_LAST, 0, 20⟩
def GRD_CW_LAST_MACHINE : Fld := ⟨A.GRD_CW_LAST, 24, 2⟩
def GRD_CW_LAST_SLOT : Fld := ⟨A.GRD_CW_LAST, 28, 3⟩
def GRD_TAMP_CFG_POL : Fld := ⟨A.GRD_TAMP_CFG, 0, 4⟩
def GRD_TAMP_CFG_QUAL : Fld := ⟨A.GRD_TAMP_CFG, 8, 8⟩
def GRD_MESH_OPEN : Fld := ⟨A.GRD_MESH, 0, 4⟩
def GRD_MESH_SHORT : Fld := ⟨A.GRD_MESH, 4, 4⟩
def GRD_MESH_MISMATCH : Fld := ⟨A.GRD_MESH, 8, 4⟩
def GRD_Sx_CFG_EN (x : Nat) : Fld := ⟨A.GRD_Sx_CFG x, 0, 1⟩
def GRD_Sx_CFG_SEV (x : Nat) : Fld := ⟨A.GRD_Sx_CFG x, 1, 2⟩
def GRD_Sx_CFG_N (x : Nat) : Fld := ⟨A.GRD_Sx_CFG x, 8, 4⟩
def GRD_Sx_CFG_W (x : Nat) : Fld := ⟨A.GRD_Sx_CFG x, 16, 4⟩
def GRD_Sx_COUNT_EVENTS (x : Nat) : Fld := ⟨A.GRD_Sx_COUNT x, 0, 24⟩
def GRD_Sx_COUNT_TRIPS (x : Nat) : Fld := ⟨A.GRD_Sx_COUNT x, 24, 8⟩
def LDG_SERIAL_SERIAL_0 (i : Nat) : Fld := ⟨A.LDG_SERIAL i, 24, 8⟩
def PWR_CMD_OP : Fld := ⟨A.PWR_CMD, 0, 4⟩
def PWR_CMD_DOMAIN : Fld := ⟨A.PWR_CMD, 8, 3⟩
def PWR_LEVEL_REQ_LEVEL : Fld := ⟨A.PWR_LEVEL_REQ, 0, 2⟩
def PWR_LAST_REFUSAL_DOMAIN : Fld := ⟨A.PWR_LAST_REFUSAL, 0, 3⟩
def PWR_LAST_REFUSAL_REQ : Fld := ⟨A.PWR_LAST_REFUSAL, 4, 3⟩
def PWR_LAST_REFUSAL_REFUSER : Fld := ⟨A.PWR_LAST_REFUSAL, 8, 3⟩
def PWR_LAST_REFUSAL_MASK : Fld := ⟨A.PWR_LAST_REFUSAL, 16, 8⟩
def PWR_ABORTS_COUNT : Fld := ⟨A.PWR_ABORTS, 0, 16⟩
def PWR_ABORTS_CAUSE : Fld := ⟨A.PWR_ABORTS, 16, 4⟩
def PWR_ABORTS_DOMAIN : Fld := ⟨A.PWR_ABORTS, 24, 3⟩
def PWR_RET_CTL_RESTORE : Fld := ⟨A.PWR_RET_CTL, 2, 6⟩
def PWR_RET_STAT_VALID : Fld := ⟨A.PWR_RET_STAT, 2, 6⟩
def PWR_RET_STAT_WORDS : Fld := ⟨A.PWR_RET_STAT, 16, 11⟩
def PWR_REG_CORE_OUT_MV : Fld := ⟨A.PWR_REG_CORE, 0, 16⟩
def PWR_REG_CORE_I_MA : Fld := ⟨A.PWR_REG_CORE, 16, 15⟩
def PWR_REG_CORE_FAULT : Fld := ⟨A.PWR_REG_CORE, 31, 1⟩
def PWR_REG_TICK_OUT_MV : Fld := ⟨A.PWR_REG_TICK, 0, 16⟩
def PWR_REG_TICK_I_MA : Fld := ⟨A.PWR_REG_TICK, 16, 15⟩
def PWR_REG_TICK_FAULT : Fld := ⟨A.PWR_REG_TICK, 31, 1⟩
def PWR_REG_SERDES_OUT_MV : Fld := ⟨A.PWR_REG_SERDES, 0, 16⟩
def PWR_REG_SERDES_I_MA : Fld := ⟨A.PWR_REG_SERDES, 16, 15⟩
def PWR_REG_SERDES_FAULT : Fld := ⟨A.PWR_REG_SERDES, 31, 1⟩
def PWR_REG_ANA_OUT_MV : Fld := ⟨A.PWR_REG_ANA, 0, 16⟩
def PWR_REG_ANA_I_MA : Fld := ⟨A.PWR_REG_ANA, 16, 15⟩
def PWR_REG_ANA_FAULT : Fld := ⟨A.PWR_REG_ANA, 31, 1⟩
def PWR_REG_AON_OUT_MV : Fld := ⟨A.PWR_REG_AON, 0, 16⟩
def PWR_REG_AON_I_MA : Fld := ⟨A.PWR_REG_AON, 16, 15⟩
def PWR_REG_AON_FAULT : Fld := ⟨A.PWR_REG_AON, 31, 1⟩
def PWR_SLEEP_REQ_STATE : Fld := ⟨A.PWR_SLEEP_REQ, 0, 2⟩
def PWR_WAKE_CFG_EN : Fld := ⟨A.PWR_WAKE_CFG, 0, 4⟩
def PWR_WAKE_CFG_POL : Fld := ⟨A.PWR_WAKE_CFG, 4, 4⟩
def PWR_WAKE_CFG_VMAIN_RET : Fld := ⟨A.PWR_WAKE_CFG, 8, 1⟩
def PWR_WAKE_CFG_AT_EN : Fld := ⟨A.PWR_WAKE_CFG, 9, 1⟩
def PWR_WAKE_STAT_LEVEL : Fld := ⟨A.PWR_WAKE_STAT, 0, 4⟩
def PWR_WAKE_STAT_ARMED : Fld := ⟨A.PWR_WAKE_STAT, 4, 4⟩
def PWR_WAKE_STAT_PENDING : Fld := ⟨A.PWR_WAKE_STAT, 8, 1⟩
def PWR_WAKE_STAT_SEEN : Fld := ⟨A.PWR_WAKE_STAT, 16, 4⟩
def PWR_WAKE_AT_HI_HI : Fld := ⟨A.PWR_WAKE_AT_HI, 0, 16⟩
def PWR_WAKE_AT_LO_HI : Fld := ⟨A.PWR_WAKE_AT_LO, 0, 16⟩
def PWR_TCLK_STAT_VALID : Fld := ⟨A.PWR_TCLK_STAT, 0, 1⟩
def PWR_TCLK_STAT_LEARNED : Fld := ⟨A.PWR_TCLK_STAT, 1, 1⟩
def PWR_TCLK_STAT_ON_VBAT : Fld := ⟨A.PWR_TCLK_STAT, 2, 1⟩
def PWR_TCLK_CFG_C2 : Fld := ⟨A.PWR_TCLK_CFG, 0, 16⟩
def PWR_TCLK_CFG_TX : Fld := ⟨A.PWR_TCLK_CFG, 16, 16⟩
def PWR_ANCHOR_INFO_ERA : Fld := ⟨A.PWR_ANCHOR_INFO, 0, 16⟩
def PWR_ANCHOR_INFO_KIND : Fld := ⟨A.PWR_ANCHOR_INFO, 16, 1⟩
def HIF_PORT_STAT_OWNER : Fld := ⟨A.HIF_PORT_STAT, 0, 2⟩
def HIF_PORT_STAT_HELD : Fld := ⟨A.HIF_PORT_STAT, 2, 1⟩
def HIF_PORT_STAT_HOLDER : Fld := ⟨A.HIF_PORT_STAT, 3, 1⟩
def HIF_PORT_STAT_REMAIN : Fld := ⟨A.HIF_PORT_STAT, 8, 7⟩
def HIF_PORT_STAT_EXPIRED_SEEN : Fld := ⟨A.HIF_PORT_STAT, 16, 1⟩
def HIF_PORT_STAT_CRC_SEEN : Fld := ⟨A.HIF_PORT_STAT, 17, 1⟩
def HIF_TW_CTL_PEC_EN : Fld := ⟨A.HIF_TW_CTL, 0, 1⟩
def HIF_TW_CTL_TMO_EN : Fld := ⟨A.HIF_TW_CTL, 1, 1⟩
def HIF_TW_CTL_ADDR : Fld := ⟨A.HIF_TW_CTL, 8, 7⟩
def HIF_SPI_CNT_A_DONE : Fld := ⟨A.HIF_SPI_CNT_A, 0, 16⟩
def HIF_SPI_CNT_A_BUSY : Fld := ⟨A.HIF_SPI_CNT_A, 16, 16⟩
def HIF_SPI_CNT_B_CRC_ERR : Fld := ⟨A.HIF_SPI_CNT_B, 0, 16⟩
def HIF_SPI_CNT_B_REFUSED : Fld := ⟨A.HIF_SPI_CNT_B, 16, 16⟩
def HIF_TW_CNT_A_DONE : Fld := ⟨A.HIF_TW_CNT_A, 0, 16⟩
def HIF_TW_CNT_A_NACKED : Fld := ⟨A.HIF_TW_CNT_A, 16, 16⟩
def HIF_TW_CNT_B_PEC_ERR : Fld := ⟨A.HIF_TW_CNT_B, 0, 16⟩
def HIF_TW_CNT_B_REFUSED : Fld := ⟨A.HIF_TW_CNT_B, 16, 16⟩
def HIF_CLAIM_CNT_TAKEN : Fld := ⟨A.HIF_CLAIM_CNT, 0, 8⟩
def HIF_CLAIM_CNT_REFUSED : Fld := ⟨A.HIF_CLAIM_CNT, 8, 8⟩
def HIF_CLAIM_CNT_EXPIRED : Fld := ⟨A.HIF_CLAIM_CNT, 16, 8⟩
def HIF_CLAIM_CNT_MISMATCH : Fld := ⟨A.HIF_CLAIM_CNT, 24, 8⟩
def HIF_BB_CTL_EN : Fld := ⟨A.HIF_BB_CTL, 0, 1⟩
def HIF_BB_CTL_SPEED : Fld := ⟨A.HIF_BB_CTL, 1, 2⟩
def HIF_BB_WR_ADDR_ADDR0 : Fld := ⟨A.HIF_BB_WR_ADDR, 0, 7⟩
def HIF_BB_WR_ADDR_EN0 : Fld := ⟨A.HIF_BB_WR_ADDR, 7, 1⟩
def HIF_BB_WR_ADDR_ADDR1 : Fld := ⟨A.HIF_BB_WR_ADDR, 8, 7⟩
def HIF_BB_WR_ADDR_EN1 : Fld := ⟨A.HIF_BB_WR_ADDR, 15, 1⟩
def HIF_BB_CMD_KIND : Fld := ⟨A.HIF_BB_CMD, 0, 2⟩
def HIF_BB_CMD_ADDR : Fld := ⟨A.HIF_BB_CMD, 8, 7⟩
def HIF_BB_CMD_OFFSET : Fld := ⟨A.HIF_BB_CMD, 16, 8⟩
def HIF_BB_CMD_LEN : Fld := ⟨A.HIF_BB_CMD, 24, 8⟩
def HIF_BB_STAT_STATE : Fld := ⟨A.HIF_BB_STAT, 0, 3⟩
def HIF_BB_STAT_LOSSES : Fld := ⟨A.HIF_BB_STAT, 8, 4⟩
def HIF_BB_STAT_BYTES : Fld := ⟨A.HIF_BB_STAT, 16, 8⟩
def HIF_BB_STAT_ARB_SEEN : Fld := ⟨A.HIF_BB_STAT, 24, 1⟩
def HIF_BB_STAT_FAIL_SEEN : Fld := ⟨A.HIF_BB_STAT, 25, 1⟩
def HIF_BB_CNT_JOBS : Fld := ⟨A.HIF_BB_CNT, 0, 16⟩
def HIF_BB_CNT_ARB_LOSSES : Fld := ⟨A.HIF_BB_CNT, 16, 16⟩
def HIF_RESET_INFO_KIND : Fld := ⟨A.HIF_RESET_INFO, 0, 2⟩
def HIF_RESET_INFO_COLD_CNT : Fld := ⟨A.HIF_RESET_INFO, 8, 8⟩
def HIF_RESET_INFO_WARM_CNT : Fld := ⟨A.HIF_RESET_INFO, 16, 16⟩
def HIF_ALIAS_WORD (i : Nat) : Fld := ⟨A.HIF_ALIAS i, 0, 8⟩
def HIF_ALIAS_BANK (i : Nat) : Fld := ⟨A.HIF_ALIAS i, 8, 5⟩
def HIF_ALIAS_EN (i : Nat) : Fld := ⟨A.HIF_ALIAS i, 31, 1⟩
def EVT_IRQ_CTL_A_EN : Fld := ⟨A.EVT_IRQ_CTL, 0, 1⟩
def EVT_IRQ_CTL_B_EN : Fld := ⟨A.EVT_IRQ_CTL, 1, 1⟩
def EVT_IRQ_CTL_PULSE_A : Fld := ⟨A.EVT_IRQ_CTL, 4, 1⟩
def EVT_IRQ_CTL_PULSE_B : Fld := ⟨A.EVT_IRQ_CTL, 5, 1⟩
def EVT_IRQ_STAT_A_LOW : Fld := ⟨A.EVT_IRQ_STAT, 0, 1⟩
def EVT_IRQ_STAT_B_LOW : Fld := ⟨A.EVT_IRQ_STAT, 1, 1⟩
def EVT_LAST_EVENT : Fld := ⟨A.EVT_LAST, 0, 7⟩
def EVT_LAST_CAUSE : Fld := ⟨A.EVT_LAST, 8, 6⟩
def OBS_CTL_EN : Fld := ⟨A.OBS_CTL, 0, 1⟩
def OBS_CTL_KINDS : Fld := ⟨A.OBS_CTL, 3, 9⟩
def OBS_CTL_OUT_LOG2 : Fld := ⟨A.OBS_CTL, 16, 4⟩
def OBS_STAT_RUNNING : Fld := ⟨A.OBS_STAT, 0, 1⟩
def OBS_STAT_LOST_SEEN : Fld := ⟨A.OBS_STAT, 8, 1⟩
def OBS_STAT_LEVEL : Fld := ⟨A.OBS_STAT, 16, 11⟩
def OBS_OUT_MASK_PORTS : Fld := ⟨A.OBS_OUT_MASK, 24, 4⟩
def STR_STAT_F0_SET : Fld := ⟨A.STR_STAT, 0, 1⟩
def STR_STAT_F3_SET : Fld := ⟨A.STR_STAT, 1, 1⟩
def STR_STAT_F0_OWNER : Fld := ⟨A.STR_STAT, 2, 1⟩
def STR_STAT_ARMED : Fld := ⟨A.STR_STAT, 3, 1⟩
def STR_STAT_PEND_VALID : Fld := ⟨A.STR_STAT, 4, 1⟩
def STR_STAT_LEAP_PENDING : Fld := ⟨A.STR_STAT, 5, 1⟩
def STR_STAT_IN_SMEAR : Fld := ⟨A.STR_STAT, 6, 1⟩
def STR_STAT_PEND_HELD : Fld := ⟨A.STR_STAT, 7, 1⟩
def STR_STAT_STEP_REFUSED : Fld := ⟨A.STR_STAT, 8, 1⟩
def STR_STAT_RATE_REFUSED : Fld := ⟨A.STR_STAT, 9, 1⟩
def STR_PEND_CTL_FACE : Fld := ⟨A.STR_PEND_CTL, 0, 1⟩
def STR_LAST_REFUSED_INFO_FACE : Fld := ⟨A.STR_LAST_REFUSED_INFO, 0, 1⟩
def STR_LAST_REFUSED_INFO_SOURCE : Fld := ⟨A.STR_LAST_REFUSED_INFO, 1, 2⟩
def STR_LAST_REFUSED_INFO_KIND : Fld := ⟨A.STR_LAST_REFUSED_INFO, 3, 1⟩
def STR_LEAP_CTL_LEAP : Fld := ⟨A.STR_LEAP_CTL, 0, 2⟩
def STR_LEAP_CTL_SMEAR_EN : Fld := ⟨A.STR_LEAP_CTL, 4, 1⟩
def STR_LEAP_CTL_LEAP_DONE : Fld := ⟨A.STR_LEAP_CTL, 8, 1⟩
def TB_STAT_WARM : Fld := ⟨A.TB_STAT, 0, 1⟩
def TB_STAT_OVEN_ON : Fld := ⟨A.TB_STAT, 1, 1⟩
def TB_STAT_T_INBAND : Fld := ⟨A.TB_STAT, 2, 1⟩
def TB_STAT_FREQ_SETTLED : Fld := ⟨A.TB_STAT, 3, 1⟩
def TB_STAT_PLL_LOCK : Fld := ⟨A.TB_STAT, 4, 1⟩
def TB_STAT_DRAINING : Fld := ⟨A.TB_STAT, 5, 1⟩
def TB_STAT_TALLY_RUN : Fld := ⟨A.TB_STAT, 6, 1⟩
def TB_STAT_TIM_REF_ACTIVE : Fld := ⟨A.TB_STAT, 7, 1⟩
def TB_STAT_OVEN_FAULT : Fld := ⟨A.TB_STAT, 8, 3⟩
def TB_STAT_FAULT_SEEN : Fld := ⟨A.TB_STAT, 16, 1⟩
def TB_STAT_UNLOCK_SEEN : Fld := ⟨A.TB_STAT, 17, 1⟩
def TB_STAT_SLIP_SEEN : Fld := ⟨A.TB_STAT, 18, 1⟩
def TB_STAT_SUSPECT_SEEN : Fld := ⟨A.TB_STAT, 19, 1⟩
def TB_STAT_REF_SEEN : Fld := ⟨A.TB_STAT, 20, 1⟩
def TB_CTL_OVEN_EN : Fld := ⟨A.TB_CTL, 0, 1⟩
def TB_CTL_SETTLE_REF : Fld := ⟨A.TB_CTL, 1, 1⟩
def TB_CTL_TIM_REF_EN : Fld := ⟨A.TB_CTL, 2, 1⟩
def TB_CTL_TIM_REF_SRC : Fld := ⟨A.TB_CTL, 4, 4⟩
def VC_Vn_CTL_EN (n : Nat) : Fld := ⟨A.VC_Vn_CTL n, 0, 1⟩
def VC_Vn_CTL_QEN (n : Nat) : Fld := ⟨A.VC_Vn_CTL n, 1, 1⟩
def VC_Vn_CTL_EDGE (n : Nat) : Fld := ⟨A.VC_Vn_CTL n, 2, 2⟩
def VC_Vn_CTL_PRESC (n : Nat) : Fld := ⟨A.VC_Vn_CTL n, 4, 4⟩
def VC_Vn_CTL_COUPLE (n : Nat) : Fld := ⟨A.VC_Vn_CTL n, 8, 1⟩
def VC_Vn_CTL_THRESH (n : Nat) : Fld := ⟨A.VC_Vn_CTL n, 9, 6⟩
def VC_Vn_CTL_SRC (n : Nat) : Fld := ⟨A.VC_Vn_CTL n, 15, 1⟩
def VC_Vn_CTL_LOOP_OUT (n : Nat) : Fld := ⟨A.VC_Vn_CTL n, 16, 4⟩
def VC_Vn_STAT_ACTIVE (n : Nat) : Fld := ⟨A.VC_Vn_STAT n, 0, 1⟩
def VC_Vn_STAT_DRAINING (n : Nat) : Fld := ⟨A.VC_Vn_STAT n, 1, 1⟩
def VC_Vn_STAT_LEVEL (n : Nat) : Fld := ⟨A.VC_Vn_STAT n, 2, 1⟩
def VC_Vn_STAT_IDLE (n : Nat) : Fld := ⟨A.VC_Vn_STAT n, 3, 1⟩
def VC_Vn_STAT_TABLE_VALID (n : Nat) : Fld := ⟨A.VC_Vn_STAT n, 4, 1⟩
def VC_Vn_STAT_LOOPED (n : Nat) : Fld := ⟨A.VC_Vn_STAT n, 5, 1⟩
def VC_Vn_STAT_RANGE_SEEN (n : Nat) : Fld := ⟨A.VC_Vn_STAT n, 8, 1⟩
def VC_Vn_STAT_OVF_SEEN (n : Nat) : Fld := ⟨A.VC_Vn_STAT n, 9, 1⟩
def VC_Vn_STAT_VERN_OVR_SEEN (n : Nat) : Fld := ⟨A.VC_Vn_STAT n, 10, 1⟩
def VC_Vn_STAT_IDLE_SEEN (n : Nat) : Fld := ⟨A.VC_Vn_STAT n, 11, 1⟩
def VC_Vn_STAT_LATE_SEEN (n : Nat) : Fld := ⟨A.VC_Vn_STAT n, 12, 1⟩
def VCAL_Vn_CAL_CTL_RUN (n : Nat) : Fld := ⟨A.VCAL_Vn_CAL_CTL n, 0, 1⟩
def VCAL_Vn_CAL_CTL_TRIM_ONLY (n : Nat) : Fld := ⟨A.VCAL_Vn_CAL_CTL n, 1, 1⟩
def VCAL_Vn_CAL_CTL_DISCARD (n : Nat) : Fld := ⟨A.VCAL_Vn_CAL_CTL n, 2, 1⟩
def VCAL_Vn_CAL_CTL_SRC (n : Nat) : Fld := ⟨A.VCAL_Vn_CAL_CTL n, 4, 1⟩
def VCAL_Vn_CAL_CTL_AUTO_EN (n : Nat) : Fld := ⟨A.VCAL_Vn_CAL_CTL n, 8, 1⟩
def VCAL_Vn_CAL_STAT_BUSY (n : Nat) : Fld := ⟨A.VCAL_Vn_CAL_STAT n, 0, 1⟩
def VCAL_Vn_CAL_STAT_DUE (n : Nat) : Fld := ⟨A.VCAL_Vn_CAL_STAT n, 1, 1⟩
def VCAL_Vn_CAL_STAT_DEFERRED (n : Nat) : Fld := ⟨A.VCAL_Vn_CAL_STAT n, 2, 1⟩
def VCAL_Vn_CAL_STAT_DUE_AGE (n : Nat) : Fld := ⟨A.VCAL_Vn_CAL_STAT n, 3, 1⟩
def VCAL_Vn_CAL_STAT_DUE_TEMP (n : Nat) : Fld := ⟨A.VCAL_Vn_CAL_STAT n, 4, 1⟩
def VCAL_Vn_CAL_STAT_ABORT_SEEN (n : Nat) : Fld := ⟨A.VCAL_Vn_CAL_STAT n, 8, 1⟩
def VCAL_Vn_CAL_STAT_DONE_SEEN (n : Nat) : Fld := ⟨A.VCAL_Vn_CAL_STAT n, 9, 1⟩
def VCAL_DLL_LOCKED (i : Nat) : Fld := ⟨A.VCAL_DLL i, 0, 1⟩
def VCAL_DLL_REASON (i : Nat) : Fld := ⟨A.VCAL_DLL i, 1, 3⟩
def VCAL_DLL_LOST_SEEN (i : Nat) : Fld := ⟨A.VCAL_DLL i, 8, 1⟩
def VCAL_DLL_CODE (i : Nat) : Fld := ⟨A.VCAL_DLL i, 16, 8⟩
def REFM_Sn_CTL_EN (n : Nat) : Fld := ⟨A.REFM_Sn_CTL n, 0, 1⟩
def REFM_Sn_CTL_KIND (n : Nat) : Fld := ⟨A.REFM_Sn_CTL n, 1, 2⟩
def REFM_Sn_CTL_SW_POL (n : Nat) : Fld := ⟨A.REFM_Sn_CTL n, 3, 1⟩
def REFM_Sn_CTL_QSRC (n : Nat) : Fld := ⟨A.REFM_Sn_CTL n, 4, 2⟩
def REFM_Sn_CTL_QL_FIXED (n : Nat) : Fld := ⟨A.REFM_Sn_CTL n, 8, 4⟩
def REFM_Sn_CTL_QL_FORCE (n : Nat) : Fld := ⟨A.REFM_Sn_CTL n, 12, 1⟩
def REFM_Sn_CTL_INTEG_EN (n : Nat) : Fld := ⟨A.REFM_Sn_CTL n, 13, 1⟩
def REFM_Sn_CTL_SYNCE_EN (n : Nat) : Fld := ⟨A.REFM_Sn_CTL n, 14, 1⟩
def REFM_Sn_CTL_ONTIME_POL (n : Nat) : Fld := ⟨A.REFM_Sn_CTL n, 15, 1⟩
def REFM_Sn_STAT_STATE (n : Nat) : Fld := ⟨A.REFM_Sn_STAT n, 0, 2⟩
def REFM_Sn_STAT_USABLE (n : Nat) : Fld := ⟨A.REFM_Sn_STAT n, 2, 1⟩
def REFM_Sn_STAT_ELIGIBLE (n : Nat) : Fld := ⟨A.REFM_Sn_STAT n, 3, 1⟩
def REFM_Sn_STAT_WTR_RUN (n : Nat) : Fld := ⟨A.REFM_Sn_STAT n, 4, 1⟩
def REFM_Sn_STAT_TOD_VALID (n : Nat) : Fld := ⟨A.REFM_Sn_STAT n, 5, 1⟩
def REFM_Sn_STAT_LOOPED (n : Nat) : Fld := ⟨A.REFM_Sn_STAT n, 6, 1⟩
def REFM_Sn_STAT_CAL_HOLD (n : Nat) : Fld := ⟨A.REFM_Sn_STAT n, 7, 1⟩
def REFM_Sn_STAT_ANT_FAULT (n : Nat) : Fld := ⟨A.REFM_Sn_STAT n, 8, 1⟩
def REFM_Sn_STAT_SETTLING (n : Nat) : Fld := ⟨A.REFM_Sn_STAT n, 9, 1⟩
def REFM_Sn_STAT_STUCK_LVL (n : Nat) : Fld := ⟨A.REFM_Sn_STAT n, 10, 1⟩
def REFM_Sn_STAT_LOS_SEEN (n : Nat) : Fld := ⟨A.REFM_Sn_STAT n, 16, 1⟩
def REFM_Sn_STAT_STUCK_SEEN (n : Nat) : Fld := ⟨A.REFM_Sn_STAT n, 17, 1⟩
def REFM_Sn_STAT_PERIOD_SEEN (n : Nat) : Fld := ⟨A.REFM_Sn_STAT n, 18, 1⟩
def REFM_Sn_STAT_WIDTH_SEEN (n : Nat) : Fld := ⟨A.REFM_Sn_STAT n, 19, 1⟩
def REFM_Sn_STAT_DNU_SEEN (n : Nat) : Fld := ⟨A.REFM_Sn_STAT n, 20, 1⟩
def REFM_Sn_STAT_SUSPECT_SEEN (n : Nat) : Fld := ⟨A.REFM_Sn_STAT n, 21, 1⟩
def REFM_Sn_STAT_FAIL_SEEN (n : Nat) : Fld := ⟨A.REFM_Sn_STAT n, 22, 1⟩
def REFM_Sn_STAT_TOD_SEEN (n : Nat) : Fld := ⟨A.REFM_Sn_STAT n, 23, 1⟩
def REFM_Sn_STAT_ANT_SEEN (n : Nat) : Fld := ⟨A.REFM_Sn_STAT n, 24, 1⟩
def REFM_Sn_STAT_SWITCH_REFUSED_SEEN (n : Nat) : Fld := ⟨A.REFM_Sn_STAT n, 25, 1⟩
def REFM_Sn_STAT_DRAIN_SEEN (n : Nat) : Fld := ⟨A.REFM_Sn_STAT n, 26, 1⟩
def SRV_STAT_STATE : Fld := ⟨A.SRV_STAT, 0, 3⟩
def SRV_STAT_CAUSE : Fld := ⟨A.SRV_STAT, 3, 1⟩
def SRV_STAT_EST_VALID : Fld := ⟨A.SRV_STAT, 4, 1⟩
def SRV_STAT_PRED_OK : Fld := ⟨A.SRV_STAT, 5, 1⟩
def SRV_STAT_BW_CLAMPED : Fld := ⟨A.SRV_STAT, 6, 1⟩
def SRV_STAT_CLAMP_SEEN : Fld := ⟨A.SRV_STAT, 8, 1⟩
def SRV_STAT_JUMP_SEEN : Fld := ⟨A.SRV_STAT, 9, 1⟩
def SRV_STAT_BUDGET_SEEN : Fld := ⟨A.SRV_STAT, 10, 1⟩
def SRV_STAT_STALE_SEEN : Fld := ⟨A.SRV_STAT, 11, 1⟩
def SRV_CTL_BW : Fld := ⟨A.SRV_CTL, 0, 4⟩
def SRV_CTL_DAMP : Fld := ⟨A.SRV_CTL, 4, 1⟩
def SRV_CTL_ACQ_STEP : Fld := ⟨A.SRV_CTL, 5, 1⟩
def SRV_CTL_HO_EXIT : Fld := ⟨A.SRV_CTL, 6, 1⟩
def SRV_CTL_HO_SAFE : Fld := ⟨A.SRV_CTL, 7, 1⟩
def SRV_CTL_PRED_EN : Fld := ⟨A.SRV_CTL, 8, 1⟩
def PCR_OUTn_CTL_EN (n : Nat) : Fld := ⟨A.PCR_OUTn_CTL n, 0, 1⟩
def PCR_OUTn_CTL_KIND (n : Nat) : Fld := ⟨A.PCR_OUTn_CTL n, 1, 2⟩
def PCR_OUTn_CTL_FACE (n : Nat) : Fld := ⟨A.PCR_OUTn_CTL n, 3, 2⟩
def PCR_OUTn_CTL_POLICY (n : Nat) : Fld := ⟨A.PCR_OUTn_CTL n, 5, 2⟩
def PCR_OUTn_CTL_INV (n : Nat) : Fld := ⟨A.PCR_OUTn_CTL n, 7, 1⟩
def PCR_OUTn_CTL_SLOT (n : Nat) : Fld := ⟨A.PCR_OUTn_CTL n, 8, 4⟩
def PCR_OUTn_CTL_FRATE (n : Nat) : Fld := ⟨A.PCR_OUTn_CTL n, 12, 4⟩
def PCR_OUTn_CTL_SQ_UNSET (n : Nat) : Fld := ⟨A.PCR_OUTn_CTL n, 16, 1⟩
def PCR_OUTn_CTL_SQ_BUDGET (n : Nat) : Fld := ⟨A.PCR_OUTn_CTL n, 17, 1⟩
def PCR_OUTn_CTL_SQ_HOST (n : Nat) : Fld := ⟨A.PCR_OUTn_CTL n, 18, 1⟩
def PCR_OUTn_CTL_ELEC (n : Nat) : Fld := ⟨A.PCR_OUTn_CTL n, 20, 2⟩
def PCR_OUTn_STAT_ACTIVE (n : Nat) : Fld := ⟨A.PCR_OUTn_STAT n, 0, 1⟩
def PCR_OUTn_STAT_SQUELCHED (n : Nat) : Fld := ⟨A.PCR_OUTn_STAT n, 1, 1⟩
def PCR_OUTn_STAT_DRAINING (n : Nat) : Fld := ⟨A.PCR_OUTn_STAT n, 2, 1⟩
def PCR_OUTn_STAT_SLEWING (n : Nat) : Fld := ⟨A.PCR_OUTn_STAT n, 3, 1⟩
def PCR_OUTn_STAT_ONESHOT_STATE (n : Nat) : Fld := ⟨A.PCR_OUTn_STAT n, 4, 2⟩
def PCR_OUTn_STAT_FOLLOW_OK (n : Nat) : Fld := ⟨A.PCR_OUTn_STAT n, 6, 1⟩
def PCR_OUTn_STAT_SKIP_SEEN (n : Nat) : Fld := ⟨A.PCR_OUTn_STAT n, 8, 1⟩
def PCR_OUTn_STAT_MISSED_SEEN (n : Nat) : Fld := ⟨A.PCR_OUTn_STAT n, 9, 1⟩
def PCR_OUTn_STAT_JUMP_SEEN (n : Nat) : Fld := ⟨A.PCR_OUTn_STAT n, 10, 1⟩
def PCR_OUTn_STAT_LOST_SEEN (n : Nat) : Fld := ⟨A.PCR_OUTn_STAT n, 11, 1⟩
def PCR_OUTn_STAT_MIS_SEEN (n : Nat) : Fld := ⟨A.PCR_OUTn_STAT n, 12, 1⟩
def PCR_OUTn_STAT_CAUSE (n : Nat) : Fld := ⟨A.PCR_OUTn_STAT n, 16, 6⟩
def MAC_CTL_EN (p : Nat) : Fld := ⟨A.MAC_CTL p, 0, 1⟩
def MAC_CTL_SPEED (p : Nat) : Fld := ⟨A.MAC_CTL p, 1, 2⟩
def MAC_CTL_FEC (p : Nat) : Fld := ⟨A.MAC_CTL p, 3, 1⟩
def MAC_CTL_AN37 (p : Nat) : Fld := ⟨A.MAC_CTL p, 4, 1⟩
def MAC_CTL_RX_PAUSE (p : Nat) : Fld := ⟨A.MAC_CTL p, 5, 1⟩
def MAC_CTL_TX_PAUSE (p : Nat) : Fld := ⟨A.MAC_CTL p, 6, 1⟩
def MAC_STAT_LINK_UP (p : Nat) : Fld := ⟨A.MAC_STAT p, 0, 1⟩
def MAC_STAT_TS_SETTLING (p : Nat) : Fld := ⟨A.MAC_STAT p, 1, 1⟩
def MAC_STAT_DRAINING (p : Nat) : Fld := ⟨A.MAC_STAT p, 2, 1⟩
def MAC_STAT_PCS_LOCK (p : Nat) : Fld := ⟨A.MAC_STAT p, 3, 1⟩
def MAC_STAT_HI_BER (p : Nat) : Fld := ⟨A.MAC_STAT p, 4, 1⟩
def MAC_STAT_REMOTE_FAULT (p : Nat) : Fld := ⟨A.MAC_STAT p, 5, 1⟩
def MAC_STAT_XOFF (p : Nat) : Fld := ⟨A.MAC_STAT p, 6, 1⟩
def MAC_STAT_PAUSED (p : Nat) : Fld := ⟨A.MAC_STAT p, 7, 1⟩
def MAC_STAT_AN_DONE (p : Nat) : Fld := ⟨A.MAC_STAT p, 8, 1⟩
def MAC_STAT_HOLDING (p : Nat) : Fld := ⟨A.MAC_STAT p, 9, 1⟩
def MAC_STAT_DOWN_SEEN (p : Nat) : Fld := ⟨A.MAC_STAT p, 16, 1⟩
def MAC_STAT_DROP_SEEN (p : Nat) : Fld := ⟨A.MAC_STAT p, 17, 1⟩
def MAC_STAT_FCS_SEEN (p : Nat) : Fld := ⟨A.MAC_STAT p, 18, 1⟩
def MAC_STAT_PAUSE_RX_SEEN (p : Nat) : Fld := ⟨A.MAC_STAT p, 19, 1⟩
def MAC_STAT_XOFF_SEEN (p : Nat) : Fld := ⟨A.MAC_STAT p, 20, 1⟩
def MAC_STAT_GONE_SEEN (p : Nat) : Fld := ⟨A.MAC_STAT p, 21, 1⟩
def MAC_IFe_CTL_EN (p : Nat) (e : Nat) : Fld := ⟨A.MAC_IFe_CTL p e, 0, 1⟩
def MAC_IFe_CTL_TAGGED (p : Nat) (e : Nat) : Fld := ⟨A.MAC_IFe_CTL p e, 1, 1⟩
def MAC_IFe_CTL_V4_EN (p : Nat) (e : Nat) : Fld := ⟨A.MAC_IFe_CTL p e, 2, 1⟩
def MAC_IFe_CTL_V6_EN (p : Nat) (e : Nat) : Fld := ⟨A.MAC_IFe_CTL p e, 3, 1⟩
def MAC_IFe_CTL_PCP (p : Nat) (e : Nat) : Fld := ⟨A.MAC_IFe_CTL p e, 4, 3⟩
def MAC_IFe_CTL_VID (p : Nat) (e : Nat) : Fld := ⟨A.MAC_IFe_CTL p e, 16, 12⟩
def MAC_TS_CTL_RELAY_EN (p : Nat) : Fld := ⟨A.MAC_TS_CTL p, 0, 1⟩
def MAC_TS_CTL_DEV_SAFE (p : Nat) : Fld := ⟨A.MAC_TS_CTL p, 1, 1⟩
def MAC_TS_CTL_ADAPT (p : Nat) : Fld := ⟨A.MAC_TS_CTL p, 2, 1⟩
def MAC_TS_CTL_RELAY_MASK (p : Nat) : Fld := ⟨A.MAC_TS_CTL p, 4, 4⟩
def MAC_TS_STAT_LAT_VALID (p : Nat) : Fld := ⟨A.MAC_TS_STAT p, 0, 1⟩
def MAC_TS_STAT_CAL_BUSY (p : Nat) : Fld := ⟨A.MAC_TS_STAT p, 1, 1⟩
def MAC_TS_STAT_DEV_SEEN (p : Nat) : Fld := ⟨A.MAC_TS_STAT p, 8, 1⟩
def MAC_TS_STAT_MISS_SEEN (p : Nat) : Fld := ⟨A.MAC_TS_STAT p, 9, 1⟩
def MAC_TS_STAT_CAL_ABORT_SEEN (p : Nat) : Fld := ⟨A.MAC_TS_STAT p, 10, 1⟩
def MAC_TS_STAT_SLOW_SEEN (p : Nat) : Fld := ⟨A.MAC_TS_STAT p, 11, 1⟩
def MAC_TS_STAT_NO_SLOT_SEEN (p : Nat) : Fld := ⟨A.MAC_TS_STAT p, 12, 1⟩
def PIPE_CTL_EN : Fld := ⟨A.PIPE_CTL, 0, 1⟩
def PIPE_CTL_HK_ARP : Fld := ⟨A.PIPE_CTL, 4, 1⟩
def PIPE_CTL_HK_ND : Fld := ⟨A.PIPE_CTL, 5, 1⟩
def PIPE_CTL_HK_ECHO4 : Fld := ⟨A.PIPE_CTL, 6, 1⟩
def PIPE_CTL_HK_ECHO6 : Fld := ⟨A.PIPE_CTL, 7, 1⟩
def PIPE_STAT_ACTIVE : Fld := ⟨A.PIPE_STAT, 0, 1⟩
def PIPE_STAT_DRAINING : Fld := ⟨A.PIPE_STAT, 1, 1⟩
def PIPE_STAT_CTX_FULL : Fld := ⟨A.PIPE_STAT, 2, 1⟩
def PIPE_STAT_LEVEL : Fld := ⟨A.PIPE_STAT, 4, 2⟩
def PIPE_STAT_CTX_FULL_SEEN : Fld := ⟨A.PIPE_STAT, 8, 1⟩
def PIPE_STAT_VOID_SEEN : Fld := ⟨A.PIPE_STAT, 9, 1⟩
def PIPE_STAT_EXPIRED_SEEN : Fld := ⟨A.PIPE_STAT, 10, 1⟩
def PIPE_STAT_MBX_FULL_SEEN : Fld := ⟨A.PIPE_STAT, 11, 1⟩
def PIPE_STAT_HK_LIMIT_SEEN : Fld := ⟨A.PIPE_STAT, 12, 1⟩
def PTP_Pp_CTL_EN (p : Nat) : Fld := ⟨A.PTP_Pp_CTL p, 0, 1⟩
def PTP_Pp_CTL_ROLE (p : Nat) : Fld := ⟨A.PTP_Pp_CTL p, 1, 2⟩
def PTP_Pp_CTL_TRANSPORT (p : Nat) : Fld := ⟨A.PTP_Pp_CTL p, 4, 2⟩
def PTP_Pp_CTL_IF (p : Nat) : Fld := ⟨A.PTP_Pp_CTL p, 8, 3⟩
def PTP_Pp_CTL_MCAST_EN (p : Nat) : Fld := ⟨A.PTP_Pp_CTL p, 11, 1⟩
def PTP_Pp_CTL_MIXED_EN (p : Nat) : Fld := ⟨A.PTP_Pp_CTL p, 12, 1⟩
def PTP_Pp_CTL_UC_EN (p : Nat) : Fld := ⟨A.PTP_Pp_CTL p, 13, 1⟩
def PTP_Pp_CTL_UC_REQ (p : Nat) : Fld := ⟨A.PTP_Pp_CTL p, 14, 1⟩
def PTP_Pp_CTL_DELAY_AVG (p : Nat) : Fld := ⟨A.PTP_Pp_CTL p, 16, 4⟩
def NTP_CTL_EN : Fld := ⟨A.NTP_CTL, 0, 1⟩
def NTP_CTL_FACE : Fld := ⟨A.NTP_CTL, 1, 2⟩
def NTP_CTL_SAFE_SILENT : Fld := ⟨A.NTP_CTL, 3, 1⟩
def NTP_CTL_FREE_SYNC : Fld := ⟨A.NTP_CTL, 4, 1⟩
def ADM_CTL_EN : Fld := ⟨A.ADM_CTL, 0, 1⟩
def ADM_CTL_SCORE_EN : Fld := ⟨A.ADM_CTL, 1, 1⟩
def ADM_CTL_REFUSE : Fld := ⟨A.ADM_CTL, 2, 1⟩
def ADM_CTL_V6_KEY : Fld := ⟨A.ADM_CTL, 3, 1⟩
def ADM_CTL_NTS_COST : Fld := ⟨A.ADM_CTL, 8, 4⟩
def ARR_Aa_STAT_STATE (a : Nat) : Fld := ⟨A.ARR_Aa_STAT a, 0, 3⟩
def ARR_Aa_STAT_DEFER (a : Nat) : Fld := ⟨A.ARR_Aa_STAT a, 3, 1⟩
def ARR_Aa_STAT_DUE_TEMP (a : Nat) : Fld := ⟨A.ARR_Aa_STAT a, 4, 1⟩
def ARR_Aa_STAT_SAT_SEEN (a : Nat) : Fld := ⟨A.ARR_Aa_STAT a, 8, 1⟩
def ARR_Aa_STAT_STUCK_SEEN (a : Nat) : Fld := ⟨A.ARR_Aa_STAT a, 9, 1⟩
def ARR_Aa_STAT_RECAL_FAIL_SEEN (a : Nat) : Fld := ⟨A.ARR_Aa_STAT a, 10, 1⟩
def ARR_Aa_STAT_TV_FAIL_SEEN (a : Nat) : Fld := ⟨A.ARR_Aa_STAT a, 11, 1⟩
def ARR_Aa_STAT_FAIL_SEEN (a : Nat) : Fld := ⟨A.ARR_Aa_STAT a, 12, 1⟩
def ARR_Aa_STAT_ECC_SEEN (a : Nat) : Fld := ⟨A.ARR_Aa_STAT a, 13, 1⟩
def ARR_Dd_STAT_STATE (d : Nat) : Fld := ⟨A.ARR_Dd_STAT d, 0, 3⟩
def ARR_Dd_STAT_DEFER (d : Nat) : Fld := ⟨A.ARR_Dd_STAT d, 3, 1⟩
def ARR_Dd_STAT_DUE_TEMP (d : Nat) : Fld := ⟨A.ARR_Dd_STAT d, 4, 1⟩
def ARR_Dd_STAT_SAT_SEEN (d : Nat) : Fld := ⟨A.ARR_Dd_STAT d, 8, 1⟩
def ARR_Dd_STAT_STUCK_SEEN (d : Nat) : Fld := ⟨A.ARR_Dd_STAT d, 9, 1⟩
def ARR_Dd_STAT_RECAL_FAIL_SEEN (d : Nat) : Fld := ⟨A.ARR_Dd_STAT d, 10, 1⟩
def ARR_Dd_STAT_TV_FAIL_SEEN (d : Nat) : Fld := ⟨A.ARR_Dd_STAT d, 11, 1⟩
def ARR_Dd_STAT_FAIL_SEEN (d : Nat) : Fld := ⟨A.ARR_Dd_STAT d, 12, 1⟩
def ARR_Dd_STAT_ECC_SEEN (d : Nat) : Fld := ⟨A.ARR_Dd_STAT d, 13, 1⟩
def GRD_STAT_FSM : Fld := ⟨A.GRD_STAT, 0, 3⟩
def GRD_STAT_SAFE_REQ : Fld := ⟨A.GRD_STAT, 3, 1⟩
def GRD_STAT_LOCKED : Fld := ⟨A.GRD_STAT, 4, 1⟩
def GRD_STAT_THERMAL_ONLY : Fld := ⟨A.GRD_STAT, 5, 1⟩
def GRD_STAT_SAFE_PEND : Fld := ⟨A.GRD_STAT, 6, 1⟩
def GRD_STAT_RNG_OK : Fld := ⟨A.GRD_STAT, 7, 1⟩
def GRD_STAT_CW_SEEN : Fld := ⟨A.GRD_STAT, 8, 1⟩
def GRD_STAT_UNLOCK_SEEN : Fld := ⟨A.GRD_STAT, 9, 1⟩
def LDG_STAT_COUNT : Fld := ⟨A.LDG_STAT, 0, 13⟩
def LDG_STAT_NEAR : Fld := ⟨A.LDG_STAT, 13, 1⟩
def LDG_STAT_FULL : Fld := ⟨A.LDG_STAT, 14, 1⟩
def LDG_STAT_BUSY : Fld := ⟨A.LDG_STAT, 15, 1⟩
def LDG_STAT_QUEUED : Fld := ⟨A.LDG_STAT, 16, 6⟩
def LDG_STAT_QLOST_SEEN : Fld := ⟨A.LDG_STAT, 24, 1⟩
def PWR_STAT_SEQ : Fld := ⟨A.PWR_STAT, 0, 4⟩
def PWR_STAT_LEVEL_NOW : Fld := ⟨A.PWR_STAT, 4, 2⟩
def PWR_STAT_LEVEL_BUSY : Fld := ⟨A.PWR_STAT, 6, 1⟩
def PWR_STAT_CAPPED : Fld := ⟨A.PWR_STAT, 7, 1⟩
def PWR_STAT_REFUSED_SEEN : Fld := ⟨A.PWR_STAT, 8, 1⟩
def PWR_STAT_ABORT_SEEN : Fld := ⟨A.PWR_STAT, 9, 1⟩
def PWR_STAT_REG_FAULT_SEEN : Fld := ⟨A.PWR_STAT, 10, 1⟩
def PWR_STAT_RET_FAIL_SEEN : Fld := ⟨A.PWR_STAT, 11, 1⟩
def PWR_STAT_BROWNOUT_SEEN : Fld := ⟨A.PWR_STAT, 12, 1⟩
def PWR_SLEEP_STAT_NOW : Fld := ⟨A.PWR_SLEEP_STAT, 0, 2⟩
def PWR_SLEEP_STAT_TARGET : Fld := ⟨A.PWR_SLEEP_STAT, 2, 2⟩
def PWR_SLEEP_STAT_ENTERING : Fld := ⟨A.PWR_SLEEP_STAT, 4, 1⟩
def PWR_SLEEP_STAT_WAKING : Fld := ⟨A.PWR_SLEEP_STAT, 5, 1⟩
def PWR_SLEEP_STAT_ON_VBAT : Fld := ⟨A.PWR_SLEEP_STAT, 6, 1⟩
def PWR_SLEEP_STAT_LAST_WAKE : Fld := ⟨A.PWR_SLEEP_STAT, 8, 4⟩
def PWR_SLEEP_STAT_ENTRY_WAKE_SEEN : Fld := ⟨A.PWR_SLEEP_STAT, 16, 1⟩
def PWR_SLEEP_STAT_HANDOVER_SEEN : Fld := ⟨A.PWR_SLEEP_STAT, 17, 1⟩

end Sys2Proof.Machine.F
end

