-- ==== Sys2Proof/Machine/Ops.lean ====
section
/-! DEFINITION. The named operations over the state: registers and their fields, events, trace records, host ports,
free values, domains, arming. -/

namespace Sys2Proof

/-- The number of a host port: 0 SPI, 1 two-wire (R706). -/
def HostPort.code : HostPort → Nat
  | .spi => 0
  | .twoWire => 1

/-- The other host port. -/
def HostPort.other : HostPort → HostPort
  | .spi => .twoWire
  | .twoWire => .spi

/-- The code of a domain (R592). -/
def Domain.code : Domain → Nat
  | .aon => 0
  | .oven => 1
  | .time => 2
  | .out => 3
  | .net => 4
  | .pipe => 5
  | .array => 6
  | .host => 7

/-- The domain with a code. -/
def Domain.ofCode : Nat → Domain
  | 1 => .oven
  | 2 => .time
  | 3 => .out
  | 4 => .net
  | 5 => .pipe
  | 6 => .array
  | 7 => .host
  | _ => .aon

/-- The number of a regulator, in the order of the REG words. -/
def Regulator.code : Regulator → Nat
  | .core => 0
  | .tick => 1
  | .serdes => 2
  | .ana => 3
  | .aon => 4

/-- What a bank's arming consists of: the ARM_CODE and ARM words and the Ledger source of a mismatch (R708 table). -/
def ArmBank.codeWord : ArmBank → Nat
  | .tb => Machine.A.TB_ARM_CODE
  | .str => Machine.A.STR_ARM_CODE
  | .srv => Machine.A.SRV_ARM_CODE
  | .nts => Machine.A.NTS_ARM_CODE
  | .grd => Machine.A.GRD_ARM_CODE

/-- The Ledger source of a bank's arm mismatch. -/
def ArmBank.ledgerSrc : ArmBank → Nat
  | .tb => 33
  | .str => 32
  | .srv => 34
  | .nts => 36
  | .grd => 37

end Sys2Proof

namespace Sys2Proof.Machine

/-! ### Registers -/

/-- The word at `a`: what is listed, or its reset value. -/
def RegFile.get (r : RegFile) (a : Nat) : Word := (lookupKey a r).getD (resetWord a)

/-- The registers with `v` at `a`; a value equal to the reset value is not listed. -/
def RegFile.set (r : RegFile) (a : Nat) (v : Word) : RegFile :=
  if v = resetWord a then eraseKey a r else insertKey a v r

/-- The stored word at `a`. -/
def State.rd (s : State) (a : Nat) : Word := s.regs.get a

/-- The state with `v` stored at `a`. -/
def State.wr (s : State) (a : Nat) (v : Word) : State := { s with regs := s.regs.set a v }

/-- The stored word at `a` as a number. -/
def State.val (s : State) (a : Nat) : Nat := (s.rd a).toNat

/-- The state with `n` mod 2^32 stored at `a`. -/
def State.setVal (s : State) (a n : Nat) : State := s.wr a (wordOf n)

/-- The stored word at `a` read as a signed number. -/
def State.ival (s : State) (a : Nat) : Int := signedOf 32 (s.val a)

/-- The state with a signed number stored at `a`. -/
def State.setIval (s : State) (a : Nat) (i : Int) : State := s.wr a (wordOfInt i)

/-- The value of a field. -/
def State.get (s : State) (f : Fld) : Nat := bitsAt (s.val f.addr) f.lo f.width

/-- The state with a field set to `n`. -/
def State.put (s : State) (f : Fld) (n : Nat) : State :=
  s.setVal f.addr (withBits (s.val f.addr) f.lo f.width n)

/-- A field read as a flag: whether it is not 0. -/
def State.bit (s : State) (f : Fld) : Bool := s.get f != 0

/-- The state with a one-bit field set from a flag. -/
def State.setBit (s : State) (f : Fld) (b : Bool) : State := s.put f (flagVal b)

/-- The signed value of a field. -/
def State.getInt (s : State) (f : Fld) : Int := signedOf f.width (s.get f)

/-- A wrapping counter field, advanced by `k`. -/
def State.count (s : State) (f : Fld) (k : Nat) : State := s.put f (s.get f + k)

/-- A saturating counter field, advanced by `k`. -/
def State.countSat (s : State) (f : Fld) (k : Nat) : State :=
  s.put f (satAdd (2 ^ f.width - 1) (s.get f) k)

/-- A whole word as a field. -/
def wordFld (a : Nat) : Fld := ⟨a, 0, 32⟩

/-- The number that `k` words from `a` spell, most significant word first (R16). -/
def State.multi (s : State) (a : Nat) : Nat → Nat
  | 0 => 0
  | k + 1 => s.multi a k * 2 ^ 32 + s.val (a + k)

/-- The state with a number stored in `k` words from `a`, most significant word first. -/
def State.setMulti (s : State) (a n : Nat) : Nat → State
  | 0 => s
  | k + 1 => (s.setMulti a (n / 2 ^ 32) k).setVal (a + k) n

/-- A threshold descriptor held in three words from `a`. -/
def State.descriptor (s : State) (a : Nat) : Descriptor :=
  Descriptor.ofWords (s.rd a) (s.rd (a + 1)) (s.rd (a + 2))

/-! ### Events, free values, ports -/

/-- Raises an event in the present engine cycle (R720). -/
def State.raise (s : State) (e : EventId) : State := { s with raised := s.raised ++ [e] }

/-- Raises an event if `b` holds. -/
def State.raiseIf (s : State) (b : Bool) (e : EventId) : State := if b then s.raise e else s

/-- Applies `f` if `b` holds. -/
def State.when (s : State) (b : Bool) (f : State → State) : State := if b then f s else s

/-- Applies `f` for each element in turn. -/
def State.each {α : Type} (s : State) (l : List α) (f : α → State → State) : State :=
  l.foldl (fun t a => f a t) s

/-- The next free value: one the spec does not state. -/
def State.freeNat (s : State) : Nat := Config.freeValue s.draws

/-- The next signed free value. -/
def State.freeInt (s : State) : Int := Config.freeInt s.draws

/-- The state after a free value has been taken. -/
def State.drawn (s : State) : State := { s with draws := s.draws + 1 }

/-- What a host port holds. -/
def State.port (s : State) (p : HostPort) : PortState :=
  match p with
  | .spi => s.hif.spi
  | .twoWire => s.hif.tw

/-- The state with what a host port holds replaced. -/
def State.setPort (s : State) (p : HostPort) (x : PortState) : State :=
  match p with
  | .spi => { s with hif := { s.hif with spi := x } }
  | .twoWire => { s with hif := { s.hif with tw := x } }

/-- The word port `p` holds for a later HI write, if it has written one (R16). -/
def State.heldWord (s : State) (p : HostPort) (a : Nat) : Option Word := lookupKey a (s.port p).holds

/-- Holds a lower word for port `p`. -/
def State.hold (s : State) (p : HostPort) (a : Nat) (v : Word) : State :=
  s.setPort p { s.port p with holds := insertKey a v (s.port p).holds }

/-- Empties port `p`'s hold of the words listed. -/
def State.dropHolds (s : State) (p : HostPort) (as : List Nat) : State :=
  s.setPort p { s.port p with holds := as.foldl (fun l a => eraseKey a l) (s.port p).holds }

/-- The word port `p` latched at `a`, 0 if it has latched none (R16). -/
def State.latched (s : State) (p : HostPort) (a : Nat) : Word := (lookupKey a (s.port p).latches).getD 0

/-- Latches words for port `p`. -/
def State.latch (s : State) (p : HostPort) (ws : List (Nat × Word)) : State :=
  s.setPort p { s.port p with latches := ws.foldl (fun l w => insertKey w.1 w.2 l) (s.port p).latches }

/-! ### Domains and time -/

/-- The DOM_STAT field of a domain (R603): 0 OFF, 1 STARTING, 2 ON, 3 DRAINING. -/
def domField (d : Domain) : Fld := ⟨A.PWR_DOM_STAT, 2 * d.code, 2⟩

/-- The DOM_STAT code of a domain. -/
def State.dom (s : State) (d : Domain) : Nat := s.get (domField d)

/-- Whether a domain is up: its regulator on and its clamps released (R592). -/
def State.up (s : State) (d : Domain) : Bool := s.dom d ≥ 2

/-- Whether the Tally counts (R72). -/
def State.tallyRun (s : State) : Bool := s.bit F.TB_STAT_TALLY_RUN

/-- An effect inside a domain: it needs the domain up and its condition met; without them nothing happens. -/
def State.inside (s : State) (d : Domain) (ok : Bool) (f : State → State) : State := if s.up d && ok then f s else s

/-- The Tally's low word, 0 while TIME is down (R723, R733). -/
def State.tallyLow (s : State) : Word := if s.up .time then wordOf s.tally else 0

/-- The era counter. -/
def State.era (s : State) : Nat := s.val A.STR_ERA % 65536

/-- The transit clock in units of 2^-16 s (R639). -/
def State.tclk (s : State) : Nat := (s.pwr.tclk / 2 ^ 32) % 2 ^ 64

/-- The present tick, as AON tells it: the transit clock and the place in the crystal's cycles. It tells the commands of one
tick from those of another whatever domains are down. -/
def State.instant (s : State) : Nat × Nat := (s.pwr.tclk, s.pwr.aonPhase)

/-! ### Trace records -/

/-- Bits 19:0 of the Tally, 0 while TIME is down (R772, R775). -/
def State.tick (s : State) : Nat := if s.up .time then s.tally % 2 ^ 20 else 0

/-- Whether the trace port forms records of kind `k` now (R778, R782). -/
def State.traces (s : State) (k : Nat) : Bool :=
  s.up .host && bitOf s.obs.ctlNow.toNat 0 && (k < 3 || bitOf s.obs.ctlNow.toNat k)

/-- Forms a trace record (R773). -/
def State.trace (s : State) (k : Nat) (body : List Word) : State :=
  if s.traces k then
    { s with obs := { s.obs with batch := s.obs.batch ++ [{ kind := k, tick := s.tick, body := body }] } }
  else s

/-! ### Arming -/

/-- The arming of a bank, if it has one. -/
def State.arming (s : State) (b : ArmBank) : Option Arming :=
  match b with
  | .tb => s.arms.tb
  | .str => s.arms.str
  | .srv => s.arms.srv
  | .nts => s.arms.nts
  | .grd => s.arms.grd

/-- The state with a bank's arming replaced. -/
def State.setArming (s : State) (b : ArmBank) (x : Option Arming) : State :=
  match b with
  | .tb => { s with arms := { s.arms with tb := x } }
  | .str => { s with arms := { s.arms with str := x } }
  | .srv => { s with arms := { s.arms with srv := x } }
  | .nts => { s with arms := { s.arms with nts := x } }
  | .grd => { s with arms := { s.arms with grd := x } }

/-- The port that holds a bank's arming; none once its 100 ms are over (R39, R44). -/
def State.armedBy (s : State) (b : ArmBank) : Option HostPort :=
  match s.arming b with
  | none => none
  | some a =>
    match a.ends with
    | none => some a.port
    | some e => if s.tally < e then some a.port else none

/-- Whether a port's WA write to a bank is armed (R12, R710). -/
def State.armedFor (s : State) (p : HostPort) (b : ArmBank) : Bool := s.armedBy b == some p

/-- Clears a bank's arming; STR's latched delta goes with it (R41, R711). -/
def State.disarm (s : State) (b : ArmBank) : State :=
  let t := s.setArming b none
  match b with
  | .str => { t with str := { t.str with latched := none } }
  | _ => t

/-- Why a write is discarded, with its code in REJ_LAST.KIND (R702). `lateCommit` is a matching COMMIT to a bank that is
not armed: KIND UNARMED, and no event (R43). -/
inductive Reject where
  | range
  | locked
  | unarmed
  | unmapped
  | owner
  | lateCommit
  deriving DecidableEq, Repr

/-- The KIND code of a discarded write. -/
def Reject.code : Reject → Nat
  | .range => 1
  | .locked => 2
  | .unarmed => 3
  | .unmapped => 4
  | .owner => 5
  | .lateCommit => 3

/-- What a register write came to: the state after it, and why it was discarded, if it was. A discarded write can
still change something: it consumes an arming or clears one (R41, R43, R53). -/
structure Written where
  state : State
  rej : Option Reject := none
  deriving DecidableEq, Repr

/-- The word that a write of `v` leaves over `old`, its fields judged one by one (R15): each field listed (lowest bit,
width, in range) that is out of range keeps its bits. -/
def fitted (old v : Nat) (l : List (Nat × Nat × Bool)) : Nat :=
  l.foldl (fun x f => if f.2.2 then x else withBits x f.1 f.2.1 (bitsAt old f.1 f.2.1)) v

/-- Whether every field listed is in range. -/
def allFit (l : List (Nat × Nat × Bool)) : Bool := l.all (fun f => f.2.2)

/-- A write of which a field was out of range counts as discarded for that field (R15, R702). -/
def Written.judged (x : Written) (ok : Bool) : Written := if ok then x else { x with rej := some (x.rej.getD .range) }

/-- A write that took effect. -/
def State.ok (s : State) : Written := { state := s }

/-- A write that was discarded. -/
def State.rejected (s : State) (r : Reject) : Written := { state := s, rej := some r }

/-- A write to a word of plain fields, judged field by field (R15). -/
def State.fitWrite (s : State) (a v : Nat) (l : List (Nat × Nat × Bool)) : Written :=
  match rowAt a with
  | none => s.rejected .unmapped
  | some r => (s.setVal a (fitted (s.val a) v l &&& r.rw)).ok.judged (allFit l)

end Sys2Proof.Machine
end

