-- ==== Sys2Proof/Machine/Sha.lean ====
section
/-! DEFINITION. SHA-256, which the Ledger's chain uses (R575). -/

namespace Sys2Proof.Machine

/-- The 64 round constants of SHA-256. -/
def shaK : List Nat :=
  [0x428a2f98, 0x71374491, 0xb5c0fbcf, 0xe9b5dba5, 0x3956c25b, 0x59f111f1, 0x923f82a4, 0xab1c5ed5] ++
  [0xd807aa98, 0x12835b01, 0x243185be, 0x550c7dc3, 0x72be5d74, 0x80deb1fe, 0x9bdc06a7, 0xc19bf174] ++
  [0xe49b69c1, 0xefbe4786, 0x0fc19dc6, 0x240ca1cc, 0x2de92c6f, 0x4a7484aa, 0x5cb0a9dc, 0x76f988da] ++
  [0x983e5152, 0xa831c66d, 0xb00327c8, 0xbf597fc7, 0xc6e00bf3, 0xd5a79147, 0x06ca6351, 0x14292967] ++
  [0x27b70a85, 0x2e1b2138, 0x4d2c6dfc, 0x53380d13, 0x650a7354, 0x766a0abb, 0x81c2c92e, 0x92722c85] ++
  [0xa2bfe8a1, 0xa81a664b, 0xc24b8b70, 0xc76c51a3, 0xd192e819, 0xd6990624, 0xf40e3585, 0x106aa070] ++
  [0x19a4c116, 0x1e376c08, 0x2748774c, 0x34b0bcb5, 0x391c0cb3, 0x4ed8aa4a, 0x5b9cca4f, 0x682e6ff3] ++
  [0x748f82ee, 0x78a5636f, 0x84c87814, 0x8cc70208, 0x90befffa, 0xa4506ceb, 0xbef9a3f7, 0xc67178f2]

/-- The eight working words of SHA-256. -/
structure ShaRegs where
  a : Nat
  b : Nat
  c : Nat
  d : Nat
  e : Nat
  f : Nat
  g : Nat
  h : Nat
  deriving DecidableEq, Repr

/-- The initial hash value of SHA-256. -/
def shaInit : ShaRegs :=
  { a := 0x6a09e667, b := 0xbb67ae85, c := 0x3c6ef372, d := 0xa54ff53a,
    e := 0x510e527f, f := 0x9b05688c, g := 0x1f83d9ab, h := 0x5be0cd19 }

/-- A 32-bit right rotation. -/
def rotr (k x : Nat) : Nat := x / 2 ^ k + (x % 2 ^ k) * 2 ^ (32 - k)

/-- One round, with the round constant and the schedule word added as `kw`. -/
def shaRound (r : ShaRegs) (kw : Nat) : ShaRegs :=
  let s1 := rotr 6 r.e ^^^ rotr 11 r.e ^^^ rotr 25 r.e
  let ch := (r.e &&& r.f) ^^^ ((0xFFFFFFFF - r.e) &&& r.g)
  let t1 := r.h + s1 + ch + kw
  let s0 := rotr 2 r.a ^^^ rotr 13 r.a ^^^ rotr 22 r.a
  let maj := (r.a &&& r.b) ^^^ (r.a &&& r.c) ^^^ (r.b &&& r.c)
  { a := (t1 + s0 + maj) % 2 ^ 32, b := r.a, c := r.b, d := r.c,
    e := (r.d + t1) % 2 ^ 32, f := r.e, g := r.f, h := r.g }

/-- The next schedule word from the last 16, newest first. -/
def shaNext (w : List Nat) : Nat :=
  let w2 := w.getD 1 0
  let w15 := w.getD 14 0
  let s1 := rotr 17 w2 ^^^ rotr 19 w2 ^^^ (w2 / 2 ^ 10)
  let s0 := rotr 7 w15 ^^^ rotr 18 w15 ^^^ (w15 / 2 ^ 3)
  (s1 + w.getD 6 0 + s0 + w.getD 15 0) % 2 ^ 32

/-- The schedule, newest word first, extended by `n` words. -/
def shaSchedule : Nat → List Nat → List Nat
  | 0, w => w
  | n + 1, w => shaSchedule n (shaNext w :: w)

/-- One 64-byte block. -/
def shaBlock (r : ShaRegs) (block : List Byte) : ShaRegs :=
  let first := (wordsOfBytes block).map BitVec.toNat
  let ws := (shaSchedule 48 first.reverse).reverse
  let x := (shaK.zip ws).foldl (fun q kw => shaRound q ((kw.1 + kw.2) % 2 ^ 32)) r
  { a := (r.a + x.a) % 2 ^ 32, b := (r.b + x.b) % 2 ^ 32, c := (r.c + x.c) % 2 ^ 32, d := (r.d + x.d) % 2 ^ 32,
    e := (r.e + x.e) % 2 ^ 32, f := (r.f + x.f) % 2 ^ 32, g := (r.g + x.g) % 2 ^ 32, h := (r.h + x.h) % 2 ^ 32 }

/-- A message of at most 55 bytes, padded to one block. -/
def shaPad (m : List Byte) : List Byte :=
  m ++ [0x80] ++ List.replicate (55 - m.length) 0 ++ beBytes 8 (8 * m.length)

/-- SHA-256 of a message of at most 55 bytes, as 32 bytes. -/
def sha256 (m : List Byte) : List Byte :=
  let r := shaBlock shaInit (shaPad m)
  [r.a, r.b, r.c, r.d, r.e, r.f, r.g, r.h].flatMap (beBytes 4)

end Sys2Proof.Machine
end

