-- ==== Sys2Proof/Machine/Ledger.lean ====
section
/-! DEFINITION. The Ledger (R575 to R591): queueing an event, writing a group, the summary records. -/

namespace Sys2Proof.Machine

/-- The number of slots, and the slot kept for the full marker. -/
def ledgerSlots : Nat := 4096

/-- COUNT: committed entries (R580). -/
def State.ledgerCount (s : State) : Nat := s.ldg.slots.length

/-- The summary record of a source code (R586). -/
def State.ledgerSum (s : State) (src : Nat) : LedgerSum := (lookupKey src s.ldg.sums).getD {}

/-- Updates the summary of an event's source; `lost` when the event is not written (R586). -/
def State.sumUp (s : State) (e : LedgerEvent) (lost : Bool) : State :=
  let m := s.ledgerSum e.src
  let m' : LedgerSum :=
    { count := satAdd (2 ^ 32 - 1) m.count 1, unwritten := satAdd (2 ^ 32 - 1) m.unwritten (flagVal lost),
      era := e.era, evt := e.evt, t := e.t, time := e.time }
  { s with ldg := { s.ldg with sums := insertKey e.src m' s.ldg.sums } }

/-- An event takes its place in the queue: behind those that wait, and among those of its own AON cycle in the order of their
source codes, which is that of R590. -/
def enqueue (e : LedgerEvent) : List LedgerEvent → List LedgerEvent
  | [] => [e]
  | x :: l => if x.cycle = e.cycle ∧ e.src < x.src then e :: x :: l else x :: enqueue e l

/-- Hands an event to the Ledger (R577, R582). -/
def State.ledger (s : State) (src evt : Nat) (data : List Byte) (cont : Option (List Byte)) : State :=
  let clock := !s.tallyRun
  let e : LedgerEvent :=
    { src := src, evt := evt, t := clock, era := s.era, time := if clock then s.tclk else s.tally % 2 ^ 64,
      data := (data ++ List.replicate 6 0).take 6, cont := cont.map (fun c => (c ++ List.replicate 14 0).take 14)
      cycle := s.tclk }
  if s.ldg.queue.length < 32 then { s with ldg := { s.ldg with queue := enqueue e s.ldg.queue } }
  else
    (((s.sumUp e true).countSat (wordFld A.LDG_QUEUE_LOST) 1).setBit F.LDG_STAT_QLOST_SEEN true).raise
      Ev.LDG_QUEUE_LOST

/-- Bytes 2 to 19 of an entry. -/
def entryBody (era : Nat) (srcByte evt : Nat) (rest : List Byte) : List Byte :=
  beBytes 2 era ++ [BitVec.ofNat 8 srcByte, BitVec.ofNat 8 evt] ++ (rest ++ List.replicate 14 0).take 14

/-- The T bit of SRC. -/
def LedgerEvent.tBit (e : LedgerEvent) : Nat := if e.t then 128 else 0

/-- The bodies of an event's group: the primary entry, then its continuation, if any (R577, R578). -/
def LedgerEvent.bodies (e : LedgerEvent) : List (List Byte) :=
  entryBody e.era (e.src + e.tBit) e.evt (beBytes 8 e.time ++ e.data) ::
    (match e.cont with
      | none => []
      | some c => [entryBody e.era (e.src + 64 + e.tBit) e.evt c])

/-- A filler or marker body for an event: source 63, EVT 2 or 1 (R583, R585). -/
def LedgerEvent.special (e : LedgerEvent) (evt : Nat) : List Byte :=
  entryBody e.era (63 + e.tBit) evt
    (beBytes 8 e.time ++ [BitVec.ofNat 8 e.src, BitVec.ofNat 8 e.evt])

/-- The genesis block (R576). -/
def genesis : List Byte := beBytes 16 Config.serial ++ List.replicate 16 0

/-- The 32 bytes of the last entry, the genesis block if there is none; worn slots do not count (R576, R583). -/
def lastEntry (slots : List LedgerSlot) : List Byte :=
  slots.foldl (fun p x => match x with
    | .entry b => b
    | .worn => p) genesis

/-- Appends one entry: its SEQ, its body and its CHAIN (R575). -/
def appendEntry (slots : List LedgerSlot) (body : List Byte) : List LedgerSlot :=
  let head := beBytes 2 slots.length ++ body
  slots ++ [.entry (head ++ (sha256 (lastEntry slots ++ head)).take 12)]

/-- Writes a group behind the committed slots. `worn` says of each slot reached in turn whether it fails its first
write and all three rewrites (R583). The answer is whether the group was written, or would extend beyond slot 4,094 (R585), the
slots then, and what `worn` says of the slots behind them. -/
def writeGroup (e : LedgerEvent) : List Bool → List LedgerSlot → Bool × List LedgerSlot × List Bool
  | [], slots =>
    if slots.length + e.bodies.length > 4095 then (false, slots, []) else (true, e.bodies.foldl appendEntry slots, [])
  | w :: ws, slots =>
    if slots.length + e.bodies.length > 4095 then (false, slots, w :: ws)
    else if w then writeGroup e ws (slots ++ [.worn])
    else
      match e.cont, ws with
      | none, _ => (true, e.bodies.foldl appendEntry slots, ws)
      | some _, [] => (true, e.bodies.foldl appendEntry slots, [])
      | some _, w2 :: ws2 =>
        if w2 then writeGroup e ws2 (appendEntry slots (e.special 2) ++ [.worn])
        else (true, e.bodies.foldl appendEntry slots, ws2)

/-- Fills every free slot below 4,095 with fillers of `e`, but for the worn ones, then the marker (R583, R585). -/
def fillUp (e : LedgerEvent) (worn : List Bool) (slots : List LedgerSlot) : List LedgerSlot :=
  let filled := (List.range (4095 - slots.length)).foldl (fun l k =>
    if worn.getD k false then l ++ [.worn] else appendEntry l (e.special 2)) slots
  appendEntry filled (e.special 1)

/-- Worn slots among the slots from `n` on. -/
def wornFrom (n : Nat) (slots : List LedgerSlot) : Nat :=
  ((slots.drop n).filter (fun x => x == .worn)).length

/-- Commits the head group of the queue (R580 to R586). -/
def State.commitGroup (s : State) (worn : List Bool) : State :=
  match s.ldg.queue with
  | [] => s
  | e :: rest =>
    let s1 := { s with ldg := { s.ldg with queue := rest } }
    let n := s.ledgerCount
    if n ≥ ledgerSlots then s1.sumUp e true
    else
      let w := writeGroup e worn s.ldg.slots
      let slots := if w.1 then w.2.1 else fillUp e w.2.2 w.2.1
      let s2 := ({ s1 with ldg := { s1.ldg with slots := slots } }).sumUp e (!w.1)
      ((s2.count (wordFld A.LDG_BAD_SLOTS) (wornFrom n slots)).raiseIf
        (decide (n < 3840) && decide (3840 ≤ slots.length)) Ev.LDG_NEAR).raiseIf (!w.1) Ev.LDG_FULL

/-- The LDG.STAT word (R580 to R587). A group is being written while an event waits (R581). -/
def State.ledgerStat (s : State) : Nat :=
  s.ledgerCount + flagVal (decide (3840 ≤ s.ledgerCount)) * 2 ^ 13 +
    flagVal (decide (ledgerSlots ≤ s.ledgerCount)) * 2 ^ 14 + flagVal (decide (s.ldg.queue ≠ [])) * 2 ^ 15 +
    s.ldg.queue.length * 2 ^ 16 + s.get F.LDG_STAT_QLOST_SEEN * 2 ^ 24

/-- The 32 bytes that a read of a slot returns (R587, R832). -/
def State.ledgerSlot (s : State) (n : Nat) : List Byte :=
  match s.ldg.slots[n]? with
  | none => List.replicate 32 0
  | some (.entry b) => b
  | some .worn => beBytes 2 n ++ List.replicate 30 0xFF

/-- The 20 bytes of a summary record (R586). -/
def State.ledgerSumBytes (s : State) (src : Nat) : List Byte :=
  let m := s.ledgerSum src
  beBytes 4 m.count ++ beBytes 4 m.unwritten ++ beBytes 2 m.era ++
    [BitVec.ofNat 8 m.evt, BitVec.ofNat 8 (if m.t then 128 else 0)] ++ beBytes 8 m.time

end Sys2Proof.Machine
end

