-- ==== Sys2Proof/Machine/Mode.lean ====
section
/-! DEFINITION. Modes: their codes, entering and leaving one, automatic transitions, Safe Hold (R739 to R770). -/

namespace Sys2Proof

/-- The code of a mode (R701). -/
def Mode.code : Mode → Nat
  | .rise => 1
  | .grand => 2
  | .follow => 3
  | .relay => 4
  | .holdover => 5
  | .freeRun => 6
  | .measure => 7
  | .calibrate => 8
  | .maintain => 9
  | .standby => 10
  | .transit => 11
  | .safeHold => 12

/-- The mode with a code; none for 0 and 13 to 15 (R701). -/
def Mode.ofCode : Nat → Option Mode
  | 1 => some .rise
  | 2 => some .grand
  | 3 => some .follow
  | 4 => some .relay
  | 5 => some .holdover
  | 6 => some .freeRun
  | 7 => some .measure
  | 8 => some .calibrate
  | 9 => some .maintain
  | 10 => some .standby
  | 11 => some .transit
  | 12 => some .safeHold
  | _ => none

/-- Maintain and Safe Hold sit on top of a base mode (R740). -/
def Mode.onTop : Mode → Bool
  | .maintain => true
  | .safeHold => true
  | _ => false

end Sys2Proof

namespace Sys2Proof.Machine

/-- The mode that a rule naming a mode sees: the base mode in Maintain and in Safe Hold (R741). -/
def State.baseMode (s : State) : Mode := if s.mode.now.onTop then s.mode.base else s.mode.now

/-- Whether the mode is Safe Hold. -/
def State.safe (s : State) : Bool := s.mode.now == .safeHold

/-- SRV owns F0 in Grand, Follow and Holdover (R32). -/
def State.srvOwnsF0 (s : State) : Bool :=
  s.baseMode == .grand || s.baseMode == .follow || s.baseMode == .holdover

/-- Requests end NOT_SERVING in these modes (mode table of "Operating modes and start-up"). R355 names Maintain and
Safe Hold itself, so both serve whatever their base mode (R741). -/
def State.notServing (s : State) : Bool :=
  match s.mode.now with
  | .rise => true
  | .relay => true
  | .measure => true
  | .calibrate => true
  | .standby => true
  | .transit => true
  | _ => false

/-- The MODE_NOW word (R698, R739). -/
def State.modeNow (s : State) : Word :=
  wordOf (s.mode.now.code + (match s.mode.prev with
    | none => 0
    | some m => m.code) * 16 + s.mode.cause * 256)

/-- The mode changes: MODE, PREV, CAUSE, the base mode, MODE_CHANGE (R739, R740). -/
def State.enterMode (s : State) (m : Mode) (cause : Nat) : State :=
  let left := s.mode.now
  let base := if m.onTop then s.baseMode else m
  let prev := if m.onTop then base else left
  ({ s with mode := { s.mode with now := m, prev := some prev, cause := cause, base := base } }).raise Ev.MODE_CHANGE

/-- An automatic transition; in Maintain and in Safe Hold it acts on the base mode (R740). -/
def State.autoMode (s : State) (m : Mode) (cause : Nat) : State :=
  if s.mode.now.onTop then
    if s.mode.base = m then s
    else ({ s with mode := { s.mode with prev := some m, cause := cause, base := m } }).raise Ev.MODE_CHANGE
  else if s.mode.now = m then s
  else s.enterMode m cause

/-- The number of outputs (R17). -/
def outputs : Nat := 12

/-- Whether any output has EN = 1: PACER's vote (R220). -/
def State.anyOutput (s : State) : Bool := (List.range outputs).any (fun n => s.bit (F.PCR_OUTn_CTL_EN n))

/-- The causes of Safe Hold (R750), and those of a Guard trip of severity ALARM or ZEROIZE among them. -/
def isSafeCause (c : Nat) : Bool := decide (11 ≤ c ∧ c ≤ 20)
def alarmCause (c : Nat) : Bool := c == 11 || c == 13 || c == 14 || c == 15

/-- A cause that finds Safe Hold in force: it is noted (R769) and changes nothing else (R759), but that of the causes of
the tick of the entry CAUSE takes the lowest code (R767). -/
def State.safeAgain (s : State) (cause : Nat) : State :=
  let lower := decide (s.mode.safeTick = some s.instant) && isSafeCause s.mode.cause && decide (cause < s.mode.cause)
  { s with mode := { s.mode with
      late := some (s.instant, cause), cause := if lower then cause else s.mode.cause } }

/-- Safe Hold is entered, from every mode but Transit (R757, R758). GUARD's vote on OUT is taken if PACER holds OUT at
entry (R593). An alarm in the very tick in which Rise completed counts as a Rise that ended in Safe Hold (R768). -/
def State.enterSafe (s : State) (cause : Nat) : State :=
  match s.mode.now with
  | .transit => s
  | .safeHold => s.safeAgain cause
  | _ =>
    let c := if alarmCause cause && decide (s.mode.riseTick = some s.instant) then 20 else cause
    let t := { s with
      pwr := { s.pwr with guardVote := s.anyOutput }
      mode := { s.mode with safeTick := some s.instant, late := none } }
    (t.enterMode .safeHold c).raise Ev.SAFE_ENTERED

/-- Safe Hold is left for the base mode (R762). -/
def State.leaveSafe (s : State) (cause : Nat) : State :=
  if s.safe then
    ((({ s with
        mode := { s.mode with now := s.mode.base, prev := some .safeHold, cause := cause },
        pwr := { s.pwr with guardVote := false } }).put F.GRD_STAT_THERMAL_ONLY 0).raise
      Ev.SAFE_RELEASED).raise Ev.MODE_CHANGE
  else s

/-- The level of SAFE_N: true when driven high (R754). It is low while AON is off or RST_N is low, and while its bank is
absent (R791). -/
def State.safeN (s : State) : Bool :=
  s.pwr.started && !s.pwr.rstLow && s.pwr.vioH.isSome && match s.mode.now with
  | .grand => true
  | .follow => true
  | .relay => true
  | .holdover => true
  | .freeRun => true
  | .measure => true
  | .calibrate => true
  | .maintain => true
  | .standby => s.get F.PWR_SLEEP_STAT_NOW == 1 || s.get F.PWR_SLEEP_STAT_NOW == 0
  | _ => false

end Sys2Proof.Machine
end

