-- ==== Sys2Proof/Machine/Guard.lean ====
section
/-! DEFINITION. The Guard's sources: events, trips, severities, clearing (R545 to R559, R569 to R573). -/

namespace Sys2Proof.Machine

/-- The Guard machine's states in GRD.STAT.FSM. -/
def fsmStart : Nat := 0
def fsmWatch : Nat := 1
def fsmLowduty : Nat := 2
def fsmZeroising : Nat := 3

/-- The severity codes of Sx_CFG.SEV. -/
def sevNote : Nat := 0
def sevAlarm : Nat := 1
def sevZeroize : Nat := 2
def sevThermal : Nat := 3

/-- A source's hidden state. -/
def State.source (s : State) (x : Nat) : GuardSource := s.grd.sources.getD x {}

/-- The state with a source's hidden state replaced. -/
def State.setSource (s : State) (x : Nat) (g : GuardSource) : State :=
  { s with grd := { s.grd with sources := s.grd.sources.setIfInBounds x g } }

/-- Whether a source is tripped (R548). -/
def State.tripped (s : State) (x : Nat) : Bool := bitOf (s.val A.GRD_TRIPPED) x

/-- Whether a source is tripped with a severity other than NOTE. -/
def State.forces (s : State) (x : Nat) : Bool := s.tripped x && s.get (F.GRD_Sx_CFG_SEV x) != sevNote

/-- GRD.STAT.SAFE_REQ: the Guard is forcing Safe Hold. -/
def State.safeReq (s : State) : Bool := (List.range 25).any s.forces

/-- Whether a source of severity ALARM or ZEROIZE is tripped (R552, R553, R556). -/
def State.alarmTripped (s : State) : Bool :=
  (List.range 25).any (fun x =>
    s.tripped x && (s.get (F.GRD_Sx_CFG_SEV x) == sevAlarm || s.get (F.GRD_Sx_CFG_SEV x) == sevZeroize))

/-- R552: a release of Safe Hold is refused. -/
def State.releaseBarred (s : State) : Bool := s.alarmTripped || s.grd.forceLow

/-- The CAUSE of Safe Hold for a source and its severity (R750). -/
def safeCause (x sev : Nat) : Nat :=
  if sev = sevThermal then 12
  else if sev = sevZeroize then 13
  else if x = 17 then 14
  else if x = 22 then 15
  else 11

/-- The slot that an entry of source `x` queued now will take, or 0xFFF when none is written (R590, R773). -/
def State.nextLedgerSeq (s : State) (x : Nat) : Nat :=
  let ahead := s.ldg.queue.filter (fun e => !(e.cycle == s.tclk && decide (x < e.src)))
  let n := s.ledgerCount + (ahead.map (fun e => e.bodies.length)).sum
  if s.ldg.queue.length < 32 ∧ n < 4095 then n else 0xFFF

/-- A trip of source `x` with the quantity `v` (R548 to R551, R555). -/
def State.trip (s : State) (x : Nat) (v : Int) : State :=
  let sev := s.get (F.GRD_Sx_CFG_SEV x)
  let s1 := (s.setVal A.GRD_TRIPPED (s.val A.GRD_TRIPPED ||| 2 ^ x)).countSat (F.GRD_Sx_COUNT_TRIPS x) 1
  let writes := sev != sevNote || (s.source x).notedEra != some s.era
  let seq := if writes then s1.nextLedgerSeq x else 0xFFF
  let s2 := if writes then
      s1.ledger x 1 (beBytes 4 (codeOf 32 v) ++ beBytes 2 (s1.get (F.GRD_Sx_COUNT_TRIPS x))) none
    else s1
  let s3 := (s2.setSource x { s2.source x with notedEra := some s.era }).trace 9 [wordOf (x + sev * 256 + seq * 2 ^ 16)]
  if sev = sevNote then s3.raise Ev.GRD_NOTE
  else
    let s4 := s3.raise (if sev = sevZeroize then Ev.GRD_ZEROIZE else Ev.GRD_ALARM)
    let s5 := if sev = sevThermal then
        s4.setBit F.GRD_STAT_THERMAL_ONLY (!(List.range 25).any (fun y => y != x && s.forces y))
      else s4.put F.GRD_STAT_THERMAL_ONLY 0
    let s6 := if s5.mode.now = .transit then s5.put F.GRD_STAT_SAFE_PEND 1 else s5.enterSafe (safeCause x sev)
    if sev = sevZeroize then s6.put F.GRD_STAT_FSM fsmZeroising else s6

/-- Whether a source trips on its samples: at least N of the last W carry an event, or for sources 13 to 24 the first
event (R547). -/
def State.tripDue (s : State) (x : Nat) (recent : List Bool) : Bool :=
  if 13 ≤ x then true
  else
    let n := s.get (F.GRD_Sx_CFG_N x)
    let w := s.get (F.GRD_Sx_CFG_W x)
    decide (n ≤ ((recent.take w).filter (· == true)).length)

/-- One sample of source `x`: whether it carries an event, and the quantity. An event is counted even when the source
is tripped or disabled (R547, R569). -/
def State.guardSample (s : State) (x : Nat) (event : Bool) (v : Int) : State :=
  let g := s.source x
  let recent := (event :: g.recent).take 15
  let s1 := s.setSource x { g with recent := recent }
  if event then
    let s2 := s1.countSat (F.GRD_Sx_COUNT_EVENTS x) 1
    if s.bit (F.GRD_Sx_CFG_EN x) && !s.tripped x && s.tripDue x recent then s2.trip x v else s2
  else s1

/-- One sample of a quantity source through its qualifier (R545, R546). DIE_HOT clears its own trip when its qualifier
releases, and may end Safe Hold (R550, R553). -/
def State.quantitySample (s : State) (x : Nat) (dir : Limit) (v : Int) : State :=
  let g := s.source x
  let q := Qual.sample dir (s.descriptor (A.GRD_Sx_ASSERT x 0)) v g.q
  let s1 := (s.setSource x { g with q := q }).guardSample x q.on v
  if x = 0 ∧ g.q.on = true ∧ q.on = false ∧ s1.tripped 0 then
    let only := s1.bit F.GRD_STAT_THERMAL_ONLY
    let s2 := (s1.setVal A.GRD_TRIPPED (s1.val A.GRD_TRIPPED - 1)).put F.GRD_STAT_THERMAL_ONLY 0
    if only && !s2.alarmTripped then s2.leaveSafe 22 else s2
  else s1

/-- The Guard reads the TAMP latches and the FORCE_SAFE_N latch: each captured activation is one event (R544, R566). -/
def State.readLatches (s : State) : State :=
  let s1 := (List.range 4).foldl (fun t n => if s.grd.tampLatch.getD n false then t.guardSample (13 + n) true 0 else t) s
  let s2 := if s.grd.forceLatch then s1.guardSample 17 true 0 else s1
  { s2 with grd := { s2.grd with tampLatch := Vector.replicate 4 false, forceLatch := false } }

/-- Whether a write of 1 to a TRIPPED bit clears it (R549, R550). DESIGN CHOICE (log 123): activations, codewords and tile
failures come with no samples between them, so that of these sources only the input's level is asked. -/
def State.tripClears (s : State) (x : Nat) : Bool :=
  let quiet := !((s.source x).recent.take (s.get (F.GRD_Sx_CFG_W x))).any (· == true)
  if x = 0 then false
  else if x ≤ 12 then quiet
  else if x ≤ 16 then !(s.grd.tampActive.getD (x - 13) false)
  else if x = 17 then !s.grd.forceLow
  else if x ≤ 21 then quiet && s.grd.verdictSound && (x != 19 || s.bit F.TB_STAT_PLL_LOCK)
  else if x = 24 then quiet
  else true

/-- A write to GRD.TRIPPED (R549). -/
def State.writeTripped (s : State) (v : Nat) : State :=
  s.each ((List.range 25).filter (bitOf v)) (fun x t =>
    if t.tripped x && t.tripClears x then t.setVal A.GRD_TRIPPED (t.val A.GRD_TRIPPED - 2 ^ x) else t)

/-- TB's verdict reaches the Guard: a sample of each of sources 18 to 21 (R545, R549). `x` is the source whose verdict
it is; none for a sound verdict. The Guard receives none in LOWDUTY (R566). -/
def State.tbVerdict (s : State) (x : Option Nat) : State :=
  if s.get F.GRD_STAT_FSM = fsmLowduty then s
  else
    ({ s with grd := { s.grd with verdictSound := x.isNone } }).each [18, 19, 20, 21]
      (fun y t => t.guardSample y (x == some y) 0)

/-- The mean of the last die temperatures, which VCAL.DIE_TEMP reports. DESIGN CHOICE (log 93): rounded toward minus
infinity. -/
def State.dieTemp (s : State) : Int := ((List.range 4).map (fun k => s.ival (A.GRD_TEMP_D k))).sum / 4

/-- Random bits from the true random source: the draw and the state after it (R562). -/
def State.random (s : State) : Nat × State :=
  (Config.trueRandom s.grd.draws, { s with grd := { s.grd with draws := s.grd.draws + 1 } })

/-- Whether the random source gives output (R563). -/
def State.rngOk (s : State) : Bool := s.bit F.GRD_STAT_RNG_OK

/-! ### Arming, shared by the five banks (R39 to R44, R710, R711) -/

/-- Discards the held delta (R40). -/
def State.dropDelta (s : State) : State :=
  ({ s with str := { s.str with held := false, latched := none } }).setMulti A.STR_PEND_DELTA_HI 0 3

/-- The arm window of 100 ms in ticks (R39). -/
def armTicks : Nat := 125000000

/-- A mismatch (R43): `commit` tells a STR.COMMIT write from an ARM write. -/
def State.armMismatch (s : State) (b : ArmBank) (commit : Bool) (code : Nat) : State :=
  let s1 := s.disarm b
  let s2 := if b = .str then s1.dropDelta else s1
  (s2.raise Ev.ARM_MISMATCH).ledger b.ledgerSrc 4 (beBytes 1 (flagVal commit) ++ beBytes 2 code) none

/-- A write of `code` to a bank's ARM word by port `p` (R39, R43, R710). -/
def State.armWrite (s : State) (p : HostPort) (b : ArmBank) (code : Nat) : Written :=
  if s.armedBy b = some p.other then s.rejected .unarmed
  else if code = s.val b.codeWord % 65536 then
    let s1 := s.setArming b (some { port := p, ends := if s.tallyRun then some (s.tally + armTicks) else none })
    if b = .str then
      let face := if s.bit F.STR_PEND_CTL_FACE then MainFace.f3 else MainFace.f0
      let d := signedOf 96 (s.multi A.STR_PEND_DELTA_HI 3)
      (({ s1 with str := { s1.str with latched := if s.str.held then some (face, d) else none } }) : State).ok
    else s1.ok
  else (s.armMismatch b false code).ok

/-- A write to a bank's ARM_CODE (R711). -/
def State.armCodeWrite (s : State) (b : ArmBank) (code : Nat) : Written :=
  if code = 0 then s.rejected .range
  else ((s.setVal b.codeWord code).disarm b).ok

/-- Consumes a bank's arming for a WA write of port `p` (R41); rejected when the port holds none (R12). -/
def State.useArm (s : State) (p : HostPort) (b : ArmBank) : Option State :=
  if s.armedFor p b then some (s.disarm b) else none

/-- The arm window ends (R44). -/
def State.armExpired (s : State) (b : ArmBank) : State :=
  match s.arming b with
  | none => s
  | some _ =>
    let s1 := s.disarm b
    (if b = .str then s1.dropDelta else s1).raise Ev.ARM_EXPIRED

end Sys2Proof.Machine
end

