-- ==== Sys2Proof/Machine/Steer.lean ====
section
/-! DEFINITION. Steering: the Faces, steps and rate changes with their limits, the commit, the leap and the smear
(R23 to R56). -/

namespace Sys2Proof.Machine

/-- Pips in a second (R28). -/
def pipsPerSec : Int := 65536000000000

/-- Subticks in a tick (R8). -/
def subticks : Nat := 65536

/-- The product term of a Face (R26): rounded once, toward minus infinity. -/
def faceTerm (t rate : Int) : Int := (4 * t * (2 ^ 60 + rate)) / (5 * 2 ^ 60)

/-- A main Face at instant `t` in subticks (R26). -/
def FaceReg.at_ (f : FaceReg) (t : Int) : Int := faceTerm t f.rate + f.ofs

/-- The parameters of a main Face. -/
def State.face (s : State) (f : MainFace) : FaceReg :=
  match f with
  | .f0 => s.str.f0
  | .f3 => s.str.f3

/-- The state with a main Face's parameters replaced. -/
def State.setFace (s : State) (f : MainFace) (x : FaceReg) : State :=
  match f with
  | .f0 => { s with str := { s.str with f0 := x } }
  | .f3 => { s with str := { s.str with f3 := x } }

/-- UTC_OFFSET in seconds. -/
def State.utcOffset (s : State) : Int := signedOf 16 (s.val A.STR_UTC_OFFSET)

/-- The smear window in F0 pips (R47): 43,200 s either side of LEAP_AT. -/
def Smear.opens (m : Smear) : Int := ((m.at_ : Int) - 43200) * pipsPerSec
def Smear.closes (m : Smear) : Int := ((m.at_ : Int) + 43200) * pipsPerSec

/-- The smear term of a leap for a value of F0 (R47, R56): d × floor(e / 86,400), with e taken as 0 before the window and
as 86,400 s past its close. -/
def Smear.term (m : Smear) (f0 : Int) : Int := m.d * (max 0 (min (f0 - m.opens) (86400 * pipsPerSec)) / 86400)

/-- What a smear adds to F1 to give F2 (R47): UTC_OFFSET before the leap in place of the one after it, less the term. -/
def Smear.lag (m : Smear) (f0 : Int) : Int := (if m.applied then m.d * pipsPerSec else 0) - m.term f0

/-- F2 for a value of F0 (R47): F1 but for the smears that run. -/
def smearedFace (utc : Int) (smears : List Smear) (f0 : Int) : Int :=
  f0 - utc * pipsPerSec + (smears.map (fun m => m.lag f0)).sum

/-- A Face for a value of F0 or F3, an offset and smears (R31, R47). -/
def faceFrom (f : Face) (x utc : Int) (smears : List Smear) : Int :=
  match f with
  | .f0 => x
  | .f1 => x - utc * pipsPerSec
  | .f2 => smearedFace utc smears x
  | .f3 => x

/-- The main Face that a Face is computed from (R31). -/
def mainOf : Face → MainFace
  | .f3 => .f3
  | _ => .f0

/-- One of the two main Faces' parameters. -/
def Faces.main (x : Faces) : MainFace → FaceReg
  | .f0 => x.f0
  | .f3 => x.f3

/-- A Face at instant `t` in subticks, in pips, from given parameters (R26, R27). -/
def Faces.pips (x : Faces) (f : Face) (t : Int) : Int := faceFrom f ((x.main (mainOf f)).at_ t) x.utc x.smears

/-- The parameters in force from the next tick boundary on. -/
def State.faces (s : State) : Faces :=
  { f0 := s.str.f0, f3 := s.str.f3, utc := s.utcOffset, smears := s.str.smears }

/-- The parameters in force at instant `t`: before the boundary of the last change, those before it (R28, R55). -/
def State.facesAt (s : State) (t : Int) : Faces :=
  match s.str.prior with
  | some x => if x.tick ≤ s.tally ∧ t < ((x.tick : Int) + 1) * subticks then x.faces else s.faces
  | none => s.faces

/-- The Faces at instant `t` in subticks, in pips (R26, R27, R28, R31). -/
def State.pips (s : State) (f : Face) (t : Int) : Int := (s.facesAt t).pips f t

/-- The present tick boundary in subticks. -/
def State.nowSub (s : State) : Int := (s.tally : Int) * subticks

/-- The next tick boundary, at which a change of a Face made now takes effect (R28, R35, R42, R50). -/
def State.nextSub (s : State) : Int := ((s.tally : Int) + 1) * subticks

/-- The first instant from now on at which the newest parameters are in force: the next boundary while a change of this
tick waits for it, else the present one. -/
def State.actSub (s : State) : Int :=
  match s.str.prior with
  | some x => if x.tick = s.tally then s.nextSub else s.nowSub
  | none => s.nowSub

/-- Whether a change of a Face has fallen in this tick already (R54). -/
def State.facesMoving (s : State) : Bool :=
  match s.str.prior with
  | some x => x.tick == s.tally
  | none => false

/-- Keeps the parameters that this tick's readers see, before the first change of the tick (R55). -/
def State.keepPrior (s : State) : State :=
  if s.facesMoving then s
  else { s with str := { s.str with prior := some { tick := s.tally, faces := s.faces } } }

/-- Seconds, nanoseconds and pips of a Face value (R28). -/
def faceSec (p : Int) : Nat := (p / pipsPerSec).toNat
def faceNs (p : Int) : Nat := ((p % pipsPerSec) / 65536).toNat
def facePip (p : Int) : Nat := (p % 65536).toNat

/-- The present second of F0. -/
def State.f0Sec (s : State) : Nat := faceSec (s.pips .f0 s.nowSub)

/-- The Face a main Face presents. -/
def MainFace.face : MainFace → Face
  | .f0 => .f0
  | .f3 => .f3

/-- Who asks for a change of a Face: the SOURCE codes of a STEP record (R773) and of F0_TRIM_SRC. -/
inductive StepSource where
  | host
  | srv
  | commit
  | switch
  deriving DecidableEq, Repr

/-- The code in F0_TRIM_SRC and in a STEP record. -/
def StepSource.code : StepSource → Nat
  | .host => 0
  | .srv => 1
  | .commit => 2
  | .switch => 3

/-- The SOURCE code of LAST_REFUSED_INFO and of a refusal's Ledger entry: 0 HOST, 1 SRV, 2 SWITCH. -/
def StepSource.refusedCode : StepSource → Nat
  | .host => 0
  | .srv => 1
  | .commit => 0
  | .switch => 2

/-- 0 for F0, 1 for F3: FACE of PEND_CTL, of LAST_REFUSED_INFO and of Ledger entries. -/
def faceBit : MainFace → Nat
  | .f0 => 0
  | .f3 => 1

/-- The SET bit of a Face (R33). -/
def setFld : MainFace → Fld
  | .f0 => F.STR_STAT_F0_SET
  | .f3 => F.STR_STAT_F3_SET

/-- A STEP record (R773): the Face, the source and the delta, saturating. -/
def State.stepTrace (s : State) (face source : Nat) (d : Int) : State :=
  s.trace 6 [wordOf (face + source * 4), wordOfInt (saturateSigned 32 d)]

/-- Sets or clears IN_SMEAR from F0 (R48). A smear whose leap has been applied and whose window has closed is dropped: F2
equals F1 from then on. -/
def State.smearUpdate (s : State) : State :=
  let f0 := s.pips .f0 s.actSub
  let t := { s with str := { s.str with smears := s.str.smears.filter (fun m => !m.applied || decide (f0 < m.closes)) } }
  t.setBit F.STR_STAT_IN_SMEAR (t.str.smears.any (fun m => decide (m.opens ≤ f0) && decide (f0 < m.closes)))

/-- Records a refused change (R36, R38). -/
def State.refuseChange (s : State) (f : MainFace) (src : StepSource) (rate : Bool) (d : Int) : State :=
  let s1 := (s.setMulti A.STR_LAST_REFUSED_HI (codeOf 96 d) 3).setVal A.STR_LAST_REFUSED_INFO
    (faceBit f + src.refusedCode * 2 + flagVal rate * 8)
  let s2 := s1.setBit (if rate then F.STR_STAT_RATE_REFUSED else F.STR_STAT_STEP_REFUSED) true
  (s2.raise (if rate then Ev.RATE_REFUSED else Ev.STEP_REFUSED)).ledger 32 (if rate then 2 else 1)
    (beBytes 1 (faceBit f) ++ beBytes 1 src.refusedCode) (some (beBytes 12 (codeOf 96 d)))

/-- The Faces that a main Face's offset moves (R31). -/
def movedFaces : MainFace → List Face
  | .f0 => [.f0, .f1, .f2]
  | .f3 => [.f3]

/-- Whether new parameters leave every listed Face at 0 or above at the boundary at which they take effect (R29). A Face
that is negative already (F1 and F2 while F0 is unset and UTC_OFFSET is not) may be moved up: the rule bars the change
that makes P negative (log entry 86). -/
def State.facesFit (s : State) (x : Faces) (fs : List Face) : Bool :=
  fs.all (fun g => decide (0 ≤ x.pips g s.nextSub ∨ s.faces.pips g s.nextSub ≤ x.pips g s.nextSub))

/-- The parameters with a main Face's offset moved by `d`. -/
def Faces.moveBy (x : Faces) (f : MainFace) (d : Int) : Faces :=
  match f with
  | .f0 => { x with f0 := { x.f0 with ofs := x.f0.ofs + d } }
  | .f3 => { x with f3 := { x.f3 with ofs := x.f3.ofs + d } }

/-- Whether a main Face may be moved by `d` (R29). -/
def State.stepFits (s : State) (f : MainFace) (d : Int) : Bool := s.facesFit (s.faces.moveBy f d) (movedFaces f)

/-- The place of a change of F0 in the order of R54: 2 committed delta, 3 host step, 4 SWITCH, 5 SRV step. -/
def StepSource.rank : StepSource → Nat
  | .commit => 2
  | .host => 3
  | .switch => 4
  | .srv => 5

/-- The place of a rate change in the order of R54. -/
def rateRank : Nat := 6

/-- F0_TRIM_SRC names the source of the last accepted change of F0; changes that fall on one boundary count in the order of
R54, whatever the order in which they came. -/
def State.trimSource (s : State) (src : StepSource) (rank : Nat) : State :=
  match s.str.prior with
  | some x =>
    if x.rank ≤ rank then
      ({ s with str := { s.str with prior := some { x with rank := rank } } }).setVal A.STR_F0_TRIM_SRC src.code
    else s
  | none => s.setVal A.STR_F0_TRIM_SRC src.code

/-- Moves a Face's offset by `d` from the next tick boundary on (R28, R35, R42), unless a Face would become negative
(R29). -/
def State.moveFace (s : State) (f : MainFace) (src : StepSource) (d : Int) : State :=
  if s.stepFits f d then
    let s0 := s.keepPrior
    let x := s0.face f
    let s1 := (s0.setFace f { x with ofs := x.ofs + d }).setBit (setFld f) true
    let s2 := if f = .f0 then
        ({ s1 with srv := { s1.srv with ivStep := true } }).trimSource src src.rank
      else s1
    (s2.smearUpdate).stepTrace (if f = .f0 then 0 else 3) src.code d
  else s.raise Ev.PARAM_REJECT

/-- STEP_LIMIT in pips (R35). -/
def State.stepLimit (s : State) : Int := (s.val A.STR_STEP_LIMIT : Int) * 65536

/-- A step within the limit is applied, a larger one refused (R35, R36). -/
def State.stepFace (s : State) (f : MainFace) (src : StepSource) (d : Int) : State :=
  if |d| ≤ s.stepLimit then s.moveFace f src d else s.refuseChange f src false d

/-- RATE_STEP_LIMIT in units of 2^-60 (R37). -/
def State.rateLimit (s : State) : Int := (s.val A.STR_RATE_STEP_LIMIT : Int) * 2 ^ 20

/-- Applies a rate and re-bases the offset, so that the Face does not move (R30). -/
def FaceReg.rebase (x : FaceReg) (t rate : Int) : FaceReg :=
  { ofs := x.ofs + faceTerm t x.rate - faceTerm t rate, rate := rate }

/-- A rate change within the limit is applied from the next tick boundary on, a larger one refused (R28, R37, R38). -/
def State.setRate (s : State) (f : MainFace) (src : StepSource) (rate : Int) : State :=
  let x := s.face f
  if |rate - x.rate| ≤ s.rateLimit then
    let s1 := s.keepPrior.setFace f (x.rebase s.nextSub rate)
    let s2 := if f = .f0 then s1.trimSource src rateRank else s1
    s2.stepTrace (if f = .f0 then 0 else 3) 5 ((rate - x.rate) / 2 ^ 20)
  else s.refuseChange f src true (rate - x.rate)

/-- A write of STR.COMMIT (R41 to R43, R710). -/
def State.commitWrite (s : State) (p : HostPort) (code : Nat) : Written :=
  if s.armedBy .str = some p.other then s.rejected .unarmed
  else if code ≠ 65535 - s.val A.STR_ARM_CODE % 65536 then (s.armMismatch .str true code).ok
  else if s.armedBy .str = none then s.rejected .lateCommit
  else
    match s.str.latched with
    | none => (s.disarm .str).ok
    | some (f, d) =>
      let s1 := (s.disarm .str).dropDelta
      if s.stepFits f d = false then (s1.raise Ev.PARAM_REJECT).ok
      else
        (((s1.moveFace f .commit d).raise Ev.STEP_COMMITTED).ledger 32 3
          (beBytes 1 (faceBit f) ++ beBytes 1 3) (some (beBytes 12 (codeOf 96 d)))).ok

/-- LEAP of LEAP_CTL: 0 NONE, 1 INSERT, 2 DELETE. A leap is pending while it is not NONE. -/
def State.leap (s : State) : Nat := s.get F.STR_LEAP_CTL_LEAP

/-- LEAP_AT, an F0 second. -/
def State.leapAt (s : State) : Nat := s.multi A.STR_LEAP_AT_HI 2

/-- +1 for an insert, -1 for a delete. -/
def leapSign (leap : Nat) : Int := if leap = 1 then 1 else -1

/-- The conditions of R46 on scheduling `leap` with SMEAR_EN as `smear`. -/
def State.leapOk (s : State) (leap : Nat) (smear : Bool) : Bool :=
  s.bit F.STR_STAT_F0_SET &&
    decide (((s.leapAt : Int) - s.utcOffset) % 86400 = (if leap = 1 then 0 else 86399)) &&
    decide (s.f0Sec + (if smear then 43201 else 2) ≤ s.leapAt)

/-- A write of LEAP_CTL (R46, R49). -/
def State.leapCtlWrite (s : State) (v : Nat) : Written :=
  let new := bitsAt v 0 2
  let smear := bitOf v 4
  let inSmear := s.bit F.STR_STAT_IN_SMEAR
  if new = 3 then s.rejected .range
  else if smear != s.bit F.STR_LEAP_CTL_SMEAR_EN && inSmear then s.rejected .range
  else if new ≠ s.leap ∧ new = 0 ∧ inSmear = true then s.rejected .range
  else if new ≠ s.leap ∧ new ≠ 0 ∧ s.leapOk new smear = false then s.rejected .range
  else
    let done := s.bit F.STR_LEAP_CTL_LEAP_DONE && !bitOf v 8
    let s1 := s.setVal A.STR_LEAP_CTL (new + flagVal smear * 16 + flagVal done * 256)
    let running := s.str.smears.filter (fun m => m.applied)
    let planned : List Smear := if new ≠ 0 ∧ smear = true then [{ at_ := s.leapAt, d := leapSign new }] else []
    let s2 := { s1.keepPrior with str := { s1.keepPrior.str with smears := planned ++ running } }
    s2.smearUpdate.ok

/-- The parameters with UTC_OFFSET at `utc`; `done` says that the pending leap's smear has had its leap. -/
def Faces.withUtc (x : Faces) (utc : Int) (done : Bool) : Faces :=
  { x with utc := utc, smears := x.smears.map (fun (m : Smear) => ({ m with applied := m.applied || done } : Smear)) }

/-- The scheduled leap is applied when F0 reaches LEAP_AT (R47); F1 changes from the next tick boundary on (R28, R54). A
leap that would make F1 or F2 negative is discarded with PARAM_REJECT (R29) and no longer pending (log entry 86). -/
def State.leapApply (s : State) : State :=
  if s.leap ≠ 0 ∧ (s.leapAt : Int) * pipsPerSec ≤ s.pips .f0 s.nowSub then
    let d := leapSign s.leap
    let utc := codeOf 16 (s.utcOffset + d)
    let x := s.faces.withUtc (signedOf 16 utc) true
    if s.facesFit x [.f1, .f2] then
      let s0 := s.keepPrior
      let s1 := ({ s0 with str := { s0.str with smears := x.smears } }).setVal A.STR_UTC_OFFSET utc
      let s2 := ((s1.put F.STR_LEAP_CTL_LEAP 0).setBit F.STR_LEAP_CTL_LEAP_DONE true).stepTrace 1 4 (-d * pipsPerSec)
      (s2.raise Ev.LEAP_DONE).ledger 32 5 (beBytes 2 utc) none
    else
      let waits := s.str.smears.filter (fun m => m.applied)
      (({ s with str := { s.str with smears := waits } }).put F.STR_LEAP_CTL_LEAP 0).raise Ev.PARAM_REJECT
  else s

/-- An armed write of UTC_OFFSET (R50): F1 and F2 follow from the next tick boundary on, a running smear with them; one
that would make F1 or F2 negative is discarded with PARAM_REJECT (R29). -/
def State.utcWrite (s : State) (p : HostPort) (v : Nat) : Written :=
  match s.useArm p .str with
  | none => s.rejected .unarmed
  | some s1 =>
    if s.leap ≠ 0 then s1.rejected .range
    else if s.facesFit (s.faces.withUtc (signedOf 16 v) false) [.f1, .f2] then
      ((s1.keepPrior.setVal A.STR_UTC_OFFSET (v % 65536)).ledger 32 6 (beBytes 2 v) none).ok
    else (s1.raise Ev.PARAM_REJECT).ok

/-- An armed write of a limit (R53): a value out of range is discarded and still consumes the arming. -/
def State.limitWrite (s : State) (p : HostPort) (a v most : Nat) : Written :=
  match s.useArm p .str with
  | none => s.rejected .unarmed
  | some s1 => if 1 ≤ v ∧ v ≤ most then (s1.setVal a v).ok else s1.rejected .range

/-- The words of a Face latch (R52): the address of its SEC_HI word and the four words. -/
def faceIndex : Face → Nat
  | .f0 => 0
  | .f1 => 1
  | .f2 => 2
  | .f3 => 3

/-- SEC_HI, SEC_LO, NS and PIP of a Face at the present tick boundary. -/
def State.faceWords (s : State) (f : Face) : List (Nat × Word) :=
  let p := s.pips f s.nowSub
  let a := A.STR_F0_SEC_HI (4 * faceIndex f)
  [(a, wordOf (faceSec p / 2 ^ 32)), (a + 1, wordOf (faceSec p)), (a + 2, wordOf (faceNs p)),
    (a + 3, wordOf (facePip p))]

/-- Window word 0x26, LAT_ERA, as a latch address. -/
def latEraAddr : Nat := 0x10026

/-- LAT_TALLY and LAT_ERA at the present tick boundary (R699). -/
def State.latchTally (s : State) : List (Nat × Word) :=
  [(A.STR_LAT_TALLY_HI, wordOf (s.tally / 2 ^ 32)), (A.STR_LAT_TALLY_LO, wordOf s.tally),
    (latEraAddr, wordOf s.era)]

/-- Latches one Face for a port (R52, R699). -/
def State.latchFace (s : State) (p : HostPort) (f : Face) : State := s.latch p (s.faceWords f ++ s.latchTally)

/-- Latches all Faces for a port (R705). -/
def State.latchFaces (s : State) (p : HostPort) : State :=
  s.latch p ([Face.f0, Face.f1, Face.f2, Face.f3].flatMap s.faceWords ++ s.latchTally)

/-- The bits of STR.STAT that the state computes (field map of 0x04/0x00). -/
def State.strStat (s : State) : Nat :=
  s.val A.STR_STAT + flagVal s.srvOwnsF0 * 4 + flagVal (s.armedBy .str).isSome * 8 +
    flagVal s.str.latched.isSome * 16 + flagVal (s.leap != 0) * 32 + flagVal s.str.held * 128

/-- A word of the STR bank as it reads, beyond the stored words and the latches. -/
def State.strRead (s : State) (w : Nat) : Option Word :=
  let part (f : FaceReg) (k : Nat) : Word :=
    match k with
    | 0 => wordOf (codeOf 48 f.rate / 2 ^ 32)
    | 1 => wordOf (codeOf 48 f.rate)
    | 4 => wordOf (codeOf 96 f.ofs / 2 ^ 64)
    | 5 => wordOf (codeOf 96 f.ofs / 2 ^ 32)
    | 6 => wordOf (codeOf 96 f.ofs)
    | _ => 0
  let x := s.facesAt s.nowSub
  if w = 0 then some (wordOf s.strStat)
  else if 0x19 ≤ w ∧ w ≤ 0x1F then some (part x.f0 (w - 0x19))
  else if 0x29 ≤ w ∧ w ≤ 0x2F then some (part x.f3 (w - 0x29))
  else none

/-- The lower word at `a` for a HI write of port `p`: held, or `current` (R16). -/
def State.lower (s : State) (p : HostPort) (a : Nat) (current : Word) : Nat := ((s.heldWord p a).getD current).toNat

/-- A write of RATE_HI or STEP_HI of a main Face, or of their lower words (R32, R35 to R38). `k` is the word's place
among the Face's words: 0 RATE_HI, 1 RATE_LO, 2 STEP_HI, 3 STEP_LO. -/
def State.faceWrite (s : State) (p : HostPort) (f : MainFace) (base k v : Nat) : Written :=
  if f = .f0 ∧ s.srvOwnsF0 = true then s.rejected .owner
  else
    match k with
    | 0 =>
      let lo := s.lower p (base + 1) (wordOf (codeOf 48 (s.face f).rate))
      let r := signedOf 48 ((v % 65536) * 2 ^ 32 + lo)
      ((s.dropHolds p [base + 1]).setRate f .host r).ok
    | 1 => (s.hold p (base + 1) (wordOf v)).ok
    | 2 =>
      let lo := s.lower p (base + 3) 0
      ((s.dropHolds p [base + 3]).stepFace f .host (signedOf 64 (v * 2 ^ 32 + lo))).ok
    | _ => (s.hold p (base + 3) (wordOf v)).ok

/-- A write of PEND_DELTA_HI (R40). -/
def State.pendWrite (s : State) (p : HostPort) (v : Nat) : Written :=
  if (s.armedBy .str).isSome then s.rejected .range
  else
    let mid := s.lower p A.STR_PEND_DELTA_MID (s.rd A.STR_PEND_DELTA_MID)
    let lo := s.lower p A.STR_PEND_DELTA_LO (s.rd A.STR_PEND_DELTA_LO)
    let s1 := (s.dropHolds p [A.STR_PEND_DELTA_MID, A.STR_PEND_DELTA_LO]).setMulti A.STR_PEND_DELTA_HI
      ((v * 2 ^ 32 + mid) * 2 ^ 32 + lo) 3
    (({ s1 with str := { s1.str with held := true } }) : State).ok

/-- A write of LEAP_AT (R49). -/
def State.leapAtWrite (s : State) (p : HostPort) (hi : Bool) (v : Nat) : Written :=
  if s.leap ≠ 0 then s.rejected .range
  else if hi then
    let lo := s.lower p A.STR_LEAP_AT_LO (s.rd A.STR_LEAP_AT_LO)
    ((s.dropHolds p [A.STR_LEAP_AT_LO]).setMulti A.STR_LEAP_AT_HI (v * 2 ^ 32 + lo) 2).ok
  else (s.hold p A.STR_LEAP_AT_LO (wordOf v)).ok

/-- A write to a word of the STR bank with a rule of its own; none for the words that follow the register map. -/
def State.strWrite (s : State) (p : HostPort) (w : Nat) (v : Nat) : Option Written :=
  match w with
  | 0x03 => some (s.armCodeWrite .str (v % 65536))
  | 0x04 => some (s.armWrite p .str (v % 65536))
  | 0x05 => some (s.commitWrite p (v % 65536))
  | 0x06 => some (s.limitWrite p A.STR_STEP_LIMIT v 1000000000)
  | 0x07 => some (s.limitWrite p A.STR_RATE_STEP_LIMIT v 134217728)
  | 0x09 => some (s.pendWrite p v)
  | 0x0A => some (s.hold p A.STR_PEND_DELTA_MID (wordOf v)).ok
  | 0x0B => some (s.hold p A.STR_PEND_DELTA_LO (wordOf v)).ok
  | 0x19 => some (s.faceWrite p .f0 (A.STR_F0_RATE_HI) 0 v)
  | 0x1A => some (s.faceWrite p .f0 (A.STR_F0_RATE_HI) 1 v)
  | 0x1B => some (s.faceWrite p .f0 (A.STR_F0_RATE_HI) 2 v)
  | 0x1C => some (s.faceWrite p .f0 (A.STR_F0_RATE_HI) 3 v)
  | 0x29 => some (s.faceWrite p .f3 (A.STR_F3_RATE_HI 0) 0 v)
  | 0x2A => some (s.faceWrite p .f3 (A.STR_F3_RATE_HI 0) 1 v)
  | 0x2B => some (s.faceWrite p .f3 (A.STR_F3_RATE_HI 0) 2 v)
  | 0x2C => some (s.faceWrite p .f3 (A.STR_F3_RATE_HI 0) 3 v)
  | 0x30 => some (s.leapCtlWrite v)
  | 0x31 => some (s.utcWrite p v)
  | 0x32 => some (s.leapAtWrite p true v)
  | 0x33 => some (s.leapAtWrite p false v)
  | _ => none

end Sys2Proof.Machine
end

