-- ==== Sys2Proof/Machine/Servo.lean ====
section
/-! DEFINITION. The servo: the loop, lock, outliers, holdover, the drift history and its estimator (R186 to R217). -/

namespace Sys2Proof.Machine

/-- SRV states (state table). -/
def srvIdle : Nat := 0
def srvAcquire : Nat := 1
def srvLocked : Nat := 2
def srvHoldover : Nat := 3
def srvFrozen : Nat := 4

/-- SRV.STAT.STATE. -/
def State.srvState (s : State) : Nat := s.get F.SRV_STAT_STATE

/-- Whether holdover has cause JUMP. -/
def State.srvJump (s : State) : Bool := s.srvState == srvHoldover && s.bit F.SRV_STAT_CAUSE

/-- The bandwidth of a BW code in Hz (R187). -/
def bwHz (code : Nat) : Rat :=
  ([1/1000, 2/1000, 5/1000, 1/100, 2/100, 5/100, 1/10, 2/10, 5/10, 1, 2, 5, 10] : List Rat).getD code 0

/-- The selected slot, 15 for none. -/
def State.selSlot (s : State) : Nat := s.get F.REFM_SEL_NOW_SLOT

/-- A slot's hidden state. -/
def State.slot (s : State) (n : Nat) : RefSlot := s.refm.slots.getD n {}

/-- The state with a slot's hidden state replaced. -/
def State.setSlot (s : State) (n : Nat) (x : RefSlot) : State :=
  { s with refm := { s.refm with slots := s.refm.slots.setIfInBounds n x } }

/-- 2π to 60 digits (R188). -/
def twoPi : Rat := 6283185307179586476925286766559005768394338798750211641949889 / 10 ^ 60

/-- A slot's expected period in pips (R145). -/
def State.slotPeriod (s : State) (n : Nat) : Rat :=
  (s.val (A.REFM_Sn_PERIOD_NUM n) : Rat) * 65536 / (max 1 (s.val (A.REFM_Sn_PERIOD_DEN n)) : Nat)

/-- The rate of a slot's measurements in Hz: one per period, or the announced Sync rate (R187). -/
def State.measRate (s : State) (n : Nat) : Rat :=
  if n < 8 then (pipsPerSec : Rat) / s.slotPeriod n else (2 : Rat) ^ (-(s.slot n).syncLog)

/-- The update rate f_u in Hz (R187). -/
def State.updateRate (s : State) : Rat := min 1024 (s.measRate s.selSlot)

/-- The bandwidth in effect (R187). -/
def State.bandwidth (s : State) : Rat := min (bwHz (s.get F.SRV_CTL_BW)) (s.updateRate / 20)

/-- SRV submits a rate target to STR: the rounded difference, held to the rate-step limit and to the range of the rate
(R189 and the edges of its chapter). -/
def State.submitRate (s : State) (target : Rat) : State :=
  let rate := s.str.f0.rate
  let want := roundRat (target * 2 ^ 60)
  let ranged := saturateSigned 48 want
  let lim := s.rateLimit
  let diff := max (-lim) (min lim (ranged - rate))
  let clamped := decide (rate + diff ≠ want)
  let s1 := (s.setRate .f0 .srv (rate + diff)).raiseIf clamped Ev.SRV_CLAMP
  if clamped then s1.setBit F.SRV_STAT_CLAMP_SEEN true else s1

/-- SRV enters ACQUIRE with the integrator at `i`. -/
def State.enterAcquire (s : State) (i : Rat) : State :=
  ({ s with srv := { s.srv with
      i := i, lock := {}, meas := [], freqs := [], fresh := true, rejects := 0, within := 0, lastE := none } }).put
    F.SRV_STAT_STATE srvAcquire

/-- F0's rate as a fractional frequency. -/
def State.f0Rate (s : State) : Rat := (s.str.f0.rate : Rat) / 2 ^ 60

/-- SRV goes to IDLE; a FROZEN servo stays FROZEN (R742). -/
def State.srvToIdle (s : State) : State :=
  if s.srvState = srvFrozen then s else s.put F.SRV_STAT_STATE srvIdle

/-- Ticks in a second. -/
def ticksPerSec : Nat := 1250000000

/-- The span that a history must reach back, in ticks: the longest HO_AVG and HO_SKIP (R197, R206). -/
def histSpan : Nat := 87000 * ticksPerSec

/-- A history (newest first) without the entries that no window reaches: those from `t` on, and the one before. -/
def keepSince {α : Type} (t : Int) : List (Nat × α) → List (Nat × α)
  | [] => []
  | x :: l => if t ≤ (x.1 : Int) then x :: keepSince t l else [x]

/-- The mean of a rate history (newest first, each entry from its Tally on) over ticks `a` to `b`, as a sum of
rate × ticks. -/
def rateSum (a b : Int) : List (Nat × Int) → Int → Int
  | [], _ => 0
  | (t, r) :: l, hi =>
    let lo := max (t : Int) a
    let top := min hi b
    (if lo < top then r * (top - lo) else 0) + rateSum a b l (t : Int)

/-- The entry averaging window in ticks: HO_AVG seconds that end HO_SKIP seconds before the last accepted measurement. -/
def State.entryWindow (s : State) : Int × Int :=
  let b := (s.srv.lastAt : Int) - s.val A.SRV_HO_SKIP * ticksPerSec
  (b - s.val A.SRV_HO_AVG * ticksPerSec, b)

/-- The entry rate r_e in units of 2^-60 (R197). -/
def State.entryRate (s : State) : Int :=
  let avg := s.val A.SRV_HO_AVG
  let held := s.srvState = srvLocked ∧ (avg + s.val A.SRV_HO_SKIP) * ticksPerSec ≤ s.tally - s.srv.lockedAt
  if held then
    let w := s.entryWindow
    roundRat ((rateSum w.1 w.2 s.srv.rates (s.tally : Int) : Rat) / ((avg * ticksPerSec : Nat) : Rat))
  else roundRat (s.srv.i * 2 ^ 60)

/-- E_e: the mean |e| over the entry averaging window, in ns (R206); none when no measurement fell into it. -/
def State.entryError (s : State) : Option Rat :=
  let w := s.entryWindow
  let es := s.srv.errs.filter (fun e => decide (w.1 ≤ (e.1 : Int)) && decide ((e.1 : Int) ≤ w.2))
  if es.length = 0 then none else some (((es.map (fun e => e.2)).sum : Rat) / (es.length : Rat) / 65536)

/-- SRV enters HOLDOVER (R194, R196, R197, R204). A window without a measurement gives E_e no value (log 97): it is free. -/
def State.enterHoldover (s : State) (jump : Bool) : State :=
  if s.srvState = srvHoldover then
    if s.srvJump = true ∧ jump = false then
      { s with srv := { s.srv with lossSecs := 0 } }.setBit F.SRV_STAT_CAUSE false
    else s.setBit F.SRV_STAT_CAUSE jump
  else
    let re := s.entryRate
    let eE := s.entryError
    let s0 := if eE.isSome then s else s.drawn
    let s1 := { s0 with srv := { s.srv with
      re := re, eE := eE.getD (s.freeNat : Rat), overBudget := false, within := 0, atH := s.srv.lastAt, meas := []
      freqs := [], lossSecs := 0, pred := 0, predEnd := none, decaying := false } }
    let s2 := ((s1.put F.SRV_STAT_STATE srvHoldover).setBit F.SRV_STAT_CAUSE jump).setVal A.SRV_HO_TIME 0
    s2.submitRate ((re : Rat) / 2 ^ 60)

/-- The selection becomes NONE: SRV enters HOLDOVER from Grand or Follow (R167, R196). -/
def State.lossOfSelection (s : State) : State :=
  if s.baseMode = .grand ∨ s.baseMode = .follow then
    ((s.enterHoldover false).autoMode .holdover 5).raise Ev.HO_ENTER
  else s

/-- SRV enters FROZEN at the entry rate, at the acceptance of a sleep entry (R629). -/
def State.freezeServo (s : State) : State :=
  if s.srvState = srvAcquire ∨ s.srvState = srvLocked ∨ s.srvState = srvHoldover then
    let re := if s.srvState = srvHoldover then s.srv.re else s.entryRate
    (({ s with srv := { s.srv with re := re } }).submitRate ((re : Rat) / 2 ^ 60)).put F.SRV_STAT_STATE srvFrozen
  else s

/-- The mode that a selected slot gives: Grand for a PIN slot, Follow for a NET slot. -/
def slotMode (n : Nat) : Mode := if n < 8 then .grand else .follow

/-- SRV leaves HOLDOVER for the selected slot (R198). -/
def State.leaveHoldover (s : State) : State :=
  ((s.enterAcquire s.f0Rate).autoMode (slotMode s.selSlot) 6).raise Ev.HO_EXIT

/-- REFM has completed a switch (R174, R195, R198, R216). `pass` tells a switch with a step from an absorption. -/
def State.servoSwitched (s : State) (pass : Bool) : State :=
  let s0 := { s with srv := { s.srv with ivSwitch := true } }
  if s0.srvState = srvHoldover ∧ s0.srvJump = false then
    if s0.bit F.SRV_CTL_HO_EXIT then s0 else s0.leaveHoldover
  else
    let s1 :=
      if s0.srvState = srvHoldover then s0.enterAcquire s0.srv.i
      else if s0.srvState = srvLocked ∧ pass = true then s0.enterAcquire s0.srv.i
      else if s0.srvState = srvAcquire then s0.enterAcquire s0.srv.i
      else { s0 with srv := { s0.srv with lastE := none, rejects := 0, meas := [], freqs := [] } }
    if s1.baseMode = .grand ∨ s1.baseMode = .follow then s1.autoMode (slotMode s1.selSlot) 8 else s1

/-- θ of R200 in 0.01 K: the filtered package temperature, before its first sample the reading. -/
def State.theta (s : State) : Rat := s.srv.theta.getD ((s.ival A.GRD_TEMP_PKG : Rat) / 100)

/-- A package sample in 0.1 mK passes the filter of 60 s, sampled every 10 ms (R200): DESIGN CHOICE (log 98), a step of
1/6,000 of the difference. While PKG_FAULT is tripped θ is held. -/
def State.filterTheta (s : State) (v : Int) : State :=
  if s.up .time = false ∨ s.tripped 4 = true then s
  else
    let x := (v : Rat) / 100
    { s with srv := { s.srv with theta := some (match s.srv.theta with
        | none => x
        | some y => y + (x - y) / 6000) } }

/-- One accepted phase measurement (R193): it is kept for the next update. -/
def State.acceptMeas (s : State) (e : Int) : State :=
  { s with srv := { s.srv with
      lastE := some e, lastAt := s.tally, acceptedAt := some s.tally, rejects := 0, meas := s.srv.meas ++ [e], thetaH := s.theta
      errs := (s.tally, e.natAbs) :: keepSince ((s.tally : Int) - histSpan) s.srv.errs } }

/-- One frequency measurement: the error of an interval of a FREQ slot (R191). -/
def State.freqMeasurement (s : State) (err : Rat) : State :=
  if s.srvState = srvAcquire ∨ s.srvState = srvLocked then
    { s with srv := { s.srv with freqs := s.srv.freqs ++ [err], lastAt := s.tally, acceptedAt := some s.tally, thetaH := s.theta } }
  else s

/-- OUTLIER in pips. -/
def State.outlierPips (s : State) : Int := (s.val A.SRV_OUTLIER : Int) * 65536

/-- One phase measurement (R186, R193, R194). -/
def State.measurement (s : State) (e : Int) : State :=
  let s0 := s.setIval A.SRV_PHASE_ERR (max (-(2 ^ 31 - 1)) (min (2 ^ 31 - 1) e))
  let far := match s0.srv.lastE with
    | none => false
    | some l => decide (s0.outlierPips < |e - l|)
  if s0.srvJump then
    if far then { s0 with srv := { s0.srv with within := 0 } }
    else if s0.srv.within + 1 ≥ 4 then (s0.enterAcquire s0.f0Rate).acceptMeas e
    else { s0 with srv := { s0.srv with within := s0.srv.within + 1 } }
  else if s0.srvState = srvLocked ∧ s0.val A.SRV_OUTLIER ≠ 0 ∧ far = true then
    let s1 := (s0.count (wordFld A.SRV_OUTLIERS) 1)
    if s1.srv.rejects + 1 ≥ 4 then
      ((({ s1 with srv := { s1.srv with rejects := 0 } }).enterHoldover true).setBit F.SRV_STAT_JUMP_SEEN true).raise
        Ev.SRV_JUMP
    else { s1 with srv := { s1.srv with rejects := s1.srv.rejects + 1 } }
  else if s0.srvState = srvAcquire ∨ s0.srvState = srvLocked then s0.acceptMeas e
  else s0

/-- The lock qualifier takes one sample per update (R192). A release is an entry to ACQUIRE (R190). -/
def State.lockSample (s : State) (x : Int) : State :=
  let q := Qual.sample .lower (s.descriptor A.SRV_LOCK_ASSERT) x s.srv.lock
  let s1 := { s with srv := { s.srv with lock := q } }
  if q.on && s.srvState == srvAcquire then
    (({ s1 with srv := { s1.srv with lockedAt := s.tally } }).put F.SRV_STAT_STATE srvLocked).raise Ev.SRV_LOCK
  else if !q.on && s.srvState == srvLocked then
    { s1 with srv := { s1.srv with fresh := true } }.put F.SRV_STAT_STATE srvAcquire
  else s1

/-- The damping factor (R188). -/
def State.damping (s : State) : Rat := if s.bit F.SRV_CTL_DAMP then 1 else 707 / 1000

/-- The loop's update from a mean phase error in pips (R188 to R190, R192). -/
def State.phaseUpdate (s : State) (e : Rat) : State :=
  let step := s.srv.fresh && s.bit F.SRV_CTL_ACQ_STEP && decide (s.ival A.SRV_LOCK_ASSERT < |roundRat e|)
  let d := roundRat e
  let s0 := if step then s.stepFace .f0 .srv d else s
  let done := step && decide (|d| ≤ s.stepLimit) && s.stepFits .f0 d
  let e1 : Rat := if done then 0 else e
  let sec := e1 / (pipsPerSec : Rat)
  let w := twoPi * s.bandwidth
  let lim : Rat := (s.val A.SRV_SLEW_MAX : Rat) / 1000000000
  let i := s.srv.i + w * w * sec / s.updateRate
  let p := max (-lim) (min lim (2 * s.damping * w * sec))
  let s1 := { s0 with srv := { s0.srv with i := i, fresh := false, meas := [] } }
  let s2 := s1.setBit F.SRV_STAT_BW_CLAMPED (decide (s.bandwidth < bwHz (s.get F.SRV_CTL_BW)))
  (s2.submitRate (i + p)).lockSample (roundRat (abs e1))

/-- The frequency-lock update from a mean frequency error (R187, R191, R192). -/
def State.freqUpdate (s : State) (err : Rat) : State :=
  let w := twoPi * s.bandwidth
  let i := s.srv.i + err * min 1 (w / s.updateRate)
  let s1 := { s with srv := { s.srv with i := i, fresh := false, freqs := [] } }
  let s2 := s1.setBit F.SRV_STAT_BW_CLAMPED (decide (s.bandwidth < bwHz (s.get F.SRV_CTL_BW)))
  (s2.submitRate i).lockSample (roundRat (abs err * 1000000000000))

/-- Whether the selected slot is of kind FREQ. -/
def State.freqLoop (s : State) : Bool := decide (s.selSlot < 8) && s.get (F.REFM_Sn_CTL_KIND s.selSlot) == 2

/-- The mean of a list of measurements (R187). -/
def meanOf (l : List Rat) : Rat := l.sum / (l.length : Rat)

/-- SRV_UPDATE (R187, R188, R191): the update from the measurements taken since the last one. -/
def State.servoUpdate (s : State) : State :=
  if s.srvState = srvAcquire ∨ s.srvState = srvLocked then
    if s.freqLoop then (if s.srv.freqs = [] then s else s.freqUpdate (meanOf s.srv.freqs))
    else if s.srv.meas = [] then s
    else s.phaseUpdate (meanOf (s.srv.meas.map (fun e => (e : Rat))))
  else s

/-- The estimator's four coefficients. -/
def State.coef (s : State) (k : Nat) : Rat := s.srv.est.getD k 0

/-- The difference of y_lin between now and t_h, in 10^-15 (R200). -/
def State.yLinMoved (s : State) : Rat :=
  let days : Rat := ((s.tally - s.srv.atH : Nat) : Rat) / ((86400 * ticksPerSec : Nat) : Rat)
  let tref : Int := s.ival A.SRV_EST_TREF
  let a : Rat := (s.theta - tref) / 100
  let b : Rat := (s.srv.thetaH - tref) / 100
  s.coef 1 * days + s.coef 2 * (a - b) + s.coef 3 * (a * a - b * b)

/-- Whether the drift history holds 1,008 valid records (R203). -/
def State.histReady (s : State) : Bool :=
  decide (1008 ≤ (s.srv.hist.filter (fun r => bitOf (natAt r.2 13 1) 0)).length)

/-- PRED_OK: the conditions of R203. -/
def State.predOk (s : State) : Bool :=
  s.srvState == srvHoldover && s.bit F.SRV_CTL_PRED_EN && s.histReady

/-- w (R203, R204): 1 up to the end of the last good prediction's interval, then falling to 0 over PRED_DECAY seconds; 0
while the conditions of R203 are not met. -/
def State.predW (s : State) : Rat :=
  match s.srv.predEnd with
  | none => 0
  | some e =>
    if s.predOk = false then 0
    else if s.f0Sec ≤ e then 1
    else max 0 (1 - ((s.f0Sec - e : Nat) : Rat) / ((max 1 (s.val A.SRV_PRED_DECAY) : Nat) : Rat))

/-- PRED_NOW = w × p, in 10^-15. -/
def State.predNow (s : State) : Int := roundRat (s.predW * s.srv.pred)

/-- HO_ERR (R206), rounded up to whole ns. -/
def State.holdoverError (s : State) (t : Nat) : Nat :=
  let uy : Rat := if s.bit F.SRV_STAT_EST_VALID then 3 * (s.val A.SRV_EST_RMS : Rat) else 300000
  let ua : Rat := (s.val A.SRV_EST_UA : Rat)
  (ceilRat (s.srv.eE + uy * t / 1000000 + ua * t * t / (2 * 86400 * 1000000))).toNat

/-- HO_RATE_UPDATE (R200, R206, R207): the holdover engine's update, once a second. -/
def State.holdoverTick (s : State) : State :=
  if s.srvState ≠ srvHoldover then s
  else
    let t := s.val A.SRV_HO_TIME + 1
    let corr : Int := if s.bit F.SRV_STAT_EST_VALID then roundRat (-s.yLinMoved) else 0
    let err := s.holdoverError t
    let s0 := { s with srv := { s.srv with lossSecs := if s.srvJump then s.srv.lossSecs else s.srv.lossSecs + 1 } }
    let s1 := (s0.setVal A.SRV_HO_TIME t).setIval A.SRV_HO_CORR corr
    let s2 := s1.setVal A.SRV_HO_ERR (min err (2 ^ 32 - 1))
    let s3 := s2.submitRate ((s.srv.re : Rat) / 2 ^ 60 + ((corr - s.predNow : Int) : Rat) / 1000000000000000)
    let lim := s.val A.SRV_HO_ERR_LIMIT
    if lim ≠ 0 ∧ lim < err ∧ s.srv.overBudget = false then
      let s4 := (({ s3 with srv := { s3.srv with overBudget := true } }).setBit F.SRV_STAT_BUDGET_SEEN true).raise
        Ev.HO_BUDGET
      if s4.bit F.SRV_CTL_HO_SAFE then s4.enterSafe 17 else s4
    else s3

/-- HO_LIMIT seconds of holdover with cause LOSS put SRV in FROZEN and the mode in Free-run (R199). -/
def State.holdoverLimit (s : State) : State :=
  if s.srvState = srvHoldover ∧ s.srvJump = false ∧ s.val A.SRV_HO_LIMIT ≠ 0 ∧
      s.val A.SRV_HO_LIMIT ≤ s.srv.lossSecs then
    ((s.put F.SRV_STAT_STATE srvFrozen).autoMode .freeRun 7).raise Ev.HO_EXIT
  else s

/-! ### Drift history and estimator -/

/-- λ of the estimator (R201). -/
def State.lambda (s : State) : Rat := 1 - 1 / 2 ^ (s.get F.SRV_EST_CTL_LAMBDA_LOG2)

/-- The inner product of two vectors. -/
def dot (a b : List Rat) : Rat := ((a.zip b).map (fun x => x.1 * x.2)).sum

/-- The covariance, or its initial value before the first update. -/
def State.covariance (s : State) : List (List Rat) :=
  if s.srv.cov.length = 4 then s.srv.cov
  else (List.range 4).map (fun r => (List.range 4).map (fun c => if r = c then Config.estPrior else 0))

/-- One recursive-least-squares step with regressor `x` and target `y` (R201). -/
def State.estimate (s : State) (x : List Rat) (y : Rat) : State :=
  let lam := s.lambda
  let px := s.covariance.map (fun row => dot row x)
  let den := lam + dot x px
  let gain := px.map (fun v => v / den)
  let err := y - dot s.srv.est x
  let est := (s.srv.est.zip gain).map (fun c => c.1 + c.2 * err)
  let cov := (s.covariance.zip gain).map (fun rg => (rg.1.zip px).map (fun cp => (cp.1 - rg.2 * cp.2) / lam))
  let s1 := { s with srv := { s.srv with est := est, cov := cov } }
  let put (k a : Nat) (t : State) : State := t.setIval a (roundRat (est.getD k 0))
  put 3 A.SRV_EST_B2 (put 2 A.SRV_EST_B1 (put 1 A.SRV_EST_A (put 0 A.SRV_EST_Y0 s1)))

/-- The regressor (1, t, θ − θ_r, (θ − θ_r)²) of a record (R201). -/
def State.regressor (s : State) (sec : Nat) (temp : Int) : List Rat :=
  let th : Rat := ((temp - s.ival A.SRV_EST_TREF : Int) : Rat) / 100
  [1, ((sec : Rat) - (s.srv.estOrigin : Rat)) / 86400, th, th * th]

/-- EST_RMS from the residuals (R201). -/
def rmsOf (l : List Int) : Nat :=
  if l.length = 0 then 0 else Nat.sqrt ((l.map (fun r => r.natAbs * r.natAbs)).sum / l.length)

/-- The estimator takes a valid record (R201, R202). -/
def State.learn (s : State) (sec : Nat) (freq temp : Int) : State :=
  let s0 := if s.val A.SRV_EST_COUNT = 0 then { s with srv := { s.srv with estOrigin := sec } } else s
  let x := s0.regressor sec temp
  let r := (freq : Rat) - dot s0.srv.est x
  let resid := (roundRat r :: s0.srv.resid).take 144
  let s1 := ({ s0 with srv := { s0.srv with resid := resid } }).setVal A.SRV_EST_RMS (rmsOf resid)
  if 10000000 < |r| then { s1 with srv := { s1.srv with outliers := s1.srv.outliers + 1 } }
  else
    let s2 := (s1.estimate x freq).countSat (wordFld A.SRV_EST_COUNT) 1
    if s2.val A.SRV_EST_COUNT = 144 ∧ s1.val A.SRV_EST_COUNT = 143 then
      (s2.setBit F.SRV_STAT_EST_VALID true).raise Ev.EST_READY
    else s2

/-- Adds the ticks since the drift interval was last summed, at the rate, the package temperature and the heater drive that
`x` shows (R210). -/
def State.ivSummed (s x : State) : State :=
  if s.tallyRun then
    let n := s.tally - s.srv.ivSeen
    { s with srv := { s.srv with
        ivSeen := s.tally
        ivRate := s.srv.ivRate + x.str.f0.rate * n
        ivTemp := s.srv.ivTemp + x.ival A.GRD_TEMP_PKG * n
        ivHeat := s.srv.ivHeat + x.val A.TB_HEAT_DRIVE * n } }
  else s

/-- The ticks that the drift interval has been summed over. -/
def State.ivTicks (s : State) : Nat := s.srv.ivSeen - s.srv.ivStart

/-- VALID of a drift record (R210). -/
def State.ivValid (s : State) : Bool := s.srv.ivLocked && s.srv.ivWarm

/-- FREQ of a drift record in 10^-15 (R210): DEDUCED (log 99), the resonator is fast by what F0's mean rate takes back, and
in a VALID record by what the slot gained on F0. -/
def State.ivFreq (s : State) : Int :=
  let n : Rat := ((max 1 s.ivTicks : Nat) : Rat)
  let rate : Rat := (if s.ivTicks = 0 then (s.str.f0.rate : Rat) else (s.srv.ivRate : Rat) / n) / 2 ^ 60
  let gain : Rat :=
    match s.ivValid, s.srv.ivE, s.srv.lastE with
    | true, some a, some b => ((b - a : Int) : Rat) / (n * 262144 / 5)
    | _, _, _ => 0
  saturateSigned 32 (roundRat (-(rate + gain) * 1000000000000000))

/-- TEMP of a drift record in 0.01 K, and HEAT in mA (R210). -/
def State.ivTempMean (s : State) : Int :=
  saturateSigned 16 (roundRat ((if s.ivTicks = 0 then (s.ival A.GRD_TEMP_PKG : Rat)
    else (s.srv.ivTemp : Rat) / (s.ivTicks : Rat)) / 100))
def State.ivHeatMean (s : State) : Nat :=
  (roundRat (if s.ivTicks = 0 then (s.val A.TB_HEAT_DRIVE : Rat) else (s.srv.ivHeat : Rat) / (s.ivTicks : Rat))).toNat

/-- GAP (R210): the first record of an era, or one after a missed record. -/
def State.ivGap (s : State) : Bool := s.srv.lastRec != some (s.f0Sec - 600)

/-- FLAGS of a drift record (R210). -/
def State.driftFlags (s : State) : Nat :=
  flagVal s.ivValid + flagVal s.srv.ivHold * 2 + flagVal s.srv.ivPred * 4 +
    flagVal s.ivGap * 8 + flagVal s.srv.ivStep * 16 + flagVal s.srv.ivSwitch * 32

/-- The 16 bytes of the drift record that is due (R210). -/
def State.driftBytes (s : State) : List Byte :=
  let head := beBytes 4 s.f0Sec ++ beBytes 4 (codeOf 32 s.ivFreq) ++ beBytes 2 (codeOf 16 s.ivTempMean) ++
    beBytes 2 s.ivHeatMean ++ beBytes 1 (s.selSlot * 16 + s.srvState) ++ beBytes 1 s.driftFlags
  head ++ beBytes 2 (crc16 head)

/-- A record enters the ring, whole (R209, R211). -/
def State.storeRecord (s : State) (bytes : List Byte) : State :=
  let next := s.get F.SRV_HIST_HEAD_NEXT
  ((({ s with srv := { s.srv with hist := insertKey next bytes s.srv.hist } }).put F.SRV_HIST_HEAD_NEXT
    ((next + 1) % 4096)).put F.SRV_HIST_HEAD_COUNT (min 4096 (s.get F.SRV_HIST_HEAD_COUNT + 1)))

/-- The next drift interval begins (R203, R210). -/
def State.ivBegins (s : State) : State :=
  { s with srv := { s.srv with
      ivStart := s.tally, ivSeen := s.tally, ivRate := 0, ivTemp := 0, ivHeat := 0, ivE := s.srv.lastE
      lastRec := some s.f0Sec, ivLocked := s.srvState == srvLocked, ivWarm := s.bit F.TB_STAT_WARM
      ivHold := s.srvState == srvHoldover, ivPred := decide (0 < s.predW), ivStep := false, ivSwitch := false
      predFor := some (s.f0Sec + 600) } }

/-- Whether a drift record falls due: F0 is set and its second is a multiple of 600 (R209). -/
def State.recordDue (s : State) : Bool := s.bit F.STR_STAT_F0_SET && s.f0Sec % 600 == 0

/-- A record of the last 600 s, then the estimator's update (R201, R209 to R211). -/
def State.driftRecord (s : State) : State :=
  let s0 := s.ivSummed s
  let s1 := s0.storeRecord s0.driftBytes
  (if s0.ivValid then s1.learn s0.f0Sec s0.ivFreq s0.ivTempMean else s1).ivBegins

/-- No good prediction has arrived for the interval that follows the last one's: w begins to fall (R204). -/
def State.predDecay (s : State) : State :=
  match s.srv.predEnd with
  | none => s
  | some e =>
    if s.srv.decaying = true ∨ s.predOk = false ∨ s.f0Sec < e then s
    else
      (({ s with srv := { s.srv with decaying := true } }).setBit F.SRV_STAT_STALE_SEEN true).raise Ev.PRED_STALE

/-- The predictor's job completes with `p` in 10^-15 for the interval that its drift record opened; none when it ends VOID
(R204, R205). -/
def State.prediction (s : State) (p : Option Int) : State :=
  match p, s.srv.predFor with
  | some v, some e =>
    if |v| ≤ (s.val A.SRV_PRED_CLAMP : Int) ∧ s.predOk = true then
      { s with srv := { s.srv with pred := v, predEnd := some e, decaying := false } }
    else s
  | _, _ => s

/-- What the present state adds to the drift interval in progress and to the rate history (R197, R210). -/
def State.servoWatch (before s : State) : State :=
  let s0 := if before.tallyRun then s.ivSummed before else s
  let rates := if before.str.f0.rate = s.str.f0.rate then s.srv.rates
    else (s.tally, s.str.f0.rate) :: keepSince ((s.tally : Int) - histSpan) s.srv.rates
  { s0 with srv := { s0.srv with
      rates := rates
      ivLocked := s0.srv.ivLocked && s.srvState == srvLocked
      ivWarm := s0.srv.ivWarm && s.bit F.TB_STAT_WARM
      ivHold := s0.srv.ivHold || s.srvState == srvHoldover
      ivPred := s0.srv.ivPred || decide (0 < s.predW) } }

/-! ### Register words of the SRV bank -/

/-- The bits of SRV.STAT the state computes. -/
def State.srvRead (s : State) (p : HostPort) (w : Nat) : Option Word :=
  match w with
  | 0x00 => some (wordOf (s.val A.SRV_STAT + flagVal s.predOk * 32))
  | 0x11 => some (wordOfInt (roundRat (s.f0Rate * 1000000000000000)))
  | 0x13 => some (wordOfInt s.predNow)
  | 0x14 => some (wordOf (⌊s.predW * 65536⌋).toNat)
  | 0x32 => some (s.latched p (A.SRV_HIST_DATA 0))
  | 0x33 => some (s.latched p (A.SRV_HIST_DATA 1))
  | 0x34 => some (s.latched p (A.SRV_HIST_DATA 2))
  | 0x35 => some (s.latched p (A.SRV_HIST_DATA 3))
  | _ => none

/-- Latches the selected drift record for a port. -/
def State.latchHist (s : State) (p : HostPort) : State :=
  let bs := (lookupKey (s.val A.SRV_HIST_SEL % 4096) s.srv.hist).getD (List.replicate 16 0)
  s.latch p ((List.range 4).map (fun k => (A.SRV_HIST_DATA k, wordOf (natAt bs (4 * k) 4))))

/-- An armed write of an estimator coefficient (R213). -/
def State.estWrite (s : State) (p : HostPort) (k a v : Nat) : Written :=
  match s.useArm p .srv with
  | none => s.rejected .unarmed
  | some s1 =>
    if s.srvState = srvHoldover then s1.rejected .range
    else
      let est := modifyAt (fun _ => ((signedOf 32 v : Int) : Rat)) k s1.srv.est
      ((({ s1 with srv := { s1.srv with est := est } }).setVal a v).setBit F.SRV_STAT_EST_VALID true).ok

/-- An armed write of HIST_CLEAR (R209's table). -/
def State.histClear (s : State) (p : HostPort) (v : Nat) : Written :=
  match s.useArm p .srv with
  | none => s.rejected .unarmed
  | some s1 =>
    if v = 1 then
      ((({ s1 with srv := { s1.srv with hist := [] } }).setVal A.SRV_HIST_HEAD 0).setVal A.SRV_EST_COUNT 0).ok
    else s1.ok

/-- RESUME (R198). -/
def State.resume (s : State) : Written :=
  if s.srvState = srvHoldover ∧ s.srvJump = false ∧ s.bit F.SRV_CTL_HO_EXIT = true ∧ s.selSlot ≠ 15 then
    s.leaveHoldover.ok
  else s.rejected .range

end Sys2Proof.Machine
end

