-- ==== Sys2Proof/Machine/Refm.lean ====
section
/-! DEFINITION. The Reference Manager: qualification, quality, integrity, the ladder, switching, the antenna feed
(R144 to R185). -/

namespace Sys2Proof.Machine

/-- Slot states. -/
def slotOff : Nat := 0
def slotAcquiring : Nat := 1
def slotQualified : Nat := 2

/-- Sn_STAT.STATE. -/
def State.slotState (s : State) (n : Nat) : Nat := s.get (F.REFM_Sn_STAT_STATE n)

/-- KIND of a slot: 0 PPS or PTP, 1 PULSE, 2 FREQ. -/
def State.slotKind (s : State) (n : Nat) : Nat := s.get (F.REFM_Sn_CTL_KIND n)

/-- Whether a PIN slot's channel is in loopback (R107). -/
def State.looped (s : State) (n : Nat) : Bool := decide (n < 8) && s.bit (F.VC_Vn_CTL_SRC n)

/-- The UART that a PIN slot takes its quality from, if any. -/
def State.slotUart (s : State) (n : Nat) : Option Uart :=
  if n < 8 ∧ s.get (F.REFM_Sn_CTL_QSRC n) ≠ 0 then s.refm.uarts[s.get (F.REFM_Sn_CTL_QSRC n) - 1]? else none

/-- The IQ of a clockClass (R154). -/
def classIq (c : Nat) : Nat :=
  if c = 6 then 1
  else if c = 7 then 3
  else if c = 13 ∨ c = 14 then 8
  else if c = 52 ∨ c = 58 ∨ c = 187 ∨ c = 193 then 7
  else 15

/-- The worst fresh standard verdict of a UART (R159). -/
def Uart.worst (u : Uart) : Option Nat :=
  match [u.rmc, u.gga, u.gsa].filterMap id with
  | [] => none
  | v :: l => some (l.foldl max v)

/-- A slot's internal quality (R159). -/
def State.iqOf (s : State) (n : Nat) : Nat :=
  if s.bit (F.REFM_Sn_CTL_QL_FORCE n) || s.get (F.REFM_Sn_CTL_QSRC n) == 0 then s.get (F.REFM_Sn_CTL_QL_FIXED n)
  else if n < 8 then
    match s.slotUart n with
    | none => 14
    | some u =>
      match u.pmqst with
      | some x => x.iq (s.val A.REFM_PRTC_TACC)
      | none => (u.worst).getD 14
  else match (s.slot n).annClass with
    | none => 14
    | some c => classIq c

/-- IQ_SRC (R159). -/
def State.iqSrcOf (s : State) (n : Nat) : Nat :=
  if s.bit (F.REFM_Sn_CTL_QL_FORCE n) then 4
  else if s.get (F.REFM_Sn_CTL_QSRC n) = 0 then 0
  else if 8 ≤ n then 3
  else match s.slotUart n with
    | some { pmqst := some _, .. } => 2
    | _ => 1

/-- FLAGS of a fresh $PMQST on the slot's UART. -/
def State.slotFlags (s : State) (n : Nat) : Nat :=
  match s.slotUart n with
  | some { pmqst := some x, .. } => x.flags
  | _ => 0

/-- A slot's integrity verdict (R161): 0 PASS, 1 SUSPECT, 2 FAIL, 3 UNKNOWN; UNKNOWN while it is OFF. -/
def State.integOf (s : State) (n : Nat) : Nat :=
  if s.slotState n = slotOff then 3
  else
    let v := if s.bit (F.REFM_Sn_CTL_INTEG_EN n) then (s.slot n).job else 0
    let doubt := bitOf (s.slotFlags n) 1 || bitOf (s.slotFlags n) 2 ||
      (s.tb.ref.on && s.tb.checkSlot == some n)
    if v = 0 ∧ doubt = true then 1 else v

/-- ANT_FAULT on a slot (R178). -/
def State.antFaultOn (s : State) (n : Nat) : Bool :=
  s.bit F.REFM_ANT_STAT_ANT_FAULT && s.get F.REFM_ANT_CTL_SLOT == n

/-- USABLE but for CAL_HOLD (R162, R184). -/
def State.serviceable (s : State) (n : Nat) : Bool :=
  decide (n < 12) && s.slotState n == slotQualified && decide (s.iqOf n ≤ s.get F.REFM_CTL_IQ_MIN) &&
    s.integOf n != 2 && !s.looped n && !s.antFaultOn n

/-- USABLE (R162). -/
def State.usable (s : State) (n : Nat) : Bool := s.serviceable n && !s.bit (F.REFM_Sn_STAT_CAL_HOLD n)

/-- ELIGIBLE but for CAL_HOLD. -/
def State.worthy (s : State) (n : Nat) : Bool :=
  s.serviceable n && !s.bit (F.REFM_Sn_STAT_WTR_RUN n) && s.integOf n == 0 && s.iqOf n != 14

/-- ELIGIBLE (R163). -/
def State.eligible (s : State) (n : Nat) : Bool := s.worthy n && s.usable n

/-- The slot on a rung of the ladder, 15 for an empty rung. -/
def State.rung (s : State) (r : Nat) : Nat :=
  if r < 8 then bitsAt (s.val A.REFM_LADDER_A) (4 * r) 4 else bitsAt (s.val A.REFM_LADDER_B) (4 * (r - 8)) 4

/-- The twelve rungs in order. -/
def State.ladder (s : State) : List Nat := (List.range 12).map s.rung

/-- `x` reduced to (−m/2, m/2]. -/
def reduceHalf (m : Rat) (x : Rat) : Rat :=
  let k := ⌈x / m - 1 / 2⌉
  x - m * k

/-- The full time of an on-time stamp of a labelled PPS slot in pips (R160, R168). -/
def State.stampTime (s : State) (n : Nat) (t : Int) : Option Int :=
  if s.slotKind n = 0 ∧ s.bit (F.REFM_Sn_STAT_TOD_VALID n) = true then
    match (s.slot n).labelEdge with
    | none => none
    | some (t0, l) => some ((l + roundRat ((((t - t0) : Int) : Rat) * 4 / 5 / (pipsPerSec : Rat))) * pipsPerSec)
  else none

/-- The slot's time at a stamp: the master's for a NET slot, the label's for a labelled PPS slot (R168). -/
def State.fullTime (s : State) (n : Nat) (x : Int × Option Int) : Option Int :=
  match x.2 with
  | some time => some time
  | none => s.stampTime n x.1

/-- Whether SYNCE_QL of a NET slot is no worse than EEC; the codes below PRTC are never produced (R151, R152). -/
def State.syncE (s : State) (n : Nat) : Bool :=
  s.bit (F.REFM_Sn_CTL_SYNCE_EN n) && within (s.get (F.REFM_Sn_IQ_SYNCE_QL n)) 1 6

/-- Whether a NET slot uses its port's recovered receive frequency as assist (R151). -/
def State.syncAssist (s : State) (n : Nat) : Bool :=
  within n 8 11 && s.bit (F.REFM_Sn_CTL_EN n) && s.bit (F.MAC_STAT_LINK_UP (n - 8)) && s.syncE n

/-- A NET slot's port is in TS_SETTLING (R150). -/
def State.slotSettling (s : State) (n : Nat) : Bool := within n 8 11 && s.bit (F.MAC_STAT_TS_SETTLING (n - 8))

/-- What an unlabelled slot's time is known modulo: its period for PULSE, else 1 s. -/
def State.phaseMod (s : State) (n : Nat) : Rat := if s.slotKind n = 1 then s.slotPeriod n else (pipsPerSec : Rat)

/-- A slot's time less `ofs` and less F0 for an on-time stamp (R168, R186). F0 is taken as it stands now (R827). -/
def State.residual (s : State) (n : Nat) (x : Int × Option Int) (ofs : Int) : Int :=
  let f0 := s.str.f0.at_ x.1
  match s.fullTime n x with
  | some time => time - ofs - f0
  | none => ⌊reduceHalf (s.phaseMod n) (((-(f0 + ofs) : Int) : Rat))⌋

/-- Δ of a slot (R168): the mean of its last residuals, rounded once toward minus infinity; a NET slot's last offset.
Without labels the residuals are taken on the side of the newest, and the mean is reduced. -/
def State.deltaOf (s : State) (n : Nat) : Int :=
  match (s.slot n).resid.take 4 with
  | [] => 0
  | x :: l =>
    if 8 ≤ n then s.residual n x 0
    else if (s.fullTime n x).isSome then
      ((x :: l).map (fun y => s.residual n y 0)).sum / ((x :: l).length : Int)
    else
      let m := s.phaseMod n
      let v (y : Int × Option Int) : Rat := ((-(s.str.f0.at_ y.1) : Int) : Rat)
      let base := reduceHalf m (v x)
      let us := (x :: l).map (fun y => base + reduceHalf m (v y - base))
      ⌊reduceHalf m (us.sum / (us.length : Rat))⌋

/-- ABS_OFS of a slot. -/
def State.absOfs (s : State) (n : Nat) : Int :=
  if n < 12 then signedOf 96 (s.multi (A.REFM_Sn_ABS_OFS_HI n) 3) else 0

/-- The state with ABS_OFS of a slot set. -/
def State.setAbsOfs (s : State) (n : Nat) (d : Int) : State := s.setMulti (A.REFM_Sn_ABS_OFS_HI n) (codeOf 96 d) 3

/-- Sets SEL_NOW.SLOT; a change raises SEL_CHANGE, and NONE ends discipline (R167). -/
def State.setSel (s : State) (n : Nat) : State :=
  if s.selSlot = n then s
  else
    let s1 := (s.put F.REFM_SEL_NOW_SLOT n).raise Ev.SEL_CHANGE
    let s2 := { s1 with srv := { s1.srv with ivSwitch := true } }
    if n = 15 then ((s2.put F.REFM_SEL_NOW_ABSORBING 0).put F.REFM_SEL_NOW_MANUAL 0).lossOfSelection else s2

/-- Abandons a held switch (R170). -/
def State.abandonHeld (s : State) : State :=
  ((s.put F.REFM_SEL_NOW_PENDING 15).put F.REFM_SEL_NOW_HELD 0).put F.REFM_STAT_HELD 0

/-- A switch into `n` completes (R169, R171); a change of master that waited for its Sync is answered by it (R174). -/
def State.completeSwitch (s : State) (n : Nat) (manual pass : Bool) (ofs : Int) : State :=
  let s0 := s.setSlot n { s.slot n with reswitch := false }
  let s1 := (s0.abandonHeld.setBit F.REFM_SEL_NOW_MANUAL manual).setBit F.REFM_SEL_NOW_ABSORBING (!pass)
  ((s1.setAbsOfs n ofs).setSel n).servoSwitched pass

/-- A switch is held (R169). A re-evaluation that finds it refused again leaves it held (R170). -/
def State.holdSwitch (s : State) (n : Nat) (manual : Bool) : State :=
  let again := s.bit F.REFM_SEL_NOW_HELD && s.get F.REFM_SEL_NOW_PENDING == n
  let s1 := ((s.put F.REFM_SEL_NOW_PENDING n).put F.REFM_SEL_NOW_HELD 1).put F.REFM_STAT_HELD 1
  let s2 := (s1.setBit F.REFM_STAT_HELD_SEEN true).setBit (F.REFM_Sn_STAT_SWITCH_REFUSED_SEEN n) true
  let s3 := { s2 with refm := { s2.refm with heldManual := manual } }.raiseIf (!again) Ev.SWITCH_HELD
  if s3.serviceable s3.selSlot then s3 else s3.setSel 15

/-- REFM switches to slot `n` (R168 to R172). -/
def State.switchTo (s : State) (n : Nat) (manual : Bool) : State :=
  if n < 8 ∧ s.slotKind n = 2 then s.completeSwitch n manual true 0
  else
    let d := s.deltaOf n
    let s1 := s.setMulti A.REFM_SEL_PHASE_HI (codeOf 96 d) 3
    if s1.bit (F.REFM_Sn_CTL_SW_POL n) && s1.bit F.STR_STAT_F0_SET then s1.completeSwitch n manual false d
    else
      let s2 := s1.stepFace .f0 .switch d
      if |d| ≤ s1.stepLimit ∧ s1.stepFits .f0 d = true then s2.completeSwitch n manual true 0
      else s2.holdSwitch n manual

/-- The scan of R165, without slot `failed`. A choice under CAL_HOLD waits for CAL_END (R184). -/
def State.scan (s : State) (failed : Nat) : State :=
  match s.ladder.find? (fun n => n != 15 && n != failed && s.worthy n) with
  | none => s.abandonHeld.setSel 15
  | some n =>
    if n = s.selSlot then s
    else if s.bit (F.REFM_Sn_STAT_CAL_HOLD n) then { s with refm := { s.refm with waiting := some 14 } }
    else s.switchTo n false

/-- A request for a slot that is not USABLE is refused (R164). -/
def State.refuseSelection (s : State) : State := (s.setBit F.REFM_STAT_SEL_REFUSED_SEEN true).raise Ev.SEL_REFUSED

/-- A write of SEL_REQ (R164, R170, R184). -/
def State.selReq (s : State) (v : Nat) : Written :=
  if v = 12 ∨ v = 13 ∨ 15 < v then s.rejected .range
  else
    let s0 := { s.abandonHeld with refm := { s.abandonHeld.refm with waiting := none } }
    if v = 15 then ((s0.put F.REFM_SEL_NOW_MANUAL 0).setSel 15).ok
    else if v = 14 then ((s0.put F.REFM_SEL_NOW_MANUAL 0).scan 15).ok
    else if s0.usable v then (s0.switchTo v true).ok
    else if s0.serviceable v then (({ s0 with refm := { s0.refm with waiting := some v } }) : State).ok
    else s0.refuseSelection.ok

/-- CAL_HOLD of slot `n` ends: a request that waited for it, or a waiting scan, runs (R143, R184). -/
def State.calHoldEnds (s : State) (n : Nat) : State :=
  let s1 := s.put (F.REFM_Sn_STAT_CAL_HOLD n) 0
  match s1.refm.waiting with
  | none => s1
  | some w =>
    let s2 := { s1 with refm := { s1.refm with waiting := none } }
    if w = 14 then s2.scan 15
    else if w ≠ n then s1
    else if s2.usable w then s2.switchTo w true
    else s2.refuseSelection

/-- A write of ABS_CLEAR (R173). -/
def State.absClear (s : State) (v : Nat) : Written :=
  if v = s.selSlot ∧ v < 12 then
    let d := s.absOfs v
    let s1 := s.stepFace .f0 .switch d
    if |d| ≤ s.stepLimit ∧ s.stepFits .f0 d = true then
      ((s1.setAbsOfs v 0).put F.REFM_SEL_NOW_ABSORBING 0).ok
    else s1.ok
  else s.rejected .range

/-- REACQUIRE (R195): a new switch into the selected slot. -/
def State.reacquire (s : State) : Written :=
  if s.srvJump = true ∧ s.selSlot < 12 then (s.switchTo s.selSlot (s.bit F.REFM_SEL_NOW_MANUAL)).ok
  else s.rejected .range

/-- The PTP service has changed the master of a NET slot (R174): the selected slot is switched into again at the new
master's first usable Sync, which gives the fresh Δ. -/
def State.masterChanged (s : State) (n : Nat) : State :=
  if s.selSlot = n then s.setSlot n { s.slot n with reswitch := true } else s

/-! ### Qualification -/

/-- A slot leaves QUALIFIED, or stays in ACQUIRING (R148 to R150). -/
def State.toAcquiring (s : State) (n : Nat) : State :=
  let was := s.slotState n = slotQualified
  let s1 := if was then s.count (wordFld (A.REFM_Sn_FAULTS n)) 1 else s
  let x := s1.slot n
  let y := { x with good := 0, bad := 0, lostBefore := true, resid := if was then [] else x.resid }
  ((s1.setSlot n y).put (F.REFM_Sn_STAT_STATE n) slotAcquiring).put (F.REFM_Sn_STAT_WTR_RUN n) 0

/-- A slot becomes QUALIFIED (R147, R163). -/
def State.qualify (s : State) (n : Nat) : State :=
  let x := s.slot n
  let s1 := (s.put (F.REFM_Sn_STAT_STATE n) slotQualified).setBit (F.REFM_Sn_STAT_WTR_RUN n)
    (x.lostBefore && s.val (A.REFM_Sn_WTR n) != 0)
  (s1.setSlot n { x with lostBefore := false, bad := 0 }).raise Ev.REF_QUAL

/-- A slot takes one good or bad interval (R147, R148); a NET slot stays in ACQUIRING while its port settles (R150). -/
def State.interval (s : State) (n : Nat) (good : Bool) : State :=
  let x := s.slot n
  let s1 := s.setSlot n (if good then { x with good := x.good + 1, bad := 0 } else { x with good := 0, bad := x.bad + 1 })
  if good then
    if s1.slotState n = slotAcquiring ∧ s1.slotSettling n = false ∧
        s1.get (F.REFM_Sn_QUAL_QUAL_COUNT n) ≤ x.good + 1 then s1.qualify n
    else s1
  else
    if s1.slotState n = slotQualified ∧ s1.get (F.REFM_Sn_QUAL_BAD_RUN n) ≤ x.bad + 1 then s1.toAcquiring n else s1

/-- Loss of signal (R149, R150). -/
def State.lossOfSignal (s : State) (n : Nat) : State :=
  let s1 := ((s.toAcquiring n).setBit (F.REFM_Sn_STAT_LOS_SEEN n) true).raise Ev.REF_LOS
  let x := s1.slot n
  let s2 := s1.setSlot n { x with losArmed := false }
  if n < 8 ∧ x.levelMoved = false then
    (s2.setBit (F.REFM_Sn_STAT_STUCK_SEEN n) true).put (F.REFM_Sn_STAT_STUCK_LVL n) (s.get (F.VC_Vn_STAT_LEVEL n))
  else s2

/-- The loss timer of a PIN slot runs out (R149). -/
def State.pinLoss (s : State) (n : Nat) : State :=
  if n < 8 ∧ s.bit (F.REFM_Sn_CTL_EN n) = true ∧ (s.slot n).losArmed = true then s.lossOfSignal n else s

/-- A slot's EN changes (R19, R149): on, it acquires afresh; off, it is OFF. -/
def State.slotEnable (s : State) (n : Nat) (on : Bool) : State :=
  if on then
    let x : RefSlot := { losArmed := true, job := (s.slot n).job, syncLog := (s.slot n).syncLog,
                         annClass := (s.slot n).annClass }
    (s.setSlot n x).put (F.REFM_Sn_STAT_STATE n) slotAcquiring
  else
    let s1 := if s.slotState n = slotQualified then s.count (wordFld (A.REFM_Sn_FAULTS n)) 1 else s
    (((s1.setSlot n { job := (s.slot n).job, syncLog := (s.slot n).syncLog, annClass := (s.slot n).annClass }).put (F.REFM_Sn_STAT_STATE n) slotOff).put
      (F.REFM_Sn_STAT_WTR_RUN n) 0).put (F.REFM_Sn_STAT_TOD_VALID n) 0

/-- Whether an interval of `i` subticks is good (R145). -/
def State.intervalGood (s : State) (n : Nat) (i : Int) : Bool :=
  let p := s.slotPeriod n
  let tol := max (p * (s.val (A.REFM_Sn_PER_TOL n) : Rat) / 1000000000) 131072
  decide (|((i : Rat) * 4 / 5) - p| ≤ tol)

/-- Whether the width check is on (R146). -/
def State.widthOn (s : State) (n : Nat) : Bool :=
  s.slotKind n != 2 && s.get (F.VC_Vn_CTL_EDGE n) == 2 && s.val (A.REFM_Sn_WID_MAX n) != 0

/-- A label for an edge at `t` (R160). -/
def State.labelled (s : State) (n : Nat) (t : Int) (l : Int) : State :=
  let x := s.slot n
  if x.labelEdge = some (t, l) then s
  else
    let next := x.label.map (· + 1)
    let follows := decide (next = some l) && decide (x.labelEdge.map (·.1) ≠ some t)
    let run := if follows then x.labelRun + 1 else 1
    let s1 := s.setSlot n { x with label := some l, labelRun := run, labelEdge := some (t, l) }
    if follows then (if 3 ≤ run then s1.put (F.REFM_Sn_STAT_TOD_VALID n) 1 else s1)
    else if s1.bit (F.REFM_Sn_STAT_TOD_VALID n) then
      (s1.put (F.REFM_Sn_STAT_TOD_VALID n) 0).setBit (F.REFM_Sn_STAT_TOD_SEEN n) true
    else s1

/-- The frequency error of an interval of a FREQ slot against F0 (R191). -/
def State.intervalError (s : State) (n : Nat) (t0 t1 : Int) : Rat :=
  let p := s.slotPeriod n
  (p - ((s.str.f0.at_ t1 - s.str.f0.at_ t0 : Int) : Rat)) / p

/-- The selected slot gives SRV its measurement (R184, R186, R191): a FREQ slot its interval's frequency error, any other
its phase error. -/
def State.served (s : State) (n : Nat) (x : Int × Option Int) (last : Option Int) : State :=
  if s.selSlot = n ∧ s.bit (F.REFM_Sn_STAT_CAL_HOLD n) = false ∧ s.slotState n = slotQualified then
    if n < 8 ∧ s.slotKind n = 2 then
      match last with
      | none => s
      | some t0 => s.freqMeasurement (s.intervalError n t0 x.1)
    else s.measurement (s.residual n x (s.absOfs n))
  else s

/-- A switch into `n` made at an on-time stamp or Sync of it: the stamp gives SRV a measurement only if the switch does
not complete (R170, R174, R186). -/
def State.switchAt (s : State) (n : Nat) (manual : Bool) (x : Int × Option Int) (last : Option Int) : State :=
  let t := s.switchTo n manual
  if t.bit F.REFM_SEL_NOW_HELD then t.served n x last else t

/-- What an on-time stamp or usable Sync of slot `n` brings: a held switch is judged again, a switch that a new master owes
is made, else the selected slot gives SRV its measurement (R170, R174, R186, R191). -/
def State.onTimeServed (s : State) (n : Nat) (x : Int × Option Int) (last : Option Int) : State :=
  if s.bit F.REFM_SEL_NOW_HELD && s.get F.REFM_SEL_NOW_PENDING == n then
    if s.usable n then s.switchAt n s.refm.heldManual x last else s
  else if s.selSlot = n ∧ (s.slot n).reswitch = true then
    (s.setSlot n { s.slot n with reswitch := false }).switchAt n (s.bit F.REFM_SEL_NOW_MANUAL) x last
  else s.served n x last

/-- A PIN slot takes a stamp of its channel's tap (R144 to R148, R168). -/
def State.pinStamp (s : State) (n : Nat) (st : Stamp) : State :=
  if s.bit (F.REFM_Sn_CTL_EN n) = false ∨ s.looped n = true then s
  else
    let x := s.slot n
    let s0 := s.setSlot n { x with levelMoved := false }
    if st.falling = s.bit (F.REFM_Sn_CTL_ONTIME_POL n) then
      let noWidth := s.widthOn n && x.widthOpen.isSome
      let widthBad := x.widthBad || noWidth
      let s1 := if noWidth then s0.setBit (F.REFM_Sn_STAT_WIDTH_SEEN n) true else s0
      let s2 := match x.lastOn with
        | none => s1
        | some t0 =>
          let good := s.intervalGood n (st.t - t0)
          (if good then s1 else s1.setBit (F.REFM_Sn_STAT_PERIOD_SEEN n) true).interval n (good && !widthBad)
      let s3 := match (s2.slot n).labelNext with
        | none => s2
        | some l => (s2.setSlot n { s2.slot n with labelNext := none }).labelled n st.t l
      let y := s3.slot n
      let entry : Int × Option Int := (st.t, none)
      let s4 := s3.setSlot n { y with
        lastOn := some st.t, widthOpen := some st.t, widthBad := false, losArmed := true
        resid := (entry :: y.resid).take 32 }
      s4.onTimeServed n entry x.lastOn
    else
      match x.widthOpen with
      | none => s0
      | some t0 =>
        let w := (((st.t - t0 : Int) : Rat) * 4 / 5) / 65536
        let bad := s.widthOn n &&
          (decide (w < (s.val (A.REFM_Sn_WID_MIN n) : Rat)) || decide ((s.val (A.REFM_Sn_WID_MAX n) : Rat) < w))
        let s1 := s0.setSlot n { s0.slot n with widthOpen := none, widthBad := bad }
        if bad then s1.setBit (F.REFM_Sn_STAT_WIDTH_SEEN n) true else s1

/-- The conditioned level of a channel changes: the stuck test of R149 sees it. -/
def State.levelChanged (s : State) (n : Nat) : State := s.setSlot n { s.slot n with levelMoved := true }

/-- A NET slot takes a Sync interval judged by the PTP service, with the master's time in pips at `t` (R150, R186). -/
def State.netSync (s : State) (n : Nat) (good : Bool) (t time : Int) : State :=
  if s.bit (F.REFM_Sn_CTL_EN n) = false then s
  else
    let s1 := s.interval n good
    if good then
      let y := s1.slot n
      let s2 := s1.setSlot n { y with lastOn := some t, losArmed := true, resid := ((t, some time) :: y.resid).take 32 }
      s2.onTimeServed n (t, some time) none
    else s1

/-- A NET slot loses its Sync, its link or its timestamps (R150). One silence gives one loss (R149). -/
def State.netLoss (s : State) (n : Nat) : State :=
  if s.up .time = true ∧ s.bit (F.REFM_Sn_CTL_EN n) = true ∧ (s.slot n).losArmed = true then s.lossOfSignal n else s

/-! ### Quality messages -/

/-- The IQ of a 4-bit SSM (R153). -/
def ssmIq (v : Nat) : Nat :=
  if v = 2 then 2 else if v = 4 then 4 else if v = 8 then 5 else if v = 11 then 6 else 15

/-- An ESMC PDU on a NET slot's port (R153). -/
def State.esmc (s : State) (n ssm : Nat) : State :=
  (s.put (F.REFM_Sn_IQ_SYNCE_QL n) (ssmIq ssm)).put (F.REFM_Sn_IQ_RAW n) ssm

/-- The clockClass of a NET slot's selected master (R154); with none, the slot's quality is UNKNOWN (R152). -/
def State.announceClass (s : State) (n : Nat) (c : Option Nat) : State :=
  let s1 := s.setSlot n { s.slot n with annClass := c }
  match c with
  | some k => s1.put (F.REFM_Sn_IQ_RAW n) k
  | none => s1

/-- The state with a UART's verdicts replaced. -/
def State.setUart (s : State) (g : Nat) (u : Uart) : State :=
  { s with refm := { s.refm with uarts := s.refm.uarts.setIfInBounds g u } }

/-- The PIN slots that take their time from UART `g`. -/
def State.uartSlots (s : State) (g : Nat) : List Nat :=
  (List.range 8).filter (fun n => s.get (F.REFM_Sn_CTL_QSRC n) == g + 1 && s.bit (F.REFM_Sn_CTL_EN n))

/-- The TAI second that a UTC second labels (R160): a second 60 comes one after the label that second 59 of its day
received, and UTC_OFFSET as it stands turns any other into TAI. -/
def State.taiLabel (s : State) (u : Uart) (utc : Int) (leap : Bool) : Int :=
  let plain := utc + s.utcOffset
  match leap, u.tod with
  | true, some (utc59, l) => if utc59 + 1 = utc then l + 1 else plain
  | _, _ => plain

/-- A UTC second from ZDA or RMC labels edges (R160). -/
def State.timeOfDay (s : State) (g : Nat) (utc : Int) (leap : Bool) : State :=
  let u := s.refm.uarts.getD g {}
  let tai := s.taiLabel u utc leap
  let s1 := if leap then s else s.setUart g { u with tod := some (utc, tai) }
  s1.each (s.uartSlots g) (fun n t =>
    if t.slotKind n ≠ 0 then t
    else if t.bit (F.REFM_GRXg_CTL_TOD_EDGE g) then t.setSlot n { t.slot n with labelNext := some tai }
    else match (t.slot n).lastOn with
      | none => t
      | some e => t.labelled n e tai)

/-- An accepted standard sentence (R156, R160). -/
def State.standardSentence (s : State) (g : Nat) (fs : List (List Nat)) : State :=
  let u := s.refm.uarts.getD g {}
  let name := fs.getD 0 []
  let s1 :=
    if isType name 82 77 67 then
      let v := if fs.getD 2 [] = [65] then some 1 else if fs.getD 2 [] = [86] then some 15 else u.rmc
      s.setUart g { u with rmc := v }
    else if isType name 71 71 65 then
      let fix := (decimal (fs.getD 6 [])).getD 0
      let sats := (decimal (fs.getD 7 [])).getD 0
      let bad := !(fix == 1 || fix == 2 || fix == 4 || fix == 5) ||
        decide (sats < s.get (F.REFM_GRXg_CTL_SAT_MIN g))
      (s.setUart g { u with gga := some (if bad then 15 else 1) }).each (s.uartSlots g)
        (fun n t => t.put (F.REFM_Sn_IQ_RAW n) fix)
    else if isType name 71 83 65 then
      let v := match decimal (fs.getD 2 []) with
        | some 3 => some 1
        | some 2 => some 7
        | some 1 => some 15
        | _ => u.gsa
      s.setUart g { u with gsa := v }
    else if isType name 71 83 86 then
      let v := gsvOf fs
      s.setVal (A.REFM_GRXg_GSV g) (min 255 v.1 + min 255 v.2 * 256)
    else s
  match sentenceTime fs with
  | none => s1
  | some (utc, leap) => s1.timeOfDay g utc leap

/-- The sentence types REFM accepts (R155). -/
def knownType (name : List Nat) : Bool :=
  isType name 90 68 65 || isType name 82 77 67 || isType name 71 71 65 || isType name 71 83 65 ||
    isType name 71 83 86

/-- A sentence arrives on UART `g` (R155 to R158). -/
def State.nmea (s : State) (g : Nat) (line : List Nat) : State :=
  if s.bit (F.REFM_GRXg_CTL_EN g) = false then s
  else
    match nmeaFields line (s.bit (F.REFM_GRXg_CTL_REQ_CSUM g)) with
    | none => s.count (wordFld (A.REFM_GRXg_ERR g)) 1
    | some fs =>
      let name := fs.getD 0 []
      if name = [80, 77, 81, 83, 84] then
        match pmqst fs with
        | none => s.count (wordFld (A.REFM_GRXg_IGNORED g)) 1
        | some v =>
          (s.setUart g { s.refm.uarts.getD g {} with pmqst := some v }).count (wordFld (A.REFM_GRXg_GOOD g)) 1
      else if knownType name then (s.standardSentence g fs).count (wordFld (A.REFM_GRXg_GOOD g)) 1
      else s.count (wordFld (A.REFM_GRXg_IGNORED g)) 1

/-! ### What follows from a change of state (R165, R170, R182) -/

/-- Whether a slot's quality or verdict has changed: events and sticky bits. The assist of R151 comes and goes without any;
what SRV makes of it the spec does not say (log 100). -/
def State.slotWatch (s : State) (n : Nat) : State :=
  let x := s.slot n
  let iq := s.iqOf n
  let integ := s.integOf n
  let assist := s.syncAssist n
  if x.iqLast = iq ∧ x.integLast = integ ∧ x.assist = assist then s
  else
    let on := s.slotState n != slotOff
    let s1 := s.setSlot n { x with iqLast := iq, integLast := integ, assist := assist }
    let s2 := if x.iqLast ≠ iq ∧ on = true then
        let t := s1.raise Ev.REF_IQ
        if iq = 15 then t.setBit (F.REFM_Sn_STAT_DNU_SEEN n) true else t
      else s1
    if x.integLast ≠ integ ∧ on = true then
      let t := s2.raise Ev.REF_INTEG
      if integ = 1 then t.setBit (F.REFM_Sn_STAT_SUSPECT_SEEN n) true
      else if integ = 2 then t.setBit (F.REFM_Sn_STAT_FAIL_SEEN n) true
      else t
    else s2

/-- After every command: quality changes, then a held switch whose slot is lost is abandoned, then a selection that is
no longer USABLE falls back (R165, R170, R182). A selected slot under CAL_HOLD stays selected until CAL_END (R184). -/
def State.refmWatch (s : State) : State :=
  if s.up .time = false then s
  else
    let s1 := s.each (List.range 12) (fun n t => t.slotWatch n)
    let pend := s1.get F.REFM_SEL_NOW_PENDING
    let lost := pend != 15 && !s1.usable pend
    let s2 := if lost then s1.abandonHeld else s1
    let held := s2.bit (F.REFM_Sn_STAT_CAL_HOLD s2.selSlot)
    if s2.selSlot < 12 ∧ s2.serviceable s2.selSlot = false ∧ held = false then s2.scan s2.selSlot
    else if s2.selSlot = 15 ∧ lost = true then s2.scan pend
    else s2

/-- A slot's wait-to-restore ends (R163, R166). -/
def State.wtrExpired (s : State) (n : Nat) : State :=
  if s.bit (F.REFM_Sn_STAT_WTR_RUN n) then s.put (F.REFM_Sn_STAT_WTR_RUN n) 0
  else
    let l := s.ladder
    let r := l.idxOf n
    if s.bit F.REFM_CTL_REVERT = true ∧ s.eligible n = true ∧ s.selSlot ≠ 15 ∧ s.selSlot ∈ l ∧
        r < l.idxOf s.selSlot ∧ s.get F.REFM_SEL_NOW_PENDING ≠ n then s.switchTo n false
    else s

/-! ### The antenna feed -/

/-- Antenna switch states. -/
def antOff : Nat := 0
def antRamp : Nat := 1
def antOn : Nat := 2
def antWait : Nat := 3
def antLatched : Nat := 4
def antDraining : Nat := 5
def antThermal : Nat := 6
def antNoVheat : Nat := 7

/-- ANT_STAT.STATE. -/
def State.ant (s : State) : Nat := s.get F.REFM_ANT_STAT_STATE

/-- The state with ANT_STAT.STATE set. -/
def State.setAnt (s : State) (x : Nat) : State := s.put F.REFM_ANT_STAT_STATE x

/-- Starts a ramp, unless VHEAT is absent or the switch is too hot (R175, R179, R180). -/
def State.antStart (s : State) : State :=
  if s.get F.TB_STAT_OVEN_FAULT = 1 then s.setAnt antNoVheat
  else if s.refm.antTemp.on then s.setAnt antThermal
  else s.setAnt antRamp

/-- WAIT_S: the whole seconds to the next ramp, rounded up (R177). -/
def State.antWaitSecs (s : State) : Nat :=
  if s.ant = antWait then (s.refm.antEnds - s.tally + ticksPerSec - 1) / ticksPerSec else 0

/-- A failure of the antenna switch (R176 to R178). -/
def State.antFail (s : State) : State :=
  let k := s.get F.REFM_ANT_STAT_FAILS + 1
  let n := s.get F.REFM_ANT_CTL_SLOT
  let s1 := (s.put F.REFM_ANT_STAT_FAILS k).setBit F.REFM_ANT_STAT_ANT_FAULT true
  let s2 := (s1.setBit (F.REFM_Sn_STAT_ANT_SEEN n) true).raise Ev.ANT_FAULT
  let s3 := if s2.refm.antLogged then s2
    else ({ s2 with refm := { s2.refm with antLogged := true } }).ledger 35 1
      (beBytes 1 n ++ beBytes 2 (s.val A.REFM_ANT_IMA)) none
  if 8 ≤ k then s3.setAnt antLatched
  else { s3 with refm := { s3.refm with antEnds := s.tally + 2 ^ (k - 1) * ticksPerSec } }.setAnt antWait

/-- The fields of ANT_CTL that have a range (R15). -/
def antCtlFields (v : Nat) : List (Nat × Nat × Bool) := [(4, 4, decide (bitsAt v 4 4 ≤ 7))]

/-- What the EN and CLR of an ANT_CTL write do to the switch, EN before it given (R175, R177, R185). A CLR starts a ramp
from WAIT and LATCHED; DESIGN CHOICE (log 96): a switch that is on or ramps already goes on as it is. -/
def State.antSwitched (s : State) (was now clr : Bool) : State :=
  if now then
    if was = false then
      if s.ant = antDraining ∨ (s.ant = antLatched ∧ clr = false) then s else s.antStart
    else if clr = true ∧ (s.ant = antWait ∨ s.ant = antLatched) then s.antStart
    else s
  else if s.ant = antRamp ∨ s.ant = antOn then s.setAnt antDraining
  else if s.ant = antDraining ∨ (s.ant = antLatched ∧ clr = false) then s
  else s.setAnt antOff

/-- CLR: the count and the fault go, and the next failure is the first again (R177, R178). -/
def State.antClear (s : State) : State :=
  (({ s with refm := { s.refm with antLogged := false } }).put F.REFM_ANT_STAT_ANT_FAULT 0).put F.REFM_ANT_STAT_FAILS 0

/-- A write of ANT_CTL (R175, R177, R185). -/
def State.antCtlWrite (s : State) (v : Nat) : Written :=
  let x := fitted (s.val A.REFM_ANT_CTL) v (antCtlFields v)
  let s1 := s.setVal A.REFM_ANT_CTL (bitsAt x 0 2 + bitsAt x 4 4 * 16)
  ((s1.when (bitOf v 2) State.antClear).antSwitched (s.bit F.REFM_ANT_CTL_EN) (bitOf v 0) (bitOf v 2)).ok.judged
    (allFit (antCtlFields v))

/-- The 1 ms discharge ends (R175, R185). -/
def State.antDischarged (s : State) : State :=
  if s.ant = antDraining then (if s.bit F.REFM_ANT_CTL_EN then s.antStart else s.setAnt antOff) else s

/-- VHEAT comes or goes (R180). -/
def State.antWatch (s : State) : State :=
  let gone := s.get F.TB_STAT_OVEN_FAULT == 1
  if s.bit F.REFM_ANT_CTL_EN = false then s
  else if gone && (s.ant == antRamp || s.ant == antOn || s.ant == antWait || s.ant == antThermal) then s.setAnt antNoVheat
  else if !gone && s.ant == antNoVheat then s.antStart
  else s

/-- A switch-temperature sample (R179). -/
def State.antTempSample (s : State) (v : Int) : State :=
  let q := Qual.sample .upper (s.descriptor A.REFM_ANT_TEMP_ASSERT) v s.refm.antTemp
  let was := s.refm.antTemp.on
  let s1 := { s with refm := { s.refm with antTemp := q } }
  if was = false ∧ q.on = true then
    let s2 := s1.raise Ev.ANT_THERMAL
    if s2.ant = antRamp ∨ s2.ant = antOn ∨ s2.ant = antWait then s2.setAnt antThermal else s2
  else if was = true ∧ q.on = false ∧ s1.ant = antThermal then s1.antStart
  else s1

/-- A current sample in 0.1 mA (R180). -/
def State.antCurrentSample (s : State) (ima : Nat) : State :=
  let s1 := { s.setVal A.REFM_ANT_IMA ima with refm := { s.refm with ima := (ima :: s.refm.ima).take 3600000 } }
  if s.ant = antOn ∧ ima < 20 then
    let r := s.refm.lowRun + 1
    let s2 := { s1 with refm := { s1.refm with lowRun := r } }
    if r = 8 then (s2.setBit F.REFM_ANT_STAT_OPEN_SEEN true).raise Ev.ANT_OPEN else s2
  else { s1 with refm := { s1.refm with lowRun := 0 } }

/-! ### Register words of the REFM bank -/

/-- Words of the REFM bank the state computes: ANT_STAT, STAT and IQ of a slot. -/
def State.refmRead (s : State) (w : Nat) : Option Word :=
  if 0x40 ≤ w ∧ w < 0x100 then
    let n := (w - 0x40) / 16
    let k := (w - 0x40) % 16
    if k = 1 then
      some (wordOf (s.val (A.REFM_Sn_STAT n) + flagVal (s.usable n) * 4 + flagVal (s.eligible n) * 8 +
        flagVal (s.looped n) * 64 + flagVal (s.antFaultOn n) * 256 + flagVal (s.slotSettling n) * 512))
    else if k = 9 then
      some (wordOf (s.iqOf n + s.iqSrcOf n * 16 + s.get (F.REFM_Sn_IQ_RAW n) * 256 +
        s.get (F.REFM_Sn_IQ_SYNCE_QL n) * 65536 + s.integOf n * 2 ^ 24))
    else none
  else if w = 0x11 then some (wordOf (withBits (s.val A.REFM_ANT_STAT) 8 8 s.antWaitSecs))
  else none

/-- Whether a ladder is accepted (R181): no slot on two rungs, no code 12 to 14. -/
def ladderOk (l : List Nat) : Bool :=
  let used := l.filter (fun n => n != 15)
  used.all (fun n => decide (n < 12)) && decide used.Nodup

/-- The fields of Sn_CTL that have a range: KIND, QSRC, QL_FIXED, SYNCE_EN (R15). -/
def slotCtlFields (n v : Nat) : List (Nat × Nat × Bool) :=
  let ql := bitsAt v 8 4
  [(1, 2, decide (bitsAt v 1 2 ≤ if n < 8 then 2 else 0)), (4, 2, decide (bitsAt v 4 2 ≤ if n < 8 then 2 else 1)),
    (8, 4, within ql 1 8 || decide (14 ≤ ql)), (14, 1, decide (8 ≤ n) || !bitOf v 14)]

/-- The fields of Sn_QUAL (R15). -/
def slotQualFields (v : Nat) : List (Nat × Nat × Bool) :=
  [(0, 16, decide (1 ≤ bitsAt v 0 16)), (16, 8, decide (1 ≤ bitsAt v 16 8))]

/-- A write of Sn_CTL: its fields, then a change of EN. -/
def State.slotCtlWrite (s : State) (n v : Nat) : Written :=
  let x := fitted (s.val (A.REFM_Sn_CTL n)) v (slotCtlFields n v)
  let s1 := s.setVal (A.REFM_Sn_CTL n) (x % 65536 - bitsAt x 6 2 * 64)
  (if bitOf v 0 = s.bit (F.REFM_Sn_CTL_EN n) then s1 else s1.slotEnable n (bitOf v 0)).ok.judged
    (allFit (slotCtlFields n v))

/-- A write to a slot's words (R145 to R148, R163). -/
def State.slotWrite (s : State) (n k v : Nat) : Option Written :=
  match k with
  | 0 => some (s.slotCtlWrite n v)
  | 5 =>
    if s.val (A.REFM_Sn_WID_MAX n) ≠ 0 ∧ s.val (A.REFM_Sn_WID_MAX n) < v then some (s.rejected .range)
    else some (s.setVal (A.REFM_Sn_WID_MIN n) v).ok
  | 6 =>
    if v ≠ 0 ∧ v < s.val (A.REFM_Sn_WID_MIN n) then some (s.rejected .range)
    else some (s.setVal (A.REFM_Sn_WID_MAX n) v).ok
  | 7 =>
    some ((s.setVal (A.REFM_Sn_QUAL n) (fitted (s.val (A.REFM_Sn_QUAL n)) v (slotQualFields v) % 2 ^ 24)).ok.judged
      (allFit (slotQualFields v)))
  | _ => none

/-- The ranges of REFM.CTL and of GRXg_CTL (R15). -/
def refmCtlFields (v : Nat) : List (Nat × Nat × Bool) := [(4, 4, within (bitsAt v 4 4) 1 8)]
def grxCtlFields (v : Nat) : List (Nat × Nat × Bool) :=
  [(1, 3, decide (bitsAt v 1 3 ≤ 5)), (16, 4, decide (1 ≤ bitsAt v 16 4))]

/-- A write to a word of the REFM bank with a rule of its own. -/
def State.refmWrite (s : State) (w v : Nat) : Option Written :=
  match w with
  | 0x01 =>
    let x := fitted (s.val A.REFM_CTL) v (refmCtlFields v)
    some ((s.setVal A.REFM_CTL (bitsAt x 0 1 + bitsAt x 4 4 * 16)).ok.judged (allFit (refmCtlFields v)))
  | 0x02 => some (s.selReq v)
  | 0x04 =>
    if ladderOk ((List.range 8).map (fun r => bitsAt v (4 * r) 4) ++ (List.range 4).map (fun r => s.rung (8 + r))) then
      some (s.setVal A.REFM_LADDER_A v).ok
    else some (s.rejected .range)
  | 0x05 =>
    if ladderOk ((List.range 8).map s.rung ++ (List.range 4).map (fun r => bitsAt v (4 * r) 4)) then
      some (s.setVal A.REFM_LADDER_B (v % 65536)).ok
    else some (s.rejected .range)
  | 0x0A => some (s.absClear v)
  | 0x10 => some (s.antCtlWrite v)
  | _ =>
    if w = 0x20 ∨ w = 0x28 then
      let g := (w - 0x20) / 8
      let x := fitted (s.val (A.REFM_GRXg_CTL g)) v (grxCtlFields v)
      some ((s.setVal (A.REFM_GRXg_CTL g) (bitsAt x 0 6 + bitsAt x 8 4 * 256 + bitsAt x 16 4 * 65536)).ok.judged
        (allFit (grxCtlFields v)))
    else if 0x40 ≤ w ∧ w < 0x100 then s.slotWrite ((w - 0x40) / 16) ((w - 0x40) % 16) v
    else none

end Sys2Proof.Machine
end

