-- ==== Sys2Proof/Machine/Tb.lean ====
section
/-! DEFINITION. The time base: the oven, its faults, the tick PLL, the tick-integrity checks (R57 to R88). -/

namespace Sys2Proof.Machine

/-- The oven's control loop wants heat: the domain ON, OVEN_EN, no missing VHEAT, no overtemperature, no ramp still
falling (R58, R59, R88). -/
def State.wantsHeat (s : State) : Bool :=
  s.dom .oven == 2 && s.bit F.TB_CTL_OVEN_EN && !s.tb.vheatLow.on && !s.tb.overtemp.on && s.tb.ramp != .down

/-- Heating starts: the drive ramps up and a new drive history begins (R58, R63). -/
def State.heatStarts (s : State) : State :=
  { s with tb := { s.tb with ramp := .up, drives := [] } }.setBit F.TB_STAT_OVEN_ON true

/-- Heating stops: the drive ramps down (R58). -/
def State.heatStops (s : State) : State :=
  if s.bit F.TB_STAT_OVEN_ON then
    ({ s with tb := { s.tb with ramp := .down, drives := [] } }.setBit F.TB_STAT_OVEN_ON false).setBit
      F.TB_STAT_FREQ_SETTLED false
  else s

/-- OVEN_ON follows what the control loop wants. -/
def State.heatFollows (s : State) : State :=
  if s.wantsHeat then (if s.bit F.TB_STAT_OVEN_ON then s else s.heatStarts) else s.heatStops

/-- The code of OVEN_FAULT: the lowest of the faults that stand. -/
def State.faultCode (s : State) : Nat :=
  if s.tb.vheatLow.on then 1
  else if s.tb.sensorBad.on then 2
  else if s.tb.overtemp.on then 3
  else if s.tb.slow then 4
  else if s.tb.heaterOpen.on then 5
  else 0

/-- Every change of the code raises OVEN_FAULT; the first fault since OVEN start goes to the Ledger (R86). -/
def State.faultFollows (s : State) : State :=
  let code := s.faultCode
  if code = s.get F.TB_STAT_OVEN_FAULT then s
  else
    let s1 := (s.put F.TB_STAT_OVEN_FAULT code).raise Ev.OVEN_FAULT
    if code = 0 then s1
    else
      let s2 := s1.setBit F.TB_STAT_FAULT_SEEN true
      if s2.tb.faultLogged then s2
      else ({ s2 with tb := { s2.tb with faultLogged := true } }).ledger 33 1 (beBytes 1 code) none

/-- WARM clears (R64, R65). -/
def State.loseWarm (s : State) : State :=
  if s.bit F.TB_STAT_WARM then
    ((({ s with tb := { s.tb with warmSamples := 0 } }).setBit F.TB_STAT_WARM false).setVal A.TB_WARM_AGE 0).raise
      Ev.WARM_LOST
  else s

/-- T_INBAND is released at once, with its run count at 0 (R62, R65). -/
def State.releaseInband (s : State) : State :=
  (({ s with tb := { s.tb with inband := {} } }).setBit F.TB_STAT_T_INBAND false).loseWarm

/-- WARM is set when T_INBAND and FREQ_SETTLED hold together (R61). -/
def State.gainWarm (s : State) : State :=
  if s.bit F.TB_STAT_WARM = false ∧ s.tb.inband.on = true ∧ s.bit F.TB_STAT_FREQ_SETTLED = true then
    ((({ s with tb := { s.tb with warmSamples := 0, slow := false } }).setBit F.TB_STAT_WARM true).setVal
      A.TB_WARMUP_LAST ((s.tb.heatSamples + 3) / 4)).raise Ev.WARM_SET
  else s

/-- The heater-open test: a run of 8 samples below 5 % of the commanded current asserts it, a run of 8 at 10 % or more,
or with no current commanded, clears it (edges of the chapter). -/
def heaterOpenSample (drive commanded : Nat) (q : Qual) : Qual :=
  if q.on then
    if commanded = 0 ∨ commanded ≤ drive * 10 then
      if q.run + 1 ≥ 8 then {} else { q with run := q.run + 1 }
    else { q with run := 0 }
  else if drive * 20 < commanded then
    if q.run + 1 ≥ 8 then { on := true } else { q with run := q.run + 1 }
  else { q with run := 0 }

/-- The check reference's activity (R75): REF runs against a slot. -/
def State.refActive (s : State) : Bool := s.tallyRun && s.bit F.TB_CTL_TIM_REF_EN && s.tb.checkSlot.isSome

/-- FREQ_SETTLED (R63): 60 s of drive history within 20 mA and, where it applies, two gates within 2 × 10^-9. -/
def State.freqSettled (s : State) : Bool :=
  let d := s.tb.drives
  let steady := decide (240 ≤ d.length) && decide (d.foldl max 0 ≤ d.foldl min (d.headD 0) + 20)
  let agree :=
    if s.bit F.TB_CTL_SETTLE_REF && s.refActive then
      match s.tb.gates with
      | a :: b :: _ => decide (|a - b| ≤ 2000)
      | _ => false
    else true
  steady && agree

/-- FREQ_SETTLED follows its two conditions, and WARM with it (R61, R63). -/
def State.freqFollows (s : State) : State := (s.setBit F.TB_STAT_FREQ_SETTLED s.freqSettled).gainWarm.faultFollows

/-- The counts that one 250 ms sample advances: WARM_AGE, OVEN_HOURS, the warm-up time. -/
def State.ovenTimers (s : State) : State :=
  let on := s.bit F.TB_STAT_OVEN_ON
  let warm := s.bit F.TB_STAT_WARM
  let w := if warm then s.tb.warmSamples + 1 else 0
  let h := if on then s.tb.hourSamples + 1 else s.tb.hourSamples
  let s1 : State := { s with tb := { s.tb with
      heatSamples := s.tb.heatSamples + 1, warmSamples := w, hourSamples := h % 14400 } }
  (if h = 14400 then s1.count (wordFld A.TB_OVEN_HOURS) 1 else s1).setVal A.TB_WARM_AGE (w / 4)

/-- OVEN_SAMPLE (R57 to R65): thermistors `a` and `b` in 0.1 mK, VHEAT in mV, the heater current and the commanded
current in mA, neither above HEAT_ILIM (R57). DESIGN CHOICE (log 88): the mean of the thermistors is rounded toward minus
infinity. T_INBAND takes no sample while the SENSOR fault stands, the sample that clears it included (R62). -/
def State.ovenSample (s : State) (a b : Int) (vheat drive commanded : Nat) : State :=
  if s.up .oven = false then s
  else
    let eight (x y : Int) : Descriptor := { assertAt := x, releaseAt := y, assertDwell := 8, releaseDwell := 8 }
    let limit := s.val A.TB_HEAT_ILIM
    let sensor := Qual.sample .upper (eight 5000 3000) |a - b| s.tb.sensorBad
    let temp := if sensor.on then max a b else (a + b) / 2
    let err := temp - Config.ovenSetpoint
    let hot := Qual.sample .upper
      { assertAt := 50000, releaseAt := 30000, assertDwell := 1, releaseDwell := 8 } err s.tb.overtemp
    let low := Qual.sample .lower (eight 4500 4650) vheat s.tb.vheatLow
    let open_ := heaterOpenSample (min drive limit) (min commanded limit) s.tb.heaterOpen
    let s1 : State := { s with tb := { s.tb with
        sensorBad := sensor, overtemp := hot, vheatLow := low, heaterOpen := open_ } }
    let s2 := ((s1.setIval A.TB_OVEN_TEMP temp).setIval A.TB_OVEN_ERR err).ovenTimers.heatFollows
    let heats := s2.bit F.TB_STAT_OVEN_ON
    let s3 := s2.setVal A.TB_HEAT_DRIVE (if heats || s2.tb.ramp == .down then min drive limit else 0)
    let s4 : State :=
      if heats then { s3 with tb := { s3.tb with drives := (min drive limit :: s3.tb.drives).take 240 } } else s3
    let s5 := s4.setBit F.TB_STAT_FREQ_SETTLED s4.freqSettled
    let s6 :=
      if s5.bit F.TB_CTL_OVEN_EN = false ∨ sensor.on = true ∨ s.tb.sensorBad.on = true then s5.releaseInband
      else
        let q := Qual.sample .lower
          { assertAt := 500, releaseAt := 2000, assertDwell := 240, releaseDwell := 8 } |err| s5.tb.inband
        let t : State := ({ s5 with tb := { s5.tb with inband := q } }).setBit F.TB_STAT_T_INBAND q.on
        if q.on then t.gainWarm else t.loseWarm
    s6.faultFollows

/-- 15 min of heating without WARM (edges of the chapter). -/
def State.slowWarm (s : State) : State :=
  if s.up .oven = true ∧ s.bit F.TB_CTL_OVEN_EN = true ∧ s.bit F.TB_STAT_WARM = false then
    ({ s with tb := { s.tb with slow := true } }).faultFollows
  else s

/-- OVEN_EN takes a new value (R65, R88). -/
def State.setOvenEn (s : State) (on : Bool) : State :=
  if on = s.bit F.TB_CTL_OVEN_EN then s
  else
    let s1 := s.setBit F.TB_CTL_OVEN_EN on
    if on then
      ({ s1 with tb := { s1.tb with heatSamples := 0, latched := s1.tb.ramp == HeaterRamp.down } }).heatFollows
    else ({ s1 with tb := { s1.tb with slow := false, latched := false } }).heatFollows.releaseInband.faultFollows

/-- The 50 ms ramp ends (R58, R88): a ramp down has reached 0, and heating starts again where it is wanted. -/
def State.rampDone (s : State) : State :=
  match s.tb.ramp with
  | .none => s
  | .up => { s with tb := { s.tb with ramp := .none } }
  | .down => (({ s with tb := { s.tb with ramp := .none, latched := false } }).setVal A.TB_HEAT_DRIVE 0).heatFollows

/-- What the OVEN domain's start leaves (R65): every qualifier released, counts at 0. -/
def State.ovenStarts (s : State) : State :=
  ({ s with tb := { s.tb with
      inband := {}, vheatLow := {}, sensorBad := {}, overtemp := {}, heaterOpen := {}
      slow := false, heatSamples := 0, warmSamples := 0, drives := [], ramp := .none, latched := false
      faultLogged := false } }).heatFollows

/-- What a drop of the OVEN domain does (R65): WARM and T_INBAND clear, the heater is off, and a fault that stands goes
with the domain, which changes its code (R86). -/
def State.ovenDrops (s : State) : State :=
  let s1 := if s.up .host then s.loseWarm else (s.setBit F.TB_STAT_WARM false).setVal A.TB_WARM_AGE 0
  let s2 : State := { s1 with tb := { s1.tb with
      inband := {}, vheatLow := {}, sensorBad := {}, overtemp := {}, heaterOpen := {}, slow := false
      ramp := .none, latched := false, drives := [] } }
  ((s2.setBit F.TB_STAT_T_INBAND false).setBit F.TB_STAT_OVEN_ON false).setBit F.TB_STAT_FREQ_SETTLED false |>.faultFollows

/-! ### The tick -/

/-- PLL_LOCK sets; the first lock starts the Tally (R72, R73). -/
def State.pllLocked (s : State) : State :=
  if s.dom .time ≠ 0 ∧ s.bit F.TB_STAT_PLL_LOCK = false then
    let s1 := s.setBit F.TB_STAT_PLL_LOCK true
    if s.tallyRun then s1
    else ({ s1 with tally := 0 }).setBit F.TB_STAT_TALLY_RUN true
  else s

/-- PLL_LOCK clears; with the Tally running that is TICK_UNLOCK, and an event of source TICK_SUSPECT (R72, R74). -/
def State.pllUnlock (s : State) : State :=
  if s.bit F.TB_STAT_PLL_LOCK then
    let s1 := s.setBit F.TB_STAT_PLL_LOCK false
    if s.tallyRun then
      let s2 := (s1.setBit F.TB_STAT_UNLOCK_SEEN true).raise Ev.TICK_UNLOCK
      if s2.get F.GRD_STAT_FSM = fsmLowduty then s2 else s2.guardSample 19 true 0
    else s1
  else s

/-- X32's limits on the deviation from 1,250,000,000 ticks: ±300 ppm and ±250 ppm, dwell 2 (R78). -/
def x32Descriptor : Descriptor := { assertAt := 375000, releaseAt := 312500, assertDwell := 2, releaseDwell := 2 }

/-- The TB verdicts in the order of R78. -/
inductive Verdict where
  | slip
  | suspect
  | crystal
  | refDisagrees
  | sound
  deriving DecidableEq, Repr

/-- The verdict table of R78. -/
def verdictOf (div x32 : Bool) (ref : Option Bool) : Verdict :=
  if div then .slip
  else if x32 then (if ref = some false then .crystal else .suspect)
  else if ref = some true then .refDisagrees
  else .sound

/-- A verdict's event, sticky bit and report to the Guard (R78). -/
def State.verdict (s : State) (v : Verdict) : State :=
  match v with
  | .slip => ((s.setBit F.TB_STAT_SLIP_SEEN true).raise Ev.TICK_SLIP).tbVerdict (some 18)
  | .suspect => ((s.setBit F.TB_STAT_SUSPECT_SEEN true).raise Ev.TICK_SUSPECT).tbVerdict (some 19)
  | .crystal => ((s.setBit F.TB_STAT_SUSPECT_SEEN true).raise Ev.X32_SUSPECT).tbVerdict (some 20)
  | .refDisagrees => ((s.setBit F.TB_STAT_REF_SEEN true).raise Ev.TICK_REF_DISAGREE).tbVerdict (some 21)
  | .sound => s.tbVerdict none

/-- Whether X32 finds the crystal sound in a window (R78, R641). -/
def Verdict.crystalSound : Verdict → Bool
  | .sound => true
  | .refDisagrees => true
  | _ => false

/-- The verdict at the end of an X32 window that counted `ticks`, completed or cut off, with `slips` DIV findings
(R78, R830), and the X32 qualifier after it. DESIGN CHOICE (log 21): a window that was cut off is a finding at once, and
its sample to the qualifier's run is one beyond the assert level. -/
def State.windowVerdict (s : State) (ticks : Nat) (completed : Bool) (slips : Nat) : Verdict × Qual :=
  let dev : Int := if completed then |(ticks : Int) - 1250000000| else 1250000000
  let q := Qual.sample .upper x32Descriptor dev s.tb.x32
  (verdictOf (decide (0 < slips)) (q.on || !completed) (if s.refActive then some s.tb.ref.on else none), q)

/-- X32_WINDOW_END (R78, R830). -/
def State.x32Window (s : State) (ticks : Nat) (completed : Bool) (slips : Nat) : State :=
  if s.tallyRun = false then s
  else
    let v := s.windowVerdict ticks completed slips
    let s1 := ({ s with tb := { s.tb with x32 := v.2 } }).setVal A.TB_TIM_X32_TICKS (if completed then ticks else 0)
    (s1.countSat (wordFld A.TB_TIM_SLIP_COUNT) slips).verdict v.1

/-- Whether a slot is QUALIFIED. -/
def State.qualified (s : State) (n : Nat) : Bool := decide (n < 12) && s.slotState n == slotQualified

/-- The slot under the REF check (R75, R76). -/
def State.refSlot (s : State) : Option Nat :=
  let src := s.get F.TB_CTL_TIM_REF_SRC
  let ok (n : Nat) : Bool := s.qualified n && (decide (n < 8) || s.syncE n)
  let freq (n : Nat) : Bool := decide (n < 8) && s.qualified n && s.slotKind n == 2
  if src < 8 then (if ok src then some src else none)
  else if src = 8 then
    if ok s.selSlot then some s.selSlot
    else match s.ladder.find? freq with
      | some n => some n
      | none => (List.range 8).find? freq
  else if ok (src - 1) then some (src - 1) else none

/-- The slot under the check follows; a change discards the gate and the run (R77). -/
def State.refCheckFollows (s : State) : State :=
  let now := if s.tallyRun && s.bit F.TB_CTL_TIM_REF_EN then s.refSlot else none
  if now = s.tb.checkSlot then s
  else { s with tb := { s.tb with checkSlot := now, gates := [], ref := { s.tb.ref with run := 0 } } }

/-- REF_GATE_END (R63, R75, R78): the deviation of a 10 s gate in 10^-12, and the verdict that the gate's window gives with
X32 as it stands. DIV findings are counted with the X32 windows (log 89). -/
def State.refGate (s : State) (dev : Int) : State :=
  if s.refActive then
    let q := Qual.sample .upper (s.descriptor A.TB_TIM_REF_ASSERT) |dev| s.tb.ref
    let s1 : State := { s with tb := { s.tb with ref := q, gates := (dev :: s.tb.gates).take 2 } }
    (s1.setIval A.TB_TIM_REF_DEV dev).verdict (verdictOf false s.tb.x32.on (some q.on))
  else s

/-- What a start of TIME leaves of the time base's TIME part. -/
def State.tickStarts (s : State) : State :=
  { s with tally := 0, tb := { s.tb with gates := [], checkSlot := none, x32 := {}, ref := {} } }

/-! ### Register words of the TB bank -/

/-- TB.STAT.DRAINING: an enable is latched while the ramp falls (R88). -/
def State.ovenDraining (s : State) : Bool := s.tb.latched && s.tb.ramp == .down

/-- Words of the TB bank the state computes. -/
def State.tbRead (s : State) (w : Nat) : Option Word :=
  match w with
  | 0x00 => some (wordOf (s.val A.TB_STAT + flagVal s.ovenDraining * 32 + flagVal s.tb.checkSlot.isSome * 128))
  | 0x02 => some (wordOfInt Config.ovenSetpoint)
  | 0x20 => some (wordOf (s.tally / 2 ^ 32))
  | 0x21 => some (wordOf s.tally)
  | _ => none

/-- The fields of TB.CTL but OVEN_EN take a write, each only when its part of the bank is open (R831); a TIM_REF_SRC out
of range keeps its value (R15). -/
def State.tbCtlFields (s : State) (oven time : Bool) (v : Nat) : Written :=
  let s1 := if oven then s.setBit F.TB_CTL_SETTLE_REF (bitOf v 1) else s
  if time then
    let s2 := s1.setBit F.TB_CTL_TIM_REF_EN (bitOf v 2)
    if 12 < bitsAt v 4 4 then s2.rejected .range else (s2.put F.TB_CTL_TIM_REF_SRC (bitsAt v 4 4)).ok
  else s1.ok

/-- A write of TB.CTL (R65, R829, R831): a write that changes OVEN_EN is WA. -/
def State.tbCtlWrite (s : State) (p : HostPort) (oven time : Bool) (v : Nat) : Written :=
  if (bitOf v 0 != s.bit F.TB_CTL_OVEN_EN && oven) = true then
    match s.useArm p .tb with
    | none => s.rejected .unarmed
    | some s1 => (s1.setOvenEn (bitOf v 0)).tbCtlFields oven time v
  else s.tbCtlFields oven time v

/-- HEAT_ILIM takes a value, and the drive stays within it (R57). -/
def State.setIlim (s : State) (v : Nat) : State :=
  (s.setVal A.TB_HEAT_ILIM v).setVal A.TB_HEAT_DRIVE (min (s.val A.TB_HEAT_DRIVE) v)

/-- An armed write of HEAT_ILIM (R57). -/
def State.ilimWrite (s : State) (p : HostPort) (v : Nat) : Written :=
  match s.useArm p .tb with
  | none => s.rejected .unarmed
  | some s1 => if 500 ≤ v ∧ v ≤ 1320 then (s1.setIlim v).ok else s1.rejected .range

/-- A write to a word of the TB bank with a rule of its own, TB.CTL apart. -/
def State.tbWrite (s : State) (p : HostPort) (w v : Nat) : Option Written :=
  match w with
  | 0x06 => some (s.ilimWrite p v)
  | 0x0E => some (s.armCodeWrite .tb (v % 65536))
  | 0x0F => some (s.armWrite p .tb (v % 65536))
  | _ => none

end Sys2Proof.Machine
end

