-- ==== Sys2Proof/Machine/Vcap.lean ====
section
/-! DEFINITION. Vernier capture: dead time, stamps, the host queues, range conditions, channel control, measure units
(R89 to R115). -/

namespace Sys2Proof.Machine

/-- What a channel holds. -/
def State.chan (s : State) (n : Nat) : Channel := s.vc.getD n {}

/-- The state with what a channel holds replaced. -/
def State.setChan (s : State) (n : Nat) (c : Channel) : State := { s with vc := s.vc.setIfInBounds n c }

/-! ### Queue entries -/

/-- The KIND codes of R98. -/
def kindEdge : Nat := 0
def kindMarker : Nat := 1
def kindOverflow : Nat := 2
def kindEra : Nat := 3
def kindRange : Nat := 4

/-- A queue entry (R98): kind, the four EDGE flags as bits 59:56, tick and data. -/
def vqEntry (kind flags tick data : Nat) : BitVec 64 :=
  BitVec.ofNat 64 ((kind % 16) * 2 ^ 60 + (flags % 16) * 2 ^ 56 + (tick % 2 ^ 40) * 2 ^ 16 + data % 65536)

/-- The fields of an entry. -/
def entryKind (e : BitVec 64) : Nat := bitsAt e.toNat 60 4
def entryTick (e : BitVec 64) : Nat := bitsAt e.toNat 16 40
def entryData (e : BitVec 64) : Nat := bitsAt e.toNat 0 16

/-- The device's marker tags (R98). -/
def tagEnabled : Nat := 0xFF00
def tagConfig : Nat := 0xFF01
def tagTable : Nat := 0xFF02
def tagCalStart : Nat := 0xFF03
def tagCalEnd : Nat := 0xFF04

/-- An EDGE entry for a stamp (R90, R98). -/
def stampEntry (st : Stamp) (prescaled : Bool) : BitVec 64 :=
  vqEntry kindEdge (flagVal st.late * 8 + flagVal st.suspect * 4 + flagVal prescaled * 2 + flagVal st.falling)
    (codeOf 40 (st.t / subticks)) (codeOf 16 (st.t % subticks))

/-- The watermark follows the level (R103). -/
def State.vqLevel (s : State) (n : Nat) : State :=
  let c := s.chan n
  let above := decide (s.val (A.VQ_Vn_WMARK n) ≤ c.queue.length)
  (s.setChan n { c with above := above }).raiseIf (above && !c.above) Ev.VQ_WATERMARK

/-- WMARK takes a value. The level has not risen, so no event is raised (R103). -/
def State.setWmark (s : State) (n v : Nat) : State :=
  let t := s.setVal (A.VQ_Vn_WMARK n) v
  t.setChan n { t.chan n with above := decide (v ≤ (t.chan n).queue.length) }

/-- One entry offered to the store (R101). -/
def State.vqStore (s : State) (n : Nat) (e : BitVec 64) : State :=
  let c := s.chan n
  if c.queue.length ≤ 4094 then (s.setChan n { c with queue := c.queue ++ [e] }).vqLevel n
  else
    match c.queue.getLast? with
    | some o =>
      if entryKind o = kindOverflow then
        let o' := vqEntry kindOverflow 0 (entryTick o) (min 65535 (entryData o + 1))
        s.setChan n { c with queue := c.queue.dropLast ++ [o'] }
      else
        (((s.setChan n { c with queue := c.queue ++ [vqEntry kindOverflow 0 (entryTick e) 1] }).vqLevel n).setBit
          (F.VC_Vn_STAT_OVF_SEEN n) true).raise Ev.VQ_OVERFLOW
    | none => s

/-- A RANGE entry (R98). -/
def RangeRun.entry (r : RangeRun) : BitVec 64 :=
  vqEntry kindRange 0 r.tick (r.cause * 16384 + min 16383 r.edges)

/-- An entry that enters the queue: the RANGE entries to come stand ahead of it (R99, R100). A run that still goes on
keeps its record and gets no second entry. -/
def State.vqPush (s : State) (n : Nat) (e : BitVec 64) : State :=
  let c := s.chan n
  if c.queue.length ≤ 4094 then
    let due := c.ranges.filter (fun r => decide (0 < r.edges))
    let kept := (c.ranges.filter (·.running)).map (fun r => { r with edges := 0 })
    let s1 := (s.setChan n { c with ranges := kept }).each due (fun r t => t.vqStore n r.entry)
    s1.vqStore n e
  else s.vqStore n e

/-- A marker enters the queue while QEN = 1 (R97). -/
def State.vqMarker (s : State) (n tick tag : Nat) : State :=
  if s.bit (F.VC_Vn_CTL_QEN n) then s.vqPush n (vqEntry kindMarker 0 tick tag) else s

/-- Whether every conversion in progress is of an edge of tick `tick` or later: a marker of that tick then stands next
in the queue, ahead of an edge of the same tick (R97, R113). -/
def Channel.markerNext (c : Channel) (tick : Nat) : Bool := (c.conv.head?.map (fun v => decide (tick ≤ v.tally))).getD true

/-- A host or device marker made now (R97, R112, R113): it waits behind the conversions of earlier edges. -/
def State.mark (s : State) (n tag : Nat) : State :=
  let c := s.chan n
  if c.later.isEmpty && c.markerNext s.tally then s.vqMarker n s.tally tag
  else s.setChan n { c with later := c.later ++ [.mark s.tally tag] }

/-- A write of Vn_MARK (R97, R113). -/
def State.hostMarker (s : State) (n tag : Nat) : Written :=
  if 0xFF00 ≤ tag then s.rejected .range else (s.mark n tag).ok

/-- The era-change entry (R24), whatever QEN holds. -/
def State.eraEntries (s : State) : State :=
  s.each (List.range 8) (fun n t => t.vqPush n (vqEntry kindEra 0 0 t.era))

/-! ### Range conditions -/

/-- The causes of R98's RANGE entry. -/
def tooFast : Nat := 0
def abovePrescaler : Nat := 1
def rateLimited : Nat := 2

/-- Adds one edge to a run. -/
def RangeRun.more (r : RangeRun) : RangeRun := if r.edges = 0 then r else { r with edges := r.edges + 1 }

/-- An edge is lost (R94, R99). -/
def State.loseEdge (s : State) (n cause : Nat) : State :=
  let s0 := s.countSat (wordFld (A.VC_Vn_LOST n)) 1
  let c := s0.chan n
  if c.ranges.any (fun r => r.running && r.cause == cause) then
    s0.setChan n { c with ranges := c.ranges.map (fun r => if r.running && r.cause == cause then r.more else r) }
  else
    let ended := c.ranges.map (fun (r : RangeRun) => if r.cause = rateLimited then r else { r with running := false })
    let s1 := s0.setChan n { c with
      ranges := (ended.filter (fun r => r.running || decide (0 < r.edges))) ++
        [{ cause := cause, edges := 1, tick := s.tally, running := true }] }
    (s1.setBit (F.VC_Vn_STAT_RANGE_SEEN n) true).raise Ev.VC_RANGE

/-- A stamped edge ends the run of lost edges (R99). -/
def State.endRuns (s : State) (n : Nat) : State :=
  let c := s.chan n
  let ended := c.ranges.map (fun (r : RangeRun) => if r.cause = rateLimited then r else { r with running := false })
  s.setChan n { c with ranges := ended.filter (fun r => r.running || decide (0 < r.edges)) }

/-- An edge of tick `tick` beyond RATE_LIMIT is withheld from the queue (R100). -/
def State.withhold (s : State) (n tick : Nat) : State :=
  let s0 := s.countSat (wordFld (A.VC_Vn_LIMITED n)) 1
  let c := s0.chan n
  if c.ranges.any (fun r => r.cause == rateLimited) then
    s0.setChan n { c with ranges := c.ranges.map (fun r => if r.cause = rateLimited then r.more else r) }
  else
    s0.setChan n { c with ranges := c.ranges ++
      [{ cause := rateLimited, edges := 1, tick := tick, running := false }] }

/-- An EDGE entry is offered to the queue (R97, R100). -/
def State.offerEdge (s : State) (n : Nat) (e : BitVec 64) : State :=
  if s.bit (F.VC_Vn_CTL_QEN n) = false then s
  else
    let c := s.chan n
    if s.val (A.VC_Vn_RATE_LIMIT n) ≤ c.windowCount then s.withhold n (entryTick e)
    else (s.setChan n { c with windowCount := c.windowCount + 1 }).vqPush n e

/-- A 1 ms window ends (R100): the Tally is at a multiple of 1,250,000. -/
def State.rateWindowEnd (s : State) : State :=
  if s.tallyRun = true ∧ s.tally % 1250000 = 0 then
    s.each (List.range 8) (fun n t => t.setChan n { t.chan n with windowCount := 0 })
  else s

/-! ### Edges and stamps -/

/-- The width of bin `k` in force (R89, R121). -/
def State.binWidth (s : State) (n k : Nat) : Nat := bitsAt (s.val (A.VCAL_Vn_W n (k / 2))) (16 * (k % 2)) 16

/-- E_k: the sum of the widths below bin `k` (R89). -/
def State.binEdge (s : State) (n k : Nat) : Nat := ((List.range k).map (s.binWidth n)).sum

/-- The factory path delay for the channel's source and prescaler setting (R89, "Factory path delays"). -/
def State.pathDelay (s : State) (n : Nat) : Int :=
  let source := if s.bit (F.VC_Vn_CTL_SRC n) then 1 + s.get (F.VC_Vn_CTL_LOOP_OUT n) else 0
  Config.facDelay n source + Config.facDelay n (13 + s.get (F.VC_Vn_CTL_PRESC n))

/-- Whether edges reach a channel's coarse line: it converts, and no calibration run has it (R114, R116). -/
def State.takesEdges (s : State) (n : Nat) : Bool :=
  s.tallyRun && s.bit (F.VC_Vn_STAT_ACTIVE n) && ((s.cal.getD n {}).run).isNone

/-- Whether a change of a channel's settings is under way: a write waits for the conversion in progress, or a disable
completes. Edges are then lost (R112). -/
def Channel.changing (c : Channel) : Bool :=
  c.stopping || c.later.any (fun x => match x with
    | .mark _ _ => false
    | .write _ _ => true)

/-- Whether the conditioner passes a polarity (EDGE of Vn_CTL). -/
def State.passes (s : State) (n : Nat) (falling : Bool) : Bool :=
  let e := s.get (F.VC_Vn_CTL_EDGE n)
  e == 2 || (e == 1) == falling

/-- 6.4 ns and 1.6 ns in subticks (R92, R93). -/
def fullDead : Int := 524288
def coarseDead : Int := 131072

/-- The coarse line takes an edge in bin `k` (R89 to R93, R112): what the stamp is composed of is fixed here. -/
def State.takeEdge (s : State) (n k : Nat) (at_ : Int) (falling coarse : Bool) : State :=
  let s0 := s.endRuns n
  let c := s0.chan n
  let v : Conversion :=
    { tally := s.tally, falling := falling, coarse := coarse
      suspect := !s.bit F.TB_STAT_PLL_LOCK || !s.bit (F.VC_Vn_STAT_TABLE_VALID n)
      edgeEnd := s.binEdge n (k + 1), width := s.binWidth n k, sq := s.val (A.VCAL_Vn_SQ n)
      delays := s.pathDelay n + s.ival (A.VC_Vn_DELAY_OFS n)
      prescaled := s.get (F.VC_Vn_CTL_PRESC n) != 0 }
  s0.setChan n { c with prevEdge := some at_, conv := c.conv ++ [v] }

/-- REF_EDGE (R92 to R94, R99, R112): an edge after the prescaler arrives at subtick `sub` of the present tick, in bin
`k`; `short` marks an edge of a pulse or rate beyond the prescaler. -/
def State.refEdge (s : State) (n sub k : Nat) (falling short : Bool) : State :=
  if n < 8 ∧ s.up .time = true then
    let s0 := (s.setBit (F.VC_Vn_STAT_LEVEL n) !falling).levelChanged n
    if s0.takesEdges n && s0.passes n falling then
      let at_ : Int := s.nowSub + (sub % subticks : Nat)
      let c := s0.chan n
      if short then s0.loseEdge n abovePrescaler
      else if c.changing then s0.loseEdge n tooFast
      else
        match c.prevEdge with
        | none => s0.takeEdge n (k % 32) at_ falling false
        | some p =>
          if at_ - p < coarseDead then s0.loseEdge n tooFast
          else s0.takeEdge n (k % 32) at_ falling (decide (at_ - p < fullDead))
    else s0
  else s

/-- The stamp of a conversion whose vernier counted `n` (R89, R90, R93); an overrun counts as 16 (R105). -/
def Conversion.stamp (v : Conversion) (n : Nat) (met : Bool) : Stamp :=
  let fine : Nat := if v.coarse then v.width / 2 else ((if met then min 16 n else 16) * v.sq + 255) / 256
  { t := (v.tally : Int) * subticks + v.edgeEnd - fine - v.delays, falling := v.falling, late := v.coarse
    suspect := v.suspect || (!met && !v.coarse) }

/-- A stamp is made (R89, R96, R104, R105): the channel's words, then the queue. The tap takes it next. -/
def State.stamped (s : State) (n : Nat) (v : Conversion) (st : Stamp) (overrun : Bool) : State :=
  let e := stampEntry st v.prescaled
  let s1 := (s.count (wordFld (A.VC_Vn_EDGES n)) 1).setMulti (A.VC_Vn_LAST_HI n) e.toNat 2
  let s2 := (s1.setBit (F.VC_Vn_STAT_IDLE n) false)
  let s3 := if st.late then s2.setBit (F.VC_Vn_STAT_LATE_SEEN n) true else s2
  let s4 := if overrun then (s3.setBit (F.VC_Vn_STAT_VERN_OVR_SEEN n) true).raise Ev.VC_VERN_OVR else s3
  s4.offerEdge n e

/-- The oldest conversion of a channel ends with vernier count `cnt`: the stamp and the state after the channel's own
part; none when no conversion is in progress. -/
def State.endConversion (s : State) (n cnt : Nat) (met : Bool) : Option (Stamp × State) :=
  match (s.chan n).conv with
  | [] => none
  | v :: rest =>
    let st := v.stamp cnt met
    some (st, (s.setChan n { s.chan n with conv := rest }).stamped n v st (!met && !v.coarse))

/-! ### Reading and flushing a queue -/

/-- A read of Vn_ENTRY_HI (R98, R111, R115): pops the head entry and latches its low word for the port. -/
def State.vqPop (s : State) (p : HostPort) (n : Nat) : Word × State :=
  let c := s.chan n
  match c.queue with
  | [] => (0xF0000000, s.latch p [(A.VQ_Vn_ENTRY_LO n, 0)])
  | e :: rest =>
    (wordOf (e.toNat / 2 ^ 32), ((s.setChan n { c with queue := rest }).vqLevel n).latch p
      [(A.VQ_Vn_ENTRY_LO n, wordOf e.toNat)])

/-- A read of Vn_FIFO (R111). -/
def State.vqFifo (s : State) (p : HostPort) (n : Nat) : Word × State :=
  let second := (s.port p).fifoSecond
  let t := s.setPort p { s.port p with fifoSecond := !second }
  if second then (s.latched p (A.VQ_Vn_ENTRY_LO n), t) else t.vqPop p n

/-- A write of 1 to Vn_FLUSH (edges of the chapter). -/
def State.vqFlush (s : State) (n : Nat) : State := (s.setChan n { s.chan n with queue := [] }).vqLevel n

/-! ### Channel control -/

/-- Whether every field of a CTL value is in range (edges of the chapter). -/
def vcCtlOk (v : Nat) : Bool :=
  let e := bitsAt v 2 2
  let presc := bitsAt v 4 4
  decide (e < 3) && !(e == 2 && presc != 0) && decide (presc ≤ 10) && within (bitsAt v 9 6) 2 33 &&
    decide (bitsAt v 16 4 ≤ 11)

/-- The CTL value that a write of `v` leaves over `old`: a field out of range keeps its value, and EDGE with PRESC keep
theirs where the two do not go together (R15, R829). -/
def vcCtlFit (old v : Nat) : Nat :=
  let v1 := if bitsAt v 2 2 = 3 then withBits v 2 2 (bitsAt old 2 2) else v
  let v2 := if 10 < bitsAt v 4 4 then withBits v1 4 4 (bitsAt old 4 4) else v1
  let v3 := if bitsAt v2 2 2 = 2 ∧ bitsAt v2 4 4 ≠ 0 then
      withBits (withBits v2 2 2 (bitsAt old 2 2)) 4 4 (bitsAt old 4 4) else v2
  let v4 := if within (bitsAt v 9 6) 2 33 then v3 else withBits v3 9 6 (bitsAt old 9 6)
  (if bitsAt v 16 4 ≤ 11 then v4 else withBits v4 16 4 (bitsAt old 16 4)) % 2 ^ 20

/-- Whether SRC may be set to 1 (R106). -/
def State.mayLoop (s : State) (n : Nat) : Bool := s.selSlot != n && s.tb.checkSlot != some n

/-- A channel starts converting, behind its ENABLED marker (R112, R114). DESIGN CHOICE (log 91): it has no previous edge, so
the dead time of R92 does not run on over a disable or a calibration run. -/
def State.channelStarts (s : State) (n : Nat) : State :=
  let c := s.chan n
  ((s.setChan n { c with prevEdge := none, stopping := false }).setBit (F.VC_Vn_STAT_ACTIVE n) true).setBit
    (F.VC_Vn_STAT_DRAINING n) false |>.mark n tagEnabled

/-- A channel's CTL takes a new value (R112, R114). -/
def State.applyVcCtl (s : State) (n v : Nat) : State :=
  let was := s.bit (F.VC_Vn_CTL_EN n)
  let on := bitOf v 0
  let s1 := (s.setVal (A.VC_Vn_CTL n) (v % 2 ^ 20)).setBit (F.VC_Vn_STAT_LOOPED n) (bitOf v 15)
  if on then
    if was then s1.mark n tagConfig
    else if (s1.chan n).stopping then s1.setBit (F.VC_Vn_STAT_DRAINING n) true
    else s1.channelStarts n
  else if was then
    if (s1.chan n).stopping then s1.setBit (F.VC_Vn_STAT_DRAINING n) false
    else (s1.setChan n { s1.chan n with stopping := true }).mark n tagConfig
  else s1

/-- A channel disable completes; a latched enable restarts the channel (R114). -/
def State.vcDrained (s : State) (n : Nat) : State :=
  let c := s.chan n
  if c.stopping = true ∧ c.conv.isEmpty = true then
    let s1 := (s.setChan n { c with stopping := false, prevEdge := none }).setBit (F.VC_Vn_STAT_ACTIVE n) false
    if s1.bit (F.VC_Vn_STAT_DRAINING n) then s1.channelStarts n else s1
  else s

/-- DELAY_OFS takes a new value (R112). -/
def State.applyDelay (s : State) (n v : Nat) : State :=
  let s1 := s.setVal (A.VC_Vn_DELAY_OFS n) v
  if s1.bit (F.VC_Vn_CTL_EN n) then s1.mark n tagConfig else s1

/-- IDLE_LIMIT ms without a stamped edge (R104). -/
def State.vcIdle (s : State) (n : Nat) : State :=
  if s.bit (F.VC_Vn_STAT_ACTIVE n) = true ∧ s.val (A.VC_Vn_IDLE_LIMIT n) ≠ 0 ∧ s.bit (F.VC_Vn_STAT_IDLE n) = false then
    ((s.setBit (F.VC_Vn_STAT_IDLE n) true).setBit (F.VC_Vn_STAT_IDLE_SEEN n) true).raise Ev.VC_IDLE
  else s

/-! ### Measure units -/

/-- What a measure unit holds. -/
def State.unit (s : State) (m : Nat) : MeasureUnit := s.meas.getD m {}

/-- The state with what a measure unit holds replaced. -/
def State.setUnit (s : State) (m : Nat) (u : MeasureUnit) : State := { s with meas := s.meas.setIfInBounds m u }

/-- Whether a unit computes (R108). -/
def State.measuring (s : State) (m : Nat) : Bool := s.bit (F.VC_Mm_CTL_EN m) && s.baseMode == .measure && s.tallyRun

/-- A unit takes a stamp of channel `n` that is its START or STOP (R108). -/
def State.unitStamp (s : State) (m n : Nat) (st : Stamp) : State :=
  let x : UnitStamp :=
    { t := st.t, falling := st.falling, start := s.get (F.VC_Mm_CTL_START m) == n, stop := s.get (F.VC_Mm_CTL_STOP m) == n }
  if s.measuring m && (x.start || x.stop) then s.setUnit m { stamps := x :: (s.unit m).stamps } else s

/-- All four units take a stamp. -/
def State.unitsStamp (s : State) (n : Nat) (st : Stamp) : State :=
  s.each (List.range 4) (fun m t => t.unitStamp m n st)

/-- The samples that a gate forms, as its stamps are taken in order: the edge a sample starts from, the samples (newest
first), and the START edges that another START replaced (R109). -/
structure Pairing where
  from_ : Option Int := none
  samples : List Int := []
  unpaired : Nat := 0

/-- A sample that ends at `t`, if one has been started. -/
def Pairing.close (p : Pairing) (t : Int) : Pairing :=
  match p.from_ with
  | some a => { p with samples := (t - a) :: p.samples, from_ := none }
  | none => p

/-- TI (R108, R109): a STOP edge ends a pending start; a START edge is the new one. -/
def Pairing.interval (p : Pairing) (x : UnitStamp) : Pairing :=
  let p1 := if x.stop then p.close x.t else p
  if x.start then { p1 with from_ := some x.t, unpaired := p1.unpaired + flagVal p1.from_.isSome } else p1

/-- PERIOD and FREQ: each START edge ends a sample and starts the next. -/
def Pairing.period (p : Pairing) (x : UnitStamp) : Pairing :=
  if x.start then { p.close x.t with from_ := some x.t } else p

/-- WIDTH: a rising edge starts a sample, the next falling edge ends it. -/
def Pairing.width (p : Pairing) (x : UnitStamp) : Pairing :=
  if x.start then (if x.falling then p.close x.t else { p with from_ := some x.t }) else p

/-- A stamp put in its place in a list that rises by instant: behind those of its own instant, except that a STOP edge
stands ahead of a START edge of the same instant, which it is not later than (R108). -/
def insertStamp (x : UnitStamp) : List UnitStamp → List UnitStamp
  | [] => [x]
  | y :: l => if x.t < y.t ∨ (x.t = y.t ∧ x.stop = true ∧ y.stop = false) then x :: y :: l else y :: insertStamp x l

/-- A gate's stamps by instant: conversions of two channels may end in another order than their edges arrived. -/
def MeasureUnit.inOrder (u : MeasureUnit) : List UnitStamp := u.stamps.foldr insertStamp []

/-- The samples of a gate for FUNC `f` (the table of functions). -/
def MeasureUnit.pairing (u : MeasureUnit) (f : Nat) : Pairing :=
  u.inOrder.foldl (fun p x => match f with
    | 0 => p.interval x
    | 1 => p.period x
    | 2 => p.period x
    | _ => p.width x) {}

/-- The START edges of a gate. -/
def MeasureUnit.starts (u : MeasureUnit) : Nat := (u.stamps.filter (fun x => x.start)).length

/-- COUNT of a gate: its samples, and for FREQ its edges. -/
def MeasureUnit.count (u : MeasureUnit) (f : Nat) : Nat := if f = 2 then u.starts else (u.pairing f).samples.length

/-- The RMS deviation of samples from their mean, in 0.01 ps: one subtick is 625/512 such units. DESIGN CHOICE (log 92): the
squares are divided by the number of samples, and the root is rounded down. -/
def rmsDeviation (xs : List Int) : Nat :=
  let n := xs.length
  let spread := (n : Int) * (xs.map (fun x => x * x)).sum - xs.sum * xs.sum
  Nat.sqrt (spread.toNat * 390625 / (n * n * 262144))

/-- MEASURE_GATE_END (R109, R110). SUM of FREQ is the span, the sum of its periods. MIN, MAX and RMS of a gate without a
sample, and of every FREQ gate, are free values (log 26). DESIGN CHOICE (log 92): a stamp belongs to the gate in which it is
made, and an interval or width that spans two gates is no sample of either. -/
def State.measureGate (s : State) (m : Nat) : State :=
  if s.measuring m = false then s
  else
    let u := s.unit m
    let f := s.get (F.VC_Mm_CTL_FUNC m)
    let p := u.pairing f
    let s1 := (s.setVal (A.VC_Mm_COUNT m) (u.count f)).setMulti (A.VC_Mm_SUM_HI m) (codeOf 64 p.samples.sum) 2
    let s2 := match (if f = 2 then [] else p.samples) with
      | x :: l =>
        ((s1.setMulti (A.VC_Mm_MIN_HI m) (codeOf 64 (l.foldl min x)) 2).setMulti (A.VC_Mm_MAX_HI m)
          (codeOf 64 (l.foldl max x)) 2).setVal (A.VC_Mm_RMS m) (rmsDeviation p.samples)
      | [] =>
        let t1 := (s1.setMulti (A.VC_Mm_MIN_HI m) s1.freeNat 2).drawn
        let t2 := (t1.setMulti (A.VC_Mm_MAX_HI m) t1.freeNat 2).drawn
        (t2.setVal (A.VC_Mm_RMS m) t2.freeNat).drawn
    ((s2.setVal (A.VC_Mm_UNPAIRED m) p.unpaired).setBit (F.VC_Mm_STAT_GATE_DONE m) true).setUnit m {}

/-- A unit's CTL takes a new value: its gate starts afresh. A field out of range keeps its value (R15). -/
def State.unitCtlWrite (s : State) (m v : Nat) : Written :=
  let old := s.val (A.VC_Mm_CTL m)
  let v1 := if bitsAt v 1 3 ≤ 3 then v else withBits v 1 3 (bitsAt old 1 3)
  let v2 := if bitsAt v 4 4 ≤ 7 then v1 else withBits v1 4 4 (bitsAt old 4 4)
  let v3 := if bitsAt v 8 4 ≤ 7 then v2 else withBits v2 8 4 (bitsAt old 8 4)
  let t := (s.setVal (A.VC_Mm_CTL m) (v3 % 4096)).setUnit m {}
  if bitsAt v 1 3 ≤ 3 ∧ bitsAt v 4 4 ≤ 7 ∧ bitsAt v 8 4 ≤ 7 then t.ok else t.rejected .range

/-- The units stop and clear EN when Measure is left (R108). -/
def State.unitsStop (s : State) : State :=
  s.each (List.range 4) (fun m t => (t.setBit (F.VC_Mm_CTL_EN m) false).setUnit m {})

/-! ### Register words of the VC and VQ banks -/

/-- Words of the VC bank the state computes. -/
def State.vcRead (s : State) (p : HostPort) (w : Nat) : Option Word :=
  if 0xC0 ≤ w then
    let m := (w - 0xC0) / 16
    let k := (w - 0xC0) % 16
    if 3 ≤ k ∧ k ≤ 11 then some (s.latched p (A.VC_Mm_CTL m + k)) else none
  else none

/-- A read of Mm_COUNT latches the unit's result words for the port, its STAT among them. -/
def State.latchUnit (s : State) (p : HostPort) (m : Nat) : State :=
  s.latch p ((A.VC_Mm_STAT m, wordOf (s.val (A.VC_Mm_STAT m) + flagVal (s.measuring m))) ::
    (List.range 8).map (fun k => (A.VC_Mm_CTL m + 3 + k, s.rd (A.VC_Mm_CTL m + 3 + k))))

end Sys2Proof.Machine
end

