-- ==== Sys2Proof/Machine/Vcal.lean ====
section
/-! DEFINITION. Calibrating the interpolators: runs, their tests, trim, the DLLs, when runs happen (R116 to R143). -/

namespace Sys2Proof.Machine

/-- A channel's calibration beyond its registers. -/
def State.calib (s : State) (n : Nat) : CalChannel := s.cal.getD n {}

/-- The state with a channel's calibration replaced. -/
def State.setCalib (s : State) (n : Nat) (c : CalChannel) : State := { s with cal := s.cal.setIfInBounds n c }

/-- Abort reasons (the table of codes). -/
def calNoEdges : Nat := 1
def calSaturated : Nat := 2
def calNonuniform : Nat := 3
def calNoTick : Nat := 4
def calTrimRange : Nat := 5
def calCancelled : Nat := 6
def calRefused : Nat := 7

/-- N of a run. -/
def State.calHits (s : State) : Nat := 2 ^ s.val A.VCAL_HITS_LOG2

/-- Whether a channel is in use (list before R133). -/
def State.inUse (s : State) (n : Nat) : Bool :=
  s.selSlot == n || s.tb.checkSlot == some n ||
    (List.range outputs).any (fun k =>
      s.bit (F.PCR_OUTn_CTL_EN k) && s.get (F.PCR_OUTn_CTL_POLICY k) == 1 && s.get (F.PCR_OUTn_CTL_SLOT k) == n) ||
    (List.range 4).any (fun m =>
      s.measuring m && (s.get (F.VC_Mm_CTL_START m) == n || s.get (F.VC_Mm_CTL_STOP m) == n))

/-- Whether the slot's expected period admits a run between two edges (R134). -/
def State.slowSlot (s : State) (n : Nat) : Bool :=
  decide ((((s.val A.VCAL_TIMEOUT + 50 : Nat) : Rat) / 1000) * (pipsPerSec : Rat) ≤ s.slotPeriod n)

/-- DUE_AGE: no stored table, or one older than MAX_AGE hours of TIME running (list before R133, R128). -/
def State.dueAge (s : State) (n : Nat) : Bool :=
  !(s.calib n).stored || (s.val A.VCAL_MAX_AGE != 0 &&
    decide (s.val A.VCAL_MAX_AGE * 3600 < s.val (A.VCAL_Vn_TAB_HOURS n) * 3600 + (s.calib n).ageSecs))

/-- A channel is due. -/
def State.due (s : State) (n : Nat) : Bool := s.dueAge n || (s.calib n).drift.on

/-- The state after a held CTL or DELAY_OFS write of a run is applied (R140); behind a conversion still in progress it
waits on (R112). -/
def State.applyHeldVc (s : State) (n : Nat) (w : Nat × Word) : State :=
  if (s.chan n).conv.isEmpty then (if w.1 = 0 then s.applyVcCtl n w.2.toNat else s.applyDelay n w.2.toNat)
  else s.setChan n { s.chan n with later := (s.chan n).later ++ [.write w.1 w.2] }

/-- A run ends: CAL_END, then the writes it held, then the slot is released (R117, R140, R143). -/
def State.endRun (s : State) (n : Nat) : State :=
  let c := s.calib n
  let held := c.run.map (·.held) == some true
  let s1 := (s.mark n tagCalEnd).setCalib n { c with run := none, heldWords := [] }
  let s2 := (s1.setBit (F.VC_Vn_STAT_ACTIVE n) (s.bit (F.VC_Vn_CTL_EN n))).put (F.VCAL_Vn_CAL_STAT_BUSY n) 0
  let s3 := s2.setChan n { s2.chan n with prevEdge := none }
  let s4 := s3.each c.heldWords (fun w t => t.applyHeldVc n w)
  if held then s4.calHoldEnds n else s4

/-- Records an abort (R126). -/
def State.calAborted (s : State) (n reason test bin quarter : Nat) : State :=
  let s1 := s.setVal (A.VCAL_Vn_RESULT n) (reason + test * 16 + bin * 256 + quarter * 16384)
  let runs := s.val (A.VCAL_Vn_RUNS n)
  let s2 := s1.setVal (A.VCAL_Vn_RUNS n) (runs % 65536 + ((runs / 65536 + 1) % 65536) * 65536)
  (s2.setBit (F.VCAL_Vn_CAL_STAT_ABORT_SEEN n) true).raise Ev.CAL_ABORT

/-- A run aborts (R117, R126). -/
def State.abortRun (s : State) (n reason test bin quarter : Nat) : State :=
  match (s.calib n).run with
  | none => s
  | some _ => (s.endRun n).calAborted n reason test bin quarter

/-- A run starts (R116, R117, R125, R143). `held` withholds the slot. DESIGN CHOICE (log 93): a run that ends NO_TICK here,
before step 2 of the sequence, writes neither CAL_START nor CAL_END. -/
def State.startRun (s : State) (n : Nat) (full held : Bool) : State :=
  if (s.calib n).run.isSome then s
  else if s.bit F.TB_STAT_PLL_LOCK = false then
    (s.setCalib n { s.calib n with wanted := none }).calAborted n calNoTick 0 0 0
  else
    let c := s.calib n
    let r : CalRun := { full := full, held := held }
    let s1 := (s.mark n tagCalStart).setCalib n { c with run := some r, wanted := none }
    let s2 := ((s1.setBit (F.VC_Vn_STAT_ACTIVE n) true).put (F.VCAL_Vn_CAL_STAT_BUSY n) 1).put
      (F.VCAL_Vn_CAL_STAT_DEFERRED n) 0
    if held then s2.setBit (F.REFM_Sn_STAT_CAL_HOLD n) true else s2

/-- How R134 to R138 judge a run now: it starts and withholds the slot, it starts between two edges, it waits for an
edge, or it is deferred. -/
inductive RunPlace where
  | now
  | atEdge
  | deferred
  deriving DecidableEq, Repr

/-- Where a run goes (R134); `free` says that in-use status is ignored. -/
def State.placeOf (s : State) (n : Nat) (free : Bool) : RunPlace :=
  if free then .now
  else if s.inUse n then (if s.slowSlot n then .atEdge else .deferred)
  else .now

/-- Where a host's run goes: Calibrate and Rise ignore in-use status (R138). -/
def State.runPlace (s : State) (n : Nat) : RunPlace :=
  s.placeOf n (s.baseMode == .calibrate || s.baseMode == .rise)

/-- Where a run that starts by itself goes: Calibrate ignores in-use status, and so does Rise for a host's held run and,
with RISE_RUN, for a full one (R134 to R138). -/
def State.autoPlace (s : State) (n : Nat) (full : Bool) : RunPlace :=
  s.placeOf n (s.baseMode == .calibrate ||
    (s.baseMode == .rise && ((s.calib n).wanted.isSome || (full && s.bit F.VCAL_CTL_RISE_RUN))))

/-- Whether a stamped edge came within the last 1 ms (R134). -/
def State.justStamped (s : State) (n : Nat) : Bool :=
  match (s.chan n).prevEdge with
  | some t => decide (s.nowSub - t ≤ 1250000 * subticks)
  | none => false

/-- A host's request for a run (R138). -/
def State.requestRun (s : State) (n : Nat) (full : Bool) : State :=
  if (s.calib n).run.isSome then s
  else
    match s.runPlace n with
    | .now => s.startRun n full true
    | .atEdge => if s.justStamped n then s.startRun n full false else s.setCalib n { s.calib n with wanted := some full }
    | .deferred => (s.setCalib n { s.calib n with wanted := some full }).put (F.VCAL_Vn_CAL_STAT_DEFERRED n) 1

/-- The run that channel `n` would start by itself: the host's held run, a full run when due, a trim when due
(R133, R135 to R137). In Rise with RISE_RUN a due channel waits for PLL_LOCK. DESIGN CHOICE (log 94): a host's held
TRIM_ONLY runs in place of the full run of a due channel, which stays due. -/
def State.plannedRun (s : State) (n : Nat) : Option Bool :=
  let c := s.calib n
  let auto := s.bit F.VCAL_CTL_AUTO && s.bit (F.VCAL_Vn_CAL_CTL_AUTO_EN n)
  match c.wanted with
  | some full => some full
  | none =>
    if s.due n then
      if s.baseMode = .calibrate then some true
      else if s.baseMode = .rise ∧ s.bit F.VCAL_CTL_RISE_RUN = true then
        (if s.bit F.TB_STAT_PLL_LOCK then some true else none)
      else if auto then some true
      else none
    else if c.trimDue && auto && s.bit (F.VC_Vn_CTL_EN n) then some false
    else none

/-- A planned run starts, as a run of R137 where Rise with RISE_RUN makes it. The trim-only run of a TRIM_PERIOD is made
once, whatever comes of it (R135). -/
def State.startPlanned (s : State) (n : Nat) (full held : Bool) : State :=
  let c := s.calib n
  let t := (s.setCalib n { c with trimDue := c.trimDue && (full || c.wanted.isSome) }).startRun n full held
  let rise := s.baseMode == .rise && s.bit F.VCAL_CTL_RISE_RUN && full && c.wanted.isNone
  t.setCalib n { t.calib n with run := (t.calib n).run.map (fun r => { r with rise := rise }) }

/-- CAL_AUTO_START (R133 to R137): a run in use starts only within 1 ms after a stamped edge (R134). -/
def State.autoRun (s : State) (n : Nat) : State :=
  if s.up .time = false ∨ (s.calib n).run.isSome = true then s
  else
    match s.plannedRun n with
    | none => s
    | some full =>
      match s.autoPlace n full with
      | .now => s.startPlanned n full true
      | .atEdge => if s.justStamped n then s.startPlanned n full false else s
      | .deferred => s.put (F.VCAL_Vn_CAL_STAT_DEFERRED n) 1

/-! ### Histogram, tests and trim -/

/-- A histogram word pair: counts saturate at 65,535. -/
def histWord (cs : List Nat) (i : Nat) : Word :=
  wordOf (min 65535 (cs.getD (2 * i) 0) + min 65535 (cs.getD (2 * i + 1) 0) * 65536)

/-- The counts of all quarters. -/
def totalCounts (qs : List (List Nat)) : List Nat :=
  (List.range 32).map (fun k => (qs.map (fun q => q.getD k 0)).sum)

/-- The first bin and quarter that fail the uniformity test (R120). -/
def uniformFail (qs : List (List Nat)) : Option (Nat × Nat) :=
  let cs := totalCounts qs
  ((List.range 32).flatMap (fun k => (List.range 4).map (fun q => (k, q)))).find? (fun kq =>
    let c : Int := cs.getD kq.1 0
    let d : Int := 4 * ((qs.getD kq.2 []).getD kq.1 0 : Nat) - c
    decide (108 * c < d * d))

/-- The widths of R121. -/
def calWidths (n : Nat) (cs : List Nat) : List Nat :=
  let e (k : Nat) : Nat := (65536 * (cs.take k).sum + n / 2) / n
  (List.range 32).map (fun k => e (k + 1) - e k)

/-- The first bin outside 1,536 to 2,176 and the code of TEST (R122). -/
def coverFail (ws : List Nat) : Option (Nat × Nat) :=
  match (List.range 32).find? (fun k => !within (ws.getD k 0) 1536 2176) with
  | none => none
  | some k => some (k, if ws.getD k 0 < 1536 then 2 else 3)

/-- CAL_HITS_COLLECTED (R120 to R122): the quarters' counts of a run whose N hits have arrived. DESIGN CHOICE (log 93): N is
HITS_LOG2's at that moment. -/
def State.hitsCollected (s : State) (n : Nat) (qs : List (List Nat)) : State :=
  match (s.calib n).run with
  | none => s
  | some r =>
    let cs := totalCounts qs
    if r.full = false ∨ r.widths.isSome = true ∨ cs.sum ≠ s.calHits then s
    else
      let s1 := s.setCalib n { s.calib n with hist := cs }
      match uniformFail qs with
      | some (k, q) => s1.abortRun n calNonuniform 1 k q
      | none =>
        let ws := calWidths s.calHits cs
        match coverFail ws with
        | some (k, t) => s1.abortRun n calNonuniform t k 0
        | none => s1.setCalib n { s1.calib n with run := some { r with widths := some ws } }

/-- Fewer than N hits arrive in time (R118). -/
def State.noEdges (s : State) (n : Nat) : State :=
  match (s.calib n).run with
  | none => s
  | some r => if r.full && r.widths.isNone then s.abortRun n calNoEdges 0 0 0 else s

/-- One bin reaches N/4 hits (R119). DESIGN CHOICE (log 93): a collection that aborts leaves the last histogram as it was. -/
def State.binSaturated (s : State) (n bin : Nat) : State :=
  match (s.calib n).run with
  | none => s
  | some r => if r.full && r.widths.isNone then s.abortRun n calSaturated 0 (bin % 32) 0 else s

/-- The widest bin of the table that a run trims against (R123). -/
def State.widest (s : State) (n : Nat) (r : CalRun) : Nat :=
  match r.widths with
  | some ws => ws.foldl max 0
  | none => ((List.range 32).map (s.binWidth n)).foldl max 0

/-- G of the trim loop, in ticks. -/
def trimTicks : Nat := 1048576

/-- S_q from the cycles counted over G ticks (the formula before R123). -/
def measuredSq (slow fast : Nat) : Int :=
  roundRat (256 * 65536 * (trimTicks : Rat) * (1 / (slow : Rat) - 1 / (fast : Rat)))

/-- The widths as the words of VCAL. -/
def State.storeWidths (s : State) (n : Nat) (ws : List Nat) : State :=
  s.each (List.range 16) (fun i t => t.setVal (A.VCAL_Vn_W n i) (ws.getD (2 * i) 0 + ws.getD (2 * i + 1) 0 * 65536))

/-- The present trim code of a channel: the factory's until a run has moved it. -/
def State.trimCode (s : State) (n : Nat) : Nat := ((s.calib n).trim).getD (Config.facTrim n) % 256

/-- A run succeeds (R124, R127, R128): the channel is no longer due (Case A of the chapter). -/
def State.runDone (s : State) (n : Nat) (r : CalRun) (sq trim : Nat) : State :=
  let s1 := match r.widths with
    | some ws => s.storeWidths n ws
    | none => s
  let s2 := ((s1.setVal (A.VCAL_Vn_SQ n) sq).setIval (A.VCAL_Vn_TAB_TEMP n) s.dieTemp).setVal (A.VCAL_Vn_TAB_HOURS n) 0
  let c := s2.calib n
  let s3 := s2.setCalib n { c with stored := true, trim := some trim, ageSecs := 0, drift := {} }
  let s4 := ((s3.setBit (F.VC_Vn_STAT_TABLE_VALID n) true).put (F.VCAL_Vn_CAL_STAT_DUE_TEMP n) 0).mark n tagTable
  let runs := s.val (A.VCAL_Vn_RUNS n)
  let s5 := ((s4.endRun n).setVal (A.VCAL_Vn_RESULT n) 0).setVal (A.VCAL_Vn_RUNS n)
    ((runs + 1) % 65536 + (runs / 65536) * 65536)
  (s5.setBit (F.VCAL_Vn_CAL_STAT_DONE_SEEN n) true).raise Ev.CAL_DONE

/-- TRIM_MEASUREMENT_DONE (R123, R124): the cycles of the slow and the fast oscillator over G ticks. The spec does not
say which code the loop tries next: a free value. -/
def State.trimMeasured (s : State) (n slow fast : Nat) : State :=
  match (s.calib n).run with
  | none => s
  | some r =>
    if r.full = true ∧ r.widths.isNone = true then s
    else
      let code := if r.measured = 0 then s.trimCode n else r.trim
      let sq := measuredSq slow fast
      let top : Int := 16 * s.widest n r
      if top - 512 ≤ sq ∧ sq ≤ top then s.runDone n r sq.toNat code
      else if 7 ≤ r.measured then s.abortRun n calTrimRange 0 0 0
      else (s.setCalib n { s.calib n with
          run := some { r with measured := r.measured + 1, trim := s.freeNat % 256 } }).drawn

/-- DISCARD (R128 and the field's effect): a run is cancelled, then the nominal table applies. -/
def State.discardTable (s : State) (n : Nat) : State :=
  let s1 := s.abortRun n calCancelled 0 0 0
  let s2 := (s1.storeWidths n (List.replicate 32 2048)).setVal (A.VCAL_Vn_SQ n) 32768
  (s2.setCalib n { s2.calib n with stored := false, ageSecs := 0 }).setBit (F.VC_Vn_STAT_TABLE_VALID n) false

/-! ### What makes a channel due -/

/-- CAL_DUE: a table becomes older than MAX_AGE hours (list before R133). -/
def State.calDue (s : State) (n : Nat) : State :=
  if (s.calib n).stored = true ∧ s.val A.VCAL_MAX_AGE ≠ 0 ∧ s.up .time = true ∧ s.dueAge n = false then
    (s.setVal (A.VCAL_Vn_TAB_HOURS n) (s.val A.VCAL_MAX_AGE)).setCalib n { s.calib n with ageSecs := 1 }
  else s

/-- CAL_DRIFT_SAMPLE (R66 to R70): the mean die temperature against the table's, once a second of TIME running. -/
def State.driftSample (s : State) (n : Nat) : State :=
  if s.up .time = false then s
  else
    let c := s.calib n
    let d := |s.dieTemp - s.ival (A.VCAL_Vn_TAB_TEMP n)|
    let q := Qual.sample .upper (s.descriptor A.VCAL_DRIFT_ASSERT) d c.drift
    let age := c.ageSecs + 1
    let s1 := s.setCalib n { c with drift := q, ageSecs := age % 3600 }
    let s2 := if age = 3600 then s1.count (wordFld (A.VCAL_Vn_TAB_HOURS n)) 1 else s1
    s2.setBit (F.VCAL_Vn_CAL_STAT_DUE_TEMP n) q.on

/-- TRIM_PERIOD_DUE (R135): a trim-only run falls due on each enabled channel. -/
def State.trimDue (s : State) : State :=
  if s.val A.VCAL_TRIM_PERIOD = 0 ∨ s.up .time = false then s
  else
    s.each (List.range 8) (fun n t =>
      if t.bit (F.VC_Vn_CTL_EN n) then t.setCalib n { t.calib n with trimDue := true } else t)

/-! ### The DLLs -/

/-- LOCKED of a DLL clears (R131). -/
def State.dllLose (s : State) (t : Nat) : State :=
  if s.bit (F.VCAL_DLL_LOCKED t) then
    ((s.put (F.VCAL_DLL_LOCKED t) 0).setBit (F.VCAL_DLL_LOST_SEEN t) true).raise Ev.DLL_UNLOCK
  else s

/-- A DLL locks (R129); its control code is not stated. -/
def State.dllLocked (s : State) (t : Nat) : State :=
  if t < 8 ∧ s.bit F.TB_STAT_PLL_LOCK = true ∧ s.bit (F.VCAL_DLL_LOCKED t) = false then
    (((s.put (F.VCAL_DLL_LOCKED t) 1).put (F.VCAL_DLL_REASON t) 0).put (F.VCAL_DLL_CODE t) s.freeNat).drawn
  else s

/-- PLL_LOCK clears: every run aborts and every DLL loses its lock (R125, R130). -/
def State.noTick (s : State) : State :=
  (s.each (List.range 8) (fun n t => t.abortRun n calNoTick 0 0 0)).each (List.range 8) (fun d t =>
    (t.dllLose d).put (F.VCAL_DLL_REASON d) calNoTick)

/-- PLL_LOCK sets: every DLL begins acquisition (R130). -/
def State.dllAcquire (s : State) : State :=
  s.each (List.range 8) (fun d t => t.put (F.VCAL_DLL_REASON d) 0)

/-- A forced acquisition of TSU `t` (R132, R136). DESIGN CHOICE (log 95): REASON REFUSED stands until the DLL locks anew or
PLL_LOCK changes. -/
def State.dllForce (s : State) (t : Nat) : State :=
  if s.bit (F.MAC_STAT_LINK_UP (t / 2)) then (s.put (F.VCAL_DLL_REASON t) calRefused).raise Ev.CAL_ABORT
  else s.dllLose t

/-- A write of DLL_CMD (R132). -/
def State.dllCmd (s : State) (v : Nat) : State := s.each (setBits v 8) (fun t u => u.dllForce t)

/-! ### Register words of the VCAL bank -/

/-- DEFERRED: a run that R134 holds is still wanted. -/
def State.runDeferred (s : State) (n : Nat) : Bool :=
  s.bit (F.VCAL_Vn_CAL_STAT_DEFERRED n) && (s.plannedRun n).isSome

/-- VCAL.STAT: BUSY, DUE and DEFERRED of each channel. -/
def State.calStat (s : State) : Nat :=
  ((List.range 8).map (fun n =>
    (flagVal (s.calib n).run.isSome + flagVal (s.due n) * 256 + flagVal (s.runDeferred n) * 65536) *
      2 ^ n)).sum

/-- Words of the VCAL bank the state computes. -/
def State.vcalRead (s : State) (w : Nat) : Option Word :=
  if w = 0x01 then some (wordOf s.calStat)
  else if w = 0x09 then some (wordOfInt s.dieTemp)
  else if 0x20 ≤ w ∧ w < 0x30 then some (histWord (s.calib (s.val A.VCAL_HIST_SEL)).hist (w - 0x20))
  else if w = 0x31 then some (wordOfInt (Config.facDelay (s.get F.VCAL_FAC_SEL_CH) (s.get F.VCAL_FAC_SEL_ITEM)))
  else if 0x38 ≤ w ∧ w < 0x40 ∧ s.bit F.TB_STAT_PLL_LOCK = false then
    some (wordOf (withBits (s.val (A.VCAL_DLL (w - 0x38))) 1 3 calNoTick))
  else if 0x40 ≤ w then
    let n := (w - 0x40) / 24
    match (w - 0x40) % 24 with
    | 1 => some (wordOf (withBits (withBits (s.val (A.VCAL_Vn_CAL_STAT n)) 1 2
        (flagVal (s.due n) + flagVal (s.runDeferred n) * 2)) 3 1 (flagVal (s.dueAge n))))
    | 3 => some (wordOf (s.trimCode n))
    | _ => none
  else none

/-- A write of Vn_CAL_CTL takes effect (R112, R138, R139 and the field map): the fields are stored and a CONFIG marker is
written, then DISCARD, RUN or TRIM_ONLY acts. RUN and TRIM_ONLY have no effect while a run is in progress as the write
comes. DESIGN CHOICE (log 94): a word with both RUN and TRIM_ONLY starts the full run. -/
def State.calCtlWrite (s : State) (n v : Nat) : State :=
  let s1 := s.setVal (A.VCAL_Vn_CAL_CTL n) (flagVal (bitOf v 4) * 16 + flagVal (bitOf v 8) * 256)
  let s2 := if s1.bit (F.VC_Vn_CTL_EN n) then s1.mark n tagConfig else s1
  let s3 := if bitOf v 2 then s2.discardTable n else s2
  if (s.calib n).run.isSome then s3
  else if bitOf v 0 then s3.requestRun n true else if bitOf v 1 then s3.requestRun n false else s3

/-- A write of Vn_CAL_STAT takes effect: its sticky bits, and a CONFIG marker (R98, R112). -/
def State.calStatWrite (s : State) (n v : Nat) : State :=
  let a := A.VCAL_Vn_CAL_STAT n
  let s1 := s.setVal a (s.val a &&& (full - (v &&& 0x300)))
  if s1.bit (F.VC_Vn_CTL_EN n) then s1.mark n tagConfig else s1

/-- A write to a channel's word takes effect (R112). -/
def State.applyChannelWrite (s : State) (n k : Nat) (v : Word) : State :=
  match k with
  | 0 => s.applyVcCtl n v.toNat
  | 2 => s.applyDelay n v.toNat
  | 0x40 => s.calCtlWrite n v.toNat
  | _ => s.calStatWrite n v.toNat

/-- What waits on a channel happens, unless it must wait on behind a conversion or behind something before it: a write
waits for every conversion in progress, a marker for those of earlier ticks (R112, R113). -/
def State.takeLater (s : State) (n : Nat) (x : Later) : State :=
  let c := s.chan n
  let waits := s.setChan n { c with later := c.later ++ [x] }
  if c.later.isEmpty then
    match x with
    | .mark tick tag => if c.markerNext tick then s.vqMarker n tick tag else waits
    | .write k v => if c.conv.isEmpty then s.applyChannelWrite n k v else waits
  else waits

/-- A conversion has ended: what waited is taken in order (R112, R113). -/
def State.flushLater (s : State) (n : Nat) : State :=
  let c := s.chan n
  (s.setChan n { c with later := [] }).each c.later (fun x t => t.takeLater n x)

/-- EN as the last CTL write leaves it, taken or waiting. -/
def State.enNext (s : State) (n : Nat) : Bool :=
  (s.chan n).later.foldl (fun b x => match x with
    | .write 0 v => bitOf v.toNat 0
    | _ => b) (s.bit (F.VC_Vn_CTL_EN n))

/-- A write of Vn_CTL that no run holds (R112, R114): one that enables a channel whose disable waits reports DRAINING. -/
def State.writeVcCtl (s : State) (n v : Nat) : State :=
  let t := s.takeLater n (.write 0 (wordOf v))
  if (s.chan n).conv.isEmpty then t
  else if s.bit (F.VC_Vn_CTL_EN n) = true ∧ s.enNext n = false ∧ bitOf v 0 = true then
    t.setBit (F.VC_Vn_STAT_DRAINING n) true
  else if bitOf v 0 = false then t.setBit (F.VC_Vn_STAT_DRAINING n) false
  else t

/-- A write of Vn_CTL (R106, R112, R114, R140, R141): a write with EN = 0 during a run cancels the run. -/
def State.vcCtlWrite (s : State) (n v : Nat) : Written :=
  if bitOf v 15 = true ∧ s.mayLoop n = false then s.rejected .range
  else
    let w := vcCtlFit (s.val (A.VC_Vn_CTL n)) v
    let t :=
      if (s.calib n).run.isSome then
        let held := s.setCalib n { s.calib n with heldWords := (s.calib n).heldWords ++ [(0, wordOf w)] }
        if bitOf w 0 then held else held.abortRun n calCancelled 0 0 0
      else s.writeVcCtl n w
    if vcCtlOk v then t.ok else t.rejected .range

/-- A write of Vn_DELAY_OFS (R112, R140). -/
def State.delayWrite (s : State) (n v : Nat) : State :=
  if (s.calib n).run.isSome then
    s.setCalib n { s.calib n with heldWords := (s.calib n).heldWords ++ [(2, wordOf v)] }
  else s.takeLater n (.write 2 (wordOf v))

/-- A write of Vn_CAL_CTL or Vn_CAL_STAT (R112); during a run it acts at once (R128, R139). -/
def State.calWordWrite (s : State) (n k v : Nat) : State :=
  if (s.calib n).run.isSome then s.applyChannelWrite n k (wordOf v) else s.takeLater n (.write k (wordOf v))

/-- A write to a word of the VCAL bank with a rule of its own. -/
def State.vcalWrite (s : State) (w v : Nat) : Option Written :=
  if w = 0x10 then some (s.dllCmd v).ok
  else if w = 0x30 then
    if bitsAt v 8 5 ≤ 23 then some (s.setVal A.VCAL_FAC_SEL (bitsAt v 0 3 + bitsAt v 8 5 * 256)).ok
    else some ((s.put F.VCAL_FAC_SEL_CH (bitsAt v 0 3)).rejected .range)
  else if 0x40 ≤ w ∧ (w - 0x40) % 24 ≤ 1 then
    some (s.calWordWrite ((w - 0x40) / 24) (0x40 + (w - 0x40) % 24) v).ok
  else none

/-- A write to a word of the VC bank with a rule of its own. -/
def State.vcWrite (s : State) (w v : Nat) : Option Written :=
  if 0x20 ≤ w ∧ w < 0xA0 then
    let n := (w - 0x20) / 16
    match (w - 0x20) % 16 with
    | 0 => some (s.vcCtlWrite n v)
    | 2 => some (s.delayWrite n v).ok
    | 4 =>
      if v ≤ 60000 then
        let s1 := s.setVal (A.VC_Vn_IDLE_LIMIT n) v
        some (if v = 0 then s1.setBit (F.VC_Vn_STAT_IDLE n) false else s1).ok
      else some (s.rejected .range)
    | 8 => some (s.hostMarker n v)
    | _ => none
  else if 0xC0 ≤ w ∧ (w - 0xC0) % 16 = 0 then some (s.unitCtlWrite ((w - 0xC0) / 16) v)
  else none

/-- A write to a word of the VQ bank with a rule of its own. -/
def State.vqWrite (s : State) (w v : Nat) : Option Written :=
  if w < 0x80 then
    let n := w / 16
    match w % 16 with
    | 3 =>
      if 1 ≤ v ∧ v ≤ 4096 then some (s.setWmark n v).ok else some (s.rejected .range)
    | 4 => some (if v = 1 then s.vqFlush n else s).ok
    | _ => none
  else none

/-- What a start of TIME leaves of the channels, units and runs (R98, R114, R128): queues empty but for the era-change
entry, stored tables loaded. -/
def State.captureStarts (s : State) : State :=
  let fresh : State := { s with vc := Vector.replicate 8 {}, meas := Vector.replicate 4 {} }
  let s1 := fresh.each (List.range 8) (fun n t =>
    let c := t.calib n
    let kept : CalChannel := { stored := c.stored, trim := c.trim, ageSecs := c.ageSecs }
    (t.setCalib n kept).setBit (F.VC_Vn_STAT_TABLE_VALID n) c.stored)
  s1.eraEntries

end Sys2Proof.Machine
end

