-- ==== Sys2Proof/Machine/Pcr.lean ====
section
/-! DEFINITION. The Pacer: output time, edge schedules, alignment, squelch, verification (R218 to R259). -/

namespace Sys2Proof.Machine

/-- What an output holds. -/
def State.out (s : State) (n : Nat) : OutState := s.pcr.outs.getD n {}

/-- The state with what an output holds replaced. -/
def State.setOut (s : State) (n : Nat) (o : OutState) : State :=
  { s with pcr := { s.pcr with outs := s.pcr.outs.setIfInBounds n o } }

/-- KIND codes of OUTn_CTL. -/
def kindClock : Nat := 0
def kindPulse : Nat := 1
def kindOneshot : Nat := 2
def kindFrame : Nat := 3

/-- POLICY codes. -/
def policyHold : Nat := 0
def policyInput : Nat := 1
def policyFace : Nat := 2

/-- ONESHOT_STATE codes. -/
def shotIdle : Nat := 0
def shotArmed : Nat := 1
def shotFired : Nat := 2
def shotLate : Nat := 3

/-- The Face with a code. -/
def faceOf (c : Nat) : Face :=
  match c with
  | 0 => .f0
  | 1 => .f1
  | 2 => .f2
  | _ => .f3

/-- KIND, POLICY and the Face of an output. -/
def State.outKind (s : State) (n : Nat) : Nat := s.get (F.PCR_OUTn_CTL_KIND n)
def State.outPolicy (s : State) (n : Nat) : Nat := s.get (F.PCR_OUTn_CTL_POLICY n)
def State.outFace (s : State) (n : Nat) : Face := faceOf (s.get (F.PCR_OUTn_CTL_FACE n))

/-- The rate of an output's time (R221). -/
def State.outRate (s : State) (n : Nat) : Int := (s.face (mainOf (s.outFace n))).rate

/-- The product term of R221 at instant `t`. A rate change accepted in this tick acts from the next boundary (R28), where
the term goes on from the value the old rate gives it: the re-base of R222 is in O_n already. -/
def State.runTerm (s : State) (n : Nat) (t : Int) : Int :=
  let now := s.outRate n
  match s.str.prior with
  | some x =>
    let b : Int := ((x.tick : Int) + 1) * subticks
    if x.tick ≤ s.tally ∧ t < b then
      let was := (x.faces.main (mainOf (s.outFace n))).rate
      faceTerm t was - faceTerm b was + faceTerm b now
    else faceTerm t now
  | none => faceTerm t now

/-- The offset of an output's Face at instant `t` (R234, R235): in the tick of a change, that from before it (R255). -/
def State.faceOfs (s : State) (n : Nat) (t : Int) : Int := s.pips (s.outFace n) t - s.runTerm n t

/-- What ALIGN and a slew aim at, at instant `t` (R240, R241). Under FOLLOW_INPUT a measurement that was applied has moved
O_n already. -/
def State.targetAt (s : State) (n : Nat) (t : Int) : Int :=
  let o := s.out n
  if s.outPolicy n = policyInput then (match o.slew with
    | some (_, g) => g
    | none => o.ofs - o.pend)
  else s.faceOfs n t

/-- How far a slew may come from instant `t0` to `t`, in pips (R241). -/
def State.slewReach (s : State) (n : Nat) (t0 t : Int) : Int :=
  max 0 ((s.val A.PCR_SLEW_MAX : Int) * (s.runTerm n t - s.runTerm n t0) / 1000000000)

/-- O_n at instant `t` (R221, R235, R241). A slew moves it with output time, so that a schedule is reached by running. -/
def State.ofsAt (s : State) (n : Nat) (t : Int) : Int :=
  let o := s.out n
  match o.slew with
  | some (t0, _) =>
    let r := s.slewReach n t0 t
    o.ofs + max (-r) (min r (s.targetAt n t - o.ofs))
  | none => if s.outPolicy n = policyFace then s.faceOfs n t else o.ofs

/-- What a slew aims at now. -/
def State.alignTarget (s : State) (n : Nat) : Int := s.targetAt n s.nowSub

/-- O_n now. -/
def State.outOfs (s : State) (n : Nat) : Int := s.ofsAt n s.nowSub

/-- U_n at instant `t` (R221). -/
def State.outTime (s : State) (n : Nat) (t : Int) : Int := s.runTerm n t + s.ofsAt n t

/-- The period of a FRATE code, as numerator and denominator in seconds (R226). -/
def framePeriod (c : Nat) : Nat × Nat :=
  [(1001, 24000), (1, 24), (1, 25), (1001, 30000), (1, 30), (1, 50), (1001, 60000), (1, 60), (1, 48000),
    (1, 96000)].getD c (1, 1)

/-- The period of an output: NUM and DEN. -/
def State.outPeriod (s : State) (n : Nat) : Nat × Nat :=
  if s.outKind n = kindFrame then framePeriod (s.get (F.PCR_OUTn_CTL_FRATE n))
  else (s.val (A.PCR_OUTn_PERIOD_NUM n), max 1 (s.val (A.PCR_OUTn_PERIOD_DEN n)))

/-- PHASE of an output; 0 for FRAME (R226). -/
def State.outPhase (s : State) (n : Nat) : Int :=
  if s.outKind n = kindFrame then 0 else signedOf 64 (s.multi (A.PCR_OUTn_PHASE_HI n) 2)

/-- The output time of rising edge `k` (R223). -/
def State.riseTime (s : State) (n : Nat) (k : Int) : Int :=
  s.outPhase n + k * (s.outPeriod n).1 * pipsPerSec / (s.outPeriod n).2

/-- Whether the falling edge stands half a period after the rising one (R223, R226). -/
def State.halfPeriod (s : State) (n : Nat) : Bool :=
  s.outKind n == kindClock || (s.outKind n == kindFrame && decide (8 ≤ s.get (F.PCR_OUTn_CTL_FRATE n)))

/-- AT of a one-shot (R227). -/
def State.shotAt (s : State) (n : Nat) : Int :=
  (s.multi (A.PCR_OUTn_AT_SEC_HI n) 2 : Int) * pipsPerSec + (s.get (F.PCR_OUTn_AT_NS_NS n) : Int) * 65536 +
    s.get (F.PCR_OUTn_AT_PIP_PIP n)

/-- WIDTH in pips. -/
def State.widthPips (s : State) (n : Nat) : Nat := s.val (A.PCR_OUTn_WIDTH n) * 65536

/-- DELAY_OFS in pips. -/
def State.outDelay (s : State) (n : Nat) : Int := s.ival (A.PCR_OUTn_DELAY_OFS n)

/-- The output time of the falling edge of period `k` (R223, R226). -/
def State.fallTime (s : State) (n : Nat) (k : Int) : Int :=
  if s.halfPeriod n then
    s.outPhase n + (2 * k + 1) * (s.outPeriod n).1 * pipsPerSec / (2 * (s.outPeriod n).2)
  else s.riseTime n k + s.widthPips n

/-- Division rounded up. -/
def ceilDiv (a b : Int) : Int := -((-a) / b)

/-- The earliest instant at which U_n reaches `u` (R230), with the newest parameters. -/
def State.reaches (s : State) (n : Nat) (u : Int) : Int :=
  ceilDiv (5 * 2 ^ 60 * (u - s.ofsAt n s.actSub)) (4 * (2 ^ 60 + s.outRate n))

/-- The placement step of R230: the nearest multiple of 128 subticks, a tie to the later. -/
def placed (t : Int) : Int := (t + 64) / 128 * 128

/-- MIN_HL in subticks (R219). -/
def minHl (n : Nat) : Int := if n < 4 then 65536 else 163840

/-- The first period index whose rising edge lies at or after output time `u` (R223). -/
def State.firstIndex (s : State) (n : Nat) (u : Int) : Int :=
  ceilDiv ((u - s.outPhase n) * (s.outPeriod n).2) ((max 1 (s.outPeriod n).1 : Nat) * pipsPerSec)

/-- What a launch instant is judged against: U_n plus DELAY_OFS (R230). -/
def State.threshold (s : State) (n : Nat) (t : Int) : Int := s.outTime n t + s.outDelay n

/-- The last period index whose rising edge has been reached at threshold `x`. -/
def State.indexAt (s : State) (n : Nat) (x : Int) : Int := s.firstIndex n (x + 1) - 1

/-- The index up to which rising edges are worked off by now: launched, committed, or reached before this tick without
OUTPUT_EDGE. -/
def State.workedOff (s : State) (n : Nat) : Int :=
  let o := s.out n
  let t := s.nowSub - 65
  if o.since ≤ t then max o.lastK (s.indexAt n (s.threshold n t)) else o.lastK

/-- The pulse of period `k`, or the one-shot's (`shot`), with the fields that it takes now (R223, R227, R230, R253). -/
def State.pulse (s : State) (n : Nat) (shot : Bool) (k : Int) : OutEdge :=
  let u := if shot then s.shotAt n else s.riseTime n k
  { k := k, u := u, fall := if shot then u + s.widthPips n else s.fallTime n k, delay := s.outDelay n
    inv := s.bit (F.PCR_OUTn_CTL_INV n), at_ := placed (s.reaches n (u - s.outDelay n)) }

/-- The first index from which rising edges are still to come (R229). -/
def State.nextIndex (s : State) (n : Nat) : Int :=
  match (s.out n).gate with
  | some g => max (s.workedOff n + 1) (s.firstIndex n g)
  | none => s.workedOff n + 1

/-- The next rising edge that is not committed (R223, R227, R229). -/
def State.uncommitted (s : State) (n : Nat) : Option OutEdge :=
  let o := s.out n
  if o.running = false ∨ o.stopping = true then none
  else if s.outKind n = kindOneshot then
    let e := s.pulse n true 0
    if s.get (F.PCR_OUTn_STAT_ONESHOT_STATE n) = shotArmed ∧ s.nowSub ≤ e.at_ ∧ o.plan.all (fun x => x.u != e.u) = true then
      some e
    else none
  else some (s.pulse n false (s.nextIndex n))

/-- The next rising edge: a committed one, else the next of the schedule (R231). -/
def State.nextRise (s : State) (n : Nat) : Option OutEdge :=
  match (s.out n).plan.dropWhile (fun e => decide (e.at_ < s.nowSub)) with
  | e :: _ => some e
  | [] => s.uncommitted n

/-- The launch instant of the falling edge of pulse `e` (R223, R230, R233). -/
def State.fallAt (s : State) (n : Nat) (e : OutEdge) : Int :=
  match e.fallAt with
  | some t => t
  | none => max (placed (s.reaches n (e.fall - e.delay))) (e.at_ + minHl n)

/-- Whether the end of the present high time comes before the next rising edge. -/
def State.fallsFirst (s : State) (n : Nat) : Bool :=
  match (s.out n).high, s.nextRise n with
  | none, _ => false
  | some _, none => true
  | some e, some r => decide (s.fallAt n e ≤ r.at_)

/-! ### Squelch -/

/-- The SET bit behind an output's Face (R34). -/
def State.outSet (s : State) (n : Nat) : Bool := s.bit (setFld (mainOf (s.outFace n)))

/-- The causes of R244 as bits 5:0 of CAUSE. -/
def State.sqCauses (s : State) (n : Nat) : Nat :=
  flagVal s.safe +
    flagVal (s.baseMode == .rise && !s.bit F.TB_STAT_WARM && !s.bit F.PCR_CTL_NO_WARM_WAIT) * 2 +
    flagVal (s.bit (F.PCR_OUTn_CTL_SQ_UNSET n) && !s.outSet n) * 4 +
    flagVal (s.bit (F.PCR_OUTn_CTL_SQ_BUDGET n) && s.srvState == srvHoldover &&
      s.val A.SRV_HO_ERR_LIMIT != 0 && decide (s.val A.SRV_HO_ERR_LIMIT < s.val A.SRV_HO_ERR)) * 8 +
    flagVal (s.bit (F.PCR_OUTn_CTL_SQ_HOST n)) * 16 +
    flagVal (s.outPolicy n == policyInput && !(s.out n).applied) * 32

/-- Whether an output is squelched (R244). -/
def State.squelched (s : State) (n : Nat) : Bool := s.sqCauses n != 0

/-- Whether an output's pad driver works: its OUT domain is up (R259), and for OUT4 to OUT11 its bank present (R791). -/
def State.padUp (s : State) (n : Nat) : Bool := s.up .out && (decide (n < 4) || s.pwr.vioO.isSome)

/-- Whether an output's pad carries no new edges: squelched, or its driver not working (R245, R259, R812). -/
def State.silent (s : State) (n : Nat) : Bool := s.squelched n || !s.padUp n

/-- What a pin does: released to its pull-down, or driven to a level (R4, R6, R245). -/
inductive Pad where
  | released
  | driven (high : Bool)
  deriving DecidableEq, Repr

/-- The pin of output `n`; for OUT0 to OUT3 the logic value of the pair. Without a working driver it is released (R6, R791),
and during a warm reset driven to the squelch level (R259). A pulse in progress shows its level, a running output its
idle level, turned over by the INV that the last rising edge took (R229, R253); INV does not apply to the squelch level,
low, nor to that of an output that does not run (R245; the latter the model's choice, log entry 104). -/
def State.pad (s : State) (n : Nat) : Pad :=
  let o := s.out n
  if s.padUp n = false then
    (if s.pwr.forced.contains 3 && (decide (n < 4) || s.pwr.vioO.isSome) then .driven false else .released)
  else
    match o.high with
    | some e => .driven (!e.inv)
    | none => .driven (o.running && !s.squelched n && o.inv)

/-- An output starts, or restarts (R229): 1 ms of output time ahead. Committed edges stay (R231). -/
def State.outRestart (s : State) (n : Nat) : State :=
  let o := s.out n
  s.setOut n { o with gate := some (s.outTime n s.actSub + 65536000000), started := false }

/-- An output is enabled (R229, R244). An enable that did not wait for a disable takes the Face's offset as O_n, as Case A
of the chapter has it (log entry 105). -/
def State.outStarts (s : State) (n : Nat) (fresh : Bool) : State :=
  let o := s.out n
  let o1 : OutState := if fresh then
      { o with ofs := s.faceOfs n s.actSub, slew := none, m := 0, pend := 0, plan := [], lastFall := none }
    else o
  let s1 := s.setOut n { o1 with
    running := true, stopping := false, applied := false, inv := s.bit (F.PCR_OUTn_CTL_INV n), since := s.actSub }
  let s2 := (s1.put (F.PCR_OUTn_STAT_DRAINING n) 0).put (F.PCR_OUTn_STAT_FOLLOW_OK n) 0
  let s3 := if fresh then s2.put (F.PCR_OUTn_STAT_SLEWING n) 0 else s2
  (s3.setOut n { s3.out n with lastK := s3.indexAt n (s3.threshold n s3.actSub) }).outRestart n

/-- The pads of the outputs listed stop: a high time ends there, and what was committed is not driven (R259, R812). -/
def State.padsStop (s : State) (l : List Nat) : State :=
  s.each l (fun n t =>
    let o := t.out n
    t.setOut n { o with
      high := none, plan := [], started := false, lastFall := if o.high.isSome then some t.nowSub else o.lastFall })

/-! ### Edges -/

/-- A one-shot is missed (R228, R248, R257). -/
def State.shotMissed (s : State) (n : Nat) : State :=
  ((s.put (F.PCR_OUTn_STAT_ONESHOT_STATE n) shotLate).setBit (F.PCR_OUTn_STAT_MISSED_SEEN n) true).raise Ev.OUT_MISSED

/-- Edges are skipped (R233). -/
def State.skipEdges (s : State) (n : Nat) (c : Nat) : State :=
  let o := s.out n
  ((s.setOut n { o with skipped := (o.skipped + c) % 2 ^ 32 }).setBit (F.PCR_OUTn_STAT_SKIP_SEEN n) true).raise Ev.OUT_SKIP

/-- Whether a rising edge at `t` would fall in a high time, or less than MIN_HL after the previous falling edge (R233). -/
def State.tight (s : State) (n : Nat) (t : Int) : Bool :=
  (s.out n).high.isSome || (s.out n).lastFall.any (fun f => decide (t < f + minHl n))

/-- A launch as the pad shows it, kept for a millisecond (R250). -/
def OutState.launch (o : OutState) (rise : Bool) (t : Int) : List (Bool × Int) :=
  (rise, t) :: o.launched.filter (fun x => decide (t - 81920000000 ≤ x.2))

/-- A rising edge falls due (R228, R229, R231, R233, R247, R248). A committed edge is not held back by a squelch that began
after it was committed. -/
def State.riseDue (s : State) (n : Nat) (e : OutEdge) : State :=
  let o := s.out n
  let rest := o.plan.dropWhile (fun x => decide (x.at_ < s.nowSub))
  let settled := !rest.isEmpty
  let shot := s.outKind n == kindOneshot
  let o1 : OutState := { o with plan := rest.drop 1, lastK := if settled || shot then o.lastK else e.k }
  let early := shot && !settled && o.gate.any (fun g => decide (e.u < g))
  if s.padUp n = false ∨ (settled = false ∧ s.squelched n = true) ∨ early = true then
    let s1 := s.setOut n o1
    if shot then s1.shotMissed n else s1
  else if s.tight n e.at_ then
    let s1 := (s.setOut n o1).skipEdges n 1
    if shot then s1.shotMissed n else s1
  else
    let s1 := s.setOut n { o1 with
      gate := none, started := true, high := some e, inv := e.inv, launched := o1.launch (!e.inv) e.at_ }
    if shot && s.get (F.PCR_OUTn_STAT_ONESHOT_STATE n) == shotArmed && s.shotAt n == e.u then
      s1.put (F.PCR_OUTn_STAT_ONESHOT_STATE n) shotFired
    else s1

/-- A high time ends at `t`. -/
def State.fallNow (s : State) (n : Nat) (e : OutEdge) (t : Int) : State :=
  let o := s.out n
  s.setOut n { o with high := none, lastFall := some t, launched := o.launch e.inv t }

/-- OUTPUT_EDGE (R230): the scheduled edge whose launch instant lies in the present tick. A falling edge that is due
already launches now. -/
def State.outputEdge (s : State) (n : Nat) : State :=
  if n < 12 ∧ s.tallyRun = true then
    if s.fallsFirst n then
      match (s.out n).high with
      | none => s
      | some e =>
        let t := s.fallAt n e
        if t / subticks ≤ s.tally then s.fallNow n e (max t s.nowSub) else s
    else
      match s.nextRise n with
      | none => s
      | some e => if e.at_ / subticks = s.tally then s.riseDue n e else s
  else s

/-- SQUELCH_HOLD_TIMEOUT (R246): 1 ms after a squelch or a disable began (R256). -/
def State.squelchHold (s : State) (n : Nat) : State :=
  match (s.out n).high with
  | none => s
  | some e => if s.squelched n || (s.out n).stopping then s.fallNow n e s.nowSub else s

/-- OUTPUT_DRAIN_DONE (R246, R256). -/
def State.outDrained (s : State) (n : Nat) : State :=
  let o := s.out n
  if o.stopping = true ∧ o.high.isNone = true ∧ (s.nextRise n).isNone = true then
    let s1 := s.setOut n { o with running := false, stopping := false, started := false, plan := [] }
    if s1.bit (F.PCR_OUTn_STAT_DRAINING n) then s1.outStarts n false else s1
  else s

/-! ### Alignment -/

/-- O_n is set, and a slew ends with it. -/
def State.setOfs (s : State) (n : Nat) (x : Int) : State := s.setOut n { s.out n with ofs := x, slew := none }

/-- A PIN slot serves a FOLLOW_INPUT output (R236). -/
def State.followOk (s : State) (slot : Nat) : Bool :=
  s.qualified slot && !s.looped slot && !s.bit (F.REFM_Sn_STAT_CAL_HOLD slot)

/-- ALIGN (R240), also at the end of a slew (R241). Under FOLLOW_INPUT it applies the latest measurement. -/
def State.align (s : State) (n : Nat) : State :=
  let took := s.outPolicy n == policyInput && (s.out n).pend != 0
  let s1 := s.setOfs n (s.alignTarget n)
  let s2 := s1.setOut n { s1.out n with pend := 0, applied := (s.out n).applied || took }
  (if took then s2.setBit (F.PCR_OUTn_STAT_FOLLOW_OK n) (s.followOk (s.get (F.PCR_OUTn_CTL_SLOT n))) else s2).raise
    Ev.OUT_ALIGN_DONE

/-- SLEW_ALIGN (R241): nothing to move is done at once. -/
def State.slewAlign (s : State) (n : Nat) : State :=
  let from_ := s.outOfs n
  let goal := s.alignTarget n
  if from_ = goal then (s.put (F.PCR_OUTn_STAT_SLEWING n) 0).align n
  else
    (s.setOut n { s.out n with ofs := from_, slew := some (s.nowSub, goal) }).setBit (F.PCR_OUTn_STAT_SLEWING n) true

/-- A slew ends where it stands (R241, R258). -/
def State.slewStop (s : State) (n : Nat) : State :=
  match (s.out n).slew with
  | none => s
  | some _ =>
    (s.setOfs n (s.outOfs n)).put (F.PCR_OUTn_STAT_SLEWING n) 0

/-- SLEW_DONE (R241): O_n has reached its target. -/
def State.slewDone (s : State) (n : Nat) : State :=
  match (s.out n).slew with
  | none => s
  | some _ =>
    if s.outOfs n = s.alignTarget n then
      (s.align n).put (F.PCR_OUTn_STAT_SLEWING n) 0
    else s

/-- A write of PCR.CMD (R228, R240, R241). -/
def State.pcrCmd (s : State) (v : Nat) : Written :=
  let n := bitsAt v 0 4
  if 12 ≤ n then s.rejected .range
  else
    match bitsAt v 4 4 with
    | 1 => ((s.put (F.PCR_OUTn_STAT_SLEWING n) 0).align n).ok
    | 2 => (s.slewAlign n).ok
    | 3 => (s.slewStop n).ok
    | 4 => (s.put (F.PCR_OUTn_STAT_ONESHOT_STATE n) shotIdle).ok
    | _ => s.rejected .range

/-- The measurement of R236: the stamp against the nearest rising edge of the grid, in (-P/2, P/2]. -/
def State.followMeasure (s : State) (n : Nat) (t : Int) : Int :=
  let x := s.outTime n t + signedOf 64 (s.multi (A.PCR_OUTn_FOLLOW_OFS_HI n) 2)
  let p := s.outPeriod n
  let k := (x - s.outPhase n) * p.2 / ((max 1 p.1 : Nat) * pipsPerSec)
  let m := x - s.riseTime n k
  if (p.1 : Int) * pipsPerSec < 2 * m * p.2 then x - s.riseTime n (k + 1) else m

/-- A measurement reaches an output (R237, R242). The goal of a slew is O_n less the latest measurement (R240, R241). -/
def State.follow (s : State) (n : Nat) (t : Int) : State :=
  let m := s.followMeasure n t
  let o := s.out n
  let here := s.outOfs n
  if o.alignFirst = true ∨ |m| ≤ (s.val A.PCR_FOLLOW_STEP : Int) * 65536 then
    let o1 : OutState := { o with
      m := m, pend := 0, applied := true, alignFirst := false, ofs := here - m
      slew := o.slew.map (fun _ => (s.nowSub, here - m)) }
    ((s.setOut n o1).put (F.PCR_OUTn_STAT_FOLLOW_OK n) 1).raiseIf o.alignFirst Ev.OUT_ALIGN_DONE
  else
    let o1 : OutState := { o with
      m := m, pend := m, ofs := here, slew := o.slew.map (fun _ => (s.nowSub, here - m)) }
    (((s.setOut n o1).put (F.PCR_OUTn_STAT_FOLLOW_OK n) 0).setBit (F.PCR_OUTn_STAT_JUMP_SEEN n) true).raise
      Ev.OUT_INPUT_JUMP

/-- An on-time stamp of a PIN slot reaches the outputs that follow it (R236). -/
def State.followStamp (s : State) (slot : Nat) (st : Stamp) : State :=
  if st.falling = s.bit (F.REFM_Sn_CTL_ONTIME_POL slot) ∧ s.followOk slot = true then
    s.each (List.range outputs) (fun n t =>
      if (t.out n).running && t.outPolicy n == policyInput && t.get (F.PCR_OUTn_CTL_SLOT n) == slot then
        t.follow n st.t
      else t)
  else s

/-- MISALIGN in pips (R234 to R236, R241). -/
def State.misalign (s : State) (n : Nat) : Int :=
  saturateSigned 64 (if s.outPolicy n = policyInput then -(s.out n).m else s.faceOfs n s.nowSub - s.outOfs n)

/-! ### Verification -/

/-- Verification runs (R249). -/
def State.verifying (s : State) : Bool := s.bit F.PCR_VER_CTL_EN && s.tallyRun

/-- The OUT field a write of VER_CTL leaves: the word's, and the one held where that is above 11 (R15). -/
def State.verOut (s : State) (v : Nat) : Nat := if bitsAt v 4 4 < 12 then bitsAt v 4 4 else s.get F.PCR_VER_CTL_OUT

/-- Whether the channel that the word names is enabled on the loopback of the output that the write leaves (R249). -/
def State.verFits (s : State) (v : Nat) : Bool :=
  let ch := bitsAt v 8 3
  s.bit (F.VC_Vn_CTL_EN ch) && s.bit (F.VC_Vn_CTL_SRC ch) && s.get (F.VC_Vn_CTL_LOOP_OUT ch) == s.verOut v

/-- A write of VER_CTL (R15, R249). -/
def State.verCtlWrite (s : State) (v : Nat) : Written :=
  if bitOf v 0 = true ∧ s.verFits v = false then s.rejected .range
  else
    let x := s.fitWrite A.PCR_VER_CTL v [(4, 4, decide (bitsAt v 4 4 < 12))]
    { x with state := { x.state with pcr := { x.state.pcr with errors := [] } } }

/-- The launch instant of the schedule's edge nearest to instant `t`, rising or falling. -/
def State.scheduled (s : State) (n : Nat) (t : Int) (falling : Bool) : Int :=
  let d := s.outDelay n
  let k0 := s.firstIndex n (s.threshold n t)
  let at_ (k : Int) : Int :=
    let e := s.pulse n (s.outKind n == kindOneshot) k
    if falling then placed (s.reaches n (e.fall - d)) else e.at_
  [at_ (k0 - 2), at_ (k0 - 1), at_ k0, at_ (k0 + 1)].foldl (fun b c => if |t - c| < |t - b| then c else b) (at_ (k0 - 1))

/-- The launch instant nearest to instant `t` of an edge that shows the polarity on the pad (R250): of those launched in
the last millisecond; where none shows it, of the schedule. -/
def State.nearestLaunch (s : State) (n : Nat) (t : Int) (falling : Bool) : Int :=
  match ((s.out n).launched.filter (fun x => x.1 != falling)).map (fun x => x.2) with
  | x :: l => l.foldl (fun b c => if |t - c| < |t - b| then c else b) x
  | [] => s.scheduled n t (falling != s.bit (F.PCR_OUTn_CTL_INV n))

/-- A loopback stamp of channel `ch` reaches verification (R250). -/
def State.verifyStamp (s : State) (ch : Nat) (st : Stamp) : State :=
  if s.verifying && s.get F.PCR_VER_CTL_CH == ch && s.bit (F.VC_Vn_CTL_SRC ch) then
    let n := s.get F.PCR_VER_CTL_OUT
    { s with pcr := { s.pcr with errors := (st.t - s.nearestLaunch n st.t st.falling) :: s.pcr.errors } }
  else s

/-- Subticks to 0.01 ps, rounded. -/
def centiPs (x : Rat) : Int := roundRat (x * 625 / 512)

/-- VER_GATE_END (R250, R251). A gate without a stamp has no mean and no largest error: free values. -/
def State.verGate (s : State) : State :=
  if s.verifying = false then s
  else
    let es := s.pcr.errors
    let t : Int × Int × State := match es with
      | [] => (s.freeInt, s.drawn.freeInt, s.drawn.drawn)
      | e :: l => (centiPs ((es.sum : Rat) / (es.length : Rat)), centiPs ((l.foldl (fun b x => max b |x|) |e| : Int) : Rat), s)
    let s1 := ({ t.2.2 with pcr := { t.2.2.pcr with errors := [] } }).setVal A.PCR_VER_COUNT es.length
    let s2 := (s1.setIval A.PCR_VER_MEAN t.1).setIval A.PCR_VER_MAXABS t.2.1
    if (s.val A.PCR_VER_LIMIT : Int) * 100 < |t.1| then
      let s3 := (s2.setBit F.PCR_VER_STAT_FAIL_SEEN true).raise Ev.OUT_VERIFY_FAIL
      if s3.bit F.PCR_CTL_VERIFY_SAFE then s3.enterSafe 18 else s3
    else s2

/-! ### Register writes -/

/-- The fields of OUTn_CTL and whether each is in range (the field map). FRAME with F1 or F2 is out of range: FACE keeps its
code, and KIND too where that code is F1 or F2. -/
def outCtlFields (n old v : Nat) : List (Nat × Nat × Bool) :=
  let frame := bitsAt v 1 2 == kindFrame
  let inner (f : Nat) : Bool := f == 1 || f == 2
  let elec := bitsAt v 20 2
  [(1, 2, !(frame && inner (bitsAt v 3 2) && inner (bitsAt old 3 2))), (3, 2, !(frame && inner (bitsAt v 3 2))),
    (5, 2, decide (bitsAt v 5 2 < 3)), (8, 4, decide (bitsAt v 8 4 < 8)), (12, 4, decide (bitsAt v 12 4 < 10)),
    (20, 2, if n < 4 then decide (elec ≤ 1) else decide (elec ≤ 2))]

/-- The test of R239 for slot, period and kind. -/
def State.followFits (s : State) (slot : Nat) (p : Nat × Nat) : Bool :=
  let a := s.val (A.REFM_Sn_PERIOD_NUM slot) * p.2
  let b := p.1 * 1000000000 * s.val (A.REFM_Sn_PERIOD_DEN slot)
  s.slotKind slot != 2 && b != 0 && decide (b ≤ a) && decide (a % b = 0)

/-- MIN_HL in picoseconds (R219). -/
def minHlPs (n : Nat) : Nat := if n < 4 then 800 else 2000

/-- The conditions of R254 on an enable with CTL value `v`. -/
def State.mayEnable (s : State) (n v : Nat) : Bool :=
  let kind := bitsAt v 1 2
  let frate := bitsAt v 12 4
  let p := if kind = kindFrame then framePeriod frate
    else (s.val (A.PCR_OUTn_PERIOD_NUM n), max 1 (s.val (A.PCR_OUTn_PERIOD_DEN n)))
  let psNum := p.1 * 1000000000000
  let width := s.val (A.PCR_OUTn_WIDTH n) * 1000
  let long := decide (86400 * p.2 < p.1)
  let clock := kind != kindClock || decide (2 * minHlPs n * p.2 ≤ psNum)
  let pulse := !(kind == kindPulse || (kind == kindFrame && decide (frate < 8))) ||
    (decide (minHlPs n ≤ width) && decide ((width + minHlPs n) * p.2 ≤ psNum))
  let input := bitsAt v 5 2 != policyInput || s.followFits (bitsAt v 8 4) p
  !long && clock && pulse && input

/-- The bits of OUTn_CTL that an enabled output locks (R253): KIND, FACE, SLOT, FRATE. -/
def lockedBits (v : Nat) : Nat × Nat := (bitsAt v 1 4, bitsAt v 8 8)

/-- The falling edges of the pulse in progress and of those committed stay where they were planned (R253). -/
def State.keepPulses (before s : State) (n : Nat) : State :=
  let o := s.out n
  let settle (e : OutEdge) : OutEdge := { e with fallAt := some (before.fallAt n e) }
  s.setOut n { o with high := o.high.map settle, plan := o.plan.map settle }

/-- A POLICY write (R242): O_n stays as it was, and a slew ends; on a running output one to FOLLOW_FACE acts as ALIGN. -/
def State.policyMoves (before s : State) (n : Nat) : State :=
  let now := s.outPolicy n
  if before.outPolicy n = now then s
  else
    let s1 := ((before.keepPulses s n).setOfs n (before.outOfs n)).put (F.PCR_OUTn_STAT_SLEWING n) 0
    let s2 := s1.setOut n { s1.out n with alignFirst := now == policyInput }
    if now = policyFace ∧ (s2.out n).running = true then s2.align n else s2

/-- A write of OUTn_CTL (R239, R242, R253, R254, R256): the rules judge the word that the fields in range leave. -/
def State.outCtlWrite (s : State) (n v : Nat) : Written :=
  let old := s.val (A.PCR_OUTn_CTL n)
  let x := fitted old v (outCtlFields n old v)
  let was := s.bit (F.PCR_OUTn_CTL_EN n)
  let on := bitOf x 0
  let p := if bitsAt x 1 2 = kindFrame then framePeriod (bitsAt x 12 4)
    else (s.val (A.PCR_OUTn_PERIOD_NUM n), max 1 (s.val (A.PCR_OUTn_PERIOD_DEN n)))
  if (was || s.bit (F.PCR_OUTn_STAT_DRAINING n)) = true ∧ lockedBits x ≠ lockedBits old then s.rejected .range
  else if on = true ∧ s.mayEnable n x = false then s.rejected .range
  else if bitsAt x 5 2 = policyInput ∧ s.followFits (bitsAt x 8 4) p = false then s.rejected .range
  else
    let s1 := s.policyMoves (s.setVal (A.PCR_OUTn_CTL n) (bitsAt x 0 19 + bitsAt x 20 2 * 2 ^ 20)) n
    let w :=
      if on = was then s1.ok
      else if on then
        if (s1.out n).stopping then (s1.setBit (F.PCR_OUTn_STAT_DRAINING n) true).ok else (s1.outStarts n true).ok
      else if (s1.out n).stopping then (s1.setBit (F.PCR_OUTn_STAT_DRAINING n) false).ok
      else (s1.setOut n { s1.out n with stopping := true }).ok
    w.judged (allFit (outCtlFields n old v))

/-- A write of AT_SEC_HI (R227, R228). -/
def State.shotArm (s : State) (p : HostPort) (n v : Nat) : Written :=
  let a := A.PCR_OUTn_AT_SEC_HI n
  let lo := s.lower p (A.PCR_OUTn_AT_SEC_LO n) (s.rd (A.PCR_OUTn_AT_SEC_LO n))
  let ns := s.lower p (A.PCR_OUTn_AT_NS n) (s.rd (A.PCR_OUTn_AT_NS n))
  let pip := s.lower p (A.PCR_OUTn_AT_PIP n) (s.rd (A.PCR_OUTn_AT_PIP n))
  let s0 := s.dropHolds p [A.PCR_OUTn_AT_SEC_LO n, A.PCR_OUTn_AT_NS n, A.PCR_OUTn_AT_PIP n]
  let s1 := ((((s0.setVal a v).setVal (A.PCR_OUTn_AT_SEC_LO n) lo).setVal (A.PCR_OUTn_AT_NS n) ns).setVal
    (A.PCR_OUTn_AT_PIP n) (pip % 65536)).put (F.PCR_OUTn_STAT_ONESHOT_STATE n) shotArmed
  if 10 * (s1.shotAt n - s1.outTime n s1.nowSub) ≤ 33554432 then (s1.shotMissed n).ok else s1.ok

/-- A write to an output's words (R16, R227, R253). -/
def State.outWrite (s : State) (p : HostPort) (n k v : Nat) : Option Written :=
  let busy := s.bit (F.PCR_OUTn_CTL_EN n) || s.bit (F.PCR_OUTn_STAT_DRAINING n)
  match k with
  | 0 => some (s.outCtlWrite n v)
  | 2 => if busy && v != s.val (A.PCR_OUTn_PERIOD_NUM n) then some (s.rejected .range) else none
  | 3 => if busy && v != s.val (A.PCR_OUTn_PERIOD_DEN n) then some (s.rejected .range) else none
  | 5 =>
    let lo := s.lower p (A.PCR_OUTn_PHASE_LO n) (s.rd (A.PCR_OUTn_PHASE_LO n))
    let s0 := s.dropHolds p [A.PCR_OUTn_PHASE_LO n]
    if busy && v * 2 ^ 32 + lo != s.multi (A.PCR_OUTn_PHASE_HI n) 2 then some (s0.rejected .range)
    else some (s0.setMulti (A.PCR_OUTn_PHASE_HI n) (v * 2 ^ 32 + lo) 2).ok
  | 6 => some (s.hold p (A.PCR_OUTn_PHASE_LO n) (wordOf v)).ok
  | 7 => some (s.shotArm p n v)
  | 8 => some (s.hold p (A.PCR_OUTn_AT_SEC_LO n) (wordOf v)).ok
  | 9 => if v ≤ 999999999 then some (s.hold p (A.PCR_OUTn_AT_NS n) (wordOf v)).ok else some (s.rejected .range)
  | 10 => some (s.hold p (A.PCR_OUTn_AT_PIP n) (wordOf (v % 65536))).ok
  | 12 =>
    let lo := s.lower p (A.PCR_OUTn_FOLLOW_OFS_LO n) (s.rd (A.PCR_OUTn_FOLLOW_OFS_LO n))
    some ((s.dropHolds p [A.PCR_OUTn_FOLLOW_OFS_LO n]).setMulti (A.PCR_OUTn_FOLLOW_OFS_HI n) (v * 2 ^ 32 + lo) 2).ok
  | 13 => some (s.hold p (A.PCR_OUTn_FOLLOW_OFS_LO n) (wordOf v)).ok
  | _ => none

/-- A write to a word of the PCR bank with a rule of its own. -/
def State.pcrWrite (s : State) (p : HostPort) (w v : Nat) : Option Written :=
  if w = 0x02 then some (s.pcrCmd v)
  else if w = 0x08 then some (s.verCtlWrite v)
  else if 0x20 ≤ w ∧ w < 0xE0 then s.outWrite p ((w - 0x20) / 16) ((w - 0x20) % 16) v
  else none

/-- Words of the PCR bank the state computes. -/
def State.pcrRead (s : State) (w : Nat) : Option Word :=
  if w = 0x01 then some (wordOf ((List.range outputs).map (fun n => flagVal (s.squelched n) * 2 ^ n)).sum)
  else if w = 0x0D then some (wordOf (s.val A.PCR_VER_STAT + flagVal s.verifying))
  else if 0x20 ≤ w ∧ w < 0xE0 then
    let n := (w - 0x20) / 16
    match (w - 0x20) % 16 with
    | 1 => some (wordOf (s.val (A.PCR_OUTn_STAT n) + flagVal ((s.out n).started && !s.silent n) +
        flagVal (s.squelched n) * 2 + s.sqCauses n * 65536))
    | 14 => some (wordOf (codeOf 64 (s.misalign n) / 2 ^ 32))
    | 15 => some (wordOf (codeOf 64 (s.misalign n)))
    | _ => none
  else none

/-! ### What follows from a change of state -/

/-- R222: a re-base of a Face moves O_n with it, and with O_n the goal of a slew. -/
def State.rebaseOut (before s : State) (n : Nat) : State :=
  let f := mainOf (s.outFace n)
  let was := (before.face f).rate
  let now := (s.face f).rate
  if was = now then s
  else
    let d := faceTerm s.nextSub was - faceTerm s.nextSub now
    let o := s.out n
    s.setOut n { o with ofs := o.ofs + d, slew := o.slew.map (fun x => (x.1, x.2 + d)) }

/-- A slew goes on from where it stands when its rate or its target changes (R222, R241, R822). -/
def State.slewGoesOn (before s : State) (n : Nat) : State :=
  let o := s.out n
  if o.slew.isSome = true ∧ (before.out n).slew = o.slew ∧ (before.outRate n ≠ s.outRate n ∨
      before.val A.PCR_SLEW_MAX ≠ s.val A.PCR_SLEW_MAX ∨ before.targetAt n s.actSub ≠ s.targetAt n s.actSub) then
    s.setOut n { o with ofs := before.outOfs n, slew := o.slew.map (fun x => (s.nowSub, x.2)) }
  else s

/-- Commits, under the parameters of `s`, the falling edge of a pulse that lies within 64 ticks (R231). -/
def State.commitFall (s : State) (n : Nat) (e : OutEdge) : OutEdge :=
  if e.fallAt.isNone = true ∧ s.fallAt n e ≤ s.nowSub + 4194304 then { e with fallAt := some (s.fallAt n e) } else e

/-- Commits the rising edges within 64 ticks, at most `fuel` (R231); those that no pad shows are worked off unseen. A
one-shot on a silent pad is left to its OUTPUT_EDGE (R248). -/
def State.commitRises (n : Nat) : Nat → State → State
  | 0, s => s
  | fuel + 1, s =>
    match s.uncommitted n with
    | none => s
    | some e =>
      let o := s.out n
      let shot := s.outKind n == kindOneshot
      if s.nowSub + 4194304 < e.at_ ∨ (shot = true ∧ s.silent n = true) then s
      else
        let o1 : OutState := { o with lastK := if shot then o.lastK else e.k }
        State.commitRises n fuel (s.setOut n (if s.silent n then o1 else { o1 with plan := o.plan ++ [e] }))

/-- What an output has committed at the present instant (R231): at 2 x MIN_HL or more a period, fewer than 40 rising
edges lie within 64 ticks. -/
def State.committed (s : State) (n : Nat) : OutState :=
  let t := State.commitRises n 40 s
  let o := t.out n
  { o with
    plan := (o.plan.dropWhile (fun e => decide (e.at_ < s.nowSub))).map (t.commitFall n), high := o.high.map (t.commitFall n)
    lastK := max o.lastK (t.workedOff n) }

/-- What an output keeps of its edges, by their output times. -/
def OutState.edges (o : OutState) : Option Int × List Int × Int × Option Int :=
  (o.high.map (fun e => e.u), o.plan.map (fun e => e.u), o.lastK, o.lastFall)

/-- Takes over what was committed before a change (R231); an edge that the command itself has handled is left alone. A
falling edge that the command has settled stays so. -/
def State.keepCommitted (before s : State) (n : Nat) : State :=
  let o := s.out n
  if (before.out n).edges = o.edges then
    let c := before.committed n
    let keep (old new : OutEdge) : OutEdge := if old.fallAt.isSome then old else new
    s.setOut n { o with
      lastK := c.lastK
      plan := c.plan.map (fun e => ((o.plan.find? (fun x => x.u == e.u)).map (fun x => keep x e)).getD e)
      high := match o.high, c.high with
        | some x, some e => some (keep x e)
        | x, _ => x }
  else s

/-- Rising edges that a change carries U_n past, from the index after those worked off: each would be launched at the
instant of the change, the first at which U_n reaches it (R230). The first is; the others fall in its high time or less
than MIN_HL after it and are skipped (R233). -/
def State.carriedPast (s : State) (n : Nat) : State :=
  let o := s.out n
  let k0 := match o.gate with
    | some g => max (o.lastK + 1) (s.firstIndex n g)
    | none => o.lastK + 1
  let last := s.indexAt n (s.threshold n s.actSub)
  let c := (last + 1 - k0).toNat
  let t := placed s.actSub
  let s1 := s.setOut n { o with lastK := max o.lastK last }
  if c = 0 ∨ o.stopping = true ∨ s.silent n = true then s1
  else if s1.tight n t || !o.plan.isEmpty then s1.skipEdges n c
  else
    let s2 := s1.setOut n { s1.out n with plan := [{ s.pulse n false k0 with at_ := t }] }
    if c = 1 then s2 else s2.skipEdges n (c - 1)

/-- The schedule after a change that moves U_n, or DELAY_OFS, at the next instant from which it acts (R230, R231, R257). A
forward change carries U_n past rising edges. A backward one opens as many whole periods again as it goes back, so that
no edge is launched twice within a period and none is missing (log entry 106). A one-shot that U_n is carried past is
missed. -/
def State.scheduleMoves (before s : State) (n : Nat) : State :=
  let was := before.threshold n s.actSub
  let now := s.threshold n s.actSub
  if was = now then s
  else
    let s1 := s.setOut n { s.out n with since := s.actSub }
    if s.outKind n = kindOneshot then
      let planned := (s1.out n).plan.any (fun e => e.u == s.shotAt n)
      if s.get (F.PCR_OUTn_STAT_ONESHOT_STATE n) = shotArmed ∧
          before.get (F.PCR_OUTn_STAT_ONESHOT_STATE n) = shotArmed ∧ before.shotAt n = s.shotAt n ∧
          was < s.shotAt n ∧ s.shotAt n ≤ now ∧ planned = false then s1.shotMissed n
      else s1
    else if was < now then s1.carriedPast n
    else
      let p := s.outPeriod n
      s1.setOut n { s1.out n with lastK := (s1.out n).lastK - (was - now) * p.2 / ((max 1 p.1 : Nat) * pipsPerSec) }

/-- MISALIGN against its warning (R243), whether or not the output runs. -/
def State.misWatch (s : State) (n : Nat) : State :=
  let o := s.out n
  let warn := (s.val A.PCR_MIS_WARN : Int) * 65536
  let above := decide (warn ≠ 0) && decide (warn < |s.misalign n|)
  if above = o.misAbove then s
  else
    let s1 := s.setOut n { o with misAbove := above }
    if above then (s1.setBit (F.PCR_OUTn_STAT_MIS_SEEN n) true).raise Ev.OUT_MISALIGN else s1

/-- The source of a FOLLOW_INPUT output is lost (R238, R258). -/
def State.followLost (s : State) (n : Nat) : State :=
  (((s.put (F.PCR_OUTn_STAT_FOLLOW_OK n) 0).setBit (F.PCR_OUTn_STAT_LOST_SEEN n) true).raise Ev.OUT_FOLLOW_LOST).slewStop n

/-- What one output owes to a change of state: the slew and the re-base (R222, R241), its committed edges (R231), the end of
a squelch (R247), the schedule (R230, R257), a lost source (R238, R258), MISALIGN (R243). -/
def State.outWatch (before s : State) (n : Nat) : State :=
  let slot := s.get (F.PCR_OUTn_CTL_SLOT n)
  let on := (before.out n).running && (s.out n).running
  let s1 := before.rebaseOut (before.slewGoesOn s n) n
  let s2 := if on then before.keepCommitted s1 n else s1
  let s3 := if on && before.squelched n && !s2.squelched n then s2.outRestart n else s2
  let s4 := if on then before.scheduleMoves s3 n else s3
  let follows (t : State) : Bool := t.outPolicy n == policyInput && t.get (F.PCR_OUTn_CTL_SLOT n) == slot
  let lost := on && follows before && follows s && before.followOk slot && !s.followOk slot
  (if lost then s4.followLost n else s4).misWatch n

/-- What the outputs owe to a command, within one era. -/
def State.pacerWatch (before s : State) : State :=
  if s.tallyRun = true ∧ before.tallyRun = true ∧ before.era = s.era then
    s.each (List.range outputs) (fun n t => before.outWatch t n)
  else s

/-- The pads of the outputs listed work again (R259, R812): running outputs restart. -/
def State.padsStart (s : State) (l : List Nat) : State :=
  s.each l (fun n t => if (t.out n).running then t.outRestart n else t)

/-- What a start of TIME leaves of the Pacer. -/
def State.pacerStarts (s : State) : State := { s with pcr := {} }

/-- A stamp of channel `n` on the internal tap (R96, R107): the measure units and PCR always, REFM and the followers
unless the channel is in loopback. -/
def State.tap (s : State) (n : Nat) (st : Stamp) : State :=
  let s1 := (s.unitsStamp n st).verifyStamp n st
  if s1.bit (F.VC_Vn_CTL_SRC n) then s1 else (s1.pinStamp n st).followStamp n st

/-- STAMP_COMPOSE (R89 to R96): the stamp goes to the queue and the tap; then what waited for the conversion happens
(R112, R113). -/
def State.composeStamp (s : State) (n cnt : Nat) (met : Bool) : State :=
  match s.endConversion n cnt met with
  | none => s
  | some (st, s1) => (s1.tap n st).flushLater n

end Sys2Proof.Machine
end

