-- ==== Sys2Proof/Machine/Wire.lean ====
section
/-! DEFINITION. Frames as byte lists: tags, ARP, IP, UDP, ICMP, the checksums, and the frames the Uraitu composes
(R267 to R279, R326, R327, R357, R417). A frame runs from the first destination address byte to the last byte before
the FCS. -/

namespace Sys2Proof.Machine

/-- EtherTypes that the spec names. -/
def etherTag : Nat := 0x8100
def etherV4 : Nat := 0x0800
def etherV6 : Nat := 0x86DD
def etherArp : Nat := 0x0806
def etherPtp : Nat := 0x88F7
def etherSlow : Nat := 0x8809
def etherPause : Nat := 0x8808

/-- Destination and source address, and the EtherType field behind them. -/
def frameDst (f : List Byte) : List Byte := slice f 0 6
def frameSrc (f : List Byte) : List Byte := slice f 6 6

/-- The outer tag: PCP and VID, if the frame carries TPID 0x8100 (R272). -/
def frameTag (f : List Byte) : Option (Nat × Nat) :=
  if natAt f 12 2 = etherTag then some (natAt f 14 2 / 8192, natAt f 14 2 % 4096) else none

/-- Where the EtherType stands. -/
def typeAt (f : List Byte) : Nat := if natAt f 12 2 = etherTag then 16 else 12

/-- The EtherType. -/
def frameType (f : List Byte) : Nat := natAt f (typeAt f) 2

/-- What follows the EtherType. -/
def framePayload (f : List Byte) : List Byte := f.drop (typeAt f + 2)

/-- The length that counts: with the FCS ("Frames, FCS and lengths"). -/
def wireLength (f : List Byte) : Nat := f.length + 4

/-- The FCS of a frame, in the order in which its bytes stand on the wire: the CRC-32 of IEEE 802.3, its low byte first
(R267). -/
def fcs (f : List Byte) : List Byte := (beBytes 4 ((f.foldl crc32Byte 0xFFFFFFFF) ^^^ 0xFFFFFFFF)).reverse

/-- A frame with its FCS behind it, as it leaves (R267). -/
def withFcs (f : List Byte) : List Byte := f ++ fcs f

/-- A frame as received, without its last 4 bytes. -/
def fcsBody (raw : List Byte) : List Byte := raw.take (raw.length - 4)

/-- Whether a received frame ends in the FCS of its other bytes (R268). -/
def fcsGood (raw : List Byte) : Bool := decide (4 ≤ raw.length) && raw.drop (raw.length - 4) == fcs (fcsBody raw)

/-- The ones' complement sum of 16-bit words, folded. -/
def onesSum : List Byte → Nat → Nat
  | [], a => a
  | [x], a => fold16 (a + x.toNat * 256)
  | x :: y :: l, a => onesSum l (fold16 (a + x.toNat * 256 + y.toNat))
where
  /-- Adds the carry back in. -/
  fold16 (n : Nat) : Nat := n % 65536 + n / 65536

/-- The Internet checksum of bytes, on top of a partial sum. -/
def inetChecksum (bs : List Byte) (start : Nat) : Nat := 65535 - onesSum bs start

/-- The pseudo-header of a UDP or ICMPv6 checksum. -/
def pseudoHeader (src dst : List Byte) (len proto : Nat) : List Byte :=
  src ++ dst ++ (if src.length = 4 then beBytes 1 0 ++ beBytes 1 proto ++ beBytes 2 len
    else beBytes 4 len ++ beBytes 3 0 ++ beBytes 1 proto)

/-- An IP packet as SORT reads it. -/
structure IpPacket where
  v6 : Bool
  src : List Byte
  dst : List Byte
  proto : Nat
  body : List Byte
  deriving DecidableEq, Repr

/-- What SORT's header checks come to. -/
inductive Parsed where
  | malformed
  | other
  | ip (p : IpPacket)
  deriving DecidableEq, Repr

/-- Reads an IP packet (R343, and the unhandled forms of the class table): fragments, options and extension headers
are `other`, a wrong header checksum or length is `malformed`. A frame padded to 64 bytes may be longer than its
packet. -/
def parseIp (f : List Byte) : Parsed :=
  let p := framePayload f
  if frameType f = etherV4 then
    let ihl := natAt p 0 1 % 16
    let total := natAt p 2 2
    if p.length < 20 ∨ natAt p 0 1 / 16 ≠ 4 ∨ ihl < 5 then .malformed
    else if total < ihl * 4 ∨ p.length < total ∨ (46 < p.length ∧ total ≠ p.length) then .malformed
    else if onesSum (p.take (ihl * 4)) 0 ≠ 65535 then .malformed
    else if 5 < ihl ∨ natAt p 6 2 % 16384 ≠ 0 then .other
    else .ip { v6 := false, src := slice p 12 4, dst := slice p 16 4, proto := natAt p 9 1, body := slice p 20 (total - 20) }
  else if frameType f = etherV6 then
    let len := natAt p 4 2
    if p.length < 40 ∨ natAt p 0 1 / 16 ≠ 6 then .malformed
    else if p.length < 40 + len ∨ (46 < p.length ∧ p.length ≠ 40 + len) then .malformed
    else
      let nh := natAt p 6 1
      if nh = 17 ∨ nh = 58 then .ip { v6 := true, src := slice p 8 16, dst := slice p 24 16, proto := nh, body := slice p 40 len }
      else .other
  else .other

/-- A UDP datagram. -/
structure Datagram where
  sport : Nat
  dport : Nat
  payload : List Byte
  deriving DecidableEq, Repr

/-- Reads a UDP datagram; none when its length or its checksum makes it malformed (R343). -/
def IpPacket.udp (p : IpPacket) : Option Datagram :=
  let len := natAt p.body 4 2
  let sum := natAt p.body 6 2
  if p.body.length < 8 ∨ len ≠ p.body.length then none
  else if sum = 0 then
    if p.v6 then none
    else some { sport := natAt p.body 0 2, dport := natAt p.body 2 2, payload := p.body.drop 8 }
  else if onesSum p.body (onesSum (pseudoHeader p.src p.dst len 17) 0) = 65535 then
    some { sport := natAt p.body 0 2, dport := natAt p.body 2 2, payload := p.body.drop 8 }
  else none

/-! ### Addresses -/

/-- Whether an IPv4 or IPv6 address is multicast or, for IPv4, 224.0.0.0 and above. -/
def isMulticastIp (a : List Byte) : Bool :=
  if a.length = 4 then decide (224 ≤ natAt a 0 1) else natAt a 0 1 == 255

/-- The modified EUI-64 link-local address of a MAC address (R271). -/
def linkLocal (mac : List Byte) : List Byte :=
  beBytes 8 0xFE80000000000000 ++ beBytes 1 (natAt mac 0 1 ^^^ 2) ++ slice mac 1 2 ++ beBytes 2 0xFFFE ++ slice mac 3 3

/-- The Ethernet address of an IP multicast address. -/
def multicastMac (a : List Byte) : List Byte :=
  if a.length = 4 then beBytes 3 0x01005E ++ beBytes 3 (natAt a 1 3 % 2 ^ 23) else beBytes 2 0x3333 ++ slice a 12 4

/-! ### Composing -/

/-- The tag of an interface entry as a reply carries it: PCP and VID (R273). -/
abbrev VlanTag := Option (Nat × Nat)

/-- An Ethernet header (R273). -/
def etherHeader (dst src : List Byte) (tag : VlanTag) (etype : Nat) : List Byte :=
  dst ++ src ++ (match tag with
    | none => []
    | some (pcp, vid) => beBytes 2 etherTag ++ beBytes 2 (pcp * 8192 + vid)) ++ beBytes 2 etype

/-- A frame's padding to 64 bytes with its FCS. -/
def padFrame (f : List Byte) : List Byte := f ++ List.replicate (60 - f.length) 0

/-- An IPv4 header (R417): ECN 0, identification 0, DF. -/
def ipv4Header (src dst : List Byte) (dscp ttl proto len : Nat) : List Byte :=
  let h := beBytes 1 0x45 ++ beBytes 1 (dscp * 4) ++ beBytes 2 (20 + len) ++ beBytes 2 0 ++ beBytes 2 0x4000 ++
    beBytes 1 ttl ++ beBytes 1 proto
  h ++ beBytes 2 (inetChecksum (h ++ beBytes 2 0 ++ src ++ dst) 0) ++ src ++ dst

/-- An IPv6 header (R417): flow label 0. -/
def ipv6Header (src dst : List Byte) (dscp hops next len : Nat) : List Byte :=
  beBytes 4 (0x60000000 + dscp * 4 * 2 ^ 20) ++ beBytes 2 len ++ beBytes 1 next ++ beBytes 1 hops ++ src ++ dst

/-- An IP header for the addresses' family. -/
def ipHeader (src dst : List Byte) (dscp ttl proto len : Nat) : List Byte :=
  if src.length = 4 then ipv4Header src dst dscp ttl proto len else ipv6Header src dst dscp ttl proto len

/-- A UDP datagram with its checksum; a computed 0 is sent as 0xFFFF (R327). -/
def udpDatagram (src dst : List Byte) (sport dport : Nat) (payload : List Byte) : List Byte :=
  let len := 8 + payload.length
  let head := beBytes 2 sport ++ beBytes 2 dport ++ beBytes 2 len
  let c := inetChecksum (head ++ beBytes 2 0 ++ payload) (onesSum (pseudoHeader src dst len 17) 0)
  head ++ beBytes 2 (if c = 0 then 65535 else c) ++ payload

/-- An ICMP or ICMPv6 message with its checksum over type, code and the rest. -/
def icmpMessage (v6 : Bool) (src dst : List Byte) (type : Nat) (rest : List Byte) : List Byte :=
  let len := 4 + rest.length
  let start := if v6 then onesSum (pseudoHeader src dst len 58) 0 else 0
  let c := inetChecksum (beBytes 1 type ++ beBytes 1 0 ++ beBytes 2 0 ++ rest) start
  beBytes 1 type ++ beBytes 1 0 ++ beBytes 2 c ++ rest

/-- A frame with an IP packet in it. -/
def ipFrame (dstMac srcMac : List Byte) (tag : VlanTag) (src dst : List Byte) (dscp ttl proto : Nat)
    (body : List Byte) : List Byte :=
  padFrame (etherHeader dstMac srcMac tag (if src.length = 4 then etherV4 else etherV6) ++
    ipHeader src dst dscp ttl proto body.length ++ body)

/-- A frame with a UDP datagram in it. -/
def udpFrame (dstMac srcMac : List Byte) (tag : VlanTag) (src dst : List Byte) (dscp ttl sport dport : Nat)
    (payload : List Byte) : List Byte :=
  ipFrame dstMac srcMac tag src dst dscp ttl 17 (udpDatagram src dst sport dport payload)

/-- A PAUSE frame (R279) without its FCS, which it gets as it leaves. -/
def pauseFrame (mac : List Byte) (quanta : Nat) : List Byte :=
  beBytes 6 0x0180C2000001 ++ mac ++ beBytes 2 etherPause ++ beBytes 2 1 ++ beBytes 2 quanta ++ List.replicate 42 0

/-- An ARP packet: operation 1 request, 2 reply (R357, R360). -/
def arpPacket (op : Nat) (sha spa tha tpa : List Byte) : List Byte :=
  beBytes 2 1 ++ beBytes 2 etherV4 ++ beBytes 1 6 ++ beBytes 1 4 ++ beBytes 2 op ++ sha ++ spa ++ tha ++ tpa

/-- The body of a Neighbor Advertisement: the S and O flags, the target, the target link-layer option (R357). -/
def neighborAdvert (s o : Bool) (target mac : List Byte) : List Byte :=
  beBytes 4 ((if s then 2 ^ 30 else 0) + (if o then 2 ^ 29 else 0)) ++ target ++ beBytes 1 2 ++ beBytes 1 1 ++ mac

/-- Where the IP header of a frame's payload ends and its UDP payload begins, as an offset in the frame. -/
def udpPayloadAt (f : List Byte) : Nat :=
  typeAt f + 2 + (if frameType f = etherV4 then 20 else 40) + 8

/-- A composed frame with bytes of its UDP payload replaced and the UDP checksum made right again (R327). -/
def restamp (f : List Byte) (changes : List (Nat × List Byte)) : List Byte :=
  let at_ := udpPayloadAt f
  let g := changes.foldl (fun b c => patch b (at_ + c.1) c.2) f
  let ipAt := typeAt f + 2
  let v4 := frameType f == etherV4
  let src := if v4 then slice g (ipAt + 12) 4 else slice g (ipAt + 8) 16
  let dst := if v4 then slice g (ipAt + 16) 4 else slice g (ipAt + 24) 16
  let len := natAt g (at_ - 4) 2
  let udp := slice g (at_ - 8) len
  let c := inetChecksum (patch udp 6 (beBytes 2 0)) (onesSum (pseudoHeader src dst len 17) 0)
  patch g (at_ - 2) (beBytes 2 (if c = 0 then 65535 else c))

end Sys2Proof.Machine
end

