-- ==== Sys2Proof/Machine/Net.lean ====
section
/-! DEFINITION. What the network blocks share: ports and their counters, interface entries, contexts and their
outcomes, the transmit timeline (R269 to R274, R286 to R288, R320 to R323, R344 to R356). -/

namespace Sys2Proof.Machine

/-! ### Ports -/

/-- The number of ports (R17). -/
def portCount : Nat := 4

/-- What a port holds. -/
def State.eth (s : State) (p : Nat) : EthPort := s.net.ports.getD p {}

/-- The state with what a port holds replaced. -/
def State.setEth (s : State) (p : Nat) (e : EthPort) : State :=
  { s with net := { s.net with ports := s.net.ports.setIfInBounds p e } }

/-- What NET's ports lose, and with them a snapshot that was due. -/
def State.netStops (s : State) : State :=
  { s with net := { s.net with ports := Vector.replicate 4 {}, snapDue := false, snapLast := none } }

/-- The pipeline beyond its registers, replaced. -/
def State.setPipe (s : State) (x : PipeState) : State := { s with net := { s.net with pipe := x } }

/-- The contexts, replaced. -/
def State.setCtxs (s : State) (l : List Ctx) : State := s.setPipe { s.net.pipe with ctxs := l }

/-- The counts that a port has made in the present tick (R291, R302). -/
def State.countsNow (s : State) (p : Nat) : List (Nat × Nat) :=
  if (s.eth p).counted.1 = s.tally ∧ s.tallyRun = true then (s.eth p).counted.2 else []

/-- What the present tick has added to counter `i` of a port. -/
def State.countedNow (s : State) (p i : Nat) : Nat := ((s.countsNow p).filter (fun x => x.1 == i)).map (·.2) |>.sum

/-- Adds `k` to counter `i` of a port; a change of bit 31 from 0 to 1 sets its half-range bit (R286 to R288). The port
notes what it counts in the present tick (R302). -/
def State.macCount (s : State) (p i k : Nat) : State :=
  let v := s.val (A.MAC_CNT_i p i)
  let s1 := (s.setEth p { s.eth p with counted := (s.tally, s.countsNow p ++ [(i, k)]) }).setVal (A.MAC_CNT_i p i) (v + k)
  if (v + k + 2 ^ 31) / 2 ^ 32 > (v + 2 ^ 31) / 2 ^ 32 then
    let half : Fld := if i < 32 then ⟨A.MAC_CNT_HALF_A p, i, 1⟩ else ⟨A.MAC_CNT_HALF_B p, i - 32, 1⟩
    (s1.setBit half true).raise Ev.MAC_CNT_HALF
  else s1

/-- Link and enable of a port. -/
def State.linkUp (s : State) (p : Nat) : Bool := s.bit (F.MAC_STAT_LINK_UP p)
def State.portOn (s : State) (p : Nat) : Bool := s.bit (F.MAC_CTL_EN p)
def State.settling (s : State) (p : Nat) : Bool := s.bit (F.MAC_STAT_TS_SETTLING p)
def State.portDraining (s : State) (p : Nat) : Bool := s.bit (F.MAC_STAT_DRAINING p)

/-- Whether a port carries replies (R356). -/
def State.portServes (s : State) (p : Nat) : Bool := s.linkUp p && s.portOn p && !s.settling p

/-- The latency mode of a port (R311): SPEED, and 3 for 25GBASE-R with RS-FEC. -/
def State.latMode (s : State) (p : Nat) : Nat := if s.bit (F.MAC_CTL_FEC p) then 3 else s.get (F.MAC_CTL_SPEED p)

/-- The words that take effect at the next tick boundary (R335): BOARD_TX, BOARD_RX and ASYM. -/
def boardAddrs (p : Nat) : List Nat := [A.MAC_BOARD_TX p, A.MAC_BOARD_RX p, A.MAC_ASYM p]

/-- BOARD_TX (0), BOARD_RX (1) or ASYM (2) in force in the present tick (R335). -/
def State.boardWord (s : State) (p k : Nat) : Int :=
  let now := s.ival ((boardAddrs p).getD k 0)
  match (s.eth p).boards with
  | none => now
  | some (t, l) => if t = s.tally ∧ s.tallyRun = true then signedOf 32 (l.getD k 0).toNat else now

/-- A write of one of them (R335): the words as they stood before the tick stay in force in it. -/
def State.boardWrite (s : State) (p k v : Nat) : State :=
  let e := s.eth p
  let was := match e.boards with
    | none => (s.tally, (boardAddrs p).map s.rd)
    | some (t, l) => if t = s.tally then (t, l) else (s.tally, (boardAddrs p).map s.rd)
  (s.setEth p { e with boards := some was }).setVal ((boardAddrs p).getD k 0) v

/-- The MAC address of a port. -/
def State.macAddr (s : State) (p : Nat) : List Byte :=
  beBytes 2 (s.val (A.MAC_MAC_ADDR_HI p)) ++ beBytes 4 (s.val (A.MAC_MAC_ADDR_LO p))

/-! ### Interface entries -/

/-- The number of entries of a port. -/
def entryCount : Nat := 8

/-- Whether an entry is enabled. -/
def State.entryOn (s : State) (p e : Nat) : Bool := s.bit (F.MAC_IFe_CTL_EN p e)

/-- The addresses of an entry. -/
def State.entryV4 (s : State) (p e : Nat) : List Byte := beBytes 4 (s.val (A.MAC_IFe_V4 p e))
def State.entryV6 (s : State) (p e : Nat) : List Byte := beBytes 16 (s.multi (A.MAC_IFe_V6 p e 0) 4)

/-- Whether the entry of a frame carries an IPv4 or IPv6 address; the link-local address counts with V6_EN (R271). The
entry was enabled when the frame arrived (R272); a disable since then does not keep the reply back (R305). -/
def State.entryHas (s : State) (p e : Nat) (ip : List Byte) : Bool :=
  if ip.length = 4 then s.bit (F.MAC_IFe_CTL_V4_EN p e) && s.entryV4 p e == ip
  else s.bit (F.MAC_IFe_CTL_V6_EN p e) && (s.entryV6 p e == ip || linkLocal (s.macAddr p) == ip)

/-- The tag that frames of an entry carry (R273). -/
def State.entryTag (s : State) (p e : Nat) : VlanTag :=
  if s.bit (F.MAC_IFe_CTL_TAGGED p e) then
    some (s.get (F.MAC_IFe_CTL_PCP p e), s.get (F.MAC_IFe_CTL_VID p e))
  else none

/-- The entry of a received frame (R272). -/
def State.entryOf (s : State) (p : Nat) (f : List Byte) : Option Nat :=
  let vid := match frameTag f with
    | some (_, v) => v
    | none => 0
  (List.range entryCount).find? (fun e => s.entryOn p e &&
    (if vid = 0 then !s.bit (F.MAC_IFe_CTL_TAGGED p e)
    else s.bit (F.MAC_IFe_CTL_TAGGED p e) && s.get (F.MAC_IFe_CTL_VID p e) == vid))

/-- The PTP multicast destinations of R270. -/
def ptpMulticast : List (List Byte) :=
  [beBytes 6 0x011B19000000, beBytes 6 0x0180C200000E, beBytes 6 0x01005E000181, beBytes 6 0x01005E00006B,
    beBytes 6 0x333300000181, beBytes 6 0x33330000006B]

/-- Other group destinations of R270. -/
def otherMulticast : List (List Byte) :=
  [beBytes 6 0xFFFFFFFFFFFF, beBytes 6 0x0180C2000001, beBytes 6 0x0180C2000002, beBytes 6 0x333300000001]

/-- The solicited-node group of an IPv6 address (R270). -/
def solicited (ip : List Byte) : List Byte := beBytes 3 0x3333FF ++ slice ip 13 3

/-- Whether a port accepts a destination address (R270). -/
def State.accepts (s : State) (p : Nat) (d : List Byte) : Bool :=
  d == s.macAddr p || ptpMulticast.contains d || otherMulticast.contains d ||
    d == solicited (linkLocal (s.macAddr p)) ||
    ((List.range entryCount).any (fun e => s.entryOn p e && s.bit (F.MAC_IFe_CTL_V6_EN p e) &&
      d == solicited (s.entryV6 p e))) ||
    ((List.range 4).any (fun e => s.bit (F.MAC_MCASTe_HI_EN p e) &&
      d == beBytes 2 (s.val (A.MAC_MCASTe_HI p e)) ++ beBytes 4 (s.val (A.MAC_MCASTe_LO p e))))

/-- Size counter of a length, counted from the 64-byte one. -/
def sizeClass (l : Nat) : Nat :=
  if l ≤ 64 then 0 else if l ≤ 127 then 1 else if l ≤ 255 then 2 else if l ≤ 511 then 3
  else if l ≤ 1023 then 4 else if l ≤ 1518 then 5 else 6

/-- The kind counter of a destination, counted from the unicast one: 0 unicast, 1 multicast, 2 broadcast. -/
def castClass (d : List Byte) : Nat :=
  if d = beBytes 6 0xFFFFFFFFFFFF then 2 else natAt d 0 1 % 2

/-! ### Outcomes (R354) -/

/-- The outcome codes. -/
def outSent : Nat := 0
def outConsumed : Nat := 1
def outHousekeeping : Nat := 2
def outHkLimited : Nat := 3
def outUnhandled : Nat := 4
def outMalformed : Nat := 5
def outNoStamp : Nat := 6
def outNotServing : Nat := 7
def outRateDrop : Nat := 8
def outRateKod : Nat := 9
def outNtsCap : Nat := 10
def outNtsNak : Nat := 11
def outPtpRefused : Nat := 12
def outNoSlot : Nat := 13
def outMissDrop : Nat := 14
def outSlotDiscard : Nat := 15
def outPortGone : Nat := 16
def outVoid : Nat := 17
def outExpired : Nat := 18
def outSafeDrop : Nat := 19

/-- Received-frame contexts in use; a frame whose context has ended by its commit is the port's alone (R346). -/
def State.ctxInUse (s : State) : Nat := (s.net.pipe.ctxs.filter (fun c => !c.orig && !c.ended)).length

/-- Sets a sticky bit and raises its event if the bit was 0. -/
def State.seenOnce (s : State) (f : Fld) (e : EventId) : State := (s.setBit f true).raiseIf (!s.bit f) e

/-- What follows from a context's outcome: its counter (R354), the sticky bits and events of EXPIRED and VOID (R348,
R369), CTX_FULL (R349) and the trace record (R773, R778). A frame whose context ended at an earlier commit takes no second
outcome. -/
def State.outcome (s : State) (c : Ctx) (o : Nat) : State :=
  if c.ended then s
  else
    let s1 := s.count (wordFld (A.PIPE_OUT_c o)) 1
    let s2 := if o = outVoid then s1.seenOnce F.PIPE_STAT_VOID_SEEN Ev.PIPE_VOID
      else if o = outExpired then s1.seenOnce F.PIPE_STAT_EXPIRED_SEEN Ev.PIPE_EXPIRED else s1
    let s3 := if s2.ctxInUse < 448 then s2.put F.PIPE_STAT_CTX_FULL 0 else s2
    let n := s3.obs.outCount + 1
    let s4 : State := { s3 with obs := { s3.obs with outCount := n } }
    if n % 2 ^ bitsAt s4.obs.ctlNow.toNat 16 4 = 0 ∧ c.orig = false ∧ bitOf s4.obs.maskNow.toNat o = true ∧
        bitOf s4.obs.maskNow.toNat (24 + c.port) = true then
      s4.trace 7 [wordOf (c.port + c.cls * 16 + o * 256 + c.misses * 65536), wordOf (c.slot / 65536).toNat]
    else s4

/-- Context `i` ends (R346, R347): it is freed, and its reservation goes with it. -/
def State.endCtx (s : State) (i o : Nat) : State :=
  match s.net.pipe.ctxs[i]? with
  | none => s
  | some c => (s.setCtxs (s.net.pipe.ctxs.eraseIdx i)).outcome c o

/-- Every context that meets `f` ends with outcome `o`, oldest first. -/
def State.endAll (s : State) (f : Ctx → Bool) (o : Nat) : State :=
  (s.setCtxs (s.net.pipe.ctxs.filter (fun c => !f c))).each (s.net.pipe.ctxs.filter f) (fun c t => t.outcome c o)

/-- Replaces context `i`. -/
def State.setCtx (s : State) (i : Nat) (c : Ctx) : State :=
  s.setCtxs (modifyAt (fun _ => c) i s.net.pipe.ctxs)

/-- The index of the oldest context that meets `f`. -/
def State.findCtx (s : State) (f : Ctx → Bool) : Option Nat := s.net.pipe.ctxs.findIdx? f

/-! ### The transmit timeline (R320 to R323) -/

/-- Five times the subticks of one byte time on a port. -/
def byteTime5 (mode : Nat) : Int :=
  match mode with
  | 0 => 3276800
  | 1 => 327680
  | _ => 131072

/-- The grid of a mode: numerator over 5 of its step in subticks (R320). -/
def gridStep5 (mode : Nat) : Int :=
  match mode with
  | 0 => 3276800
  | 1 => 2621440
  | _ => 1048576

/-- Grid instant `j` of a port, in subticks, rounded down (R320). -/
def State.gridAt (s : State) (p : Nat) (j : Int) : Int :=
  Config.gridPhase p (s.latMode p) + (j * gridStep5 (s.latMode p)) / 5

/-- The first grid index whose instant is not before `t`. -/
def State.gridFrom (s : State) (p : Nat) (t : Int) : Int :=
  ceilDiv ((t - Config.gridPhase p (s.latMode p)) * 5) (gridStep5 (s.latMode p))

/-- What a reservation occupies (R321), in subticks: from 8 byte times before the slot, L + 20 byte times, rounded up
to the grid. -/
def State.reserved (s : State) (p : Nat) (slot : Int) (len : Nat) : Int × Int :=
  let m := s.latMode p
  let from_ := slot - (8 * byteTime5 m) / 5
  (from_, from_ + ceilDiv (((len : Int) + 20) * byteTime5 m) (gridStep5 m) * gridStep5 m / 5)

/-- Whether a context holds a reservation. -/
def Ctx.hasSlot (c : Ctx) : Bool := c.stage == .seal || c.stage == .launch || c.stage == .staged

/-- The reservations of a port: of contexts, relayed copies and committed frames, and the span of a frame on the wire. -/
def State.timeline (s : State) (p : Nat) : List (Int × Int) :=
  let e := s.eth p
  ((s.net.pipe.ctxs.filter (fun c => c.port == p && c.hasSlot)).map (fun c => s.reserved p c.slot c.len)) ++
    (e.relays.map (fun r => s.reserved p r.slot (wireLength r.bytes))) ++
    ((e.committed ++ e.wire).map (fun f => s.reserved p f.slot (wireLength f.bytes)))

/-- Whether two spans overlap. -/
def overlap (a b : Int × Int) : Bool := decide (a.1 < b.2) && decide (b.1 < a.2)

/-- Grows a busy span by every reservation that leaves no gap of `gap` to it; `fuel` bounds the passes. -/
def growSpan (gap : Int) (l : List (Int × Int)) : Nat → Int × Int → Int × Int
  | 0, x => x
  | n + 1, x =>
    let y := l.foldl (fun (a : Int × Int) b =>
      if overlap (a.1 - gap + 1, a.2 + gap - 1) b then (min a.1 b.1, max a.2 b.2) else a) x
    if y = x then x else growSpan gap l n y

/-- Whether a reservation leaves a gap of 84 byte times in every 2 µs (R280): the busy span it joins, of more than one
reservation, lasts at most 2 µs less such a gap. -/
def State.keepsGap (s : State) (p : Nat) (l : List (Int × Int)) (x : Int × Int) : Bool :=
  let gap := ceilDiv (84 * byteTime5 (s.latMode p)) 5
  let y := growSpan gap l l.length x
  y == x || decide (y.2 - y.1 + gap ≤ 2500 * 65536)

/-- The instant at which a frame's timestamp point reaches the transmit frontier for a slot instant (R308). -/
def State.frontier (s : State) (p : Nat) (slot board : Int) : Int :=
  let m := s.latMode p
  let adj : LatEntry := (lookupKey (p * 4 + m) s.net.lat).getD { tx := 0, rx := 0 }
  slot - Config.latFac p m true - adj.tx - s.ival (A.MAC_TX_VAR p) - board

/-- Whether grid index `j` can be granted for a frame of length `len` (R320, R322, R285). -/
def State.slotFits (s : State) (p len : Nat) (l : List (Int × Int)) (j : Int) : Bool :=
  let t := s.gridAt p j
  let x := s.reserved p t len
  !(s.latMode p == 3 && Config.markerAt p j) && l.all (fun y => !overlap x y) && s.keepsGap p l x &&
    (match (s.eth p).paused with
      | some (_, ends) =>
        !s.bit (F.MAC_STAT_PAUSED p) || decide (ends ≤ s.frontier p t (s.boardWord p 0) - 8 * byteTime5 (s.latMode p) / 5)
      | none => true)

/-- Searches `fuel` grid instants from index `j`. -/
def State.searchSlot (s : State) (p len : Nat) (l : List (Int × Int)) : Nat → Int → Option Int
  | 0, _ => none
  | n + 1, j => if s.slotFits p len l j then some (s.gridAt p j) else s.searchSlot p len l n (j + 1)

/-- The margin M in ns (R323): MAX without adaptation. -/
def State.margin (s : State) (p : Nat) : Nat :=
  if s.bit (F.MAC_TS_CTL_ADAPT p) then s.val (A.MAC_MARGIN_NOW p) else s.get (F.MAC_MARGIN_MAX p)

/-- The earliest slot at least the margin M from now and within 65,536 ticks (R322); none on a port that is down or settles
(R319). -/
def State.findSlot (s : State) (p len : Nat) : Option Int :=
  if s.portServes p then
    let from_ := s.gridFrom p (s.nowSub + (s.margin p : Int) * 81920)
    let last := s.gridFrom p (s.nowSub + 65536 * 65536 + 1)
    s.searchSlot p len (s.timeline p) (last - from_).toNat from_
  else none

/-- Asks the slot agent for a slot (R322): a refusal is counted. -/
def State.askSlot (s : State) (p len : Nat) : State × Option Int :=
  match s.findSlot p len with
  | some t => (s, some t)
  | none =>
    ((s.count ⟨A.MAC_DEV_B p, 0, 16⟩ 1).setBit (F.MAC_TS_STAT_NO_SLOT_SEEN p) true, none)

/-! ### PTP messages in frames -/

/-- Where a frame's PTP message begins (SORT class table), and the transport it came by: 0 Ethernet, 1 IPv4, 2 IPv6. -/
def ptpAt (f : List Byte) : Option (Nat × Nat) :=
  if frameType f = etherPtp then some (typeAt f + 2, 0)
  else
    match parseIp f with
    | .ip ip =>
      if ip.proto = 17 ∧ (natAt ip.body 2 2 = 319 ∨ natAt ip.body 2 2 = 320) then
        some (udpPayloadAt f, if ip.v6 then 2 else 1)
      else none
    | _ => none

end Sys2Proof.Machine
end

