-- ==== Sys2Proof/Machine/Adm.lean ====
section
/-! DEFINITION. Admission: the flow table, buckets, overrides, scores and verdicts (R457 to R480). -/

namespace Sys2Proof.Machine

/-- Admission beyond its registers, replaced. -/
def State.setAdm (s : State) (a : AdmState) : State := { s with net := { s.net with adm := a } }

/-- Token units of one request (R465). -/
def tokenUnit : Nat := 2 ^ 24

/-- The width of a family's address in bits. -/
def addrBits (v6 : Bool) : Nat := if v6 then 128 else 32

/-- Source addresses ADM refuses outright (R460). -/
def badSource (v6 : Bool) (a : Nat) : Bool :=
  if v6 then a ≤ 1 || a / 2 ^ 120 == 0xFF || a / 2 ^ 32 == 0xFFFF
  else a / 2 ^ 24 == 0 || a / 2 ^ 24 == 127 || 224 ≤ a / 2 ^ 24

/-! ### Overrides -/

/-- The address of an override (R475). -/
def State.ovrAddr (s : State) (o : Nat) (v6 : Bool) : Nat :=
  if v6 then s.multi (A.ADM_OVRo_ADDR o 0) 4 else s.val (A.ADM_OVRo_ADDR o 0)

/-- Whether override `o` contains an address. -/
def State.ovrHits (s : State) (v6 : Bool) (a o : Nat) : Bool :=
  let len := s.get (F.ADM_OVRo_CTL_LEN o)
  let cut := addrBits v6 - len
  s.bit (F.ADM_OVRo_CTL_EN o) && (s.bit (F.ADM_OVRo_CTL_FAMILY o) == v6) &&
    a / 2 ^ cut == s.ovrAddr o v6 % 2 ^ addrBits v6 / 2 ^ cut

/-- The override that matches: longest prefix, then lowest index (R464). -/
def State.ovrFor (s : State) (v6 : Bool) (a : Nat) : Option Nat :=
  (List.range 16).foldl (fun best o =>
    if s.ovrHits v6 a o then
      match best with
      | none => some o
      | some b => if s.get (F.ADM_OVRo_CTL_LEN b) < s.get (F.ADM_OVRo_CTL_LEN o) then some o else best
    else best) none

/-- The base rate and depth of an address (R464). -/
def State.flowRate (s : State) (ovr : Option Nat) : Nat × Nat :=
  match ovr with
  | some o => (s.val (A.ADM_OVRo_RATE o), s.val (A.ADM_OVRo_DEPTH o))
  | none => (s.val A.ADM_RATE, s.val A.ADM_DEPTH)

/-! ### Buckets -/

/-- MULT of a band (R468). -/
def State.multOf (s : State) (band : Nat) : Nat := bitsAt (s.val (A.ADM_MULT_01 + band / 2)) (band % 2 * 16) 9

/-- The score that counts at a tick, if there is one (R468). -/
def State.liveScore (s : State) (f : Flow) (ovr : Option Nat) (tick : Int) : Option Nat :=
  match f.score with
  | none => none
  | some (v, at_) =>
    let ignored := match ovr with
      | some o => s.bit (F.ADM_OVRo_CTL_NO_SCORE o)
      | none => false
    if s.bit F.ADM_CTL_SCORE_EN = false ∨ ignored = true ∨
        (s.val A.ADM_SCORE_TMO : Int) * ticksPerSec < tick - at_ then none
    else some v

/-- R_eff (R468). -/
def State.effRate (s : State) (f : Flow) (ovr : Option Nat) (tick : Int) : Nat :=
  match s.liveScore f ovr tick with
  | none => (s.flowRate ovr).1
  | some v => (s.flowRate ovr).1 * s.multOf (v / 32) / 256

/-- Tokens and last update after a refill at `tick` (R465, R466). -/
def refill (tokens rate depth : Nat) (last tick : Int) : Nat × Int :=
  if tick < last then (min tokens (depth * tokenUnit), last)
  else (min (tokens + (tick - last).toNat * rate * tokenUnit / ticksPerSec) (depth * tokenUnit), tick)

/-- A flow's bucket refilled (R465). -/
def State.refillFlow (s : State) (f : Flow) (ovr : Option Nat) (tick : Int) : Flow :=
  let r := refill f.tokens (s.effRate f ovr tick) (s.flowRate ovr).2 f.last tick
  { f with tokens := r.1, last := r.2 }

/-- The address a flow's key stands for. -/
def State.flowAddr (s : State) (f : Flow) : Nat :=
  if f.v6 && s.bit F.ADM_CTL_V6_KEY then f.key * 2 ^ 64 else f.key

/-- Whether a flow's bucket is full at `tick`. -/
def State.flowFull (s : State) (f : Flow) (tick : Int) : Bool :=
  let ovr := s.ovrFor f.v6 (s.flowAddr f)
  (s.refillFlow f ovr tick).tokens == (s.flowRate ovr).2 * tokenUnit

/-- The key of an address. -/
def State.flowKey (s : State) (v6 : Bool) (a : Nat) : Nat := if v6 && s.bit F.ADM_CTL_V6_KEY then a / 2 ^ 64 else a

/-- The least recently used of flows. -/
def oldestFlow : List Flow → Option Flow
  | [] => none
  | f :: l => match oldestFlow l with
    | none => some f
    | some g => if f.used ≤ g.used then some f else some g

/-- The table with a flow's entry replaced or added; flows are told apart by their tags. -/
def putFlow (f : Flow) (l : List Flow) : List Flow := l.filter (fun g => g.tag != f.tag) ++ [f]

/-- A new entry for a key, if its set has room for it (R462, R469). -/
def State.placeFlow (s : State) (v6 : Bool) (key set_ depth : Nat) (tick : Int) : Option (State × Flow) :=
  let a := s.net.adm
  let ways := a.flows.filter (fun f => f.set_ == set_)
  let fresh : Flow :=
    { v6 := v6, key := key, set_ := set_, tokens := depth * tokenUnit, last := tick, tag := a.nextTag, used := tick }
  let counted := (s.setAdm { a with nextTag := a.nextTag + 1 }).count (wordFld A.ADM_CNT_NEW_FLOWS) 1
  if ways.length < 4 then some (counted, fresh)
  else
    match oldestFlow (ways.filter (fun f => s.flowFull f tick)) with
    | none => none
    | some old =>
      let s1 := counted.count (wordFld A.ADM_CNT_EVICTIONS) 1
      some (s1.setAdm { s1.net.adm with flows := s1.net.adm.flows.filter (fun f => f.tag != old.tag) }, fresh)

/-! ### Verdicts -/

/-- ADM's verdict (R457, R473): a refusal is silent or draws a kiss. -/
inductive AdmVerdict where
  | accepted
  | drop
  | kiss
  deriving DecidableEq, Repr

/-- Counts a verdict. -/
def State.verdictCount (s : State) (v : AdmVerdict) : State × AdmVerdict :=
  (s.count (wordFld (match v with
    | .accepted => A.ADM_CNT_ADMITTED
    | .drop => A.ADM_CNT_DROP
    | .kiss => A.ADM_CNT_KOD)) 1, v)

/-- Charges the overflow bucket (R463). -/
def State.chargeOverflow (s : State) (cost : Nat) (tick : Int) : State × AdmVerdict :=
  let a := s.net.adm
  let r := refill a.ovfTokens (s.val A.ADM_OVF_RATE) (s.val A.ADM_OVF_DEPTH) a.ovfLast tick
  let s1 := (s.count (wordFld A.ADM_CNT_OVF_CHARGED) 1).seenOnce F.ADM_STAT_OVF_SEEN Ev.ADM_OVERFLOW
  if cost ≤ r.1 then (s1.setAdm { a with ovfTokens := r.1 - cost, ovfLast := r.2 }).verdictCount .accepted
  else (s1.setAdm { a with ovfTokens := r.1, ovfLast := r.2 }).verdictCount .drop

/-- Judges a request of a flow that has its entry (R465 to R467, R473). -/
def State.judge (s : State) (f0 : Flow) (ovr : Option Nat) (exempt nts : Bool) (cost : Nat) (tick : Int) :
    State × AdmVerdict :=
  let f1 := s.refillFlow f0 ovr tick
  let f : Flow := { f1 with reqs := f1.reqs + 1, used := max f1.used tick }
  let store (g : Flow) : State := s.setAdm { s.net.adm with flows := putFlow g s.net.adm.flows }
  if exempt then (store f).verdictCount .accepted
  else if cost ≤ f.tokens then (store { f with tokens := f.tokens - cost }).verdictCount .accepted
  else
    let g : Flow := { f with refs := f.refs + 1 }
    let due := match g.kissed with
      | none => true
      | some k => decide (k + (s.val A.ADM_KOD_GAP : Int) * 1250000 ≤ tick)
    if s.bit F.ADM_CTL_REFUSE && !nts && due then (store { g with kissed := some tick }).verdictCount .kiss
    else (store g).verdictCount .drop

/-- The verdict on a request of source address `a` with receive stamp `trx` (R457 to R473). -/
def State.admVerdict (s : State) (v6 : Bool) (a : Nat) (nts : Bool) (trx : Int) : State × AdmVerdict :=
  let tick := trx / 65536
  let cost := (if nts then s.get F.ADM_CTL_NTS_COST else 1) * tokenUnit
  if s.bit F.ADM_CTL_EN = false then s.verdictCount .accepted
  else if badSource v6 a then
    ((s.count (wordFld A.ADM_CNT_BAD_SRC) 1).setBit F.ADM_STAT_BADSRC_SEEN true).verdictCount .drop
  else
    let ovr := s.ovrFor v6 a
    let exempt := match ovr with
      | some o => s.bit (F.ADM_OVRo_CTL_EXEMPT o)
      | none => false
    match s.net.adm.key with
    | none => if exempt then s.verdictCount .accepted else s.chargeOverflow cost tick
    | some k =>
      let key := s.flowKey v6 a
      let set_ := Config.flowHash k v6 key % 16384
      match s.net.adm.flows.find? (fun f => f.v6 == v6 && f.key == key) with
      | some f => s.judge f ovr exempt nts cost tick
      | none =>
        match s.placeFlow v6 key set_ (s.flowRate ovr).2 tick with
        | some (s1, f) => s1.judge f ovr exempt nts cost tick
        | none => if exempt then s.verdictCount .accepted else s.chargeOverflow cost tick

/-! ### Scores -/

/-- A score arrives for the entry with a tag (R469, R470). -/
def State.scoreFlow (s : State) (tag v : Nat) : State :=
  match s.net.adm.flows.find? (fun f => f.tag == tag) with
  | none => s.count (wordFld A.ADM_CNT_SCORE_DROPPED) 1
  | some f =>
    let ovr := s.ovrFor f.v6 (s.flowAddr f)
    let scored : Flow := { f with score := some (v, s.tally) }
    let g := if s.effRate scored ovr s.tally = s.effRate f ovr s.tally then scored
      else { s.refillFlow f ovr s.tally with score := some (v, s.tally) }
    s.setAdm { s.net.adm with flows := putFlow { g with reqs := 0, refs := 0 } s.net.adm.flows }

/-- A flow-abuse job over the entries with these tags completes VOID (R471). -/
def State.scoresVoid (s : State) (tags : List Nat) : State :=
  let a := s.net.adm
  (s.setAdm { a with flows := a.flows.map (fun f => if tags.contains f.tag then { f with score := none } else f) }).seenOnce
    F.ADM_STAT_VOID_SEEN Ev.ADM_SCORE_VOID

/-! ### Commands and words -/

/-- Empties the table and refills the overflow bucket. -/
def State.admFlush (s : State) : State :=
  s.setAdm { s.net.adm with flows := [], ovfTokens := s.val A.ADM_OVF_DEPTH * tokenUnit }

/-- Draws a hash key if there is none and the random source is healthy (R461). -/
def State.drawHashKey (s : State) : State :=
  if s.net.adm.key.isNone && s.rngOk && s.up .pipe then
    let d := s.random
    d.2.setAdm { d.2.net.adm with key := some d.1, flows := [] }
  else s

/-- The hash key is lost: at a PIPE start and at a zeroisation (R461). -/
def State.dropHashKey (s : State) : State := s.setAdm { s.net.adm with key := none, flows := [] }

/-- A lookup (R474). -/
def State.admLookup (s : State) (v6 : Bool) : State :=
  let a := if v6 then s.multi (A.ADM_LOOKUP_ADDR 0) 4 else s.val (A.ADM_LOOKUP_ADDR 0)
  let ovr := s.ovrFor v6 a
  let hit := match ovr with
    | some o => 8 + o * 16
    | none => 15 * 16
  let f := s.net.adm.flows.find? (fun f => f.v6 == v6 && f.key == s.flowKey v6 a)
  let live := f.bind (fun g => s.liveScore g ovr s.tally)
  let score := live.getD 0
  let s1 := s.setVal A.ADM_LOOKUP_RESULT (1 + flagVal f.isSome * 2 + flagVal (f.isSome && live.isNone) * 4 + hit +
    score * 256 + score / 32 * 65536)
  match f with
  | none => (s1.setVal A.ADM_LOOKUP_TOKENS 0).setVal A.ADM_LOOKUP_RATE 0
  | some g =>
    (s1.setVal A.ADM_LOOKUP_TOKENS ((s.refillFlow g ovr s.tally).tokens / 65536)).setVal A.ADM_LOOKUP_RATE
      (s.effRate g ovr s.tally)

/-- A write of OVRo_CTL (R475): the held words apply with it. A LEN that the family does not have discards the whole
descriptor. -/
def State.ovrWrite (s : State) (h : HostPort) (o v : Nat) : Written :=
  let len := bitsAt v 8 8
  let words := (List.range 6).map (fun i => A.ADM_OVRo_ADDR o i)
  let s1 := s.dropHolds h words
  if len = 0 ∨ addrBits (bitOf v 1) < len then s1.rejected .range
  else
    ((s1.each words (fun a t => t.wr a ((s.heldWord h a).getD (s.rd a)))).setVal (A.ADM_OVRo_CTL o)
      (v % 16 + len * 256)).ok

/-- A write to a word of the ADM bank with a rule of its own. -/
def State.admWrite (s : State) (h : HostPort) (w v : Nat) : Option Written :=
  if w = 0x00 then
    some (s.fitWrite A.ADM_CTL v
      [(3, 1, bitOf v 3 == s.bit F.ADM_CTL_V6_KEY || s.net.adm.flows == []), (8, 4, within (bitsAt v 8 4) 1 8)])
  else if 0x06 ≤ w ∧ w < 0x0A then
    some (s.fitWrite (0x1200 + w) v [(0, 9, decide (bitsAt v 0 9 ≤ 256)), (16, 9, decide (bitsAt v 16 9 ≤ 256))])
  else if w = 0x0D then some (if v = 1 then s.admFlush else s).ok
  else if w = 0x20 then
    let s1 := s.setVal A.ADM_LOOKUP_CTL (bitsAt v 1 1 * 2)
    some (if bitOf v 0 then s1.admLookup (bitOf v 1) else s1).ok
  else if 0x40 ≤ w ∧ w < 0xC0 then
    match (w - 0x40) % 8 with
    | 0 => some (s.ovrWrite h ((w - 0x40) / 8) v)
    | 5 => some (if v < 1 ∨ 1000000 < v then s.rejected .range else (s.hold h (0x1200 + w) (wordOf v)).ok)
    | 6 => some (if v < 1 ∨ 65535 < v then s.rejected .range else (s.hold h (0x1200 + w) (wordOf v)).ok)
    | 7 => none
    | _ => some (s.hold h (0x1200 + w) (wordOf v)).ok
  else none

/-- Words of the ADM bank the state computes. -/
def State.admRead (s : State) (w : Nat) : Option Word :=
  if w = 0x01 then some (wordOf (withBits (s.val A.ADM_STAT) 0 1 (flagVal s.net.adm.key.isNone)))
  else if w = 0x0C then some (wordOf s.net.adm.flows.length)
  else none

end Sys2Proof.Machine
end

