-- ==== Sys2Proof/Machine/Arr.lean ====
section
/-! DEFINITION. The array tiles: rolls, row writes, recalibration, checks and states (R481 to R516). -/

namespace Sys2Proof.Machine

/-! ### Access -/

/-- Whether a code names an analog tile. -/
def analogTile (t : Nat) : Bool := decide (t < 12)

/-- Whether a code names a tile: 0 to 11 A0 to A11, 16 to 19 D0 to D3 (ARR.CMD). -/
def isTile (t : Nat) : Bool := analogTile t || within t 16 19

/-- The codes of the 16 tiles. -/
def tileCodes : List Nat := List.range 12 ++ [16, 17, 18, 19]

/-- Where a tile's state stands in the list. -/
def tileSlot (t : Nat) : Nat := if t < 12 then t else t - 4

/-- What a tile holds beyond its registers. -/
def State.tile (s : State) (t : Nat) : Tile := s.arr.tiles.getD (tileSlot t) {}

/-- The state with what a tile holds replaced. -/
def State.setTile (s : State) (t : Nat) (x : Tile) : State :=
  { s with arr := { s.arr with tiles := s.arr.tiles.setIfInBounds (tileSlot t) x } }

/-- The address of a tile's control word. -/
def tileBase (t : Nat) : Nat := if t < 12 then A.ARR_Aa_CTL t else A.ARR_Dd_CTL (t - 16)

/-- EN of a tile. -/
def tileEn (t : Nat) : Fld := ⟨tileBase t, 0, 1⟩

/-- A sticky bit of a tile's STAT word. -/
def tileFlag (t k : Nat) : Fld := ⟨tileBase t + 1, k, 1⟩

/-- A tile's check counts. -/
def tilePass (t : Nat) : Fld := ⟨tileBase t + 6, 0, 16⟩
def tileFailCount (t : Nat) : Fld := ⟨tileBase t + 6, 16, 16⟩

/-- The rows of a tile, and the results of a roll (R481, R489). -/
def tileRows (t : Nat) : Nat := if analogTile t then 512 else 256
def tileOuts (t : Nat) : Nat := if analogTile t then 128 else 256

/-- The VALID bit of a row. -/
def Image.valid (g : Image) (r : Nat) : Bool :=
  match lookupKey r g.rows with
  | some x => x.valid
  | none => false

/-- ROWS_INVALID of an image in a memory of `n` rows. -/
def Image.invalid (g : Image) (n : Nat) : Nat := n - (g.rows.filter (fun x => x.2.valid)).length

/-- The image with a row's VALID bit cleared. -/
def Image.clearValid (g : Image) (r : Nat) : Image :=
  match lookupKey r g.rows with
  | some x => { g with rows := insertKey r { x with valid := false } g.rows }
  | none => g

/-- The image with a row written, `stuck` of its data cells not at their levels (R492, R494). -/
def Image.writeRow (g : Image) (r : Nat) (bytes : List Byte) (valid : Bool) (stuck : Nat) : Image :=
  { g with rows := insertKey r { bytes := bytes, valid := valid, stuck := stuck } g.rows }

/-- The row groups of a mask (R482). -/
def groupsOf (mask : Nat) : List Nat := setBits mask 8

/-! ### States -/

/-- The code of a tile's state (the state table). -/
def State.tileState (s : State) (t : Nat) : Nat :=
  let x := s.tile t
  if x.draining then 6
  else if s.dom .array ≠ 2 then 0
  else if s.bit (tileEn t) = false then 0
  else match x.op with
    | .row _ _ => 4
    | _ =>
      if x.failed then 7
      else if x.starting || x.restart || x.resetting then 1
      else match x.op with
        | .roll => 3
        | .recal => 5
        | .check => 5
        | _ => 2

def tileReady : Nat := 2

/-- Whether a tile serves: READY or BUSY. -/
def State.tileServes (s : State) (t : Nat) : Bool := within (s.tileState t) 2 3

/-- DEFER (R502): a due recalibration or check waits for what the tile is doing. -/
def State.deferred (s : State) (t : Nat) : Bool :=
  let x := s.tile t
  match x.op with
  | .idle => false
  | .recal => x.wantCheck
  | .check => x.wantRecal
  | _ => x.wantRecal || x.wantCheck

/-- The load in progress, if it is for `t`. -/
def State.loadOn (s : State) (t : Nat) : Option ImageLoad :=
  match s.arr.load with
  | some l => if l.target = t then some l else none
  | none => none

/-- The next operation of an idle tile (R501, R504, R515): a recalibration before a row write, and a row write before a
check. A check needs a complete image (R508). -/
def State.nextOp (s : State) (t : Nat) : TileOp :=
  let x := s.tile t
  if s.dom .array ≠ 2 ∨ s.bit (tileEn t) = false ∨ x.draining = true ∨ x.resetting = true then .idle
  else if x.wantRecal && !x.failed then .recal
  else
    match s.loadOn t with
    | some { rows := (r, bytes) :: _, .. } => .row r bytes
    | _ => if x.wantCheck && x.img.ok && !x.failed then .check else .idle

/-- An idle tile takes up its next operation. A row write clears the row's VALID bit first (R492); the first one brings a
tile out of FAILED (R507). -/
def State.kick (s : State) (t : Nat) : State :=
  let x := s.tile t
  if x.op = .idle then
    match s.nextOp t with
    | .row r bytes =>
      s.setTile t { x with
        op := .row r bytes
        img := x.img.clearValid r
        restart := x.restart || x.failed
        failed := false }
    | o => s.setTile t { x with op := o }
  else s

/-- A tile ends its operation. -/
def State.freeTile (s : State) (t : Nat) : State :=
  (s.setTile t { s.tile t with op := .idle }).kick t

/-- A tile enters STARTING (R508): a recalibration for an analog tile, and a check if its image is complete. -/
def State.tileStarts (s : State) (t : Nat) : State :=
  let x := s.tile t
  (s.setTile t { x with
    op := .idle
    starting := true
    restart := false
    failed := false
    draining := false
    resetting := false
    wantRecal := analogTile t
    wantCheck := x.img.ok
    hold := false
    refusedOnce := false
    retryDue := false
    checkFailed := false
    coefs := [] }).kick t

/-- A tile's state as it is while it is off. -/
def Tile.off (x : Tile) : Tile := { img := x.img, stuck := x.stuck, failEra := x.failEra }

/-- The start sequence of a tile ends (R508). -/
def State.tileStarted (s : State) (t : Nat) : State :=
  let x := s.tile t
  if s.tileState t = 1 ∧ x.starting = true ∧ x.op = .idle ∧ x.wantRecal = false ∧ x.retryDue = false ∧
      (x.wantCheck && x.img.ok) = false then
    (s.setTile t { x with starting := false }).kick t
  else s

/-- A tile enters FAILED (R506). The Guard's entry is written at the first failure of that tile in an era, also where the
source stands tripped already and does not trip again (R547). -/
def State.tileFails (s : State) (t : Nat) : State :=
  let x := s.tile t
  let s1 := s.setTile t { x with
    op := .idle
    starting := false
    restart := false
    failed := true
    wantRecal := false
    wantCheck := false
    hold := false
    refusedOnce := false
    retryDue := false
    checkFailed := false
    failEra := some s.era }
  let s2 := (s1.setBit (tileFlag t 12) true).raise Ev.TILE_FAIL
  let first := x.failEra != some s.era
  let trips := s.bit (F.GRD_Sx_CFG_EN 23) && !s.tripped 23
  let s3 := s2.setSource 23 { s2.source 23 with notedEra := if first then none else some s.era }
  let s4 := s3.guardSample 23 true 0
  if first && !trips then s4.ledger 23 1 (beBytes 4 0 ++ beBytes 2 (s4.get (F.GRD_Sx_COUNT_TRIPS 23))) none else s4

/-! ### Rolls -/

/-- The statuses of a roll (R491): the highest that applies. -/
def rollOk : Nat := 0
def rollSat : Nat := 1
def rollBadRow : Nat := 2
def rollNotReady : Nat := 3
def rollVoid : Nat := 4

/-- A roll's status and results. -/
structure Roll where
  status : Nat
  y : List Int := []
  deriving DecidableEq, Repr

/-- The value an input contributes: a signed byte. -/
def inputAt (x : List Int) (i : Nat) : Int := x.getD i 0

/-- y_j of a digital tile (R489): exact. -/
def digitalSum (g : Image) (x : List Int) (j : Nat) : Int :=
  g.rows.foldl (fun a r => a + signedOf 8 ((r.2.bytes.getD j 0).toNat) * inputAt x r.1) 0

/-- The code that a conversion is given as; one that the command does not list is a free value (R483). -/
def State.codeAt (s : State) (codes : List Nat) (k : Nat) : Nat :=
  match codes[k]? with
  | some q => q % 256
  | none => Config.freeValue (s.draws + k) % 256

/-- The level to which a row's cell on bit line `c` is programmed (R481, R524). -/
def TileRow.level (r : TileRow) (c : Nat) : Nat :=
  let w := signedOf 8 ((r.bytes.getD (c / 2) 0).toNat)
  if c % 2 = 0 then w.toNat else (-w).toNat

/-- The rows of group `g` that bit plane `b` of the inputs drives (R482, R483). -/
def drivenRows (img : Image) (x : List Int) (g b : Nat) : List TileRow :=
  (List.range 64).filterMap (fun i =>
    if bitOf (inputAt x (64 * g + i) % 256).toNat b then lookupKey (64 * g + i) img.rows else none)

/-- Whether the figures of R487 bind a tile's conversions: its recalibration was accepted within RECAL_PERIOD, and the die is
within the assert level of RECAL_T of its temperature then. -/
def State.calibrated (s : State) (t : Nat) : Bool :=
  decide (s.val (A.ARR_Aa_CAL_AGE t) ≤ s.val A.ARR_RECAL_PERIOD) &&
    decide (|s.dieTemp - s.ival (A.ARR_Aa_CAL_TEMP t)| ≤ s.ival A.ARR_RECAL_T_ASSERT)

/-- How far u_c may lie from the programmed levels' sum, in units of a tenth of 2^-12 level unit (R487): ±3 level units of the
conversion, ±0.3 for each driven cell, and the whole range of levels where a driven row has stuck cells. -/
def convSlack (rows : List TileRow) : Nat :=
  122880 + (rows.map (fun r => if r.stuck = 0 then 12288 else 614400)).sum

/-- The code of a conversion on bit line `c` that drives `rows` (R487): the code given or, where the figures do not allow it,
the nearest that they do. `k` is OFS_c and GAIN_c. -/
def heldCode (k : Nat × Nat) (rows : List TileRow) (c q : Nat) : Nat :=
  if k.2 = 0 then q
  else
    let sum : Int := 40960 * ((rows.map (fun r => r.level c)).sum : Nat)
    let step : Int := 10 * (k.2 : Int)
    let slack : Int := convSlack rows
    let low := (k.1 : Int) - (slack - sum) / step
    let high := (k.1 : Int) + (sum + slack) / step
    (max 0 (min 255 (max low (min high q)))).toNat

/-- u_c (R484), in units of 2^-12 level unit. -/
def correctCode (coefs : List (Nat × Nat)) (c q : Nat) : Int :=
  let k := coefs.getD c (0, 0)
  ((q : Int) - (k.1 : Int)) * (k.2 : Int)

/-- The weight s_b × 2^b of a bit plane (R484). -/
def planeWeight (b : Nat) : Int := if b = 7 then -128 else 2 ^ b

/-- The bit planes of a roll in order, by group and bit: each bit with the rows that it drives (R482, R483). -/
def rollPlanes (img : Image) (x : List Int) : List (Nat × List TileRow) :=
  (groupsOf img.mask).flatMap (fun g => (List.range 8).map (fun b => (b, drivenRows img x g b)))

/-- The codes of a roll (R483): for each bit plane its bit and the code of each of the 256 bit lines. The codes given stand by
plane and bit line. -/
def State.planeCodes (s : State) (t : Nat) (x : List Int) (codes : List Nat) : List (Nat × List Nat) :=
  let d := s.tile t
  let held := s.calibrated t
  let planes := rollPlanes d.img x
  (planes.zip (List.range planes.length)).map (fun p =>
    (p.1.1, (List.range 256).map (fun c =>
      let q := s.codeAt codes (p.2 * 256 + c)
      if held then heldCode (d.coefs.getD c (0, 0)) p.1.2 c q else q)))

/-- A_j (R484): the corrected differences over the groups' bit planes. -/
def analogSum (coefs : List (Nat × Nat)) (planes : List (Nat × List Nat)) (j : Nat) : Int :=
  (planes.map (fun p =>
    planeWeight p.1 *
      (correctCode coefs (2 * j) (p.2.getD (2 * j) 0) - correctCode coefs (2 * j + 1) (p.2.getD (2 * j + 1) 0)))).sum

/-- Whether any conversion of a roll read 255 (R486). -/
def saturated (planes : List (Nat × List Nat)) : Bool := planes.any (fun p => p.2.any (fun q => q == 255))

/-- The rows a roll uses: those of the image's groups, or every row of a digital tile. -/
def rollRows (t : Nat) (g : Image) : List Nat :=
  if analogTile t then (groupsOf g.mask).flatMap (fun k => (List.range 64).map (fun r => 64 * k + r))
  else List.range 256

/-- One roll on a tile that is ready (R482 to R491), with the codes of its conversions. An empty mask gives zeros. -/
def State.roll (s : State) (t : Nat) (x : List Int) (codes : List Nat) : Roll :=
  let d := s.tile t
  if d.img.ok = false then { status := rollNotReady }
  else if (rollRows t d.img).any (fun r => !d.img.valid r) then { status := rollBadRow }
  else if analogTile t then
    let planes := s.planeCodes t x codes
    { status := if saturated planes then rollSat else rollOk
      y := (List.range 128).map (fun j => analogSum d.coefs planes j / 256) }
  else { status := rollOk, y := (List.range 256).map (digitalSum d.img x) }

/-- The conversions of one roll on a tile. -/
def State.rollCodes (s : State) (t : Nat) : Nat :=
  if analogTile t then (groupsOf (s.tile t).img.mask).length * 2048 else 0

/-- What a roll leaves: the tile's mark of saturation (R486), and the free values that its conversions took. -/
def State.rollMarks (s : State) (t : Nat) (r : Roll) (codes : List Nat) : State :=
  let n := s.rollCodes t
  let s1 := if codes.length < n then { s with draws := s.draws + n } else s
  if r.status = rollSat then s1.seenOnce (tileFlag t 8) Ev.TILE_SAT else s1

/-- A memory word of a digital tile reads with an error (R490): corrected, or the row loses its VALID bit. -/
def State.eccEvent (s : State) (t row : Nat) (lost : Bool) : State :=
  if analogTile t then s
  else if lost then
    let x := s.tile t
    let s1 := s.setTile t { x with img := x.img.clearValid row }
    ((s1.countSat (F.ARR_Dd_ECC_UNCORR (t - 16)) 1).setBit (tileFlag t 13) true).raise Ev.TILE_ECC
  else s.countSat (F.ARR_Dd_ECC_CORR (t - 16)) 1

/-- The memory errors that a command reports for a tile: row, and whether it is uncorrectable. -/
def State.eccEvents (s : State) (t : Nat) (ecc : List (Nat × Bool)) : State :=
  s.each ecc (fun e u => u.eccEvent t (e.1 % 256) e.2)

/-! ### Recalibration -/

/-- OFS_c from S_0 (R498): a tie goes away from zero. -/
def recalOfs (s0 : Nat) : Nat := (2 * s0 + 16) / 32

/-- GAIN_c from S_0 and S_1 to S_8 (R498); none when the denominator is not above 0. -/
def recalGain (s0 : Nat) (refs : List Nat) : Option Nat :=
  let den : Int := ((refs.map (fun v => (v : Int) - 16 * (recalOfs s0 : Int))).sum)
  if 0 < den then some (roundRat ((268435456 : Rat) / (den : Rat))).toNat else none

/-- Whether a converter's figures are accepted (R499). -/
def recalFits (ofs gain : Nat) (refs : List Nat) : Bool :=
  decide (ofs ≤ 16) && within gain 12288 20480 &&
    (List.range 8).all (fun r =>
      let u : Rat := (((refs.getD r 0 : Nat) : Rat) / 16 - (ofs : Rat)) * (gain : Rat) / 4096
      decide (|u - ((64 * (2 * r + 1) : Nat) : Rat)| ≤ 8))

/-- The coefficients that the sums of one converter give, if they are accepted: S_0, then S_1 to S_8. -/
def recalOne (sums : List Nat) : Option (Nat × Nat) :=
  let s0 := sums.headD 0
  let refs := (sums.drop 1).take 8
  match recalGain s0 refs with
  | some g => if recalFits (recalOfs s0) g refs then some (recalOfs s0, g) else none
  | none => none

/-- A recalibration ends with the sums of the 256 converters (R498 to R500, R505). -/
def State.recalDone (s : State) (t : Nat) (sums : List (List Nat)) : State :=
  let x := s.tile t
  if x.op ≠ .recal ∨ analogTile t = false then s
  else
    let cs := sums.filterMap recalOne
    if sums.length = 256 ∧ cs.length = 256 then
      let gains := cs.map (fun c => c.2)
      let s1 := s.setTile t { x with
        coefs := cs
        wantRecal := false
        hold := false
        refusedOnce := false }
      let s2 := (s1.setIval (A.ARR_Aa_CAL_TEMP t) s.dieTemp).setVal (A.ARR_Aa_CAL_AGE t) 0
      let s3 := (s2.put (F.ARR_Aa_GAIN_SPAN_GAIN_MIN t) (gains.foldl min 65535)).put (F.ARR_Aa_GAIN_SPAN_GAIN_MAX t)
        (gains.foldl max 0)
      s3.freeTile t
    else
      let s1 := (s.setBit (tileFlag t 10) true).raise Ev.TILE_RECAL_FAIL
      if x.refusedOnce then s1.tileFails t
      else
        (s1.setTile t { x with
          wantRecal := false
          hold := false
          refusedOnce := true
          retryDue := true }).freeTile t

/-- 1 s after a refused recalibration the tile tries again (R500). -/
def State.recalRetry (s : State) (t : Nat) : State :=
  let x := s.tile t
  if x.retryDue then (s.setTile t { x with retryDue := false, wantRecal := true }).kick t else s

/-- A second of an analog tile with coefficients: its age, and a sample of the temperature qualifier (R501, R514). The tile
is due at RECAL_PERIOD or while the qualifier is asserted, and recalibrates if RECAL_AUTO = 1. -/
def State.recalSecond (s : State) (t : Nat) : State :=
  let x := s.tile t
  if analogTile t = false ∨ s.tileState t = 0 ∨ x.coefs = [] then s
  else
    let s1 := s.countSat (wordFld (A.ARR_Aa_CAL_AGE t)) 1
    let d := |s1.dieTemp - s1.ival (A.ARR_Aa_CAL_TEMP t)|
    let q := Qual.sample .upper (s1.descriptor A.ARR_RECAL_T_ASSERT) d x.temp
    let due := decide (s1.val A.ARR_RECAL_PERIOD ≤ s1.val (A.ARR_Aa_CAL_AGE t)) || q.on
    (s1.setTile t { x with
      temp := q
      wantRecal := x.wantRecal || (due && s1.bit F.ARR_CTL_RECAL_AUTO && !x.retryDue && !x.failed) }).kick t

/-- A due tile has waited RECAL_WAIT_MAX (R502). -/
def State.recalWaited (s : State) (t : Nat) : State :=
  if s.deferred t then s.setTile t { s.tile t with hold := true } else s

/-! ### Checks -/

/-- TV_PERIOD seconds of READY time (R504). -/
def State.checkDue (s : State) (t : Nat) : State :=
  if s.bit F.ARR_CTL_TV_AUTO = true ∧ s.tileServes t = true ∧ (s.tile t).img.ok = true then
    (s.setTile t { s.tile t with wantCheck := true }).kick t
  else s

/-- Whether a result is within the tolerance of its expectation (R503). -/
def State.closeTo (s : State) (t : Nat) (y want : Int) : Bool :=
  if analogTile t then decide (|y - want| ≤ ((s.val A.ARR_TV_TOL * 16 : Nat) : Int)) else y == want

/-- The rolls of a check, one for each test vector: the state after them, and whether the check passes (R503, R516). -/
def State.checkRolls (s : State) (t : Nat) : List TestVector → List Nat → State × Bool
  | [], _ => (s, true)
  | v :: vs, codes =>
    let r := s.roll t v.inputs codes
    let good := r.status == rollOk && r.y.length == v.want.length &&
      (r.y.zip v.want).all (fun p => s.closeTo t p.1 p.2)
    let rest := (s.rollMarks t r codes).checkRolls t vs (codes.drop (s.rollCodes t))
    (rest.1, good && rest.2)

/-- A check ends (R503, R505). -/
def State.checkDone (s0 : State) (t : Nat) (codes : List Nat) (ecc : List (Nat × Bool)) : State :=
  if (s0.tile t).op ≠ .check then s0
  else
    let s := s0.eccEvents t ecc
    let r := s.checkRolls t (s.tile t).img.vectors codes
    let u := r.1
    let x := u.tile t
    if r.2 then
      ((u.count (tilePass t) 1).setTile t { x with wantCheck := false, checkFailed := false, hold := false }).freeTile t
    else
      let f := ((u.count (tileFailCount t) 1).setBit (tileFlag t 11) true).raise Ev.TILE_TV_FAIL
      if x.checkFailed then f.tileFails t
      else
        (f.setTile t { x with
          checkFailed := true
          wantRecal := analogTile t
          wantCheck := true }).freeTile t

end Sys2Proof.Machine
end

