-- ==== Sys2Proof/Machine/Jobs.lean ====
section
/-! DEFINITION. Models, tile images, loads and jobs of the Array Fabric (R517 to R543). -/

namespace Sys2Proof.Machine

/-! ### Models -/

/-- The stages of a model. -/
def State.stagesOf (s : State) (m : Nat) : Nat := s.get (F.ARR_Mm_CTL_NSTAGES m) + 1

/-- The tile codes a TILES word names, in ascending node order (R517). -/
def tilesOf (v : Nat) : List Nat := tileCodes.filter (bitOf v)

/-- The tiles of a stage. -/
def State.stageTiles (s : State) (m k : Nat) : List Nat := tilesOf (s.get (F.ARR_Mm_Ss_TILES_TILES m k))

/-- The tiles of a model. -/
def State.modelTiles (s : State) (m : Nat) : List Nat := (List.range (s.stagesOf m)).flatMap (s.stageTiles m)

/-- The layer images a model names: 0 to 3. -/
def State.modelLayers (s : State) (m : Nat) : List Nat :=
  ((List.range (s.stagesOf m)).map (fun k => s.get (F.ARR_Mm_Ss_TILES_LAYER m k))).filterMap
    (fun l => if l = 0 then none else some (l - 1))

/-- Whether a model uses a load target: a tile, or a layer image 28 to 31. -/
def State.modelUses (s : State) (m target : Nat) : Bool :=
  if 28 ≤ target then (s.modelLayers m).contains (target - 28) else (s.modelTiles m).contains target

/-- Whether a stage meets R520, but for the lengths that depend on its neighbours. `bits` is TILES[19:0]. -/
def stageFits (bits inLen outLen split layer : Nat) : Bool :=
  let tiles := tilesOf bits
  let n := tiles.length
  let analog := tiles.all analogTile
  let r := if analog then 512 else 256
  let c := if analog then 128 else 256
  bitsAt bits 12 4 == 0 && (analog || tiles.all (fun t => !analogTile t)) && within n 1 4 &&
    (n == 1 || split != 0) && within inLen 1 (if split = 1 then r * n else r) &&
    within outLen 1 (if split = 2 then c * n else c) &&
    (layer == 0 || (n == 1 && !analog && split == 0))

/-- Whether a model may be enabled with `stages` stages and BIAS as given (R520). -/
def State.modelFits (s : State) (m stages : Nat) (bias : Bool) : Bool :=
  let b := flagVal bias
  let inLen (k : Nat) := s.get (F.ARR_Mm_Ss_CTL_IN_LEN m k)
  let outLen (k : Nat) := s.get (F.ARR_Mm_Ss_CTL_OUT_LEN m k)
  let others := ((List.range 4).filter (fun n => n != m && s.bit (F.ARR_Mm_CTL_EN n))).flatMap s.modelTiles
  let all := (List.range stages).flatMap (s.stageTiles m)
  (List.range stages).all (fun k => stageFits (s.get (F.ARR_Mm_Ss_TILES_TILES m k)) (inLen k) (outLen k)
      (s.get (F.ARR_Mm_Ss_CTL_SPLIT m k)) (s.get (F.ARR_Mm_Ss_TILES_LAYER m k))) &&
    (match m with
      | 0 => inLen 0 == 62 + b
      | 1 => inLen 0 == 40 + b
      | 2 => inLen 0 == 6 + b
      | _ => decide (b ≤ inLen 0)) &&
    (List.range (stages - 1)).all (fun k => inLen (k + 1) == outLen k + b) &&
    all.all (fun t => !others.contains t)

/-! ### Rolls of a job -/

/-- Where a job's rolls stand: the state, the conversions, memory errors (tile, row, uncorrectable) and reload results not
yet used, the vector, why the job has ended, and the tile of the first saturated roll. -/
structure JobRun where
  state : State
  codes : List Nat
  ecc : List (Nat × Nat × Bool)
  reloads : List (Option Nat)
  x : List Int
  stop : Option (Nat × Nat) := none
  sat : Option Nat := none

/-- The VOID reason of a roll status other than OK (R535). -/
def rollReason (status : Nat) : Nat :=
  if status = rollSat then 4 else if status = rollVoid then 5 else 3

/-- A layer reload (R523): the layer image's rows and test vectors go into the tile. -/
def State.reload (s : State) (t layer : Nat) : State :=
  s.setTile t { s.tile t with img := s.arr.layers.getD (layer - 1) {} }

/-- A layer reload whose row `r` fails (R496, R523): the rows before it hold the layer's weights, and that row is invalid. -/
def State.reloadFails (s : State) (t layer r : Nat) : State :=
  let g := s.arr.layers.getD (layer - 1) {}
  let x := s.tile t
  let before := g.rows.filter (fun y => y.1 < r)
  s.setTile t { x with img := (before.foldl (fun (i : Image) y => { i with rows := insertKey y.1 y.2 i.rows }) x.img).clearValid r }

/-- Whether a tile's image disagrees with its place in the model (R535). -/
def Image.misplaced (g : Image) (m stage block : Nat) : Bool := g.model != m || g.stage != stage || g.block != block

/-- One tile's part of a stage: its result is appended. -/
def JobRun.rollOn (r : JobRun) (m stage split : Nat) (x : List Int) (tb : Nat × Nat) (ys : List (List Int)) :
    JobRun × List (List Int) :=
  if r.stop.isSome then (r, ys)
  else
    let t := tb.1
    let s := (r.ecc.filter (fun e => e.1 == t)).foldl (fun u e => u.eccEvent t (e.2.1 % 256) e.2.2) r.state
    let rows := tileRows t
    let input := if split = 1 then (x.drop (tb.2 * rows)).take rows else x.take rows
    let g := (s.tile t).img
    if g.ok = true ∧ g.misplaced m stage tb.2 = true then ({ r with stop := some (2, t) }, ys)
    else
      let o := s.roll t input r.codes
      let n := s.rollCodes t
      let u := s.rollMarks t o r.codes
      let r1 : JobRun := { r with state := u, codes := r.codes.drop n, ecc := r.ecc.filter (fun e => e.1 != t) }
      if o.status = rollOk then (r1, ys ++ [o.y])
      else if o.status = rollSat then
        ({ r1 with sat := r1.sat <|> some t }, ys ++ [o.y])
      else ({ r1 with stop := some (rollReason o.status, t) }, ys)

/-- The sum of results, element by element. -/
def addResults (a b : List Int) : List Int := if a = [] then b else (a.zip b).map (fun p => p.1 + p.2)

/-- x'_j (R518). -/
def requantise (scale shift : Nat) (act : Bool) (y : Int) : Int :=
  let v := max (-128) (min 127 (y * scale / 2 ^ shift))
  if act then max 0 v else v

/-- One stage of a job (R517, R518, R523): its result, every output of its tiles. -/
def JobRun.stage (r : JobRun) (m k : Nat) : JobRun :=
  if r.stop.isSome then r
  else
    let s := r.state
    let tiles := s.stageTiles m k
    let layer := s.get (F.ARR_Mm_Ss_TILES_LAYER m k)
    let split := s.get (F.ARR_Mm_Ss_CTL_SPLIT m k)
    let x := if s.bit (F.ARR_Mm_CTL_BIAS m) then r.x ++ [127] else r.x
    let t0 := tiles.headD 0
    let r0 : JobRun :=
      if layer = 0 then r
      else
        match r.reloads.headD none with
        | none => { r with state := s.reload t0 layer, reloads := r.reloads.drop 1 }
        | some k =>
          { r with state := s.reloadFails t0 layer (k % 256), stop := some (3, t0), reloads := r.reloads.drop 1 }
    let out := (tiles.zip (List.range tiles.length)).foldl
      (fun (a : JobRun × List (List Int)) tb => a.1.rollOn m k split x tb a.2) (r0, [])
    let y := if split = 2 then out.2.flatten else out.2.foldl addResults []
    { out.1 with x := y }

/-- The OUT_LEN results requantised for the next stage (R518). -/
def JobRun.requant (r : JobRun) (m k : Nat) : JobRun :=
  let s := r.state
  { r with x := (r.x.take (s.get (F.ARR_Mm_Ss_CTL_OUT_LEN m k))).map (requantise (s.get (F.ARR_Mm_Ss_Q_SCALE m k)) (s.get (F.ARR_Mm_Ss_Q_SHIFT m k))
      (s.bit (F.ARR_Mm_Ss_CTL_ACT m k))) }

/-- All stages of one vector; the final stage is not requantised (R519). -/
def JobRun.vector (r : JobRun) (m : Nat) (x : List Int) : JobRun :=
  let n := r.state.stagesOf m
  (List.range n).foldl (fun (a : JobRun) k =>
    let b := a.stage m k
    if k + 1 < n then b.requant m k else b) { r with x := x }

/-- All vectors of a job: the run after them and the results (R533). -/
def JobRun.vectors (r : JobRun) (m : Nat) : List (List Int) → JobRun × List (List Int)
  | [] => (r, [])
  | x :: xs =>
    let a := r.vector m x
    let b := a.vectors m xs
    (b.1, a.x :: b.2)

/-- v of a standard job (R519). -/
def State.outValue (s : State) (m : Nat) (y : List Int) : Int :=
  y.headD 0 * s.getInt (F.ARR_Mm_OUT_OUT_SCALE m) / 2 ^ s.get (F.ARR_Mm_OUT_OUT_SHIFT m)

/-! ### The end of a job -/

/-- The descriptor of a job. -/
def ArrJob.descriptor (j : ArrJob) : Nat :=
  j.cls * 2 ^ 62 + j.model * 2 ^ 60 + (j.inputs.length - 1) % 128 * 2 ^ 52 + j.origin % 65536 * 2 ^ 36 + j.deadline

/-- A value held within 0 to 255. -/
def clampScore (v : Int) : Nat := (max 0 (min 255 v)).toNat

/-- The verdict of a score (R536): 0 PASS, 1 SUSPECT, 2 FAIL. -/
def State.verdictOf (s : State) (score : Nat) : Nat :=
  if s.get F.ARR_INTEG_TH_FAIL_AT ≤ score then 2
  else if s.get F.ARR_INTEG_TH_SUSPECT_AT ≤ score then 1 else 0

/-- The consumer's part of a completion: v of each vector, or none for VOID (R205, R161, R469, R471). -/
def State.deliver (s : State) (j : ArrJob) (values : Option (List Int)) : State :=
  match j.cls with
  | 0 => s.prediction (values.map (fun r => r.headD 0))
  | 1 =>
    let v := match values with
      | some r => s.verdictOf (clampScore (r.headD 0))
      | none => 3
    s.setSlot j.origin { s.slot j.origin with job := v }
  | 2 =>
    match values with
    | some r => s.each (j.tags.zip r) (fun tr u => u.scoreFlow tr.1 (clampScore tr.2))
    | none => s.scoresVoid j.tags
  | _ => s

/-- USER_STAT and ARRW.OUT of a USER job that ends (R537). -/
def State.userEnds (s : State) (j : ArrJob) (reason : Nat) : State :=
  if j.cls = 3 then
    let s1 := (s.put F.ARR_USER_STAT_STATE 3).put F.ARR_USER_STAT_REASON reason
    if reason = 0 ∨ reason = 4 then
      s1.each (List.range 128) (fun i u => u.setIval (A.ARRW_OUT i) ((j.results.headD []).getD i 0))
    else s1
  else s

/-- A job completes: DONE with reason 0, or VOID with a reason and, where one tile is the cause, that tile (R535). The
spec states no TILE for the other reasons. -/
def State.endJob (s : State) (j : ArrJob) (reason : Nat) (tile : Option Nat) : State :=
  let name := match tile with
    | some t => t
    | none => if reason = 0 then 0 else s.freeNat % 32
  let s0 := if reason ≠ 0 ∧ tile = none then s.drawn else s
  let v := if reason = 0 ∧ j.cls ≠ 3 then j.values.headD 0 else 0
  let s1 := if s0.up .array then
      let c := (s0.count (wordFld (if reason = 0 then A.ARR_JOB_DONE else A.ARR_JOB_VOID)) 1).setMulti
        A.ARR_LAST_DESC_HI j.descriptor 2
      if reason = 0 then c
      else
        (c.setVal A.ARR_LAST_VOID (j.cls + j.model * 16 + reason * 256 + name * 65536)).seenOnce
          F.ARR_JOB_STAT_JOB_VOID_SEEN Ev.JOB_VOID
    else s0
  let s2 := s1.trace 8 [wordOf (j.cls + j.model * 16 + reason * 256 + name * 65536), wordOfInt v]
  (s2.userEnds j reason).deliver j (if reason = 0 then some j.values else none)

/-- Ends every queued job that `p` gives a reason. -/
def State.voidQueued (s : State) (p : ArrJob → Option Nat) : State :=
  let q := s.arr.queue
  let s1 := { s with arr := { s.arr with queue := q.filter (fun j => (p j).isNone) } }
  s1.each (q.filterMap (fun j => (p j).map (fun r => (j, r)))) (fun jr u => u.endJob jr.1 jr.2 none)

/-- Frees the tiles of a job that ran. -/
def State.freeTiles (s : State) (j : ArrJob) : State :=
  s.each j.tiles (fun t u => if (u.tile t).op = .roll then u.freeTile t else u)

/-- Ends every running job that uses tile `t`: its roll completes VOID (R511, R512, R539). -/
def State.voidRunning (s : State) (t : Nat) : State :=
  let hit := s.arr.running.filter (fun j => j.tiles.contains t)
  let s1 := { s with arr := { s.arr with running := s.arr.running.filter (fun j => !j.tiles.contains t) } }
  s1.each hit (fun j u => (u.freeTiles j).endJob j 5 (some t))

/-! ### Offers -/

/-- The per-class limits of the queue (R531). -/
def classLimit (cls : Nat) : Nat :=
  match cls with
  | 0 => 1
  | 1 => 12
  | 2 => 2
  | _ => 1

/-- A job is offered (R531, R535, R538, R540). -/
def State.offer (s : State) (j : ArrJob) : State :=
  if s.dom .array ≠ 2 then s.endJob j 8 none
  else if classLimit j.cls ≤ (s.arr.queue.filter (fun k => k.cls == j.cls)).length then s.endJob j 1 none
  else if s.bit (F.ARR_Mm_CTL_EN j.model) = false then s.endJob j 2 none
  else
    match s.arr.load with
    | some l =>
      if s.modelUses j.model l.target then s.endJob j 6 (if l.target < 28 then some l.target else none)
      else { s with arr := { s.arr with queue := s.arr.queue ++ [j] } }
    | none => { s with arr := { s.arr with queue := s.arr.queue ++ [j] } }

/-- A feature as a signed byte: rounded half away from zero, then clamped. -/
def feature (q : Rat) : Int := max (-128) (min 127 (roundRat q))

/-- 2π to 40 digits, for the two features of the time of day. -/
def circle : Rat := 6283185307179586476925286766559005768394 / 10 ^ 39

/-- The terms of a sine or cosine series from term `t` (of degree `d`) on. -/
def trigSeries (x2 : Rat) : Nat → Nat → Rat → Rat
  | 0, _, _ => 0
  | n + 1, d, t => t + trigSeries x2 n (d + 2) (-(t * x2 / (((d + 1) * (d + 2) : Nat) : Rat)))

/-- 127 × sin or cos of 2π × k / 86,400, rounded half away from zero. The series is exact to far less than the distance
of any of its values from a half; `1/10^20` carries the exact halves at sines of ±1/2 outward. -/
def dayFeature (cos : Bool) (k : Nat) : Int :=
  let x := circle * ((k % 86400 : Nat) : Rat) / 86400
  let y := if x ≤ circle / 2 then x else x - circle
  let v := 127 * (if cos then trigSeries (y * y) 24 0 1 else trigSeries (y * y) 24 1 y)
  feature (if v < 0 then v - 1 / 10 ^ 20 else v + 1 / 10 ^ 20)

/-- 16 × log2(1 + n), rounded half away from zero. -/
def logFeature (n : Nat) : Int := max (-128) (min 127 (((Nat.log2 ((n + 1) ^ 32) + 1) / 2 : Nat) : Int))

/-- The i-th newest drift record. -/
def State.driftAgo (s : State) (i : Nat) : Option (List Byte) :=
  lookupKey ((s.get F.SRV_HIST_HEAD_NEXT + 4095 - i) % 4096) s.srv.hist

/-- FREQ, TEMP, HEAT and VALID of a drift record (R210). -/
def recFreq (b : List Byte) : Int := signedOf 32 (natAt b 4 4)
def recTemp (b : List Byte) : Int := signedOf 16 (natAt b 8 2)
def recHeat (b : List Byte) : Nat := natAt b 10 2
def recValid (b : List Byte) : Bool := bitOf (natAt b 13 1) 0

/-- The F1 second at the start of the interval that the last drift record opened. -/
def State.predSecond (s : State) : Int :=
  faceSec (s.pips .f1 s.nowSub) - (match s.srv.predFor with
    | some e => s.f0Sec - (e - 600)
    | none => 0)

/-- The inputs of a PRED job. -/
def State.predInputs (s : State) : List Int :=
  let freqs := (List.range 36).map (fun i =>
    match s.driftAgo i with
    | some b =>
      if recValid b then feature (((recFreq b : Rat) - dot s.srv.est (s.regressor (natAt b 0 4) (recTemp b))) / 20)
      else 0
    | none => 0)
  let temps := (List.range 12).map (fun i =>
    match s.driftAgo i with
    | some b => feature (((recTemp b - s.ival A.SRV_EST_TREF : Int) : Rat) / 10)
    | none => 0)
  let heats := (List.range 12).map (fun i =>
    match s.driftAgo i, s.driftAgo 0 with
    | some b, some b0 => feature ((((recHeat b : Int) - (recHeat b0 : Int) : Int) : Rat) / 2)
    | _, _ => 0)
  let k := (s.predSecond % 86400).toNat
  freqs ++ temps ++ heats ++ [dayFeature false k, dayFeature true k]

/-- Whether the interval that the last drift record opened is still in progress. -/
def State.predOpen (s : State) : Bool :=
  match s.srv.predFor with
  | some e => decide (s.f0Sec < e)
  | none => false

/-- SRV offers a predictor job while R203 holds. -/
def State.offerPred (s : State) : State :=
  if s.predOk then
    s.offer
      { cls := 0, model := 0, origin := (s.get F.SRV_HIST_HEAD_NEXT + 4095) % 4096, deadline := 60000
        inputs := [s.predInputs] }
  else s

/-- The residuals of a slot's last 32 on-time stamps, in pips, newest first. -/
def State.residuals (s : State) (n : Nat) : List Int := (s.slot n).resid.map (fun x => s.residual n x 0)

/-- The inputs of an INTEG job for slot `n`. -/
def State.integInputs (s : State) (n : Nat) : List Int :=
  let x := s.slot n
  let rs := s.residuals n
  let mean : Rat := (rs.sum : Rat) / 32
  let ns (q : Rat) : Int := feature (q / 65536)
  let g := s.get (F.REFM_Sn_CTL_QSRC n) - 1
  let gsv := s.val (A.REFM_GRXg_GSV g)
  let gnss := n < 8 && s.get (F.REFM_Sn_CTL_QSRC n) != 0
  let tacc := match s.slotUart n with
    | some { pmqst := some { tacc := some k, .. }, .. } => feature ((k : Rat) / 10)
    | _ => -128
  let ant := if s.get F.REFM_ANT_CTL_SLOT = n ∧ s.refm.ima ≠ [] then
      feature (((s.val A.REFM_ANT_IMA : Rat) - ((s.refm.ima.sum : Rat) / (s.refm.ima.length : Rat))) / 5)
    else 0
  let path := match x.jobMpd with
    | some m =>
      if 8 ≤ n then ns ((signedOf 64 (s.multi (A.PTP_Pp_MPD_HI (n - 8)) 2) - m : Int) : Rat) else 0
    | none => 0
  rs.map (fun r => ns ((r : Rat) - mean)) ++
    [(match x.jobMean with
        | some m => ns (mean - m)
        | none => 0),
      if gnss then feature ((bitsAt gsv 0 8 : Nat) : Rat) else 0,
      if gnss && gsv != 0 then feature (((bitsAt gsv 8 8 : Nat) : Rat) - 40) else 0,
      tacc, feature (((s.iqOf n * 8 : Nat) : Rat)), ant,
      if s.tb.checkSlot = some n then feature ((s.ival A.TB_TIM_REF_DEV : Rat) / 10) else 0, path]

/-- Whether REFM offers jobs for a slot. -/
def State.integDue (s : State) (n : Nat) : Bool :=
  s.bit (F.REFM_Sn_CTL_EN n) && s.bit (F.REFM_Sn_CTL_INTEG_EN n) && (s.slot n).resid.length == 32

/-- REFM offers an integrity job for slot `n`. -/
def State.offerInteg (s : State) (n : Nat) : State :=
  if s.integDue n then
    let mean : Rat := ((s.residuals n).sum : Rat) / 32
    let j : ArrJob := { cls := 1, model := 1, origin := n, deadline := 1000, inputs := [s.integInputs n] }
    (s.setSlot n { s.slot n with
      jobMean := some mean
      jobMpd := if 8 ≤ n then some (signedOf 64 (s.multi (A.PTP_Pp_MPD_HI (n - 8)) 2)) else none }).offer j
  else s

/-- The inputs of a flow's vector. -/
def State.flowInputs (s : State) (f : Flow) : List Int :=
  [logFeature f.reqs, logFeature f.refs,
    (match f.score with
      | some (_, t) => feature (((s.tally - t : Nat) : Rat) / (ticksPerSec : Rat))
      | none => 127),
    (match f.score with
      | some (v, _) => feature ((v : Rat) / 2)
      | none => 0),
    if f.reqs = 0 then 0 else feature (127 * (f.refs : Rat) / (f.reqs : Rat)),
    if f.v6 then 127 else 0]

/-- Whether a flow becomes a vector of a batch. -/
def State.flowCounts (s : State) (f : Flow) : Bool :=
  let shielded := match s.ovrFor f.v6 (s.flowAddr f) with
    | some o => s.bit (F.ADM_OVRo_CTL_NO_SCORE o)
    | none => false
  let old := match f.score with
    | some (_, t) => decide (s.val A.ADM_SCORE_TMO * ticksPerSec < 2 * (s.tally - t))
    | none => false
  !shielded && (decide (0 < f.reqs) || old)

/-- ADM offers the next batch (R469). -/
def State.offerAbuse (s : State) : State :=
  if s.up .pipe = true ∧ s.bit F.ADM_CTL_EN = true ∧ s.bit F.ADM_CTL_SCORE_EN = true then
    let first := s.arr.sweep
    let s1 := { s with arr := { s.arr with sweep := (first + 32) % 16384 } }
    let fs := (List.range 32).flatMap (fun k =>
      s.net.adm.flows.filter (fun f => f.set_ == first + k && s.flowCounts f))
    if fs = [] then s1
    else
      s1.offer
        { cls := 2, model := 2, origin := first, deadline := s.val A.ARR_ABUSE_INTV
          inputs := fs.map s.flowInputs, tags := fs.map (fun f => f.tag) }
  else s

/-- The bytes of ARRW.IN as signed values. -/
def State.userBytes (s : State) : List Int :=
  (List.range 64).flatMap (fun i => (bytesOfWord (s.rd (A.ARRW_IN i))).map (fun b => signedOf 8 b.toNat))

/-- USER_SUBMIT (R537). -/
def State.userSubmit (s : State) (v : Nat) : Written :=
  if v = 1 then
    if within (s.get F.ARR_USER_STAT_STATE) 1 2 then s.rejected .range
    else
      let m := s.get F.ARR_USER_DESC_MODEL
      let tag := s.get F.ARR_USER_DESC_TAG
      let n := s.get (F.ARR_Mm_Ss_CTL_IN_LEN m 0) - flagVal (s.bit (F.ARR_Mm_CTL_BIAS m))
      let s1 := ((s.put F.ARR_USER_STAT_STATE 1).put F.ARR_USER_STAT_REASON 0).put F.ARR_USER_STAT_TAG tag
      (s1.offer
        { cls := 3, model := m, origin := tag, deadline := s.val A.ARR_USER_DEADLINE
          inputs := [s.userBytes.take n] }).ok
  else s.rejected .range

/-- A job of class `cls` is offered by its block, under that block's conditions (R203, R161, R469, R537). -/
def State.jobOffer (s : State) (cls n : Nat) : State :=
  match cls with
  | 0 => s.inside .time s.predOpen State.offerPred
  | 1 => s.inside .time (decide (n < 12)) (fun s => s.offerInteg n)
  | 2 => s.offerAbuse
  | _ => s.inside .array true (fun s => (s.userSubmit 1).state)

/-! ### Starting and ending -/

/-- Whether a tile lets a job of its model go on: READY and not holding new jobs, or FAILED (R506, R532). -/
def State.tileLets (s : State) (t : Nat) : Bool :=
  (s.tileState t == tileReady && !(s.tile t).hold) || s.tileState t == 7

/-- The queued job that starts next: the first of its class, by class (R532). -/
def State.nextJob (s : State) : Option ArrJob :=
  (List.range 4).findSome? (fun c =>
    match s.arr.queue.find? (fun j => j.cls == c) with
    | some j => if (s.modelTiles j.model).all s.tileLets then some j else none
    | none => none)

/-- The first job of the queue with a class, removed. -/
def dropFirst (c : Nat) : List ArrJob → List ArrJob
  | [] => []
  | j :: l => if j.cls = c then l else j :: dropFirst c l

/-- A job starts and its rolls run (R482 to R491, R517 to R523, R532, R533). `codes` are the conversions of its analog
rolls in order, `ecc` the memory errors its rolls meet (tile, row, uncorrectable), and `reloads` gives for each layer
reload the row whose write fails, if one does. -/
def State.jobStart (s : State) (codes : List Nat) (ecc : List (Nat × Nat × Bool)) (reloads : List (Option Nat)) : State :=
  match s.nextJob with
  | none => s
  | some j =>
    let s1 := { s with arr := { s.arr with queue := dropFirst j.cls s.arr.queue } }
    match (s.modelTiles j.model).find? (fun t => s.tileState t == 7) with
    | some t => s1.endJob j 3 (some t)
    | none =>
      let s2 := s1.each (s.modelTiles j.model) (fun t u => u.setTile t { u.tile t with op := .roll })
      let s3 := if j.cls = 3 then s2.put F.ARR_USER_STAT_STATE 2 else s2
      let r := JobRun.vectors { state := s3, codes := codes, ecc := ecc, reloads := reloads, x := [] } j.model j.inputs
      let ran : ArrJob := { j with
        tiles := s.modelTiles j.model
        layers := s.modelLayers j.model
        results := r.2
        values := r.2.map (s.outValue j.model)
        spoilt := r.1.stop <|> r.1.sat.map (fun t => (4, t)) }
      let u := r.1.state
      { u with arr := { u.arr with running := u.arr.running ++ [ran] } }

/-- A layer image's row write begins, once no running job reloads that image (R525). -/
def State.layerKick (s : State) : State :=
  match s.arr.load with
  | some l =>
    let busy := s.arr.running.any (fun j => j.layers.contains (l.target - 28))
    match l.rows with
    | (r, _) :: _ =>
      if 28 ≤ l.target ∧ l.writing = false ∧ busy = false then
        { s with arr := { s.arr with
            load := some { l with writing := true }
            layers := s.arr.layers.setIfInBounds (l.target - 28) ((s.arr.layers.getD (l.target - 28) {}).clearValid r) } }
      else s
    | [] => s
  | none => s

/-- A model's running job completes (R535). -/
def State.jobComplete (s : State) (m : Nat) : State :=
  match s.arr.running.find? (fun j => j.model == m) with
  | none => s
  | some j =>
    let s1 := { s with arr := { s.arr with running := s.arr.running.filter (fun k => k.model != m) } }
    let s2 := (s1.freeTiles j).layerKick
    match j.spoilt with
    | none => s2.endJob j 0 none
    | some (reason, t) => s2.endJob j reason (some t)

/-- The k-th queued job passes its deadline (R534). -/
def State.jobDeadline (s : State) (k : Nat) : State :=
  match s.arr.queue[k]? with
  | none => s
  | some j => ({ s with arr := { s.arr with queue := s.arr.queue.eraseIdx k } }).endJob j 7 none

/-! ### Loads -/

/-- The row buffers of the load engine that are free (R527). -/
def ImageLoad.space (l : ImageLoad) : Nat := 8 - l.rows.length - (if l.part = [] then 0 else 1)

/-- The image of a load target. -/
def State.image (s : State) (target : Nat) : Image :=
  if 28 ≤ target then s.arr.layers.getD (target - 28) {} else (s.tile target).img

/-- The state with the image of a load target replaced. -/
def State.setImage (s : State) (target : Nat) (g : Image) : State :=
  if 28 ≤ target then { s with arr := { s.arr with layers := s.arr.layers.setIfInBounds (target - 28) g } }
  else s.setTile target { s.tile target with img := g }

/-- A tile that was FAILED runs its start sequence once its load has ended (R507). -/
def State.restartTile (s : State) (t : Nat) : State :=
  if isTile t && (s.tile t).restart && (s.tile t).op == .idle then s.tileStarts t else s

/-- A GO is turned away, or a load ends ABORTED (R525, R529). -/
def State.loadAborts (s : State) (reason : Nat) : State :=
  (((s.put F.ARR_LOAD_STAT_STATE 3).put F.ARR_LOAD_STAT_REASON reason).setBit F.ARR_JOB_STAT_LOAD_ABORT_SEEN true).raise
    Ev.LOAD_ABORT

/-- The load in progress ends ABORTED. -/
def State.abortLoad (s : State) (reason : Nat) : State :=
  match s.arr.load with
  | none => s
  | some l => (({ s with arr := { s.arr with load := none } }).loadAborts reason).restartTile l.target

/-- Cancels the load on a tile, if there is one (R529). -/
def State.cancelLoadOn (s : State) (t : Nat) : State := if (s.loadOn t).isSome then s.abortLoad 9 else s

/-- The weight bytes of a row of a target, and the rows of an image. -/
def targetAnalog (target : Nat) : Bool := decide (target < 12)
def rowBytes (target : Nat) : Nat := if targetAnalog target then 128 else 256
def imageRows (target mask : Nat) : Nat := if targetAnalog target then 64 * (groupsOf mask).length else 256
def vectorBytes (target : Nat) : Nat := if targetAnalog target then 4096 else 5120

/-- The row number of the k-th row of an image. -/
def rowNumber (target mask k : Nat) : Nat :=
  if targetAnalog target then 64 * (groupsOf mask).getD (k / 64) 0 + k % 64 else k

/-- Whether an image header is accepted (R524, R529). -/
def headerOk (target : Nat) (h : List Byte) : Bool :=
  let at_ (k : Nat) := natAt h k 1
  natAt h 0 4 == 0x4D514149 && at_ 4 == 1 && at_ 5 == flagVal (!targetAnalog target) && decide (at_ 6 ≤ 3) &&
    bitsAt (at_ 7) 2 2 == 0 && bitsAt (at_ 7) 6 2 == 0 &&
    (if targetAnalog target then at_ 8 != 0 else at_ 8 == 0) && at_ 9 == 4 && natAt h 10 2 == 0 &&
    natAt h 16 48 == 0

/-- The signed bytes of a list. -/
def signedBytes (bs : List Byte) : List Int := bs.map (fun b => signedOf 8 b.toNat)

/-- The test vectors of an image (R524). -/
def testVectors (target : Nat) (bs : List Byte) : List TestVector :=
  let n := tileRows (if targetAnalog target then 0 else 16)
  let m := tileOuts (if targetAnalog target then 0 else 16)
  (List.range 4).map (fun k =>
    let off := k * (n + 4 * m)
    { inputs := signedBytes (slice bs off n)
      want := (List.range m).map (fun j => signedOf 32 (natAt bs (off + n + 4 * j) 4)) })

/-- The load ends DONE once the CRC has matched and every row is written (R528). -/
def State.tryFinish (s : State) : State :=
  match s.arr.load with
  | none => s
  | some l =>
    let busy := l.writing || (match (s.tile l.target).op with
      | .row _ _ => isTile l.target
      | _ => false)
    if l.crcOk = true ∧ l.rows = [] ∧ busy = false then
      let g := s.image l.target
      let s1 := (({ s with arr := { s.arr with load := none } }).setImage l.target
        { g with ok := true, vectors := testVectors l.target l.tail }).put F.ARR_LOAD_STAT_STATE 2
      let s2 := (s1.put F.ARR_LOAD_STAT_REASON 0).raise Ev.LOAD_DONE
      if isTile l.target then
        ((s2.setTile l.target { s2.tile l.target with wantCheck := true, checkFailed := false }).kick l.target).restartTile l.target
      else s2
    else s

/-- The state with the load in progress replaced. -/
def State.setLoad (s : State) (l : ImageLoad) : State := { s with arr := { s.arr with load := some l } }

/-- The 64 header bytes have arrived (R526). -/
def State.loadHeader (s : State) (l : ImageLoad) : State :=
  if headerOk l.target l.head then
    let h := l.head
    let g := s.image l.target
    (s.setLoad l).setImage l.target { g with
      kind := natAt h 5 1
      model := natAt h 6 1
      stage := bitsAt (natAt h 7 1) 0 2
      block := bitsAt (natAt h 7 1) 4 2
      mask := natAt h 8 1
      gen := natAt h 12 4 }
  else (s.setLoad l).abortLoad 4

/-- Four weight bytes arrive (R526, R527). -/
def State.loadWeights (s : State) (l : ImageLoad) (bs : List Byte) (mask : Nat) : State :=
  if l.part = [] ∧ l.space = 0 then (s.setLoad l).abortLoad 6
  else if targetAnalog l.target && (signedBytes bs).any (fun w => decide (w < -15) || decide (15 < w)) then
    (s.setLoad l).abortLoad 5
  else
    let part := l.part ++ bs
    if part.length = rowBytes l.target then
      let l1 : ImageLoad := { l with
        part := []
        rows := l.rows ++ [(rowNumber l.target mask l.rowsGot, part)]
        rowsGot := l.rowsGot + 1 }
      if isTile l.target then (s.setLoad l1).kick l.target else (s.setLoad l1).layerKick
    else s.setLoad { l with part := part }

/-- A write to ARRW.LOAD_DATA (R526 to R529). Without a load, or behind its last byte, it does nothing. -/
def State.loadData (s : State) (v : Word) : State :=
  match s.arr.load with
  | none => s
  | some l =>
    let bs := bytesOfWord v
    let mask := (s.image l.target).mask
    let weightsEnd := 64 + rowBytes l.target * imageRows l.target mask
    let vectorsEnd := weightsEnd + vectorBytes l.target
    let l1 : ImageLoad := { l with got := l.got + 4, crc := bs.foldl crc32Byte l.crc }
    if l.got < 64 then
      let l2 : ImageLoad := { l1 with head := l.head ++ bs }
      if l2.got = 64 then s.loadHeader l2 else s.setLoad l2
    else if l.got < weightsEnd then s.loadWeights l1 bs mask
    else if l.got < vectorsEnd then s.setLoad { l1 with tail := l.tail ++ bs }
    else if l.got = vectorsEnd then
      if beNat bs = l.crc ^^^ 0xFFFFFFFF then (s.setLoad { l1 with crcOk := true }).tryFinish
      else (s.setLoad l1).abortLoad 8
    else s

/-- The targets of a load (R525). -/
def loadTarget (t : Nat) : Bool := isTile t || within t 28 31

/-- LOAD_CTL GO (R525, R526, R538). -/
def State.loadGo (s : State) (t : Nat) : State :=
  let x := s.tile t
  let off := isTile t && (!s.bit (tileEn t) || x.draining || x.resetting)
  if s.mode.now ≠ .maintain ∧ s.mode.now ≠ .calibrate then s.loadAborts 1
  else if s.arr.load.isSome then s.loadAborts 2
  else if off then s.loadAborts 3
  else
    let s1 := (s.setLoad { target := t }).setImage t { s.image t with ok := false }
    let s2 := ((s1.put F.ARR_LOAD_STAT_STATE 1).put F.ARR_LOAD_STAT_REASON 0).put F.ARR_LOAD_STAT_ROWS_DONE 0
    s2.voidQueued (fun j => if s2.modelUses j.model t then some 6 else none)

/-- A row of the load has been written to its target. -/
def State.rowLoaded (s : State) (target : Nat) (good : Bool) : State :=
  match s.arr.load with
  | some l =>
    if l.target = target then
      if good then
        (s.setLoad { l with rows := l.rows.drop 1, writing := false }).put F.ARR_LOAD_STAT_ROWS_DONE
          (s.get F.ARR_LOAD_STAT_ROWS_DONE + 1)
      else (s.setLoad { l with writing := false }).abortLoad 7
    else s
  | none => s

/-- Stuck data cells of a row write (R494). -/
def State.stuckCells (s : State) (t k : Nat) : State :=
  if k = 0 ∨ analogTile t = false then s
  else
    let x := s.tile t
    (s.setTile t { x with stuck := satAdd 65535 x.stuck k }).seenOnce (tileFlag t 9) Ev.TILE_STUCK

/-- A tile whose load has ended meanwhile runs its start sequence. -/
def State.restartIfFree (s : State) (t : Nat) : State := if (s.loadOn t).isSome then s else s.restartTile t

/-- The load on a tile ends DONE once it is complete (R528). -/
def State.finishOn (s : State) (t : Nat) : State := if (s.loadOn t).isSome then s.tryFinish else s

/-- A tile's row write ends (R492 to R496, R511, R512): `good` when its reference cells, or its read-back, are as
written. -/
def State.rowDone (s : State) (t stuck : Nat) (good : Bool) : State :=
  let x := s.tile t
  match x.op with
  | .row r bytes =>
    if x.resetting then
      let s1 := s.setTile t { x with op := .idle, resetting := false }
      if x.draining then s1 else s1.tileStarts t
    else
      let s1 := s.stuckCells t stuck
      let y := s1.tile t
      let s2 := s1.setTile t { y with op := .idle, img := y.img.writeRow r bytes good (if analogTile t then stuck else 0) }
      if x.draining then s2
      else (((s2.rowLoaded t good).kick t).finishOn t).restartIfFree t
  | _ => s

/-- A layer image's row write ends (R496). -/
def State.layerRowDone (s : State) (target : Nat) (good : Bool) : State :=
  match s.arr.load with
  | some { target := t, rows := (r, bytes) :: _, writing := true, .. } =>
    if t = target then
      (((s.setImage target ((s.image target).writeRow r bytes good 0)).rowLoaded target good).layerKick).tryFinish
    else s
  | _ => s

/-! ### Tile commands -/

/-- EN = 0 (R512, R529). -/
def State.tileDisable (s : State) (t : Nat) : State :=
  let s1 := (s.voidRunning t).cancelLoadOn t
  let x := s1.tile t
  match x.op with
  | .row _ _ => s1.setTile t { x with draining := true }
  | _ => s1.setTile t x.off

/-- A write of a tile's EN (R508, R512). -/
def State.tileEnWrite (s : State) (t : Nat) (on : Bool) : State :=
  let was := s.bit (tileEn t)
  let x := s.tile t
  let s1 := s.setBit (tileEn t) on
  if x.draining then s1
  else if on && !was then s1.tileStarts t
  else if !on && was then (s.tileDisable t).setBit (tileEn t) false
  else s1

/-- A disable completes (R512). -/
def State.tileDrainDone (s : State) (t : Nat) : State :=
  let x := s.tile t
  if x.draining = true ∧ x.op = .idle then
    let s1 := s.setTile t x.off
    if s.bit (tileEn t) && s.dom .array == 2 then s1.tileStarts t else s1
  else s

/-- A tile block reset (R511, R529, R539). A disable that is completing goes on (R512): its row write is abandoned. -/
def State.tileReset (s : State) (t : Nat) : State :=
  if s.dom .array ≠ 2 ∨ (s.bit (tileEn t) = false ∧ (s.tile t).draining = false) then s
  else
    let s1 := (s.voidRunning t).cancelLoadOn t
    let x := s1.tile t
    match x.op with
    | .row _ _ => s1.setTile t { x with resetting := true, coefs := [] }
    | _ => if x.draining then s1 else s1.tileStarts t

/-- A write of ARR.CMD (R510). -/
def State.arrCmd (s : State) (v : Nat) : Written :=
  let t := bitsAt v 0 5
  let op := bitsAt v 8 4
  let st := s.tileState t
  let idle := st == 0 || st == 7
  let x := s.tile t
  if isTile t = false ∨ op < 1 ∨ 3 < op then s.rejected .range
  else if op = 1 then
    if analogTile t = false ∨ idle = true then s.rejected .range
    else ((s.setTile t { x with wantRecal := true }).kick t).ok
  else if op = 2 then
    if idle then s.rejected .range else ((s.setTile t { x with wantCheck := x.img.ok }).kick t).ok
  else (s.tileReset t).ok

/-! ### The domain -/

/-- An orderly drop begins (R512, R540): jobs and the load end, and the tiles stop, their EN as it stands. -/
def State.arrShuts (s : State) : State :=
  let q := s.arr.queue ++ s.arr.running
  let s1 := { s with arr := { s.arr with queue := [], running := [] } }
  ((s1.each q (fun j u => u.endJob j 8 none)).abortLoad 9).each tileCodes (fun t u =>
    if u.bit (tileEn t) then u.tileDisable t else u)

/-- Jobs, loads and tiles when ARRAY drops or a warm reset restarts it (R513, R540). -/
def State.arrStops (s : State) : State :=
  let q := s.arr.queue ++ s.arr.running
  let s1 := { s with arr := { s.arr with queue := [], running := [] } }
  let s2 := (s1.each q (fun j u => u.endJob j 8 none)).abortLoad 9
  { s2 with arr := { s2.arr with tiles := s2.arr.tiles.map Tile.off } }

/-- Every tile with EN = 1 enters STARTING (R508, R513). -/
def State.arrStarts (s : State) : State := s.each tileCodes (fun t u => if u.bit (tileEn t) then u.tileStarts t else u)

/-! ### Register words -/

/-- A write of Mm_CTL (R520, R521, R541). While EN = 1, NSTAGES and BIAS keep their values. -/
def State.modelCtl (s : State) (m v : Nat) : Written :=
  let en := bitOf v 0
  let was := s.bit (F.ARR_Mm_CTL_EN m)
  let x := s.fitWrite (A.ARR_Mm_CTL m) v
    [(1, 2, !was || bitsAt v 1 2 == s.get (F.ARR_Mm_CTL_NSTAGES m)), (3, 1, !was || bitOf v 3 == s.bit (F.ARR_Mm_CTL_BIAS m))]
  if en && !was && !s.modelFits m (bitsAt v 1 2 + 1) (bitOf v 3) then s.rejected .range
  else if was && !en then { x with state := x.state.voidQueued (fun j => if j.model = m then some 2 else none) }
  else x

/-- The fields of a stage word or of Mm_OUT, and whether each is in range. -/
def stageFields (k v : Nat) : List (Nat × Nat × Bool) :=
  if k = 1 then []
  else
    match (k - 4) % 3 with
    | 0 => [(24, 3, decide (bitsAt v 24 3 ≤ 4))]
    | 1 => [(0, 12, within (bitsAt v 0 12) 1 2048), (12, 12, within (bitsAt v 12 12) 1 1024), (24, 2, decide (bitsAt v 24 2 ≤ 2))]
    | _ => [(0, 16, decide (1 ≤ bitsAt v 0 16))]

/-- Writes of the ARR bank that do more than store; none for the others. -/
def State.arrWrite (s : State) (w v : Nat) : Option Written :=
  if w = 0x0A then some (s.arrCmd v)
  else if w = 0x15 then
    if bitsAt v 8 8 < bitsAt v 0 8 then some (s.rejected .range) else none
  else if w = 0x1A then some (s.userSubmit v)
  else if 0x20 ≤ w ∧ w < 0x60 then
    let m := (w - 0x20) / 16
    let k := w % 16
    if k = 0 then some (s.modelCtl m v)
    else if s.bit (F.ARR_Mm_CTL_EN m) then some (s.rejected .range)
    else if k < 3 ∧ k ≠ 1 then none
    else if k = 3 then none
    else some (s.fitWrite (0x1400 + w) v (stageFields k v))
  else if w = 0x60 then
    let t := bitsAt v 0 5
    let op := bitsAt v 8 2
    if loadTarget t = false ∨ op = 0 ∨ op = 3 then some (s.rejected .range)
    else if op = 1 then some (s.loadGo t).ok
    else some (s.abortLoad 9).ok
  else if w = 0x62 then
    if loadTarget (bitsAt v 0 5) then none else some (s.rejected .range)
  else if 0x80 ≤ w ∧ w < 0x100 ∧ w % 8 = 0 then
    let t := if w < 0xE0 then (w - 0x80) / 8 else 16 + (w - 0xE0) / 8
    some (s.tileEnWrite t (bitOf v 0)).ok
  else none

/-- Words of the ARR bank the state computes. -/
def State.arrRead (s : State) (w : Nat) : Option Word :=
  let tiles (st : Nat → Bool) : Word :=
    wordOf ((tileCodes.map (fun t => if st (s.tileState t) then 2 ^ t else 0)).sum)
  match w with
  | 0x01 => some (tiles (fun k => within k 2 3))
  | 0x02 => some (tiles (fun k => k == 7))
  | 0x10 => some (wordOf (s.val A.ARR_JOB_STAT + s.arr.queue.length + s.arr.running.length * 256))
  | 0x61 =>
    some (wordOf (s.val A.ARR_LOAD_STAT + (match s.arr.load with
      | some l => l.space * 16
      | none => 0)))
  | 0x63 =>
    let g := s.image (s.get F.ARR_IMG_SEL_TARGET)
    some (wordOf (flagVal g.ok + g.kind * 2 + g.model * 16 + g.stage * 256 + g.block * 4096 + g.mask * 65536))
  | 0x64 => some (wordOf (s.image (s.get F.ARR_IMG_SEL_TARGET)).gen)
  | _ =>
    if 0x80 ≤ w ∧ w < 0x100 then
      let t := if w < 0xE0 then (w - 0x80) / 8 else 16 + (w - 0xE0) / 8
      let x := s.tile t
      match w % 8 with
      | 1 =>
        some (wordOf (s.val (tileBase t + 1) + s.tileState t + flagVal (s.deferred t) * 8 + flagVal x.temp.on * 16))
      | 5 =>
        some (wordOf (if analogTile t then x.stuck + x.img.invalid 512 * 65536 else x.img.invalid 256))
      | _ => none
    else none

end Sys2Proof.Machine
end

