-- ==== Sys2Proof/Machine/Mac.lean ====
section
/-! DEFINITION. The MACs and their timestamp units: link state, receive and transmit counting, pause, the hold
window, enable and disable, snapshots, latency calibration, settling, the margin, the transparent relay
(R260 to R339). -/

namespace Sys2Proof.Machine

/-! ### Frames that leave and frames that are discarded -/

/-- Counts `k` discarded slotted frames (R293). -/
def State.countDiscards (s : State) (p k : Nat) : State := s.macCount p 43 k

/-- Whether a context's frame stands staged on port `p`. -/
def Ctx.stagedOn (c : Ctx) (p : Nat) : Bool := c.port == p && c.stage == .staged

/-- Discards the uncommitted slotted frames of a port, of the contexts that meet `f` and of the relay; the contexts end
with outcome `o` (R293, R336, R337, R371). -/
def State.discardOf (s : State) (p o : Nat) (f : Ctx → Bool) : State :=
  let k := (s.net.pipe.ctxs.filter f).length + (s.eth p).relays.length
  ((s.setEth p { s.eth p with relays := [] }).countDiscards p k).endAll f o

/-- Discards every uncommitted slotted frame that a port holds (R293, R337). -/
def State.discardUncommitted (s : State) (p o : Nat) : State := s.discardOf p o (fun c => c.stagedOn p)

/-- Discards every slotted frame a port holds, and the frame it is sending (R293, R338). -/
def State.discardSlotted (s : State) (p : Nat) : State :=
  let s1 := s.discardUncommitted p outSlotDiscard
  let e := s1.eth p
  (s1.setEth p { e with committed := [], wire := [] }).countDiscards p (e.committed.length + e.wire.length)

/-- Discards unslotted frames that meet `f` and counts them in TX_HOLD_FLUSH (R295). -/
def State.flushPlain (s : State) (p : Nat) (f : PlainFrame → Bool) : State :=
  let e := s.eth p
  (s.setEth p { e with plain := e.plain.filter (fun x => !f x) }).macCount p 44 (e.plain.countP f)

/-- Queues an unslotted frame; a port that is down without a hold window drops it (R294, R295). -/
def State.queuePlain (s : State) (p : Nat) (x : PlainFrame) : State :=
  if (s.linkUp p && s.portOn p) || s.bit (F.MAC_STAT_HOLDING p) then
    let e := s.eth p
    s.setEth p { e with plain := e.plain ++ [{ x with held := s.bit (F.MAC_STAT_HOLDING p) }] }
  else (s.macCount p 45 1).setBit (F.MAC_STAT_GONE_SEEN p) true

/-- A slotted frame reaches a port that is down (R294). -/
def State.portGone (s : State) (p : Nat) : State := (s.macCount p 45 1).setBit (F.MAC_STAT_GONE_SEEN p) true

/-! ### Pause -/

/-- Subticks of `q` quanta (R277, R284). -/
def State.quanta (s : State) (p q : Nat) : Int := (q : Int) * 64 * byteTime5 (s.latMode p) / 5

/-- Whole microseconds that the last received pause has lasted at an instant (R284). -/
def State.pauseMicros (s : State) (p : Nat) (t : Int) : Int :=
  match (s.eth p).paused with
  | none => 0
  | some (from_, ends) => (min ends t - from_) / (1250 * 65536)

/-- One tick of a received pause: a microsecond that it completes counts in PAUSED_US (R284, R289). -/
def State.pauseTick (s : State) (p : Nat) : State :=
  let k := s.pauseMicros p s.nextSub - s.pauseMicros p s.nowSub
  if s.bit (F.MAC_STAT_PAUSED p) = true ∧ s.tallyRun = true ∧ 0 < k then s.macCount p 47 k.toNat else s

/-- One tick of the received pauses of all ports. -/
def State.pauseTicks (s : State) : State :=
  if s.up .net then s.each (List.range portCount) (fun p t => t.pauseTick p) else s

/-- The received pause ends (R284, R298). -/
def State.pauseEnds (s : State) (p : Nat) : State :=
  let t := match (s.eth p).paused with
    | none => s
    | some (from_, ends) =>
      if s.bit (F.MAC_STAT_PAUSED p) then s.setEth p { s.eth p with paused := some (from_, min ends s.nowSub) } else s
  t.setBit (F.MAC_STAT_PAUSED p) false

/-- A received pause runs out, in the tick in which its time ends and not before (R284). -/
def State.pauseRunsOut (s : State) (p : Nat) : State :=
  match (s.eth p).paused with
  | none => s
  | some (_, ends) => if ends < s.nextSub then s.pauseEnds p else s

/-- A valid PAUSE with RX_PAUSE = 1 (R284): it starts a pause, replaces the time that remains of one, or ends it. -/
def State.pauseReceived (s : State) (p q : Nat) : State :=
  if q = 0 then s.pauseEnds p
  else
    let began := match (s.eth p).paused with
      | none => s.nowSub
      | some (from_, ends) => if s.bit (F.MAC_STAT_PAUSED p) = true ∧ s.nowSub < ends then from_ else s.nowSub
    (s.setEth p { s.eth p with paused := some (began, s.nowSub + s.quanta p q) }).setBit (F.MAC_STAT_PAUSED p) true

/-- Whether the last received pause covers an instant (R285). -/
def State.pausedAt (s : State) (p : Nat) (t : Int) : Bool :=
  match (s.eth p).paused with
  | some (from_, ends) => decide (from_ ≤ t) && decide (t < ends)
  | none => false

/-- The instant at which a slotted frame starts: 8 byte times of preamble before its timestamp point reaches the frontier
(R308, R321). -/
def State.startAt (s : State) (p : Nat) (slot board : Int) : Int :=
  s.frontier p slot board - 8 * byteTime5 (s.latMode p) / 5

/-- Whether a received pause keeps the frame of a slot from starting (R284, R285). -/
def State.heldBack (s : State) (p : Nat) (slot board : Int) : Bool :=
  (s.eth p).paused.isSome && (s.pausedAt p slot || s.pausedAt p (s.startAt p slot board))

/-- Receive-buffer cells in use (R275). -/
def State.rxLevel (s : State) (p : Nat) : Nat :=
  ((s.eth p).rx.map (fun f => (wireLength f.bytes + 63) / 64 + 1)).sum

/-- One sample of the buffer level of a port whose link is up (R276 to R278, R298). -/
def State.xoffSample (s : State) (p : Nat) : State :=
  if s.linkUp p then
    let e := s.eth p
    let k : Descriptor :=
      { assertAt := s.get (F.MAC_RXB_WM_HIGH p), releaseAt := s.get (F.MAC_RXB_WM_LOW p), assertDwell := 1,
        releaseDwell := 1 }
    let q := Qual.sample .upper k (s.rxLevel p) e.xoff
    let s1 := (s.setEth p { e with xoff := q }).setBit (F.MAC_STAT_XOFF p) q.on
    if q.on && !e.xoff.on && s.bit (F.MAC_CTL_TX_PAUSE p) then
      ((s1.setEth p { s1.eth p with pauseOut := some (s.val (A.MAC_PAUSE_QUANTA p), s.nowSub) }).setBit
        (F.MAC_STAT_XOFF_SEEN p) true).raise Ev.RXB_XOFF
    else if !q.on && e.xoff.on then s1.setEth p { s1.eth p with pauseOut := some (0, s.nowSub) }
    else s1
  else s

/-- The PAUSE is sent again (R277). -/
def State.pauseAgain (s : State) (p : Nat) : State :=
  if s.bit (F.MAC_STAT_XOFF p) && s.bit (F.MAC_CTL_TX_PAUSE p) && s.linkUp p then
    s.setEth p { s.eth p with pauseOut := some (s.val (A.MAC_PAUSE_QUANTA p), s.nowSub) }
  else s

/-- Whether nothing on the port's timeline lies in the 84 byte times from now on (R280). -/
def State.pauseGap (s : State) (p : Nat) : Bool :=
  (s.timeline p).all (fun y => !overlap (s.nowSub, s.nowSub + ceilDiv (84 * byteTime5 (s.latMode p)) 5) y)

/-- The waiting PAUSE frame starts to leave, in a gap of the timeline (R279, R280, R303). -/
def State.pauseSend (s : State) (p : Nat) : State :=
  match (s.eth p).pauseOut with
  | none => s
  | some (q, _) =>
    if s.linkUp p && s.pauseGap p then
      let e := s.eth p
      let f : TxFrame :=
        { kind := .pause, bytes := pauseFrame (s.macAddr p) q, slot := s.nowSub + 8 * byteTime5 (s.latMode p) / 5 }
      s.setEth p { e with pauseOut := none, wire := e.wire ++ [f] }
    else s

/-! ### Link -/

/-- The link goes down (R265, R293, R295, R296, R298). -/
def State.linkDown (s : State) (p : Nat) : State :=
  let s1 := (((s.put (F.MAC_STAT_LINK_UP p) 0).macCount p 46 1).setBit (F.MAC_STAT_DOWN_SEEN p) true).raise Ev.LINK_DOWN
  let s2 := (s1.discardSlotted p).pauseEnds p
  let opened := (s2.eth p).holdOpen
  let s3 := s2.flushPlain p (fun x => opened && x.held)
  let e := s3.eth p
  let s4 := (s3.setEth p { e with pauseOut := none, xoff := {}, good := 0 }).setBit (F.MAC_STAT_XOFF p) false
  let s5 :=
    if s4.val (A.MAC_HOLD_WINDOW p) = 0 ∧ opened = false then s4.flushPlain p (fun _ => true)
    else
      (s4.setEth p { s4.eth p with
        holdOpen := true, plain := (s4.eth p).plain.map (fun x => { x with held := true }) }).setBit
        (F.MAC_STAT_HOLDING p) true
  s5.netLoss (8 + p)

/-- The port enters TS_SETTLING (R317), and its slot loses its signal (R150). -/
def State.settle (s : State) (p : Nat) : State :=
  ((s.setEth p { s.eth p with agreeing := 0, lastVars := none }).setBit (F.MAC_STAT_TS_SETTLING p) true).netLoss (8 + p)

/-- The link comes up (R264, R295, R298, R317). -/
def State.linkRises (s : State) (p : Nat) : State :=
  let s1 := ((s.setBit (F.MAC_STAT_LINK_UP p) true).setBit (F.MAC_STAT_HOLDING p) false).raise Ev.LINK_UP
  (s1.settle p).xoffSample p

/-- What a PCS sample reports. -/
structure Pcs where
  lock : Bool
  hiBer : Bool
  remoteFault : Bool
  anDone : Bool
  fullDuplex : Bool
  fecLock : Bool
  deriving DecidableEq, Repr

/-- One PCS sample (R264, R265), with the PCS and FEC errors detected since the last (R289). -/
def State.pcsSample (s : State) (p : Nat) (x : Pcs) (code corr uncorr : Nat) : State :=
  if s.portOn p = false ∨ s.portDraining p = true then s
  else
    let s1 := ((((s.setBit (F.MAC_STAT_PCS_LOCK p) x.lock).setBit (F.MAC_STAT_HI_BER p) x.hiBer).setBit
      (F.MAC_STAT_REMOTE_FAULT p) x.remoteFault).setBit (F.MAC_STAT_AN_DONE p)
      (x.anDone && s.bit (F.MAC_CTL_AN37 p)))
    let s2 := ((s1.macCount p 23 code).macCount p 24 corr).macCount p 25 uncorr
    let good := x.lock && !x.hiBer && !x.remoteFault && (x.anDone && x.fullDuplex || !s.bit (F.MAC_CTL_AN37 p)) &&
      (x.fecLock || !s.bit (F.MAC_CTL_FEC p))
    if s.bit (F.MAC_TS_STAT_CAL_BUSY p) then s2
    else if good then
      let e := s2.eth p
      let s3 := s2.setEth p { e with good := e.good + 1 }
      if s.linkUp p = false ∧ s.val (A.MAC_LINK_QUAL p) * 100 < e.good + 1 then s3.linkRises p else s3
    else
      let s3 := s2.setEth p { s2.eth p with good := 0 }
      if s.linkUp p then s3.linkDown p else s3

/-- The hold window ends (R295). -/
def State.holdExpired (s : State) (p : Nat) : State :=
  if (s.eth p).holdOpen then
    let s1 := s.setEth p { s.eth p with holdOpen := false }
    if s.bit (F.MAC_STAT_HOLDING p) then
      (s1.flushPlain p (fun _ => true)).setBit (F.MAC_STAT_HOLDING p) false
    else s1
  else s

/-! ### Receive -/

/-- The receive stamp of a frame whose timestamp point was latched in bin `k`, `ago` ticks before now (R307); none
under R310. -/
def State.rxStamp (s : State) (p k ago : Nat) : Option Int :=
  let m := s.latMode p
  if s.bit (F.VCAL_DLL_LOCKED (2 * p)) && s.bit (F.VCAL_DLL_LOCKED (2 * p + 1)) && !s.settling p && s.tallyRun then
    let adj : LatEntry := (lookupKey (p * 4 + m) s.net.lat).getD { tx := 0, rx := 0 }
    some (((s.tally : Int) - ago) * 65536 + (k : Int) * 2048 + 1024 - Config.latFac p m false - adj.rx -
      s.ival (A.MAC_RX_VAR p) - s.boardWord p 1)
  else none

/-- A relayed copy as it leaves in slot `slot` (R332, R333). -/
def RelayCopy.bytesAt (r : RelayCopy) (slot : Int) : List Byte :=
  match ptpAt r.bytes with
  | none => r.bytes
  | some (at_, via) =>
    if natAt r.bytes at_ 1 % 16 ≤ 1 then
      let c := signedOf 64 (natAt r.bytes (at_ + 8) 8) + faceTerm (slot - r.trx) r.rate
      if via = 0 then patch r.bytes (at_ + 8) (beBytes 8 (codeOf 64 c))
      else restamp r.bytes [(8, beBytes 8 (codeOf 64 c))]
    else r.bytes

/-- F0's rate in force in the present tick (R28, R333). -/
def State.rateNow (s : State) : Int := (s.facesAt s.nowSub).f0.rate

/-- A relayed copy takes a slot: it is complete in staging at its grant (R323, R332). -/
def State.stageRelay (s : State) (q : Nat) (r : RelayCopy) : State :=
  let e := s.eth q
  s.setEth q { e with relays := e.relays ++ [r], largestN := some (max 0 (e.largestN.getD 0)) }

/-- One copy for one port (R294, R319, R331, R332). -/
def State.relayTo (s : State) (bytes : List Byte) (trx : Int) (q : Nat) : State :=
  if s.linkUp q && s.portOn q then
    if s.settling q then s.count (⟨A.MAC_DROP_C q, 0, 16⟩) 1
    else
      match s.askSlot q (wireLength bytes) with
      | (s1, none) => s1
      | (s1, some t) => s1.stageRelay q ⟨bytes, trx, s.rateNow, t, s.nowSub, s.boardWord q 0, 0⟩
  else s.portGone q

/-- The transparent relay (R331, R334). -/
def State.relay (s : State) (p : Nat) (bytes : List Byte) (trx : Option Int) : State :=
  match trx, ptpAt bytes with
  | some t, some (at_, _) =>
    let type := natAt bytes at_ 1 % 16
    if s.bit (F.MAC_TS_CTL_RELAY_EN p) && !s.safe && ptpMulticast.contains (frameDst bytes) && type != 2 && type != 3 then
      s.each ((List.range portCount).filter (fun q => q != p && bitOf (s.get (F.MAC_TS_CTL_RELAY_MASK p)) q))
        (fun q u => u.relayTo bytes t q)
    else s
  | _, _ => s

/-- A received PAUSE (R282 to R284). -/
def State.rxPause (s : State) (p : Nat) (f : List Byte) : State :=
  if frameTag f = none ∧ (frameDst f = beBytes 6 0x0180C2000001 ∨ frameDst f = s.macAddr p) then
    let s1 := s.setBit (F.MAC_STAT_PAUSE_RX_SEEN p) true
    if s.bit (F.MAC_CTL_RX_PAUSE p) then s1.pauseReceived p (natAt f 16 2) else s1
  else s

/-- A frame passes to the receive buffer (R269 row 11). -/
def State.rxGood (s : State) (p entry : Nat) (f : List Byte) (trx : Option Int) : State :=
  let l := wireLength f
  let s1 := (((s.macCount p 0 1).macCount p 1 l).macCount p (2 + castClass (frameDst f)) 1).macCount p (6 + sizeClass l) 1
  let s2 := if (frameTag f).isSome then s1.macCount p 5 1 else s1
  let e := s2.eth p
  (s2.setEth p { e with rx := e.rx ++ [{ bytes := f, entry := entry, trx := trx }] }).relay p f trx

/-- A received frame with a good FCS and a length the port takes (R269 rows 6 to 11). -/
def State.rxSound (s : State) (p : Nat) (f : List Byte) (trx : Option Int) : State :=
  if frameType f = etherPause then
    if natAt f (typeAt f + 2) 2 = 1 then (s.macCount p 13 1).rxPause p f else s.macCount p 14 1
  else if s.accepts p (frameDst f) = false then s.macCount p 21 1
  else
    match s.entryOf p f with
    | none => s.macCount p 22 1
    | some e =>
      if 4096 < s.rxLevel p + (wireLength f + 63) / 64 + 1 then
        (s.macCount p 20 1).seenOnce (F.MAC_STAT_DROP_SEEN p) Ev.RXB_DROP
      else s.rxGood p e f trx

/-- A frame has been received, its FCS behind it (R268, R269). A disable stops the port from admitting frames (R299). -/
def State.rxFrame (s : State) (p : Nat) (raw : List Byte) (k ago : Nat) : State :=
  let l := raw.length
  let ok := fcsGood raw
  if s.portOn p = false ∨ s.portDraining p = true then s
  else if l < 64 then s.macCount p (if ok then 16 else 17) 1
  else if s.val (A.MAC_MAX_LEN p) < l then s.macCount p (if ok then 18 else 19) 1
  else if ok = false then (s.macCount p 15 1).setBit (F.MAC_STAT_FCS_SEEN p) true
  else s.rxSound p (fcsBody raw) (s.rxStamp p k ago)

/-! ### Transmit -/

/-- Whether the transmitter pins of a port are in electrical idle: NET is not on, the port is disabled and has drained, or a
latency calibration runs (R6, R299, R313). -/
def State.txIdle (s : State) (p : Nat) : Bool :=
  s.dom .net != 2 || (!s.portOn p && !s.portDraining p) || s.bit (F.MAC_TS_STAT_CAL_BUSY p)

/-- A frame has left, with the FCS over it as it left (R267, R286). -/
def State.txCount (s : State) (p : Nat) (f : TxFrame) : State :=
  let l := wireLength f.bytes
  let s0 := s.setEth p { s.eth p with sent := withFcs f.bytes }
  let s1 := (((s0.macCount p 26 1).macCount p 27 l).macCount p (28 + castClass (frameDst f.bytes)) 1).macCount p
    (32 + sizeClass l) 1
  let s2 := if (frameTag f.bytes).isSome then s1.macCount p 31 1 else s1
  s2.macCount p (match f.kind with
    | .pause => 39
    | .slotted => 40
    | .unslotted => 41
    | .relay => 42) 1

/-- When a frame of `l` bytes whose last FCS byte leaves now began: 8 byte times of preamble and the frame before it. -/
def State.beganAt (s : State) (p l : Nat) : Int := s.nowSub - ((l : Int) + 8) * byteTime5 (s.latMode p) / 5

/-- Whether an unslotted frame of `l` bytes can be the one that leaves now: no received pause had stopped its start (R284),
no PAUSE frame was waiting then (R280), and it lies over no reservation (R321). -/
def State.plainFits (s : State) (p l : Nat) : Bool :=
  let a := s.beganAt p l
  !s.txIdle p && s.linkUp p && s.portOn p && !s.pausedAt p a && (s.timeline p).all (fun y => !overlap (a, s.nowSub) y) &&
    (match (s.eth p).pauseOut with
      | none => true
      | some (_, since) => decide (a < since))

/-- The last FCS byte of a frame leaves: the frame on the wire, else the first unslotted frame (R266, R286). -/
def State.txDone (s : State) (p : Nat) : State :=
  let e := s.eth p
  match e.wire, e.plain with
  | f :: rest, _ => (s.setEth p { e with wire := rest }).txCount p f
  | [], x :: rest =>
    if s.plainFits p (wireLength x.bytes) then
      (s.setEth p { e with plain := rest }).txCount p { kind := .unslotted, bytes := x.bytes }
    else s
  | [], [] => s

/-- How far a transmit stamp in bin `bin` of the present tick lies from the instant R308 gives, in subticks (R330). -/
def State.launchDev (s : State) (p : Nat) (f : TxFrame) (bin : Nat) : Int :=
  |s.nowSub + (bin : Int) * 2048 + 1024 - s.frontier p f.slot f.board|

/-- The port's first committed frame crosses the frontier, stamped in bin `bin` of the present tick (R308, R330). The MAC
releases no frame before the tick of its frontier instant, and starts none in a received pause (R284). -/
def State.slotLaunch (s : State) (p bin : Nat) : State :=
  let e := s.eth p
  match e.committed with
  | [] => s
  | f :: rest =>
    if s.frontier p f.slot f.board < s.nextSub ∧ s.linkUp p = true ∧
        s.pausedAt p (s.startAt p f.slot f.board) = false then
      let s1 := s.setEth p { e with committed := rest, wire := e.wire ++ [f] }
      if (s.val (A.MAC_TX_DEV_LIMIT p) : Int) * 65536 < s.launchDev p f bin * 800 then
        let s2 := ((s1.count ⟨A.MAC_DEV_B p, 16, 16⟩ 1).setBit (F.MAC_TS_STAT_DEV_SEEN p) true).raise Ev.TX_STAMP_DEV
        if s.bit (F.MAC_TS_CTL_DEV_SAFE p) then s2.enterSafe 19 else s2
      else s1
    else s

/-- A frame that is committed joins the port's committed frames, in the order of their slots. -/
def State.commitFrame (s : State) (p : Nat) (f : TxFrame) : State :=
  let e := s.eth p
  s.setEth p { e with
    committed := e.committed.filter (fun g => decide (g.slot ≤ f.slot)) ++ [f] ++
      e.committed.filter (fun g => decide (f.slot < g.slot)) }

/-- A miss is counted for the margin window, with MISS_SEEN (R323, R328). -/
def State.missSeen (s : State) (p : Nat) : State :=
  (s.setEth p { s.eth p with missed := true }).setBit (F.MAC_TS_STAT_MISS_SEEN p) true

/-- A frame is dropped for its misses (R328, R329). -/
def State.missDrop (s : State) (p : Nat) : State := (s.count (⟨A.MAC_MISS_B p, 0, 16⟩) 1).raise Ev.SLOT_MISS_DROP

/-- A relayed copy has missed its slot (R328, R334): it takes another, or is dropped at its fourth miss. -/
def State.relayMiss (s : State) (p : Nat) (r : RelayCopy) : State :=
  let s1 := s.missSeen p
  if 3 ≤ r.misses then s1.missDrop p
  else
    match s1.askSlot p (wireLength r.bytes) with
    | (s2, none) => s2
    | (s2, some t) =>
      let again : RelayCopy :=
        { r with slot := t, rate := s.rateNow, granted := s.nowSub, board := s.boardWord p 0, misses := r.misses + 1 }
      (s2.count (⟨A.MAC_MISS_A p, 0, 16⟩) 1).stageRelay p again

/-- A relayed copy reaches its commit point (R324, R334): `i` is its place among the port's copies. -/
def State.relayCommit (s : State) (p i : Nat) : State :=
  match (s.eth p).relays[i]? with
  | none => s
  | some r =>
    let s1 := s.setEth p { s.eth p with relays := (s.eth p).relays.eraseIdx i }
    if s.heldBack p r.slot r.board = false then
      s1.commitFrame p { kind := .relay, bytes := r.bytesAt r.slot, slot := r.slot, board := r.board, origin := .relayed r }
    else s1.relayMiss p r

/-- Safe Hold begins: LAUNCH discards every slotted frame that is not committed, whatever stage its context is in (R334,
R336). -/
def State.safeDropFrames (s : State) : State :=
  s.each (List.range portCount) (fun p t =>
    let f (c : Ctx) : Bool := c.port == p && c.hasSlot
    let k := (t.net.pipe.ctxs.filter f).length + (t.eth p).relays.length
    (t.count (⟨A.MAC_DROP_C p, 16, 16⟩) k).discardOf p outSafeDrop f)

/-! ### Latency calibration and settling -/

/-- LAT_RESULT codes. -/
def latNoTick : Nat := 4
def latCancelled : Nat := 6
def latRefused : Nat := 7
def latNoLoop : Nat := 8
def latSpread : Nat := 9

/-- A calibration ends or is refused with a reason (R312 to R314). -/
def State.latResult (s : State) (p reason spread : Nat) : State :=
  s.setVal (A.MAC_LAT_RESULT p) (reason + s.latMode p * 16 + min 255 spread * 256)

/-- An abort or a refusal of a calibration. -/
def State.latAbort (s : State) (p reason spread : Nat) : State :=
  (((s.latResult p reason spread).setBit (F.MAC_TS_STAT_CAL_BUSY p) false).setBit
    (F.MAC_TS_STAT_CAL_ABORT_SEEN p) true).raise Ev.LAT_CAL_ABORT

/-- Aborts a calibration in progress, if there is one. -/
def State.latCancel (s : State) (p reason : Nat) : State :=
  if s.bit (F.MAC_TS_STAT_CAL_BUSY p) then s.latAbort p reason 0 else s

/-- Whether both TSU DLLs of a port and the PLL are locked. -/
def State.tsuLocked (s : State) (p : Nat) : Bool :=
  s.bit F.TB_STAT_PLL_LOCK && s.bit (F.VCAL_DLL_LOCKED (2 * p)) && s.bit (F.VCAL_DLL_LOCKED (2 * p + 1))

/-- RUN (R312). -/
def State.latRun (s : State) (p : Nat) : State :=
  if s.bit (F.MAC_TS_STAT_CAL_BUSY p) then s
  else if s.linkUp p then s.latAbort p latRefused 0
  else if s.tsuLocked p = false then s.latAbort p latNoTick 0
  else if s.portOn p = false then s.latAbort p latCancelled 0
  else s.setBit (F.MAC_TS_STAT_CAL_BUSY p) true

/-- The stored calibrations, replaced. -/
def State.setLat (s : State) (l : List (Nat × LatEntry)) : State := { s with net := { s.net with lat := l } }

/-- DISCARD (R315). -/
def State.latDiscard (s : State) (p : Nat) : State := s.setLat (eraseKey (p * 4 + s.latMode p) s.net.lat)

/-- The calibration's 256 loop frames have been measured: their mean and spread in subticks (R313, R314). -/
def State.latDone (s : State) (p : Nat) (mean : Int) (spread : Nat) : State :=
  let bins := (spread + 2047) / 2048
  if s.bit (F.MAC_TS_STAT_CAL_BUSY p) = false then s
  else if 8192 < spread then s.latAbort p latSpread bins
  else
    let m := s.latMode p
    let d := mean - (Config.latFac p m true + Config.latFac p m false + Config.loopFac p m)
    (((s.setLat (insertKey (p * 4 + m) { tx := d / 2, rx := d - d / 2 } s.net.lat)).latResult p 0 bins).setBit
      (F.MAC_TS_STAT_CAL_BUSY p) false).raise Ev.LAT_CAL_DONE

/-- One measurement of RX_VAR and TX_VAR (R317). -/
def State.settleMeasure (s : State) (p : Nat) (rx tx : Int) : State :=
  if s.settling p && s.linkUp p && s.tsuLocked p then
    let e := s.eth p
    let n := match e.lastVars with
      | some (a, b) => if |rx - a| ≤ 2048 ∧ |tx - b| ≤ 2048 then e.agreeing + 1 else 1
      | none => 1
    let s1 := s.setEth p { e with agreeing := n, lastVars := some (rx, tx) }
    if 16 ≤ n then
      (((s1.setIval (A.MAC_RX_VAR p) rx).setIval (A.MAC_TX_VAR p) tx).setBit (F.MAC_STAT_TS_SETTLING p) false).raise
        Ev.TS_SETTLED
    else s1
  else s

/-- Settling has taken 20 ms (R318). -/
def State.settleSlow (s : State) (p : Nat) : State :=
  if s.settling p && s.linkUp p && s.tsuLocked p then
    ((s.setBit (F.MAC_TS_STAT_SLOW_SEEN p) true).raise Ev.TS_SETTLE_SLOW).linkDown p
  else s

/-- A margin window ends (R323). -/
def State.marginWindow (s : State) (p : Nat) : State :=
  let e := s.eth p
  let s1 := s.setEth p { e with largestN := none, missed := false }
  let most := s.get (F.MAC_MARGIN_MAX p)
  if e.missed then s1.setVal (A.MAC_MARGIN_NOW p) most
  else
    match e.largestN with
    | none => s1
    | some n =>
      let want : Rat := 5 / 4 * ((n : Rat) / 81920) + 200
      let m : Rat := max (s.get (F.MAC_MARGIN_FLOOR p) : Rat) (min (most : Rat) want)
      s1.setVal (A.MAC_MARGIN_NOW p) ((ceilRat (m / 25)).toNat * 25)

/-- The latency calibration that Calibrate owes a port runs once the port's DLLs are locked, while the mode lasts (`cal`) and
the port stays enabled without link (R312, R316). -/
def State.latOwed (s : State) (p : Nat) (cal : Bool) : State :=
  let e := s.eth p
  let done := s.setEth p { e with latDue := false }
  if e.latDue = false then s
  else if cal = false ∨ s.portOn p = false ∨ s.linkUp p = true then done
  else if s.tsuLocked p then done.latRun p
  else s

/-- Calibrate is entered: every port with EN = 1 and LINK_UP = 0 is owed a latency calibration (R316). -/
def State.latCalibrate (s : State) : State :=
  s.each (List.range portCount) (fun p t =>
    if t.portOn p && !t.linkUp p then t.setEth p { t.eth p with latDue := true } else t)

/-- A DLL of a port lost its lock: settling, discards, the end of a calibration (R314, R317, R337); and a calibration that
is owed may run (R316). -/
def State.portWatch (before s : State) : State :=
  s.each (List.range portCount) (fun p t =>
    let lost (d : Nat) : Bool := before.bit (F.VCAL_DLL_LOCKED d) && !t.bit (F.VCAL_DLL_LOCKED d)
    if lost (2 * p) || lost (2 * p + 1) then
      ((t.settle p).discardUncommitted p outSlotDiscard).latCancel p latNoTick
    else t.latOwed p (s.baseMode == .calibrate))

/-! ### Enable and disable -/

/-- A port starts its full sequence (R300, R129). -/
def State.portStart (s : State) (p : Nat) : State :=
  let e := s.eth p
  ((s.setEth p { e with good := 0 }).dllLose (2 * p)).dllLose (2 * p + 1)

/-- A port stops (R299): what it holds is discarded and DRAINING reads 1 until it is done. -/
def State.portStop (s : State) (p : Nat) : State :=
  let s1 := (((s.discardSlotted p).flushPlain p (fun _ => true)).pauseEnds p).latCancel p latCancelled
  let e := s1.eth p
  let s2 := s1.setEth p { e with pauseOut := none, xoff := {}, good := 0, holdOpen := false }
  ((((s2.setBit (F.MAC_STAT_LINK_UP p) false).setBit (F.MAC_STAT_HOLDING p) false).setBit
    (F.MAC_STAT_XOFF p) false).setBit (F.MAC_STAT_PCS_LOCK p) false).setBit (F.MAC_STAT_DRAINING p) true

/-- A disable completes once the receive buffer has passed to INTAKE (R299, R300). -/
def State.portDrained (s : State) (p : Nat) : State :=
  if s.portDraining p && (s.eth p).rx.isEmpty then
    let s1 := s.setBit (F.MAC_STAT_DRAINING p) false
    if s.portOn p && s.dom .net == 2 then s1.portStart p else s1
  else s

/-- Whether EN = 1 may be written (R262). -/
def State.portMayRun (s : State) (p v : Nat) : Bool :=
  let mac := s.macAddr p
  natAt mac 0 6 != 0 && natAt mac 0 1 % 2 == 0 && !(bitOf v 3 && bitsAt v 1 2 != 2) && !(bitOf v 4 && bitsAt v 1 2 != 0)

/-- The fields of a MACn.CTL word that have a range (R15). -/
def macCtlFields (v : Nat) : List (Nat × Nat × Bool) := [(1, 2, decide (bitsAt v 1 2 ≠ 3))]

/-- A write of MACn.CTL (R261, R262, R299, R300): a SPEED out of range keeps its value (R15), and the word that results is
judged whole. -/
def State.macCtlWrite (s : State) (p v : Nat) : Written :=
  let was := s.portOn p
  let x := fitted (s.val (A.MAC_CTL p)) v (macCtlFields v) % 128
  if (was = true ∨ s.portDraining p = true) ∧ bitsAt x 1 4 ≠ bitsAt (s.val (A.MAC_CTL p)) 1 4 then s.rejected .range
  else if bitOf x 0 = true ∧ s.portMayRun p x = false then s.rejected .range
  else
    let s1 := s.setVal (A.MAC_CTL p) x
    let w : Written :=
      if was = true ∧ bitOf x 0 = false then (s1.portStop p).ok
      else if was = false ∧ bitOf x 0 = true ∧ s.portDraining p = false then (s1.portStart p).ok
      else s1.ok
    w.judged (allFit (macCtlFields v))

/-- A port block reset (R304). -/
def State.portReset (s : State) (p : Nat) : State := if s.portOn p then s.portStop p else s

/-! ### Interface entries and other words -/

/-- Whether an IFe_CTL word with its address words is accepted (R274). -/
def State.entryOk (s : State) (p e v : Nat) (v4 v6 : List Byte) : Bool :=
  let vid := bitsAt v 16 12
  let tagged := bitOf v 1
  let others := (List.range entryCount).filter (fun k => k != e && s.entryOn p k)
  !(bitOf v 0 && !tagged && others.any (fun k => !s.bit (F.MAC_IFe_CTL_TAGGED p k))) &&
    !(bitOf v 0 && tagged && others.any (fun k => s.bit (F.MAC_IFe_CTL_TAGGED p k) && s.get (F.MAC_IFe_CTL_VID p k) == vid)) &&
    !(tagged && (vid == 0 || vid == 4095)) &&
    !(bitOf v 2 && (natAt v4 0 4 == 0 || isMulticastIp v4)) &&
    !(bitOf v 3 && (natAt v6 0 16 == 0 || isMulticastIp v6))

/-- The address words of an entry. -/
def entryWords (p e : Nat) : List Nat :=
  [A.MAC_IFe_V4 p e, A.MAC_IFe_V6 p e 0, A.MAC_IFe_V6 p e 1, A.MAC_IFe_V6 p e 2, A.MAC_IFe_V6 p e 3]

/-- A write of IFe_CTL (R274): the held address words apply with it. -/
def State.ifCtlWrite (s : State) (h : HostPort) (p e v : Nat) : Written :=
  let word (a : Nat) : Word := (s.heldWord h a).getD (s.rd a)
  let v6 := (entryWords p e).drop 1
  let s1 := s.dropHolds h (entryWords p e)
  if s.entryOk p e v (bytesOfWord (word (A.MAC_IFe_V4 p e))) (v6.flatMap (fun a => bytesOfWord (word a))) then
    ((s1.each (entryWords p e) (fun a t => t.wr a (word a))).setVal (A.MAC_IFe_CTL p e) (bitsAt v 0 7 + bitsAt v 16 12 * 65536)).ok
  else s1.rejected .range

/-- A write of MCASTe_HI: MCASTe_LO is held and applies with it. -/
def State.mcastWrite (s : State) (h : HostPort) (p e v : Nat) : Written :=
  let lo := (s.heldWord h (A.MAC_MCASTe_LO p e)).getD (s.rd (A.MAC_MCASTe_LO p e))
  let s1 := s.dropHolds h [A.MAC_MCASTe_LO p e]
  if bitOf v 31 = true ∧ bitOf v 8 = false then s1.rejected .range
  else ((s1.wr (A.MAC_MCASTe_LO p e) lo).setVal (A.MAC_MCASTe_HI p e) (v % 65536 + bitsAt v 31 1 * 2 ^ 31)).ok

/-- A write of LAT_CAL (R312, R315). -/
def State.latCalWrite (s : State) (p v : Nat) : State :=
  let s1 := if bitOf v 1 then s.latDiscard p else s
  if bitOf v 0 then s1.latRun p else s1

/-- The fields of TS_CTL and of MARGIN that have a range of their own (R15): a RELAY_MASK holds no bit of its own port, and
FLOOR is held to MAX by the word that results. -/
def tsCtlFields (p v : Nat) : List (Nat × Nat × Bool) := [(4, 4, !bitOf v (4 + p))]
def marginFields (v : Nat) : List (Nat × Nat × Bool) :=
  [(0, 16, within (v % 65536) 600 20000), (16, 16, decide (600 ≤ bitsAt v 16 16))]

/-- A write to a word of a MAC bank with a rule of its own. -/
def State.macWrite (s : State) (h : HostPort) (p w v : Nat) : Option Written :=
  let locked := s.portOn p || s.portDraining p
  if w = 0x00 then some (s.macCtlWrite p v)
  else if w = 0x02 then
    let lo := s.lower h (A.MAC_MAC_ADDR_LO p) (s.rd (A.MAC_MAC_ADDR_LO p))
    let s1 := s.dropHolds h [A.MAC_MAC_ADDR_LO p]
    if locked && (v % 65536 != s.val (A.MAC_MAC_ADDR_HI p) || lo != s.val (A.MAC_MAC_ADDR_LO p)) then
      some (s1.rejected .range)
    else some ((s1.setVal (A.MAC_MAC_ADDR_LO p) lo).setVal (A.MAC_MAC_ADDR_HI p) (v % 65536)).ok
  else if w = 0x03 then
    if locked && v != s.val (A.MAC_MAC_ADDR_LO p) then some (s.rejected .range)
    else some (s.hold h (A.MAC_MAC_ADDR_LO p) (wordOf v)).ok
  else if w = 0x07 then
    if bitsAt v 16 16 ≤ v % 65536 ∨ 4032 < bitsAt v 16 16 then some (s.rejected .range)
    else some (s.setVal (A.MAC_RXB_WM p) v).ok
  else if 0x10 ≤ w ∧ w < 0x18 then
    if w % 2 = 0 then some (s.mcastWrite h p ((w - 0x10) / 2) v) else some (s.hold h ((0x0B + p) * 256 + w) (wordOf v)).ok
  else if 0x20 ≤ w ∧ w < 0x60 then
    match (w - 0x20) % 8 with
    | 0 => some (s.ifCtlWrite h p ((w - 0x20) / 8) v)
    | 6 => none
    | 7 => none
    | _ => some (s.hold h ((0x0B + p) * 256 + w) (wordOf v)).ok
  else if w = 0x60 then
    let x := fitted (s.val (A.MAC_TS_CTL p)) v (tsCtlFields p v)
    some ((s.setVal (A.MAC_TS_CTL p) (x % 8 + bitsAt x 4 4 * 16)).ok.judged (allFit (tsCtlFields p v)))
  else if w = 0x62 then some (s.latCalWrite p v).ok
  else if w = 0x64 then
    let x := fitted (s.val (A.MAC_MARGIN p)) v (marginFields v)
    if x % 65536 < bitsAt x 16 16 then some (s.rejected .range)
    else some ((s.setVal (A.MAC_MARGIN p) x).ok.judged (allFit (marginFields v)))
  else if 0x66 ≤ w ∧ w < 0x69 then some (s.boardWrite p (w - 0x66) v).ok
  else none

/-- PAUSE_REMAIN: quanta of the received pause that remain, a part counting whole (R284). -/
def State.pauseRemain (s : State) (p : Nat) : Nat :=
  match (s.eth p).paused with
  | none => 0
  | some (_, ends) =>
    if s.bit (F.MAC_STAT_PAUSED p) then (ceilDiv (ends - s.nowSub) (max 1 (s.quanta p 1))).toNat else 0

/-- Words of a MAC bank the state computes. -/
def State.macRead (s : State) (p w : Nat) : Option Word :=
  if w = 0x09 then some (wordOf (s.rxLevel p))
  else if w = 0x0A then some (wordOf (s.pauseRemain p))
  else if w = 0x61 then
    some (wordOf (withBits (s.val (A.MAC_TS_STAT p)) 0 1 (flagVal (lookupKey (p * 4 + s.latMode p) s.net.lat).isSome)))
  else if w = 0x65 then some (wordOf (s.margin p))
  else if 0x70 ≤ w ∧ w < 0x80 then
    let m := (w - 0x70) / 4
    let adj : LatEntry := (lookupKey (p * 4 + m) s.net.lat).getD { tx := 0, rx := 0 }
    match (w - 0x70) % 4 with
    | 0 => some (wordOfInt (Config.latFac p m true))
    | 1 => some (wordOfInt (Config.latFac p m false))
    | 2 => some (wordOfInt adj.tx)
    | _ => some (wordOfInt adj.rx)
  else none

/-! ### Snapshots -/

/-- A snapshot falls at the present tick boundary (R290 to R292): it leaves out what the tick itself has counted (R302). -/
def State.snapshot (s : State) : State :=
  let s0 : State := { s with net := { s.net with snapDue := false, snapLast := some s.tally } }
  if s.bit F.SNAP_CTL_HOLD then
    ((s0.count (wordFld A.SNAP_MISSED) 1).setBit F.SNAP_STAT_MISSED_SEEN true).raise Ev.SNAP_MISSED
  else
    let s1 := s0.each (List.range 192) (fun i t =>
      t.setVal (A.SNAP_Pp_CNT_i i)
        ((s.val (A.MAC_CNT_i (i / 48) (i % 48)) + 2 ^ 32 - s.countedNow (i / 48) (i % 48) % 2 ^ 32) % 2 ^ 32))
    (((((s1.setMulti A.SNAP_TALLY_HI s.tally 2).setVal A.SNAP_ERA s.era).count (wordFld A.SNAP_SEQ) 1).setBit
      F.SNAP_STAT_FRESH true)).raise Ev.SNAP_DONE

/-- A write of SNAP.CTL (R290, R292): HOLD and PERIOD_EN are set, and TRIG places a snapshot at the next tick boundary. -/
def State.snapCtlWrite (s : State) (v : Nat) : State :=
  let s1 := s.setVal A.SNAP_CTL (bitsAt v 1 2 * 2)
  let s2 := if bitOf v 1 then s1.setBit F.SNAP_STAT_FRESH false else s1
  if bitOf v 0 then { s2 with net := { s2.net with snapDue := true } } else s2

/-- A tick boundary at which a snapshot is due (R290). -/
def State.snapTick (s : State) : State := if s.up .net && s.net.snapDue then s.snapshot else s

/-- The Tally reaches a multiple of the snapshot period (R290); a boundary takes one snapshot. -/
def State.snapPeriodic (s : State) : State :=
  if s.bit F.SNAP_CTL_PERIOD_EN ∧ s.tally % (s.val A.SNAP_PERIOD * 1250000) = 0 ∧ s.net.snapLast ≠ some s.tally then
    s.snapshot
  else s

end Sys2Proof.Machine
end

