-- ==== Sys2Proof/Machine/Aes.lean ====
section
/-! DEFINITION. AES-128 and AEAD_AES_SIV_CMAC_256 (RFC 5297), the one AEAD of the NTS unit (R414). -/

namespace Sys2Proof.Machine

/-! ### AES-128 -/

/-- Doubling in the field of AES. -/
def xtime (a : Nat) : Nat := if 128 ≤ a then (2 * a) ^^^ 0x11B else 2 * a

/-- The product in the field of AES; `n` bits of `b` are taken. -/
def gfMul (a b : Nat) : Nat → Nat
  | 0 => 0
  | n + 1 => (if b % 2 = 1 then a else 0) ^^^ gfMul (xtime a) (b / 2) n

/-- The `n`-th power of two's square chain: `a` raised to 254, the inverse. -/
def gfInverse (a : Nat) : Nat :=
  let a2 := gfMul a a 8
  let a4 := gfMul a2 a2 8
  let a8 := gfMul a4 a4 8
  let a16 := gfMul a8 a8 8
  let a32 := gfMul a16 a16 8
  let a64 := gfMul a32 a32 8
  let a128 := gfMul a64 a64 8
  [a4, a8, a16, a32, a64, a128].foldl (fun x y => gfMul x y 8) a2

/-- A byte rotated left by `k`. -/
def rotByte (a k : Nat) : Nat := (a * 2 ^ k) % 256 + a / 2 ^ (8 - k)

/-- The S-box. -/
def subByte (a : Nat) : Nat :=
  let b := gfInverse a
  b ^^^ rotByte b 1 ^^^ rotByte b 2 ^^^ rotByte b 3 ^^^ rotByte b 4 ^^^ 0x63

/-- Bytes of two lists, exclusive-ored. -/
def xorBytes (a b : List Nat) : List Nat := List.zipWith (fun x y => x ^^^ y) a b

/-- The round key that follows one, with its round constant. -/
def nextKey (k : List Nat) (rcon : Nat) : List Nat :=
  let last := k.drop 12
  let t := ((last.drop 1 ++ last.take 1).map subByte)
  let w0 := xorBytes (xorBytes (k.take 4) t) [rcon, 0, 0, 0]
  let w1 := xorBytes ((k.drop 4).take 4) w0
  let w2 := xorBytes ((k.drop 8).take 4) w1
  w0 ++ w1 ++ w2 ++ xorBytes last w2

/-- ShiftRows. -/
def shiftRows (s : List Nat) : List Nat := (List.range 16).map (fun i => s.getD ((i + 4 * (i % 4)) % 16) 0)

/-- MixColumns, byte `i` of the result. -/
def mixByte (s : List Nat) (i : Nat) : Nat :=
  let c := i / 4 * 4
  let at_ (r : Nat) : Nat := s.getD (c + (i + r) % 4) 0
  xtime (at_ 0) ^^^ (xtime (at_ 1) ^^^ at_ 1) ^^^ at_ 2 ^^^ at_ 3

/-- One AES-128 block. -/
def aesBlock (key block : List Nat) : List Nat :=
  let round (x : List Nat × List Nat) (rcon : Nat) : List Nat × List Nat :=
    let k := nextKey x.1 rcon
    let s := shiftRows (x.2.map subByte)
    (k, xorBytes (if rcon = 0x36 then s else (List.range 16).map (mixByte s)) k)
  ([1, 2, 4, 8, 0x10, 0x20, 0x40, 0x80, 0x1B, 0x36].foldl round (key, xorBytes block key)).2

/-! ### CMAC, S2V and CTR -/

/-- The number a block spells, and the block a number spells. -/
def blockNat (b : List Nat) : Nat := b.foldl (fun a x => a * 256 + x) 0
def natBlock (n : Nat) : List Nat := (beBytes 16 n).map BitVec.toNat

/-- Doubling in the field of CMAC. -/
def dbl (b : List Nat) : List Nat :=
  let n := blockNat b
  natBlock ((2 * n) % 2 ^ 128 ^^^ (if 2 ^ 127 ≤ n then 0x87 else 0))

/-- A message cut into blocks, the last one of 1 to 16 bytes; the empty message is one empty block. `n` bounds the
number of blocks. -/
def blocksOf : Nat → List Nat → List (List Nat)
  | 0, m => [m]
  | n + 1, m => if m.length ≤ 16 then [m] else m.take 16 :: blocksOf n (m.drop 16)

/-- AES-CMAC. -/
def cmac (key msg : List Nat) : List Nat :=
  let k1 := dbl (aesBlock key (natBlock 0))
  let last (b : List Nat) : List Nat :=
    if b.length = 16 then xorBytes b k1
    else xorBytes ((b ++ [0x80] ++ List.replicate 16 0).take 16) (dbl k1)
  let bs := blocksOf msg.length msg
  let x := (bs.dropLast).foldl (fun a b => aesBlock key (xorBytes a b)) (natBlock 0)
  aesBlock key (xorBytes x (last (bs.getLastD [])))

/-- S2V over a list of strings, the last one the plaintext. -/
def s2v (key : List Nat) (strings : List (List Nat)) : List Nat :=
  let d := (strings.dropLast).foldl (fun a x => xorBytes (dbl a) (cmac key x)) (cmac key (natBlock 0))
  let p := strings.getLastD []
  if 16 ≤ p.length then
    cmac key (p.take (p.length - 16) ++ xorBytes (p.drop (p.length - 16)) d)
  else cmac key (xorBytes (dbl d) ((p ++ [0x80] ++ List.replicate 16 0).take 16))

/-- CTR mode from counter `c`. -/
def ctr (key : List Nat) : Nat → List (List Nat) → List Nat
  | _, [] => []
  | c, b :: l => xorBytes b (aesBlock key (natBlock c)) ++ ctr key ((c + 1) % 2 ^ 128) l

/-- The counter that an SIV gives: bits 63 and 31 cleared. -/
def sivCounter (v : List Nat) : Nat := blockNat v &&& (2 ^ 128 - 1 - 2 ^ 63 - 2 ^ 31)

/-- Seals: the synthetic IV and the ciphertext (RFC 5297, with a nonce). `key` is 32 bytes. -/
def sivSeal (key nonce ad plain : List Byte) : List Byte :=
  let k := key.map BitVec.toNat
  let p := plain.map BitVec.toNat
  let v := s2v (k.take 16) [ad.map BitVec.toNat, nonce.map BitVec.toNat, p]
  (v ++ ctr (k.drop 16) (sivCounter v) (blocksOf p.length p)).map (BitVec.ofNat 8)

/-- Opens and verifies; none if the synthetic IV does not verify. -/
def sivOpen (key nonce ad sealed : List Byte) : Option (List Byte) :=
  let k := key.map BitVec.toNat
  let v := (sealed.take 16).map BitVec.toNat
  let c := (sealed.drop 16).map BitVec.toNat
  let p := ctr (k.drop 16) (sivCounter v) (blocksOf c.length c)
  if sealed.length ≥ 16 ∧ s2v (k.take 16) [ad.map BitVec.toNat, nonce.map BitVec.toNat, p] = v then
    some (p.map (BitVec.ofNat 8))
  else none

end Sys2Proof.Machine
end

