-- ==== Sys2Proof/Machine/Nts.lean ====
section
/-! DEFINITION. The NTS unit: key slots and their rotation, cookies, minting, nonces, zeroisation
(R430, R434 to R450, R454, R456). -/

namespace Sys2Proof.Machine

/-- NTS beyond its registers, replaced. -/
def State.setNts (s : State) (x : NtsState) : State := { s with net := { s.net with nts := x } }

/-- Kk_STATE codes. -/
def keyEmpty : Nat := 0
def keyActive : Nat := 1
def keyGrace : Nat := 2

/-- KEY_RESULT reasons (R439). -/
def rotNoSlot : Nat := 1
def rotSafe : Nat := 2
def rotBadSlot : Nat := 3
def rotGen : Nat := 4
def rotBusy : Nat := 5
def rotVoid : Nat := 6
def rotNoRandom : Nat := 7

/-- Whole seconds of the transit clock (R639). -/
def State.tclkSeconds (s : State) : Nat := s.pwr.tclk / 2 ^ 48

/-- State and generation of a key slot. -/
def State.keyState (s : State) (k : Nat) : Nat := s.val (A.NTS_Kk_STATE k)
def State.keyGen (s : State) (k : Nat) : Nat := s.val (A.NTS_Kk_GEN k)

/-- The ACTIVE slot, if there is one. -/
def State.activeSlot (s : State) : Option Nat := (List.range 8).find? (fun k => s.keyState k == keyActive)

/-- The key in a slot. -/
def State.keyOf (s : State) (k : Nat) : Option Nat := s.net.nts.keys.getD k none

/-- Whether the NTS unit is in a block reset or zeroising (R368). -/
def State.ntsAway (s : State) : Bool := s.bit F.NTS_STAT_DRAINING || s.get F.GRD_STAT_FSM == fsmZeroising

/-! ### Nonces -/

/-- The next nonce (R434): the DRBG is reseeded at 2^20 draws, or at its first draw after the random source is healthy
again (R564). -/
def State.nonce (s : State) : List Byte × State :=
  let n := s.net.nts
  let reseed := decide (2 ^ 20 ≤ n.sinceSeed) && s.rngOk
  let s1 := if reseed then s.random.2 else s
  (beBytes 16 (Config.nonce n.nonces),
    s1.setNts { n with nonces := n.nonces + 1, sinceSeed := if reseed then 1 else n.sinceSeed + 1 })

/-! ### Destroying keys -/

/-- Ends contexts VOID whose bound generation is gone before SEAL has completed (R453). -/
def State.voidUnbound (s : State) : State :=
  s.endAll (fun c => (c.stage == .read || c.stage == .seal) && (match c.key with
    | some b => s.keyGen b.slot != b.gen || s.keyState b.slot == keyEmpty
    | none => false)) outVoid

/-- Destroys a slot's key (R437, R442, R443). -/
def State.destroyKey (s : State) (k : Nat) : State :=
  let n := s.net.nts
  (((s.setNts { n with keys := n.keys.setIfInBounds k none }).setVal (A.NTS_Kk_STATE k) keyEmpty).setVal
    (A.NTS_Kk_GEN k) 0).setVal (A.NTS_Kk_SECS k) 0

/-! ### Minting (R445 to R447) -/

/-- MINT_STAT codes. -/
def mintIdle : Nat := 0
def mintBusy : Nat := 1
def mintDoneCode : Nat := 2
def mintNoKey : Nat := 3
def mintSafe : Nat := 4
def mintVoid : Nat := 5

/-- A host port's mint. -/
def State.mint (s : State) (p : HostPort) : MintPort :=
  match p with
  | .spi => s.net.nts.spi
  | .twoWire => s.net.nts.tw

/-- The state with a host port's mint replaced. -/
def State.setMint (s : State) (p : HostPort) (m : MintPort) : State :=
  match p with
  | .spi => s.setNts { s.net.nts with spi := m }
  | .twoWire => s.setNts { s.net.nts with tw := m }

/-- A mint ends without cookies (R447). -/
def State.mintFails (s : State) (p : HostPort) (code : Nat) : State :=
  s.setMint p { state := code }

/-- Ends both ports' running mints VOID. -/
def State.mintsVoid (s : State) : State :=
  s.each [.spi, .twoWire] (fun p t => if (t.mint p).job.isSome then t.mintFails p mintVoid else t)

/-! ### Cookies (R435, R436) -/

/-- The associated data of a cookie: FMT, SLOT, GEN. -/
def cookieHead (slot gen : Nat) : List Byte := beBytes 1 1 ++ beBytes 1 slot ++ beBytes 4 gen ++ beBytes 2 0

/-- A cookie under a slot's key. -/
def makeCookie (key slot gen : Nat) (nonce c2s s2c : List Byte) : List Byte :=
  let head := cookieHead slot gen
  head ++ nonce ++ sivSeal (beBytes 32 key) nonce head (c2s ++ s2c ++ beBytes 2 15 ++ beBytes 2 0)

/-- Opens a cookie: C2S and S2C (R436). -/
def State.openCookie (s : State) (c : List Byte) : Option (List Byte × List Byte) :=
  let slot := natAt c 1 1
  if c.length = 108 ∧ natAt c 0 1 = 1 ∧ natAt c 6 2 = 0 ∧ slot < 8 ∧
      (s.keyState slot = keyActive ∨ s.keyState slot = keyGrace) ∧ s.keyGen slot = natAt c 2 4 then
    match s.keyOf slot with
    | none => none
    | some key =>
      match sivOpen (beBytes 32 key) (slice c 8 16) (c.take 8) (c.drop 24) with
      | none => none
      | some p => if natAt p 64 2 = 15 then some (slice p 0 32, slice p 32 32) else none
  else none

/-- `n` cookies under one key, each with its own nonce. -/
def State.mintCookies (s : State) (key slot gen : Nat) (c2s s2c : List Byte) : Nat → List (List Byte) × State
  | 0 => ([], s)
  | n + 1 =>
    let r := s.mintCookies key slot gen c2s s2c n
    let d := r.2.nonce
    (r.1 ++ [makeCookie key slot gen d.1 c2s s2c], d.2)

/-- The slot a mint takes: the ACTIVE one, or the one that was ACTIVE when the tick of a rotation's switch began (R828). -/
def State.mintSlot (s : State) : Option Nat :=
  match s.net.nts.switched with
  | some (t, old) => if t = s.instant then old else s.activeSlot
  | none => s.activeSlot

/-- A write of MINT_CMD (R446, R447, R454, R828). -/
def State.mintCmd (s : State) (p : HostPort) (v : Nat) : Written :=
  let count := bitsAt v 0 4
  let m := s.mint p
  if count = 0 ∨ 8 < count ∨ bitsAt v 16 16 ≠ 15 ∨ m.job.isSome = true then s.rejected .range
  else
    match s.mintSlot with
    | none => (s.mintFails p mintNoKey).ok
    | some k =>
      if s.safe then (s.mintFails p mintSafe).ok
      else if s.ntsAway then (s.mintFails p mintVoid).ok
      else
        (s.setMint p { m with
          out := [], state := mintBusy, slot := k
          job := some ⟨k, s.keyGen k, count, m.c2s.toList.flatMap bytesOfWord, m.s2c.toList.flatMap bytesOfWord⟩ }).ok

/-- The mint finishes (R446, R447). -/
def State.mintDone (s : State) (p : HostPort) : State :=
  let m := s.mint p
  match m.job with
  | none => s
  | some j =>
    if s.safe then s.mintFails p mintSafe
    else
      match s.keyOf j.slot with
      | none => s.mintFails p mintVoid
      | some key =>
        if s.keyGen j.slot ≠ j.gen then s.mintFails p mintVoid
        else
          let r := s.mintCookies key j.slot j.gen j.c2s j.s2c j.count
          (r.2.setMint p { out := wordsOfBytes r.1.flatten, state := mintDoneCode, slot := j.slot }).count
            (wordFld A.NTS_CNT_MINTED) j.count

/-- The MINT_STAT word of a host port. -/
def MintPort.stat (m : MintPort) : Word := wordOf (m.state + m.slot * 16 + m.out.length * 256)

/-- A read of MINT_OUT: the next cookie word, 0 beyond the last (R446). -/
def State.mintPop (s : State) (p : HostPort) : Word × State :=
  let m := s.mint p
  match m.out with
  | [] => (0, s)
  | w :: l => (w, s.setMint p { m with out := l })

/-! ### Rotation (R438 to R443) -/

/-- KEY_RESULT. -/
def State.keyResult (s : State) (op reason : Nat) : State := s.setVal A.NTS_KEY_RESULT (op + reason * 256)

/-- A refusal (R439): for an automatic rotation the event is raised at the first one and at a change of reason
(R441). -/
def State.keyRefused (s : State) (op reason : Nat) (auto : Bool) : State :=
  let again := auto && s.net.nts.lastRefusal == some reason
  let s1 := ((s.keyResult op reason).setBit F.NTS_STAT_ROT_REFUSED_SEEN true).raiseIf (!again) Ev.NTS_ROT_REFUSED
  if auto then s1.setNts { s1.net.nts with lastRefusal := some reason, triedAt := s.tclkSeconds } else s1

/-- Why a rotation would be refused now (R439, R456). -/
def State.rotationBar (s : State) : Option Nat :=
  if s.ntsAway then some rotVoid
  else if (List.range 8).all (fun k => s.keyState k != keyEmpty) then some rotNoSlot
  else if s.safe then some rotSafe
  else if s.val A.NTS_GEN_NEXT = 2 ^ 32 - 1 then some rotGen
  else if s.net.nts.rotation.isSome then some rotBusy
  else if s.rngOk = false then some rotNoRandom
  else none

/-- Begins a rotation (R438 step 1) or refuses it. -/
def State.rotate (s : State) (auto : Bool) : State :=
  match s.rotationBar with
  | some r => s.keyRefused 1 r auto
  | none =>
    match (List.range 8).find? (fun k => s.keyState k == keyEmpty) with
    | none => s
    | some k =>
      let d := s.random
      let s1 := (d.2.setNts { d.2.net.nts with rotation := some (k, d.1 % 2 ^ 256, auto) }).setBit F.NTS_STAT_ROT_BUSY true
      if auto then s1
      else s1.ledger 36 1 (beBytes 1 k ++ beBytes 4 (s.val A.NTS_GEN_NEXT)) none

/-- The rotation in progress ends VOID (R439). -/
def State.rotationVoid (s : State) : State :=
  match s.net.nts.rotation with
  | none => s
  | some (_, _, auto) =>
    ((s.setNts { s.net.nts with rotation := none }).setBit F.NTS_STAT_ROT_BUSY false).keyRefused 1 rotVoid auto

/-- The rotation switches (R438 steps 2 to 4). -/
def State.rotationSwitch (s : State) : State :=
  match s.net.nts.rotation with
  | none => s
  | some (k, key, auto) =>
    let s1 := (s.setNts { s.net.nts with rotation := none }).setBit F.NTS_STAT_ROT_BUSY false
    if s.safe then s1.keyRefused 1 rotSafe auto
    else
      let s2 := match s1.activeSlot with
        | none => s1
        | some old =>
          (s1.setVal (A.NTS_Kk_STATE old) keyGrace).setVal (A.NTS_Kk_SECS old)
            (s.get F.NTS_CTL_GRACE * s.val A.NTS_ROT_PERIOD)
      let n := s2.net.nts
      let s3 := ((s2.setNts { n with
        keys := n.keys.setIfInBounds k (some key), lastRefusal := none
        switched := some (s.instant, s1.activeSlot) }).setVal
        (A.NTS_Kk_STATE k) keyActive).setVal (A.NTS_Kk_GEN k) (s.val A.NTS_GEN_NEXT)
      ((((((s3.setVal (A.NTS_Kk_SECS k) 0).count (wordFld A.NTS_GEN_NEXT) 1).count (wordFld A.NTS_ROTATIONS) 1).setBit
        F.NTS_STAT_ZEROISED false).keyResult 1 0)).raise Ev.NTS_ROTATED

/-- RETIRE (R443). -/
def State.retire (s : State) (k : Nat) : State :=
  if s.ntsAway then s.keyRefused 2 rotVoid false
  else if s.keyState k = keyGrace then
    (((s.ledger 36 2 (beBytes 1 k ++ beBytes 4 (s.keyGen k)) none).destroyKey k).keyResult 2 0).voidUnbound
  else s.keyRefused 2 rotBadSlot false

/-- Destroys every key (R443, R448). -/
def State.destroyKeys (s : State) : State :=
  ((s.each (List.range 8) (fun k t => t.destroyKey k)).mintsVoid).voidUnbound

/-- WIPE_ALL (R443). -/
def State.wipeAll (s : State) : State :=
  if s.ntsAway then s.keyRefused 3 rotVoid false
  else
    (((s.ledger 36 3 (beBytes 1 0 ++ beBytes 4 (s.val A.NTS_GEN_NEXT)) none).rotationVoid).destroyKeys).keyResult 3 0

/-- A write of KEY_CMD by a host port (R440, R443). -/
def State.keyCmd (s : State) (p : HostPort) (v : Nat) : Written :=
  let op := bitsAt v 0 4
  match s.useArm p .nts with
  | none => s.rejected .unarmed
  | some s1 =>
    if op = 1 then (s1.rotate false).ok
    else if op = 2 then (s1.retire (bitsAt v 4 3)).ok
    else if op = 3 then (s1.wipeAll).ok
    else s1.rejected .range

/-- Whether an automatic rotation is overdue (R440, R441): AUTO_ROT is on and the ACTIVE slot's age has reached
ROT_PERIOD. -/
def State.rotationDue (s : State) : Bool :=
  s.bit F.NTS_CTL_AUTO_ROT && (match s.activeSlot with
    | none => false
    | some k => decide (s.val A.NTS_ROT_PERIOD ≤ s.val (A.NTS_Kk_SECS k)))

/-- Whether 60 s have passed since the last refused automatic rotation (R441). -/
def State.retryDue (s : State) : Bool := decide (s.net.nts.triedAt + 60 ≤ s.tclkSeconds)

/-- The ACTIVE slot's age reaches ROT_PERIOD (R440); after a refusal, the retry of R441 waits its 60 s. -/
def State.autoRotate (s : State) : State :=
  if s.rotationDue && (s.net.nts.lastRefusal.isNone || s.retryDue) then s.rotate true else s

/-- 60 s after a refused automatic rotation (R441). -/
def State.retryRotate (s : State) : State := if s.net.nts.lastRefusal.isSome then s.autoRotate else s

/-- A GRACE slot's remaining time is 0 (R442). -/
def State.graceEnd (s : State) (k : Nat) : State :=
  if k < 8 ∧ s.keyState k = keyGrace ∧ s.val (A.NTS_Kk_SECS k) = 0 then
    ((s.destroyKey k).voidUnbound).raise Ev.NTS_GRACE_END
  else s

/-- One second of the AON clock: the key times (R438 to R442). -/
def State.keySecond (s : State) : State :=
  s.each (List.range 8) (fun k t =>
    if t.keyState k = keyActive then t.setVal (A.NTS_Kk_SECS k) (t.val (A.NTS_Kk_SECS k) + 1)
    else if t.keyState k = keyGrace then t.setVal (A.NTS_Kk_SECS k) (t.val (A.NTS_Kk_SECS k) - 1)
    else t)

/-- The unit starts (R440, R442): expired GRACE slots are retired, then an overdue rotation begins. -/
def State.ntsStarts (s : State) : State :=
  let s1 := s.each (List.range 8) (fun k t => t.graceEnd k)
  if s1.rotationDue then s1.rotate true else s1

/-! ### Contexts, block reset and zeroisation -/

/-- Contexts waiting for the NTS unit end VOID (R368). -/
def State.ntsVoid (s : State) : State :=
  s.endAll (fun c => c.cls == 1 && (c.stage == .admission || c.stage == .seal)) outVoid

/-- A block reset of the NTS unit begins (R368, R439, R447, R456). -/
def State.ntsReset (s : State) : State :=
  (((s.setBit F.NTS_STAT_DRAINING true).rotationVoid).mintsVoid).ntsVoid

/-- The block reset completes (R456). -/
def State.ntsResetDone (s : State) : State :=
  if s.bit F.NTS_STAT_DRAINING then (s.setBit F.NTS_STAT_DRAINING false).ntsStarts else s

/-- The Guard zeroises (R448, R554). -/
def State.ntsZeroise (s : State) : State :=
  let s1 := ((s.rotationVoid).destroyKeys).ntsVoid
  (((s1.setNts { s1.net.nts with sinceSeed := 2 ^ 20 }).setBit F.NTS_STAT_ZEROISED true).raise Ev.NTS_KEYS_GONE).ledger 36 5
    (beBytes 4 (s.val A.NTS_GEN_NEXT)) none

/-! ### Register words -/

/-- Words of the NTS bank the state computes, for the reading port. -/
def State.ntsRead (s : State) (p : HostPort) (w : Nat) : Option Word :=
  if w = 0x01 then
    let act := match s.activeSlot with
      | some k => k + 8
      | none => 0
    let late := decide (2 ^ 20 ≤ s.net.nts.sinceSeed) && !s.rngOk
    some (wordOf (withBits (withBits (s.val A.NTS_STAT) 0 4 act) 7 1 (flagVal late)))
  else if w = 0x31 then some (s.mint p).stat
  else none

/-- A write to a word of the NTS bank with a rule of its own. -/
def State.ntsWrite (s : State) (p : HostPort) (w v : Nat) : Option Written :=
  let m := s.mint p
  if w = 0x00 then
    let x := s.fitWrite A.NTS_CTL v [(4, 3, within (bitsAt v 4 3) 1 6)]
    let starts := bitOf v 0 && !s.bit F.NTS_CTL_EN && !s.bit F.NTS_STAT_DRAINING
    some (if starts then { x with state := x.state.ntsStarts } else x)
  else if w = 0x03 then some (s.armCodeWrite .nts (v % 65536))
  else if w = 0x04 then some (s.armWrite p .nts (v % 65536))
  else if w = 0x05 then some (s.keyCmd p v)
  else if w = 0x30 then some (s.mintCmd p v)
  else if 0x40 ≤ w ∧ w < 0x48 then
    some (s.setMint p { m with c2s := m.c2s.setIfInBounds (w - 0x40) (wordOf v) }).ok
  else if 0x48 ≤ w ∧ w < 0x50 then
    some (s.setMint p { m with s2c := m.s2c.setIfInBounds (w - 0x48) (wordOf v) }).ok
  else none

end Sys2Proof.Machine
end

