-- ==== Sys2Proof/Machine/Ntp.lean ====
section
/-! DEFINITION. The NTP service: recognising requests, conditions, reply headers, timestamps, NTS requests and
replies (R414 to R433). -/

namespace Sys2Proof.Machine

/-! ### Faces as a message carries them (R325) -/

/-- The parameters of a Face in force in the present tick (R28, R325), without those that do not act on it. -/
def State.view (s : State) (f : Face) : FaceView :=
  let x := s.facesAt s.nowSub
  { face := f, reg := x.main (mainOf f), utc := if f = .f1 ∨ f = .f2 then x.utc else 0,
    smears := if f = .f2 then x.smears else [] }

/-- A Face's value at an instant in subticks, from the parameters of a view (R26, R31, R47). -/
def FaceView.at_ (v : FaceView) (t : Int) : Int :=
  faceFrom v.face (v.reg.at_ t) v.utc v.smears

/-- The NTP timestamp of a Face value, 8 bytes (R419). -/
def ntpStamp (p : Int) : List Byte :=
  beBytes 4 ((faceSec p + 2208988800) % 2 ^ 32) ++ beBytes 4 ((faceNs p * 65536 + facePip p) * 65536 / 1000000000)

/-! ### Requests (R415, R416) -/

/-- One extension field: its type and its bytes, header included. -/
structure ExtField where
  type : Nat
  bytes : List Byte
  deriving DecidableEq, Repr

/-- Parses extension fields to the end of the payload; none if they do not fit (R415). -/
def extFields : Nat → List Byte → Option (List ExtField)
  | _, [] => some []
  | 0, _ => none
  | n + 1, b =>
    let len := natAt b 2 2
    if len % 4 ≠ 0 ∨ len < 16 ∨ b.length < len then none
    else (extFields n (b.drop len)).map (fun l => ⟨natAt b 0 2, b.take len⟩ :: l)

/-- What SORT takes a UDP payload on port 123 for. -/
inductive NtpKind where
  | none
  | plain
  | nts
  deriving DecidableEq, Repr

/-- The types of NTS extension fields. -/
def extUid : Nat := 0x0104
def extCookie : Nat := 0x0204
def extMore : Nat := 0x0304
def extAuth : Nat := 0x0404

/-- The fields of one type. -/
def ofType (t : Nat) (l : List ExtField) : List ExtField := l.filter (fun f => f.type == t)

/-- The body of an Authenticator: nonce and ciphertext, if they fit (R416). -/
def ExtField.auth (f : ExtField) : Option (List Byte × List Byte) :=
  let n := natAt f.bytes 4 2
  let c := natAt f.bytes 6 2
  let cAt := 8 + (n + 3) / 4 * 4
  if 16 ≤ n ∧ n ≤ 64 ∧ 16 ≤ c ∧ cAt + c ≤ f.bytes.length then some (slice f.bytes 8 n, slice f.bytes cAt c) else none

/-- Whether the fields make a structurally valid NTS request (R416). -/
def ntsSound (l : List ExtField) : Bool :=
  let more := ofType extMore l
  match ofType extUid l, ofType extCookie l, l.getLast? with
  | [u], [c], some a =>
    (36 ≤ u.bytes.length && u.bytes.length ≤ 68) && more.length ≤ 7 &&
      more.all (fun m => m.bytes.length == c.bytes.length) && a.type == extAuth && (ofType extAuth l).length == 1 &&
      a.auth.isSome
  | _, _, _ => false

/-- The extension fields of a payload. -/
def payloadFields (b : List Byte) : Option (List ExtField) := extFields b.length (b.drop 48)

/-- Classifies the UDP payload of a frame to port 123 (R415, R416). -/
def State.ntpKind (s : State) (b : List Byte) : NtpKind :=
  let vn := natAt b 0 1 / 8 % 8
  if s.bit F.NTP_CTL_EN = false ∨ b.length < 48 ∨ natAt b 0 1 % 8 ≠ 3 then .none
  else if vn = 3 then (if b.length = 48 then .plain else .none)
  else if vn = 4 then
    match payloadFields b with
    | none => .none
    | some l =>
      let ntsTypes := l.any (fun f => f.type == extUid || f.type == extCookie || f.type == extMore || f.type == extAuth)
      if s.bit F.NTS_CTL_EN = false ∧ ntsTypes = true then .none
      else if (ofType extAuth l) ≠ [] then (if ntsSound l then .nts else .none)
      else .plain
  else .none

/-! ### Conditions (R420 to R423) -/

/-- The serving Face (R418). -/
def State.ntpFace (s : State) : Face := faceOf (s.get F.NTP_CTL_FACE)

/-- COND codes. -/
def condSafe : Nat := 0
def condUnset : Nat := 1
def condFree : Nat := 2
def condHold : Nat := 3
def condPin : Nat := 4
def condNet : Nat := 5

/-- The first condition that holds (R420). -/
def State.ntpCond (s : State) : Nat :=
  if s.safe then condSafe
  else if s.bit (setFld (mainOf s.ntpFace)) = false then condUnset
  else if s.ntpFace = .f3 ∨ s.srvState = srvFrozen ∨ s.srvState = srvIdle then condFree
  else if s.srvState = srvHoldover then condHold
  else if s.selSlot < 8 then condPin
  else condNet

/-- E in pips (R421). -/
def State.ntpError (s : State) (c : Nat) : Nat :=
  if c = condFree then s.val A.NTP_FREE_DISP * 65536
  else
    let floor := s.val A.NTP_DISP_FLOOR * 65536
    if c = condHold then floor + s.val A.SRV_HO_ERR * 65536 else floor + (s.ival A.SRV_PHASE_ERR).natAbs

/-- Whether a condition counts as synchronised before the limit of R422. -/
def State.condSynced (s : State) (c : Nat) : Bool := 3 ≤ c || (c == condFree && s.bit F.NTP_CTL_FREE_SYNC)

/-- Whether a reply is synchronised (R420, R422). -/
def State.ntpSynced (s : State) (c : Nat) : Bool :=
  s.condSynced c && decide (s.ntpError c ≤ s.val A.NTP_DISP_MAX * 65536)

/-- Stratum, Reference ID and root delay in pips of conditions SYNC_PIN and SYNC_NET (R421). -/
def State.syncSource (s : State) (c : Nat) : Nat × Nat × Nat :=
  if c = condPin then (1, s.val (A.NTP_REFID_PINs s.selSlot), 0)
  else (s.get F.NTP_STRATA_FOLLOW_STRATUM, s.val A.NTP_REFID_NET, 2 * s.multi (A.PTP_Pp_MPD_HI (s.selSlot - 8)) 2)

/-- "LOCL". -/
def refidLocl : Nat := 0x4C4F434C

/-- Stratum, Reference ID and root delay in pips of a synchronised condition (R421). -/
def State.ntpSource (s : State) (c : Nat) : Nat × Nat × Nat :=
  if c = condFree then (s.get F.NTP_STRATA_FREE_STRATUM, refidLocl, 0)
  else if c = condHold then
    (s.net.ntp.last).getD (s.get F.NTP_STRATA_FREE_STRATUM, refidLocl, 0)
  else s.syncSource c

/-- The Reference ID of an unsynchronised reply (R422, R423). -/
def unsyncRefid (c : Nat) : Nat :=
  if c = condSafe then 0x53414645
  else if c = condUnset then 0x494E4954
  else if c = condFree then 0x46524545
  else 0x44495350

/-- The code of a Face. -/
def faceCode : Face → Nat
  | .f0 => 0
  | .f1 => 1
  | .f2 => 2
  | .f3 => 3

/-- The instant of the Reference Timestamp of a synchronised condition (R421); none where no measurement has been
accepted, which leaves the value open. -/
def State.refInstant (s : State) (c : Nat) : Option Int :=
  if c = condFree then some ((s.net.ntp.changed.getD (faceCode s.ntpFace) 0 : Nat) * 65536)
  else s.srv.acceptedAt.map (fun t => (t : Int) * 65536)

/-- LI of a synchronised reply (R427). -/
def State.leapIndicator (s : State) : Nat :=
  let leap := s.leap
  if s.ntpFace = .f1 ∧ leap ≠ 0 ∧
      ((s.leapAt : Int) - s.val A.NTP_LEAP_WARN) * pipsPerSec ≤ s.pips .f0 s.nowSub then
    (if leap = 1 then 1 else 2)
  else 0

/-- Rounds up to whole units, within 32 bits. -/
def rootUnits (n d : Nat) : Nat := min 0xFFFFFFFF ((n + d - 1) / d)

/-- The 48 header bytes of a reply without its Receive and Transmit Timestamps, and whether it carries time
(R421 to R427). `req` is the request's payload, `ref` its Reference Timestamp. -/
def State.ntpHeader (s : State) (req ref : List Byte) (c : Nat) : List Byte :=
  let vn := natAt req 0 1 / 8 % 8
  let origin := slice req 40 8
  if s.ntpSynced c then
    let src := s.ntpSource c
    beBytes 1 (s.leapIndicator * 64 + vn * 8 + 4) ++ beBytes 1 src.1 ++ slice req 2 1 ++ beBytes 1 0xE0 ++
      beBytes 4 (rootUnits src.2.2 1000000000) ++ beBytes 4 (rootUnits (s.ntpError c) 1000000000) ++ beBytes 4 src.2.1 ++
      ref ++ origin ++ List.replicate 16 0
  else
    beBytes 1 (3 * 64 + vn * 8 + 4) ++ beBytes 1 16 ++ slice req 2 1 ++ beBytes 1 0xE0 ++ List.replicate 8 0 ++
      beBytes 4 (unsyncRefid (if s.condSynced c then condNet else c)) ++ List.replicate 8 0 ++ origin ++ List.replicate 16 0

/-- A kiss (R428, R431). -/
def State.kissHeader (s : State) (req : List Byte) (refid : Nat) : List Byte :=
  let vn := natAt req 0 1 / 8 % 8
  beBytes 1 (3 * 64 + vn * 8 + 4) ++ beBytes 1 0 ++ beBytes 1 (max (natAt req 2 1) (s.val A.NTP_KOD_POLL)) ++
    beBytes 1 0xE0 ++ List.replicate 8 0 ++ beBytes 4 refid ++ List.replicate 8 0 ++ slice req 40 8 ++ List.replicate 16 0

/-- READ takes the condition (R420): NTP.STAT, and NTP_COND when COND or SYNCED changes. -/
def State.takeCond (s : State) (c : Nat) : State :=
  let synced := s.ntpSynced c
  let changed := s.get F.NTP_STAT_COND != c || s.bit F.NTP_STAT_SYNCED != synced
  let li := if synced then s.leapIndicator else 3
  let stratum := if synced then (s.ntpSource c).1 else 16
  (s.setVal A.NTP_STAT (c + flagVal synced * 8 + li * 16 + stratum * 256)).raiseIf changed Ev.NTP_COND

/-- What the conditions carry from one happening to the next (R421): stratum, Reference ID and root delay of the last
synchronised condition other than HOLD, and for each Face the tick of its last accepted change. -/
def State.ntpWatch (before s : State) : State :=
  let c := s.ntpCond
  let last := if s.condSynced c && c != condHold then some (s.ntpSource c) else s.net.ntp.last
  let moved := #v[Face.f0, .f1, .f2, .f3].map (fun f =>
    if before.tally = s.tally ∧ before.faces.pips f s.nextSub ≠ s.faces.pips f s.nextSub then s.tally
    else s.net.ntp.changed.getD (faceCode f) 0)
  { s with net := { s.net with ntp := { last := last, changed := moved } } }

/-! ### NTS requests and replies -/

/-- What validation at ADMIT comes to (R430, R431). -/
inductive NtsCheck where
  | badCookie
  | badAuth
  | unbound
  | bound (k : KeyBind)
  deriving DecidableEq, Repr

/-- The NTS unit validates a request's payload (R430). -/
def State.ntsCheck (s : State) (b : List Byte) : NtsCheck :=
  match payloadFields b with
  | none => .badCookie
  | some l =>
    match ofType extCookie l, ofType extUid l, l.getLast? with
    | [c], [u], some a =>
      match s.openCookie (c.bytes.drop 4), a.auth with
      | none, _ => .badCookie
      | some _, none => .badAuth
      | some (c2s, s2c), some (nonce, ct) =>
        match sivOpen c2s nonce (b.take (b.length - a.bytes.length)) ct, s.activeSlot with
        | none, _ => .badAuth
        | some _, none => .unbound
        | some _, some k =>
          .bound ⟨k, s.keyGen k, beNat c2s, beNat s2c, (ofType extMore l).length, u.bytes⟩
    | _, _, _ => .badCookie

/-- A failed validation is counted (R431). -/
def State.ntsNak (s : State) (cookie : Bool) : State :=
  (s.count (wordFld (if cookie then A.NTS_CNT_NAK_COOKIE else A.NTS_CNT_NAK_AUTH)) 1).seenOnce F.NTS_STAT_NAK_SEEN
    Ev.NTS_NAK

/-- An extension field of a type over a body. -/
def extField (type : Nat) (body : List Byte) : List Byte := beBytes 2 type ++ beBytes 2 (4 + body.length) ++ body

/-- The length of an NTS reply's payload (R432, R433). -/
def KeyBind.replyLength (k : KeyBind) : Nat := 48 + k.uid.length + 40 + 112 * (1 + k.more)

/-- Seals a reply over its header (R432). -/
def State.sealReply (s : State) (head : List Byte) (k : KeyBind) (key : Nat) : List Byte × State :=
  let clear := head ++ k.uid
  let d := s.nonce
  let cookies := d.2.mintCookies key k.slot k.gen (beBytes 32 k.c2s) (beBytes 32 k.s2c) (1 + k.more)
  let plain := cookies.1.flatMap (extField extCookie)
  let ct := sivSeal (beBytes 32 k.s2c) d.1 clear plain
  (clear ++ extField extAuth (beBytes 2 16 ++ beBytes 2 ct.length ++ d.1 ++ ct), cookies.2)

end Sys2Proof.Machine
end

