-- ==== Sys2Proof/Machine/Ptp.lean ====
section
/-! DEFINITION. The PTP service: its messages, clock quality, foreign masters and port states, the measurement of a
master, unicast grants, synchronization metadata (R373 to R413). The byte layout of messages is IEEE 1588-2019's. -/

namespace Sys2Proof.Machine

/-- PTP beyond its registers, replaced. -/
def State.setPtp (s : State) (x : PtpState) : State := { s with net := { s.net with ptp := x } }

/-- What a PTP port holds. -/
def State.ptp (s : State) (p : Nat) : PtpPort := s.net.ptp.ports.getD p {}

/-- The state with what a PTP port holds replaced. -/
def State.setPtpPort (s : State) (p : Nat) (x : PtpPort) : State :=
  s.setPtp { s.net.ptp with ports := s.net.ptp.ports.setIfInBounds p x }

/-- Pp_STAT.STATE codes. -/
def ptpDisabled : Nat := 0
def ptpListening : Nat := 1
def ptpPreMaster : Nat := 2
def ptpMaster : Nat := 3
def ptpUncal : Nat := 4
def ptpSlave : Nat := 5

/-- The state of a PTP port. -/
def State.ptpState (s : State) (p : Nat) : Nat := s.get (F.PTP_Pp_STAT_STATE p)

/-- Whether a PTP port tracks a master. -/
def State.tracking (s : State) (p : Nat) : Bool := s.ptpState p == ptpUncal || s.ptpState p == ptpSlave

/-- PTP.CLOCK_ID. -/
def State.clockId (s : State) : Nat := s.multi A.PTP_CLOCK_ID_HI 2

/-- The sourcePortIdentity of a port (R374). -/
def State.portIdentity (s : State) (p : Nat) : Nat := s.clockId * 65536 + (p + 1)

/-- Signed logarithms of Pp_INTV. -/
def State.logAnn (s : State) (p : Nat) : Int := s.getInt (F.PTP_Pp_INTV_LOG_ANN p)
def State.logSync (s : State) (p : Nat) : Int := s.getInt (F.PTP_Pp_INTV_LOG_SYNC p)
def State.logDreq (s : State) (p : Nat) : Int := s.getInt (F.PTP_Pp_INTV_LOG_DREQ p)

/-- Adds 1 to counter `i` of a PTP port: 0 RX_ANN to 11 TX_SIG. -/
def State.ptpCount (s : State) (p i : Nat) : State := s.count (wordFld (A.PTP_Pp_CNT p i)) 1

/-- RX_IGNORED. -/
def State.ptpIgnored (s : State) (p : Nat) : State := s.ptpCount p 6

/-- 2^log seconds in ticks. -/
def logTicks (log : Int) : Rat := (2 : Rat) ^ log * ticksPerSec

/-- 2^log seconds in whole ticks: exact for every period of R379 and R397. -/
def periodTicks (log : Int) : Nat :=
  match log with
  | .ofNat k => ticksPerSec * 2 ^ k
  | .negSucc k => ticksPerSec / 2 ^ (k + 1)

/-- Whether a period has passed since its last boundary (R379); with no boundary yet it has. -/
def periodDue (last : Option Nat) (log : Int) (now : Nat) : Bool :=
  match last with
  | none => true
  | some t => decide (t + periodTicks log ≤ now)

/-- The last period boundary at or before now: the boundaries lie a period apart from the first on (R379, R405). -/
def periodAt (last : Option Nat) (log : Int) (now : Nat) : Nat :=
  match last with
  | none => now
  | some t => t + (now - t) / periodTicks log * periodTicks log

/-! ### Clock quality (R382) -/

/-- The condition that holds: index 0 to 7 (R382). -/
def State.ptpCond (s : State) : Nat :=
  let st := s.srvState
  let n := s.selSlot
  let iq := s.iqOf n
  if s.bit F.STR_STAT_F0_SET = false then 6
  else if st = srvLocked ∧ n < 8 ∧ iq = 1 then 0
  else if st = srvLocked ∧ n < 8 ∧ (iq = 2 ∨ iq = 3) then 1
  else if st = srvLocked ∧ 8 ≤ n ∧ n < 12 then 7
  else if st = srvHoldover ∧ s.srvJump = false then
    if s.val A.SRV_HO_ERR_LIMIT = 0 ∨ s.val A.SRV_HO_ERR ≤ s.val A.SRV_HO_ERR_LIMIT then 3 else 4
  else if st = srvFrozen ∨ st = srvIdle then 5
  else 2

/-- The clockAccuracy code of HO_ERR (R382). -/
def hoAccuracy (ns : Nat) : Nat :=
  if ns ≤ 25 then 0x20 else if ns ≤ 100 then 0x21 else if ns ≤ 250 then 0x22 else if ns ≤ 1000 then 0x23
  else if ns ≤ 2500 then 0x24 else if ns ≤ 10000 then 0x25 else if ns ≤ 25000 then 0x26
  else if ns ≤ 100000 then 0x27 else 0xFE

/-- clockClass, clockAccuracy, offsetScaledLogVariance and the two traceable flags (bits 4 and 5) of a condition. -/
def State.qualityOf (s : State) (c : Nat) : Nat × Nat × Nat × Nat :=
  let cls := bitsAt (s.val (A.PTP_CLASS_MAP_A + c / 4)) (c % 4 * 8) 8
  let oslv := s.get F.PTP_CLK_ACC_OSLV
  match c with
  | 0 => (cls, s.get F.PTP_CLK_ACC_ACC, oslv, 48)
  | 1 => (cls, s.get F.PTP_CLK_ACC_ACC, oslv, 32)
  | 3 => (cls, hoAccuracy (s.val A.SRV_HO_ERR), oslv, 48)
  | 4 => (cls, hoAccuracy (s.val A.SRV_HO_ERR), 0xFFFF, 0)
  | _ => (cls, 0xFE, 0xFFFF, 0)

/-- The quality in force: the Safe Hold row first (R382). -/
def State.quality (s : State) : Nat × Nat × Nat × Nat :=
  if s.safe then (248, 0xFE, 0xFFFF, 0) else s.qualityOf s.ptpCond

/-- The CLASS_NOW word. -/
def State.classNow (s : State) : Nat :=
  let q := s.quality
  q.1 + (if s.safe then 7 else s.ptpCond) * 256 + flagVal s.safe * 2048 + q.2.1 * 65536

/-- The time-properties flags of D0 (R380): leap61, leap59, currentUtcOffsetValid, ptpTimescale, timeTraceable,
frequencyTraceable from bit 0 up. -/
def State.timeFlags (s : State) : Nat :=
  let f0 := s.pips .f0 s.nowSub
  let soon := decide (((s.leapAt : Int) - s.val A.PTP_LEAP_WARN) * pipsPerSec ≤ f0) &&
    decide (f0 < (s.leapAt : Int) * pipsPerSec)
  flagVal (s.leap == 1 && soon) + flagVal (s.leap == 2 && soon) * 2 +
    flagVal (s.bit F.PTP_CTL_UTC_VALID && s.bit F.STR_STAT_F0_SET) * 4 + 8 + s.quality.2.2.2

/-- timeSource (R380). -/
def State.timeSource (s : State) : Nat :=
  if s.srvState = srvLocked ∧ s.selSlot < 8 then
    bitsAt (s.val (A.PTP_TSRC_A + s.selSlot / 4)) (s.selSlot % 4 * 8) 8
  else 0xA0

/-- D0: the Uraitu's own dataset (R380, R382). -/
def State.d0 (s : State) : Dataset :=
  let q := s.quality
  { gm := s.clockId, prio1 := s.get F.PTP_PRIO_PRIORITY1, prio2 := s.get F.PTP_PRIO_PRIORITY2, cls := q.1, acc := q.2.1,
    oslv := q.2.2.1, steps := 0, utc := codeOf 16 s.utcOffset, flags := s.timeFlags, source := s.timeSource }

/-! ### Foreign masters and the state decision (R384 to R390) -/

/-- Whether list `a` comes before list `b`, number by number. -/
def lexLess : List Nat → List Nat → Bool
  | x :: l, y :: m => if x = y then lexLess l m else decide (x < y)
  | [], _ :: _ => true
  | _, [] => false

/-- Dataset comparison of IEEE 1588-2019 (R386): whether `a`, sent by `ida`, is better than `b`, sent by `idb`. -/
def betterData (a : Dataset) (ida : Nat) (b : Dataset) (idb : Nat) : Bool :=
  if a.gm = b.gm then lexLess [a.steps, ida] [b.steps, idb]
  else lexLess [a.prio1, a.cls, a.acc, a.oslv, a.prio2, a.gm] [b.prio1, b.cls, b.acc, b.oslv, b.prio2, b.gm]

/-- Whether a record has expired: ANN_TMO announce intervals of its master have passed since its last Announce (R385). -/
def State.foreignDue (s : State) (p : Nat) (f : Foreign) : Bool :=
  decide (f.last + s.get (F.PTP_Pp_INTV_ANN_TMO p) * periodTicks f.log ≤ s.tally)

/-- The better of two records. -/
def betterForeign (a b : Foreign) : Foreign := if betterData b.data b.id a.data a.id then b else a

/-- Erbest of a port (R386). -/
def State.erbest (s : State) (p : Nat) : Option Foreign :=
  ((s.ptp p).masters.filter (fun f => f.ok)).foldl (fun best f => match best with
    | none => some f
    | some g => some (betterForeign g f)) none

/-- The state a port's rules give it (R387, R388). -/
def State.ptpDecision (s : State) (p : Nat) : Nat :=
  let now := s.ptpState p
  let master := if now = ptpMaster ∨ now = ptpPreMaster then now else ptpPreMaster
  let role := s.get (F.PTP_Pp_CTL_ROLE p)
  if s.bit (F.PTP_Pp_CTL_EN p) = false then ptpDisabled
  else if s.linkUp p = false ∨ s.settling p = true then ptpListening
  else if role = 1 then master
  else
    match s.erbest p with
    | some f =>
      if role = 2 ∨ betterData f.data f.id s.d0 (s.portIdentity p) = true then
        (if s.slotState (8 + p) = slotQualified then ptpSlave else ptpUncal)
      else master
    | none => if role = 2 then ptpListening else master

/-- Removes the grants of a port (R399). -/
def State.dropGrants (s : State) (p : Nat) : State :=
  s.setPtp { s.net.ptp with grants := s.net.ptp.grants.filter (fun g => g.port != p) }

/-- The parent words of a port. -/
def State.parentWords (s : State) (p : Nat) : State :=
  match s.erbest p with
  | none =>
    (((s.setMulti (A.PTP_Pp_PARENT_HI p) 0 2).setVal (A.PTP_Pp_PARENT_INFO p) 0).setVal (A.PTP_Pp_GM_QUAL p) 0).setVal
      (A.PTP_Pp_GM_PRIO p) 0
  | some f =>
    let d := f.data
    (((s.setMulti (A.PTP_Pp_PARENT_HI p) (f.id / 65536) 2).setVal (A.PTP_Pp_PARENT_INFO p)
      (f.id % 65536 + d.steps * 65536)).setVal (A.PTP_Pp_GM_QUAL p) (d.cls + d.acc * 256 + d.oslv * 65536)).setVal
      (A.PTP_Pp_GM_PRIO p) (d.prio1 + d.prio2 * 256 + d.source * 65536 + d.flags * 2 ^ 24)

/-- The records of a port that have expired are dropped (R385): before the state decision (R411). -/
def State.dropExpired (s : State) (p : Nat) : State :=
  let x := s.ptp p
  if x.masters.any (fun f => s.foreignDue p f) then
    (s.setPtpPort p { x with masters := x.masters.filter (fun f => !s.foreignDue p f) }).setBit
      (F.PTP_Pp_STAT_TMO_SEEN p) true
  else s

/-- A port takes the state `next`; PRE_MASTER runs from its entry (R388), and only MASTER keeps grants (R399). -/
def State.takePtpState (s : State) (p next : Nat) : State :=
  let s1 := if next = ptpPreMaster ∧ s.ptpState p ≠ ptpPreMaster then s.setPtpPort p { s.ptp p with preAt := s.tally } else s
  let s2 := s1.put (F.PTP_Pp_STAT_STATE p) next
  if next = ptpMaster then s2 else s2.dropGrants p

/-- One port's records, state and consequences are brought up to date (R385, R387, R390, R399, R410, R411). -/
def State.ptpUpdate (s : State) (p : Nat) : State :=
  let gone := s.linkUp p = false ∨ s.settling p = true ∨ s.bit (F.PTP_Pp_CTL_EN p) = false
  let s1 := if gone then
      (s.setPtpPort p { seqs := (s.ptp p).seqs, best := (s.ptp p).best }).dropGrants p
    else s.dropExpired p
  let s3 := s1.takePtpState p (s1.ptpDecision p)
  let s4 := (s3.parentWords p).setBit (F.PTP_Pp_STAT_ERBEST p) (s3.erbest p).isSome
  let best := (s4.erbest p).map (fun f => f.id)
  if best = (s4.ptp p).best then s4
  else
    let s5 := (s4.setPtpPort p { s4.ptp p with
      best := best, samples := [], ms := none, lastSeq := none, waiting := none, asked := none, respLog := none,
      dreqAt := 0 }).announceClass (8 + p) ((s4.erbest p).map (fun f => f.data.cls))
    if s.tracking p = false then s5
    else
      match best with
      | none => s5.netLoss (8 + p)
      | some _ => ((s5.setBit (F.PTP_Pp_STAT_PARENT_SEEN p) true).raise Ev.PTP_PARENT).masterChanged (8 + p)

/-- The port whose master the Uraitu follows: FOLLOWING (R394). -/
def State.followPort (s : State) : Option Nat :=
  if s.baseMode = .follow ∧ 8 ≤ s.selSlot ∧ s.selSlot < 12 ∧ s.ptpState (s.selSlot - 8) = ptpSlave then
    some (s.selSlot - 8)
  else none

/-- The dataset MASTER ports announce (R394, R396). -/
def State.announced (s : State) : Dataset :=
  match s.followPort with
  | none => s.d0
  | some q =>
    match s.erbest q with
    | none => s.d0
    | some f =>
      let d : Dataset := { f.data with steps := f.data.steps + 1 }
      if s.safe then s.d0
      else if s.srvState = srvAcquire then
        let x := s.qualityOf 2
        { d with cls := x.1, acc := x.2.1, oslv := x.2.2.1, flags := d.flags % 16 + x.2.2.2 }
      else d

/-- FOLLOWING and the comparison of UTC offsets (R395). -/
def State.followWatch (s : State) : State :=
  match s.followPort with
  | none => (s.put F.PTP_STAT_FOLLOWING 0).put F.PTP_STAT_UTC_MISMATCH 0
  | some q =>
    let off := match s.erbest q with
      | some f => bitOf f.data.flags 2 && f.data.utc != codeOf 16 s.utcOffset
      | none => false
    let s1 := (s.put F.PTP_STAT_FOLLOWING 1).put F.PTP_STAT_FOLLOW_PORT q
    let s2 := s1.setBit F.PTP_STAT_UTC_MISMATCH off
    if off && !s.bit F.PTP_STAT_UTC_MISMATCH then (s2.setBit F.PTP_STAT_MISMATCH_SEEN true).raise Ev.PTP_UTC_MISMATCH
    else s2

/-- What every happening brings the PTP ports (R387, R390, R399, R410). -/
def State.ptpPorts (s : State) : State := s.each (List.range portCount) (fun p t => t.ptpUpdate p)

/-- What every happening brings the clock that the ports announce (R383, R395). -/
def State.ptpWatch (before s : State) : State :=
  let s1 := s.followWatch
  s1.raiseIf (before.up .pipe && (before.classNow % 4096 != s1.classNow % 4096)) Ev.PTP_CLASS

/-- The ticks a port stays PRE_MASTER: an announce interval for each step it will announce, and one (R388). -/
def State.preTicks (s : State) (p : Nat) : Nat := (s.announced.steps + 1) * periodTicks (s.logAnn p)

/-- PRE_MASTER ends (R388). -/
def State.preMasterDone (s : State) (p : Nat) : State :=
  if s.ptpState p = ptpPreMaster ∧ (s.ptp p).preAt + s.preTicks p ≤ s.tally then
    s.put (F.PTP_Pp_STAT_STATE p) ptpMaster
  else s

/-- A foreign-master record expires (R385). -/
def State.foreignExpired (s : State) (p i : Nat) : State :=
  let x := s.ptp p
  if (x.masters[i]?).any (fun f => s.foreignDue p f) then
    (s.setPtpPort p { x with masters := x.masters.eraseIdx i }).setBit (F.PTP_Pp_STAT_TMO_SEEN p) true
  else s

/-! ### Composing messages (R374, R377 to R379) -/

/-- messageType codes. -/
def mSync : Nat := 0
def mDelayReq : Nat := 1
def mFollowUp : Nat := 8
def mDelayResp : Nat := 9
def mAnnounce : Nat := 0xB
def mSignaling : Nat := 0xC
def mManagement : Nat := 0xD

/-- controlField of a messageType. -/
def controlOf (t : Nat) : Nat :=
  if t = mSync then 0 else if t = mDelayReq then 1 else if t = mDelayResp then 3 else if t = mManagement then 4 else 5

/-- A message: the header of R374 over a body. -/
def State.ptpMessage (s : State) (p type : Nat) (unicast : Bool) (flags seq : Nat) (log : Int) (body : List Byte) :
    List Byte :=
  beBytes 1 (s.get F.PTP_DOMAIN_MAJOR_SDO * 16 + type) ++ beBytes 1 0x12 ++ beBytes 2 (34 + body.length) ++
    beBytes 1 (s.get F.PTP_DOMAIN_DOMAIN) ++ beBytes 1 (s.get F.PTP_DOMAIN_MINOR_SDO) ++
    beBytes 1 (flagVal unicast * 4) ++ beBytes 1 flags ++ List.replicate 12 0 ++ beBytes 10 (s.portIdentity p) ++
    beBytes 2 seq ++ beBytes 1 (controlOf type) ++ beBytes 1 (codeOf 8 log) ++ body

/-- The ptpTimescale flag, on every message. -/
def flagPtp : Nat := 8

/-- The body of an Announce after its originTimestamp. -/
def Dataset.body (d : Dataset) : List Byte :=
  beBytes 2 d.utc ++ beBytes 1 0 ++ beBytes 1 d.prio1 ++ beBytes 1 d.cls ++ beBytes 1 d.acc ++ beBytes 2 d.oslv ++
    beBytes 1 d.prio2 ++ beBytes 8 d.gm ++ beBytes 2 d.steps ++ beBytes 1 d.source

/-- The synchronization metadata TLV (R406, R407). -/
def State.metaTlv (s : State) : List Byte :=
  beBytes 2 3 ++ beBytes 2 s.net.ptp.metadata.length ++ s.net.ptp.metadata

/-- Whether MASTER ports send metadata (R407). -/
def State.metaOn (s : State) : Bool := s.bit F.PTP_CTL_SM_EN && s.bit F.STR_STAT_F0_SET && !s.safe

/-- The multicast destination of a port's transport ("The clock and its ports"). -/
def ptpGroup (transport type : Nat) : Dest :=
  let port := if type ≤ 1 then 319 else 320
  match transport with
  | 0 => { mac := beBytes 6 0x011B19000000, ip := [], udp := 0 }
  | 1 => { mac := beBytes 6 0x01005E000181, ip := beBytes 4 0xE0000181, udp := port }
  | _ => { mac := beBytes 6 0x333300000181, ip := beBytes 16 0xFF0E0000000000000000000000000181, udp := port }

/-- The source address of a port's multicast messages. -/
def State.ptpSource (s : State) (p : Nat) : List Byte :=
  let e := s.get (F.PTP_Pp_CTL_IF p)
  match s.get (F.PTP_Pp_CTL_TRANSPORT p) with
  | 0 => []
  | 1 => s.entryV4 p e
  | _ => s.entryV6 p e

/-- The next sequenceId of a type on a port (R374). -/
def PtpPort.seqOf (x : PtpPort) (type : Nat) : Nat := (lookupKey type x.seqs).getD 0

/-- The state after a sequenceId has been used. -/
def State.seqUsed (s : State) (p type : Nat) : State :=
  let x := s.ptp p
  s.setPtpPort p { x with seqs := insertKey type ((x.seqOf type + 1) % 65536) x.seqs }

/-- A message the service originates takes one of the 32 reserved contexts (R344, R353). -/
def State.originate (s : State) (c : Ctx) : State :=
  if (s.net.pipe.ctxs.filter (fun x => x.orig)).length < 32 then
    (s.setCtxs (s.net.pipe.ctxs ++ [c])).count (wordFld A.PIPE_ORIG) 1
  else s

/-- A multicast message of a port. -/
def State.sendGroup (s : State) (p type : Nat) (duty : Duty) (flags : Nat) (log : Int) (body : List Byte) : State :=
  let e := s.get (F.PTP_Pp_CTL_IF p)
  let msg := s.ptpMessage p type false flags ((s.ptp p).seqOf type) log body
  ((s.seqUsed p type)).originate
    { orig := true, port := p, entry := e, cls := 3, tag := s.entryTag p e, stage := .read, duty := duty,
      srcIp := s.ptpSource p, dest := ptpGroup (s.get (F.PTP_Pp_CTL_TRANSPORT p)) type, msg := msg, born := s.nowSub }

/-- A message to a grantee, with the grant's own sequence counter (R374, R379). -/
def State.sendGrant (s : State) (i : Nat) (g : Grant) (type : Nat) (duty : Duty) (flags : Nat) (body : List Byte) :
    State :=
  let msg := s.ptpMessage g.port type true flags g.seq g.log body
  let grants := modifyAt (fun x => { x with
    seq := (x.seq + 1) % 65536, last := periodAt (some x.last) x.log s.tally }) i s.net.ptp.grants
  (s.setPtp { s.net.ptp with grants := grants }).originate
    { orig := true, port := g.port, entry := g.entry, cls := 3, tag := g.tag, stage := .read, duty := duty,
      srcIp := g.srcIp, dest := { g.dest with udp := if type ≤ 1 then 319 else 320 }, msg := msg,
      born := s.nowSub }

/-- A grant's period passes without a message (R404, R405). -/
def State.grantPasses (s : State) (i : Nat) : State :=
  s.setPtp { s.net.ptp with
    grants := modifyAt (fun x => { x with last := periodAt (some x.last) x.log s.tally }) i s.net.ptp.grants }

/-- Whether a MASTER port may send Announce now (R389, R402, R403). -/
def State.mayAnnounce (s : State) (p : Nat) : Bool :=
  s.ptpState p == ptpMaster && !s.notServing && !(s.safe && s.bit F.PTP_CTL_SAFE_SILENT)

/-- Whether a MASTER port may send Sync now (R389, R402, R403). -/
def State.maySync (s : State) (p : Nat) : Bool :=
  s.ptpState p == ptpMaster && !s.notServing && !s.safe && s.bit F.STR_STAT_F0_SET

/-- Whether a grant of port `p` for messages of a type has one to send now: it has not lapsed and its period has passed
(R379, R399). -/
def State.grantDue (s : State) (p kind : Nat) (g : Grant) : Bool :=
  g.port == p && g.kind == kind && decide (s.tally < g.ends) && periodDue (some g.last) g.log s.tally

/-- Whether a MASTER port has a multicast message of a period to send now (R379). -/
def State.groupDue (s : State) (p : Nat) (last : Option Nat) (log : Int) : Bool :=
  s.ptpState p == ptpMaster && s.bit (F.PTP_Pp_CTL_MCAST_EN p) && periodDue last log s.tally

/-- What an Announce holds that is sent now (R377, R394): it is filled in again at READ (R409). -/
def State.announceBody (s : State) : List Byte :=
  List.replicate 10 0 ++ s.announced.body ++ (if s.metaOn && s.bit F.PTP_CTL_SM_CARRIER then s.metaTlv else [])

/-- An Announce as READ sends it on: the dataset and the flags in force then (R409). -/
def State.announceNow (s : State) (m : List Byte) : List Byte :=
  patch (patch m 7 (beBytes 1 s.announced.flags)) 44 s.announced.body

/-- The Announce of a port, to its group or to a grantee (R379, R394, R407); the period runs on while the port may not send
(R405). -/
def State.announceTx (s : State) (p : Nat) (grant : Option Nat) : State :=
  let x := s.ptp p
  let log := s.logAnn p
  match grant with
  | none =>
    if s.groupDue p x.annAt log then
      let s1 := s.setPtpPort p { x with annAt := some (periodAt x.annAt log s.tally) }
      if s.mayAnnounce p then s1.sendGroup p mAnnounce .announce s.announced.flags log s.announceBody else s1
    else s
  | some i =>
    match s.net.ptp.grants[i]? with
    | some g =>
      if s.grantDue p mAnnounce g && s.mayAnnounce p then
        s.sendGrant i g mAnnounce .announce s.announced.flags s.announceBody
      else if s.grantDue p mAnnounce g then s.grantPasses i
      else s
    | none => s

/-- The Sync of a port, to its group or to a grantee (R377, R379, R405). -/
def State.syncTx (s : State) (p : Nat) (grant : Option Nat) : State :=
  let x := s.ptp p
  let log := s.logSync p
  let body : List Byte := List.replicate 10 0
  match grant with
  | none =>
    if s.groupDue p x.syncAt log then
      let s1 := s.setPtpPort p { x with syncAt := some (periodAt x.syncAt log s.tally) }
      if s.maySync p then s1.sendGroup p mSync .sync flagPtp log body else s1
    else s
  | some i =>
    match s.net.ptp.grants[i]? with
    | some g =>
      if s.grantDue p mSync g && s.maySync p then s.sendGrant i g mSync .sync flagPtp body
      else if s.grantDue p mSync g then s.grantPasses i
      else s
    | none => s

/-- The log interval that sets the spacing of a port's Delay_Reqs ("Measuring a master"). -/
def State.dreqLog (s : State) (p : Nat) : Int := (s.ptp p).respLog.getD (s.logDreq p)

/-- The random interval to the next Delay_Req, in ticks, and the state after the draw: uniform up to 2^(m+1) s, or 2^m s while
the random source gives no output (R564). -/
def State.dreqWait (s : State) (p : Nat) : Nat × State :=
  if s.rngOk then (s.random.1 % (periodTicks (s.dreqLog p + 1) + 1), s.random.2) else (periodTicks (s.dreqLog p), s)

/-- A tracking port's Delay_Req (R378, R404): unicast to its master when it asks for unicast. -/
def State.delayReqTx (s : State) (p : Nat) : State :=
  match s.erbest p with
  | none => s
  | some f =>
    if s.tracking p = false ∨ s.tally < (s.ptp p).dreqAt then s
    else
      let w := s.dreqWait p
      let t := w.2.setPtpPort p { s.ptp p with dreqAt := s.tally + w.1 }
      if s.bit (F.PTP_Pp_CTL_UC_REQ p) then
        let e := s.get (F.PTP_Pp_CTL_IF p)
        let msg := s.ptpMessage p mDelayReq true flagPtp ((s.ptp p).seqOf mDelayReq) 127 (List.replicate 10 0)
        (t.seqUsed p mDelayReq).originate
          { orig := true, port := p, entry := e, cls := 3, tag := s.entryTag p e, stage := .read, duty := .delayReq,
            srcIp := s.ptpSource p, dest := { mac := f.mac, ip := f.ip, udp := 319 }, msg := msg,
            born := s.nowSub }
      else t.sendGroup p mDelayReq .delayReq flagPtp 127 (List.replicate 10 0)

/-- The metadata in a Management message, once per 2^LOG_ANN s (R407). -/
def State.metaTx (s : State) (p : Nat) : State :=
  let x := s.ptp p
  let log := s.logAnn p
  if s.metaOn && !s.bit F.PTP_CTL_SM_CARRIER && s.ptpState p == ptpMaster && !s.notServing &&
      periodDue x.metaAt log s.tally then
    (s.setPtpPort p { x with metaAt := some (periodAt x.metaAt log s.tally) }).sendGroup p mManagement .management flagPtp 127
      (beBytes 10 (2 ^ 80 - 1) ++ beBytes 2 0 ++ beBytes 1 3 ++ beBytes 1 0 ++ s.metaTlv)
  else s

/-- A message with the metadata applied last after its first `k` bytes (R406). -/
def State.withMeta (s : State) (k : Nat) (m : List Byte) : List Byte :=
  let x := m.take k ++ s.metaTlv
  patch x 2 (beBytes 2 x.length)

/-- A message as it stands at its commit: the metadata applied last (R406), and, in an Announce of D0 read before the leap,
the offset and flags that the leap left (R381). -/
def State.messageNow (s : State) (c : Ctx) : List Byte :=
  match c.duty with
  | .management => s.withMeta 48 c.msg
  | .announce =>
    let leapt := match c.leapAt with
      | some t => s.leap == 0 && decide ((t : Int) * pipsPerSec ≤ s.pips .f0 s.nowSub)
      | none => false
    let m := if leapt then
        patch (patch c.msg 7 (beBytes 1 (natAt c.msg 7 1 / 4 * 4))) 44 (beBytes 2 (codeOf 16 s.utcOffset))
      else c.msg
    if 64 < m.length then s.withMeta 64 m else m
  | _ => c.msg

/-- The unicast master's address (R400). -/
def State.masterIp (s : State) (p : Nat) : List Byte :=
  if s.get (F.PTP_Pp_CTL_TRANSPORT p) = 1 then beBytes 4 (s.val (A.PTP_Pp_UC_MASTER_V4 p))
  else beBytes 16 (s.multi (A.PTP_Pp_UC_MASTER_V6 p 0) 4)

/-- Whether a port asks for a message type now (R400): it has not yet, half of the granted duration has passed, or a request
was denied or not answered 4 announce periods ago. -/
def State.askDue (s : State) (p type : Nat) : Bool :=
  let again (a : UcAsk) : Bool := decide (a.asked + 4 * periodTicks (s.logAnn p) ≤ s.tally)
  match lookupKey type (s.ptp p).asks with
  | none => true
  | some a =>
    match a.granted with
    | none => again a
    | some (t, d) => decide (2 * t + d * ticksPerSec ≤ 2 * s.tally) && (decide (a.asked ≤ t) || again a)

/-- The message types of unicast negotiation with the period a port asks for (R400). -/
def State.askList (s : State) (p : Nat) : List (Nat × Int) :=
  [(mAnnounce, s.logAnn p), (mSync, s.logSync p), (mDelayResp, s.logDreq p)].filter (fun x => s.askDue p x.1)

/-- A REQUEST_UNICAST_TRANSMISSION TLV. -/
def requestTlv (type : Nat) (log : Int) (dur : Nat) : List Byte :=
  beBytes 2 4 ++ beBytes 2 6 ++ beBytes 1 (type * 16) ++ beBytes 1 (codeOf 8 log) ++ beBytes 4 dur

/-- A request of type `type` was sent now (R400). -/
def State.askSent (s : State) (p type : Nat) : State :=
  let x := s.ptp p
  let a : UcAsk := { asked := s.tally, granted := (lookupKey type x.asks).bind (fun y => y.granted) }
  s.setPtpPort p { x with asks := insertKey type a x.asks }

/-- A port asks its unicast master for the messages that are due (R400). -/
def State.unicastRequest (s : State) (p : Nat) : State :=
  let e := s.get (F.PTP_Pp_CTL_IF p)
  let l := s.askList p
  let body := beBytes 10 (2 ^ 80 - 1) ++ l.flatMap (fun x => requestTlv x.1 x.2 (s.val (A.PTP_Pp_UC_DUR_REQ p)))
  if s.bit (F.PTP_Pp_CTL_EN p) && s.bit (F.PTP_Pp_CTL_UC_REQ p) && s.get (F.PTP_Pp_CTL_ROLE p) != 1 && !l.isEmpty then
    ((s.each l (fun x t => t.askSent p x.1)).seqUsed p mSignaling).originate
      { orig := true, port := p, entry := e, cls := 3, tag := s.entryTag p e, stage := .read, duty := .signaling,
        srcIp := s.ptpSource p, dest := { mac := beBytes 6 (Config.masterMac p), ip := s.masterIp p, udp := 320 },
        msg := s.ptpMessage p mSignaling true flagPtp ((s.ptp p).seqOf mSignaling) 127 body, born := s.nowSub }
  else s

/-! ### Received messages -/

/-- A PTP message received: its header fields and its bytes. -/
structure PtpIn where
  port : Nat
  transport : Nat
  type : Nat
  src : Nat
  seq : Nat
  twoStep : Bool
  flags : Nat
  corr : Int
  log : Int
  body : List Byte
  mac : List Byte
  ip : List Byte
  trx : Option Int
  deriving DecidableEq, Repr

/-- Reads a message's header; none when the service discards it (R375). -/
def State.readPtp (s : State) (p transport : Nat) (m mac ip : List Byte) (trx : Option Int) : Option PtpIn :=
  let type := natAt m 0 1 % 16
  let src := natAt m 20 10
  if m.length < 34 ∨ natAt m 1 1 % 16 ≠ 2 ∨ natAt m 4 1 ≠ s.get F.PTP_DOMAIN_DOMAIN ∨
      natAt m 0 1 / 16 ≠ s.get F.PTP_DOMAIN_MAJOR_SDO ∨ transport ≠ s.get (F.PTP_Pp_CTL_TRANSPORT p) ∨
      src / 65536 = s.clockId ∨ type = 2 ∨ type = 3 ∨ type = 0xA ∨ type = mManagement then none
  else
    some { port := p, transport := transport, type := type, src := src, seq := natAt m 30 2,
           twoStep := bitOf (natAt m 6 1) 1, flags := natAt m 7 1, corr := signedOf 64 (natAt m 8 8),
           log := signedOf 8 (natAt m 33 1), body := (m.take (natAt m 2 2)).drop 34, mac := mac, ip := ip, trx := trx }

/-- A timestamp of 10 bytes in pips. -/
def stampPips (b : List Byte) : Int := (natAt b 0 6 : Int) * pipsPerSec + (natAt b 6 4 : Int) * 65536

/-- An Announce (R384). -/
def State.takeAnnounce (s : State) (m : PtpIn) : State :=
  let p := m.port
  let x := s.ptp p
  let b := m.body
  let d : Dataset :=
    { gm := natAt b 19 8, prio1 := natAt b 13 1, prio2 := natAt b 18 1, cls := natAt b 14 1, acc := natAt b 15 1,
      oslv := natAt b 16 2, steps := natAt b 27 2, utc := natAt b 10 2, flags := m.flags % 64, source := natAt b 29 1 }
  let s1 := s.ptpCount p 0
  let known := x.masters.find? (fun f => f.id == m.src)
  if s.bit (F.PTP_Pp_CTL_EN p) = false ∨ 255 ≤ d.steps ∨ d.gm = s.clockId ∨ (known.isNone ∧ 8 ≤ x.masters.length) then
    s1.ptpIgnored p
  else
    let ok := match known with
      | none => false
      | some f => f.ok || decide (((s.tally - f.last : Nat) : Rat) ≤ 4 * logTicks m.log)
    let rec_ : Foreign := { id := m.src, mac := m.mac, ip := m.ip, log := m.log, last := s.tally, ok := ok, data := d }
    let s2 := s1.setPtpPort p { x with masters := x.masters.filter (fun f => f.id != m.src) ++ [rec_] }
    if x.best = some m.src then s2.announceClass (8 + p) (some d.cls) else s2

/-- Whether `a` is after `b` modulo 2^16 over a half range (R391). -/
def seqAfter (a b : Nat) : Bool :=
  let d := (a + 65536 - b) % 65536
  0 < d && d < 32768

/-- A Sync's instants are known: ms, and, if the Sync is usable, the slot's measurement (R391 to R393). -/
def State.syncMeasured (s : State) (p seq : Nat) (log t1 corr t2 : Int) (at_ : Int) : State :=
  let ms := t2 - t1 - corr
  let x := s.ptp p
  let s1 := s.setPtpPort p { x with ms := some ms }
  let fresh := match x.lastSeq with
    | none => true
    | some l => seqAfter seq l
  if x.samples = [] ∨ fresh = false then s1
  else
    let mpd := signedOf 64 (s.multi (A.PTP_Pp_MPD_HI p) 2)
    let asym := s.boardWord p 2
    let s2 := (s1.setPtpPort p { s1.ptp p with lastSeq := some seq }).setMulti (A.PTP_Pp_OFFSET_HI p)
      (codeOf 64 (ms - mpd - asym)) 2
    let s3 := s2.setSlot (8 + p) { s2.slot (8 + p) with syncLog := log }
    s3.netSync (8 + p) true at_ (t1 + corr + mpd + asym)

/-- A Sync (R391). -/
def State.takeSync (s : State) (m : PtpIn) : State :=
  let p := m.port
  let s1 := s.ptpCount p 1
  match m.trx with
  | none => s1
  | some t =>
    if s.tracking p = false ∨ (s.ptp p).best ≠ some m.src then s1
    else
      let t2 := s.pips .f0 t
      if m.twoStep then
        s1.setPtpPort p { s1.ptp p with waiting := some ⟨m.seq, t2, t, m.corr, m.log, s.tally⟩ }
      else (s1.setPtpPort p { s1.ptp p with waiting := none }).syncMeasured p m.seq m.log (stampPips m.body) m.corr t2 t

/-- A Follow_Up (R391). -/
def State.takeFollowUp (s : State) (m : PtpIn) : State :=
  let p := m.port
  let s1 := s.ptpCount p 2
  match (s.ptp p).waiting with
  | none => s1
  | some w =>
    if s.tracking p = false ∨ (s.ptp p).best ≠ some m.src ∨ w.seq ≠ m.seq then s1
    else
      let s2 := s1.setPtpPort p { s1.ptp p with waiting := none }
      if ((s.tally - w.at_ : Nat) : Rat) ≤ logTicks w.log then
        s2.syncMeasured p m.seq w.log (stampPips m.body) (w.corr + m.corr) w.t2 w.trx
      else s2

/-- A Delay_Resp (R392). -/
def State.takeDelayResp (s : State) (m : PtpIn) : State :=
  let p := m.port
  let s1 := s.ptpCount p 4
  match (s.ptp p).asked, (s.ptp p).ms with
  | some (seq, t3), some ms =>
    if s.tracking p = false ∨ (s.ptp p).best ≠ some m.src ∨ seq ≠ m.seq ∨ natAt m.body 10 10 ≠ s.portIdentity p then s1
    else
      let s2 := s1.setPtpPort p { s1.ptp p with asked := none, respLog := some m.log }
      let sum := ms + (stampPips m.body - t3 - m.corr)
      if sum < 0 ∨ (s.val (A.PTP_Pp_MAX_PATH p) : Int) * 131072 < sum then s2.ptpIgnored p
      else
        let keep := ((sum / 2) :: (s2.ptp p).samples).take (2 ^ s.get (F.PTP_Pp_CTL_DELAY_AVG p))
        (s2.setPtpPort p { s2.ptp p with samples := keep }).setMulti (A.PTP_Pp_MPD_HI p)
          (codeOf 64 (keep.sum / keep.length)) 2
  | _, _ => s1

/-- The PTP service takes a message that ends CONSUMED. -/
def State.takePtp (s : State) (p transport : Nat) (m mac ip : List Byte) (trx : Option Int) : State :=
  match s.readPtp p transport m mac ip trx with
  | none => s.ptpIgnored p
  | some x =>
    if x.type = mAnnounce then s.takeAnnounce x
    else if x.type = mSync then s.takeSync x
    else if x.type = mFollowUp then s.takeFollowUp x
    else if x.type = mDelayResp then s.takeDelayResp x
    else s.ptpIgnored p

/-! ### Unicast negotiation (R397 to R399, R404, R412) -/

/-- Messages per second of a period. -/
def rateOf (log : Int) : Rat := (2 : Rat) ^ (-log)

/-- Whether a period lies in the grant range of a message type. -/
def periodOk (type : Nat) (log : Int) : Bool :=
  if type = mAnnounce then decide (-3 ≤ log) && decide (log ≤ 4)
  else (type == mSync || type == mDelayResp) && decide (-7 ≤ log) && decide (log ≤ 4)

/-- The grantees of a list of grants: one sourcePortIdentity at one address (R398). -/
def grantees (l : List Grant) : List (Nat × List Byte) := (l.map (fun g => (g.id, g.dest.ip))).dedup

/-- Sync messages per second of a list of grants. -/
def syncRate (l : List Grant) : Rat := ((l.filter (fun g => g.kind == mSync)).map (fun g => rateOf g.log)).sum

/-- Whether two grants are for one grantee and type. -/
def Grant.same (a b : Grant) : Bool := a.port == b.port && a.id == b.id && a.dest.ip == b.dest.ip && a.kind == b.kind

/-- A denial (R397, R398). -/
def State.denied (s : State) (full_ : Bool) : State :=
  let s1 := ((s.count F.PTP_UC_NOW_DENIED 1).setBit F.PTP_STAT_DENY_SEEN true).raise Ev.PTP_GRANT_DENIED
  if full_ then (s1.setBit F.PTP_STAT_UC_FULL_SEEN true).raise Ev.PTP_UC_FULL else s1

/-- The grants that have not lapsed (R399). -/
def State.liveGrants (s : State) : List Grant := s.net.ptp.grants.filter (fun g => decide (s.tally < g.ends))

/-- A grant as it is made now: a renewal goes on with the counters of the grant it replaces; after a lapse, in the same tick
too, it is a new grant (R398, R412). -/
def State.newGrant (s : State) (g : Grant) (ends : Nat) : Grant :=
  match s.liveGrants.find? (fun x => x.same g) with
  | some o => { g with ends := ends, last := o.last, seq := o.seq, second := o.second, used := o.used }
  | none => { g with ends := ends, last := s.tally }

/-- A request for a grant: the state after it and the duration granted, 0 for a denial (R397, R398, R404, R412). -/
def State.judgeGrant (s : State) (g : Grant) (dur : Nat) : State × Nat :=
  let rest := s.liveGrants.filter (fun x => !x.same g)
  let ok := s.ptpState g.port == ptpMaster && periodOk g.kind g.log && 10 ≤ dur && !(s.safe && g.kind != mAnnounce)
  let full_ := decide (s.val A.PTP_UC_MAX < (grantees (rest ++ [g])).length) ||
    (g.kind == mSync && decide ((s.val A.PTP_UC_SYNC_BUDGET : Rat) < syncRate (rest ++ [g])))
  if ok = false then (s.denied false, 0)
  else if full_ then (s.denied true, 0)
  else
    let given := min dur (s.val A.PTP_UC_DUR_MAX)
    (s.setPtp { s.net.ptp with grants := rest ++ [s.newGrant g (s.tally + given * ticksPerSec)] }, given)

/-- The TLVs of a Signaling message, as type and value; `n` bounds their number. -/
def tlvs : Nat → List Byte → List (Nat × List Byte)
  | 0, _ => []
  | n + 1, b =>
    let len := natAt b 2 2
    if b.length < 4 + len ∨ b.length < 4 then [] else (natAt b 0 2, slice b 4 len) :: tlvs n (b.drop (4 + len))

/-- Answers one TLV: the state and the TLV of the answer (R397, R399). -/
def State.answerTlv (s : State) (base : Grant) (t : Nat × List Byte) : State × List Byte :=
  let kind := natAt t.2 0 1 / 16
  if t.1 = 4 then
    let g : Grant := { base with kind := kind, log := signedOf 8 (natAt t.2 1 1) }
    let r := s.judgeGrant g (natAt t.2 2 4)
    (r.1, beBytes 2 5 ++ beBytes 2 8 ++ beBytes 1 (kind * 16) ++ slice t.2 1 1 ++ beBytes 4 r.2 ++ beBytes 2 0)
  else if t.1 = 6 then
    let g : Grant := { base with kind := kind }
    (s.setPtp { s.net.ptp with grants := s.net.ptp.grants.filter (fun x => !x.same g) },
      beBytes 2 7 ++ beBytes 2 2 ++ beBytes 1 (kind * 16) ++ beBytes 1 0)
  else (s, [])

/-- Answers every TLV of a Signaling message in turn. -/
def State.answerAll (s : State) (base : Grant) (l : List (Nat × List Byte)) : State × List Byte :=
  l.foldl (fun r t =>
    let a := r.1.answerTlv base t
    (a.1, r.2 ++ a.2)) (s, [])

/-- Notes the answer of a port's unicast master to a request: a grant, or a denial with duration 0 (R400). -/
def State.noteAnswer (s : State) (p : Nat) (t : Nat × List Byte) : State :=
  let x := s.ptp p
  let type := natAt t.2 0 1 / 16
  match lookupKey type x.asks with
  | none => s
  | some a =>
    if t.1 = 5 then
      let d := natAt t.2 2 4
      s.setPtpPort p { x with
        asks := insertKey type { a with granted := if d = 0 then none else some (s.tally, d) } x.asks }
    else s

/-- A grant lapses at the end of its duration (R399). -/
def State.grantLapse (s : State) (i : Nat) : State :=
  if (s.net.ptp.grants[i]?).any (fun g => decide (g.ends ≤ s.tally)) then
    s.setPtp { s.net.ptp with grants := s.net.ptp.grants.eraseIdx i }
  else s

/-- Whether a unicast Delay_Req of `id` at `ip` is admitted, with the grant's use counted (R401). -/
def State.delayReqAllowed (s : State) (p id : Nat) (ip : List Byte) : Option State :=
  match s.net.ptp.grants.findIdx? (fun g => g.port == p && g.id == id && g.dest.ip == ip && g.kind == mDelayResp &&
      decide (s.tally < g.ends)) with
  | none => if s.bit (F.PTP_Pp_CTL_MIXED_EN p) then some s else none
  | some i =>
    match s.net.ptp.grants[i]? with
    | none => none
    | some g =>
      let second := s.tally / ticksPerSec
      let used := if g.second = second then g.used else 0
      if ((used : Nat) : Rat) < 2 * rateOf g.log then
        some (s.setPtp { s.net.ptp with
          grants := modifyAt (fun x => { x with second := second, used := used + 1 }) i s.net.ptp.grants })
      else none

/-! ### Register words -/

/-- SM_COMMIT (R406). -/
def State.metaCommit (s : State) : State :=
  let bytes := (List.range 16).flatMap (fun i => bytesOfWord (s.rd (A.PTP_SM_DATA i)))
  s.setPtp { s.net.ptp with metadata := bytes.take (s.get F.PTP_SM_CTL_LEN) }

/-- The fields of a Pp_CTL word that have a range (R15). -/
def ptpCtlFields (v : Nat) : List (Nat × Nat × Bool) :=
  [(1, 2, bitsAt v 1 2 != 3), (4, 2, bitsAt v 4 2 != 3), (16, 4, decide (bitsAt v 16 4 ≤ 6))]

/-- Whether Pp_CTL may be written as `v` (R376, R408). -/
def State.ptpCtlOk (s : State) (p v : Nat) : Bool :=
  let was := s.val (A.PTP_Pp_CTL p)
  let transport := bitsAt v 4 2
  let e := bitsAt v 8 3
  let locked := bitOf was 0 && (bitsAt v 1 2 != bitsAt was 1 2 || transport != bitsAt was 4 2 || e != bitsAt was 8 3)
  let family := match transport with
    | 0 => true
    | 1 => s.entryOn p e && s.bit (F.MAC_IFe_CTL_V4_EN p e)
    | _ => s.entryOn p e && s.bit (F.MAC_IFe_CTL_V6_EN p e)
  !locked &&
    !(bitOf v 0 && (s.clockId == 0 || s.clockId == 2 ^ 64 - 1 || ((bitOf v 13 || bitOf v 14) && transport == 0) || !family))

/-- A write of Pp_CTL: a field out of range keeps its value (R15), but a write of EN = 1 with TRANSPORT 3 is discarded whole
(R376), and so is a word that may not be written (R376, R408). -/
def State.ptpCtlWrite (s : State) (p v : Nat) : Written :=
  let l := ptpCtlFields v
  if (bitOf v 0 = true ∧ bitsAt v 4 2 = 3) ∨ s.ptpCtlOk p (fitted (s.val (A.PTP_Pp_CTL p)) v l) = false then s.rejected .range
  else s.fitWrite (A.PTP_Pp_CTL p) v l

/-- The fields of a Pp_INTV word that have a range of their own (R15). -/
def ptpIntvFields (v : Nat) : List (Nat × Nat × Bool) :=
  let ann := signedOf 8 (bitsAt v 0 8)
  let sync := signedOf 8 (bitsAt v 8 8)
  [(0, 8, decide (-3 ≤ ann ∧ ann ≤ 1)), (8, 8, decide (-7 ≤ sync ∧ sync ≤ -1)), (24, 8, within (bitsAt v 24 8) 2 10)]

/-- A write of Pp_INTV, judged field by field (R15); LOG_DREQ lies from the LOG_SYNC that results to 5 above it, and a word
in which it would not is discarded whole. -/
def State.ptpIntvWrite (s : State) (p v : Nat) : Written :=
  let old := s.val (A.PTP_Pp_INTV p)
  let l := ptpIntvFields v
  let sync := signedOf 8 (bitsAt (fitted old v l) 8 8)
  let fits (x : Nat) : Bool := decide (sync ≤ signedOf 8 (bitsAt x 16 8) ∧ signedOf 8 (bitsAt x 16 8) ≤ sync + 5)
  if fits v = false ∧ fits old = false then s.rejected .range
  else s.fitWrite (A.PTP_Pp_INTV p) v ((16, 8, fits v) :: l)

/-- Whether any PTP port has EN = 1. -/
def State.anyPtp (s : State) : Bool := (List.range portCount).any (fun p => s.bit (F.PTP_Pp_CTL_EN p))

/-- The fields of PTP.DOMAIN. -/
def domainMask : Nat := 0xFF0FFF

/-- A write to a word of the PTP bank with a rule of its own. -/
def State.ptpWrite (s : State) (h : HostPort) (w v : Nat) : Option Written :=
  if w = 0x02 then
    let l := [(0, 8, decide (bitsAt v 0 8 ≤ 127))]
    if s.anyPtp ∧ fitted (s.val A.PTP_DOMAIN) v l &&& domainMask ≠ s.val A.PTP_DOMAIN then some (s.rejected .range)
    else some (s.fitWrite A.PTP_DOMAIN v l)
  else if w = 0x04 then
    let lo := s.lower h A.PTP_CLOCK_ID_LO (s.rd A.PTP_CLOCK_ID_LO)
    let s1 := s.dropHolds h [A.PTP_CLOCK_ID_LO]
    if s.anyPtp ∧ v * 2 ^ 32 + lo ≠ s.clockId then some (s1.rejected .range)
    else some (s1.setMulti A.PTP_CLOCK_ID_HI (v * 2 ^ 32 + lo) 2).ok
  else if w = 0x05 then
    if s.anyPtp ∧ v ≠ s.val A.PTP_CLOCK_ID_LO then some (s.rejected .range)
    else some (s.hold h A.PTP_CLOCK_ID_LO (wordOf v)).ok
  else if w = 0x08 then some (s.fitWrite A.PTP_CLK_ACC v [(0, 8, within (bitsAt v 0 8) 0x17 0x31)])
  else if w = 0x18 then some (s.fitWrite A.PTP_SM_CTL v [(0, 7, decide (v % 128 ≤ 64 ∧ v % 2 = 0))])
  else if w = 0x19 then some (if v = 1 then s.metaCommit else s).ok
  else if 0x40 ≤ w ∧ w < 0xC0 then
    let p := (w - 0x40) / 0x20
    match (w - 0x40) % 0x20 with
    | 0 => some (s.ptpCtlWrite p v)
    | 2 => some (s.ptpIntvWrite p v)
    | _ => none
  else none

/-- Words of the PTP bank the state computes. -/
def State.ptpRead (s : State) (w : Nat) : Option Word :=
  if w = 0x0F then some (wordOf (withBits (s.val A.PTP_UC_NOW) 0 13 (grantees s.liveGrants).length))
  else if w = 0x10 then some (wordOf (ceilRat (syncRate s.liveGrants)).toNat)
  else if w = 0x11 then some (wordOf s.classNow)
  else none

end Sys2Proof.Machine
end

