-- ==== Sys2Proof/Machine/Hk.lean ====
section
/-! DEFINITION. The housekeeping responder and the host mailbox (R357 to R364). -/

namespace Sys2Proof.Machine

/-- A frame of an entry that carries an IP packet from the port. -/
def State.ipReply (s : State) (p : Nat) (tag : VlanTag) (dstMac src dst : List Byte) (hops proto : Nat)
    (body : List Byte) : List Byte :=
  ipFrame dstMac (s.macAddr p) tag src dst (Config.ipDscp 1) hops proto body

/-- A Neighbor Advertisement for an address (R357, R360). -/
def State.advertise (s : State) (p : Nat) (tag : VlanTag) (target dstMac dst : List Byte) (solicited_ : Bool) : List Byte :=
  s.ipReply p tag dstMac target dst 255 58
    (icmpMessage true target dst 136 (neighborAdvert solicited_ true target (s.macAddr p)))

/-- ff02::1 and its Ethernet address. -/
def allNodes : List Byte := beBytes 16 0xFF020000000000000000000000000001
def allNodesMac : List Byte := beBytes 6 0x333300000001

/-- An ARP frame. -/
def State.arpFrame (s : State) (p : Nat) (tag : VlanTag) (dst : List Byte) (packet : List Byte) : List Byte :=
  padFrame (etherHeader dst (s.macAddr p) tag etherArp ++ packet)

/-- The reply to an ARP packet (R357). -/
def State.arpReply (s : State) (p e : Nat) (tag : VlanTag) (a : List Byte) : Option (List Byte) :=
  let target := slice a 24 4
  if s.bit F.PIPE_CTL_HK_ARP && natAt a 6 2 == 1 && s.bit (F.MAC_IFe_CTL_V4_EN p e) &&
      s.entryV4 p e == target then
    some (s.arpFrame p tag (slice a 8 6) (arpPacket 2 (s.macAddr p) target (slice a 8 6) (slice a 14 4)))
  else none

/-- The reply to an ICMP or ICMPv6 message of a frame (R357, R359). -/
def State.icmpReply (s : State) (p e : Nat) (tag : VlanTag) (mac : List Byte) (ip : IpPacket) : Option (List Byte) :=
  let type := natAt ip.body 0 1
  let rest := ip.body.drop 4
  if ip.v6 = false then
    if s.bit F.PIPE_CTL_HK_ECHO4 && ip.proto == 1 && type == 8 && s.entryHas p e ip.dst then
      some (s.ipReply p tag mac ip.dst ip.src (Config.ipHops 1) 1 (icmpMessage false ip.dst ip.src 0 rest))
    else none
  else if type = 128 then
    if s.bit F.PIPE_CTL_HK_ECHO6 && s.entryHas p e ip.dst then
      some (s.ipReply p tag mac ip.dst ip.src (Config.ipHops 1) 58 (icmpMessage true ip.dst ip.src 129 rest))
    else none
  else
    let target := slice ip.body 8 16
    if s.bit F.PIPE_CTL_HK_ND && s.entryHas p e target then
      (if natAt ip.src 0 16 = 0 then some (s.advertise p tag target allNodesMac allNodes false)
      else some (s.advertise p tag target mac ip.src true))
    else none

/-- A housekeeping reply is queued, within the limits of R358; the outcome of its request. -/
def State.hkSend (s : State) (p : Nat) (f : List Byte) : State × Nat :=
  let e := s.eth p
  let second := s.tally / ticksPerSec
  let used := if e.hkSecond = second then e.hkCount else 0
  if 16 ≤ e.plain.countP (fun x => x.reply) ∨ s.val A.PIPE_HK_RATE ≤ used then
    (s.seenOnce F.PIPE_STAT_HK_LIMIT_SEEN Ev.HK_LIMIT, outHkLimited)
  else
    ((s.setEth p { e with hkSecond := second, hkCount := used + 1 }).queuePlain p { bytes := f, reply := true },
      outHousekeeping)

/-- The frames of HK_ANNOUNCE for one entry (R360). -/
def State.announceEntry (s : State) (p e : Nat) : List (List Byte) :=
  let tag := s.entryTag p e
  let mac := s.macAddr p
  let v4 := s.entryV4 p e
  if s.entryOn p e then
    (if s.bit (F.MAC_IFe_CTL_V4_EN p e) then
      [s.arpFrame p tag (beBytes 6 0xFFFFFFFFFFFF) (arpPacket 1 mac v4 (beBytes 6 0) v4)] else []) ++
    (if s.bit (F.MAC_IFe_CTL_V6_EN p e) then
      [s.advertise p tag (s.entryV6 p e) allNodesMac allNodes false,
        s.advertise p tag (linkLocal mac) allNodesMac allNodes false] else [])
  else []

/-- HK_ANNOUNCE (R360). -/
def State.hkAnnounce (s : State) (v : Nat) : State :=
  s.each (setBits v 4) (fun p t =>
    if t.linkUp p then
      t.each ((List.range entryCount).flatMap (t.announceEntry p)) (fun f u => u.queuePlain p { bytes := f, reply := false })
    else t)

/-! ### The mailbox (R361 to R364) -/

/-- A mailbox record (R363). -/
def mailRecord (p code snap : Nat) (trx : Option Int) (f : List Byte) : List Byte :=
  let cut := f.take snap
  let padded := cut ++ List.replicate ((4 - cut.length % 4) % 4) 0
  let time := match trx with
    | some t => (t / 65536 % 2 ^ 32).toNat
    | none => 0
  beBytes 2 (12 + padded.length) ++ beBytes 1 (p + (if snap < f.length then 128 else 0)) ++ beBytes 1 code ++
    beBytes 4 time ++ beBytes 2 f.length ++ beBytes 2 0 ++ padded

/-- A frame that ends UNHANDLED or MALFORMED is mirrored, if that is enabled and it fits (R361, R362). -/
def State.mirror (s : State) (p code : Nat) (trx : Option Int) (f : List Byte) : State :=
  let m := s.net.pipe.mailbox
  let r := mailRecord p code (s.get F.PIPE_MBX_CTL_SNAP_LEN) trx f
  if s.bit F.PIPE_MBX_CTL_EN && bitOf (s.get F.PIPE_MBX_CTL_PORTS) p &&
      (code == outUnhandled || s.bit F.PIPE_MBX_CTL_MALFORMED) then
    if 65536 < m.length + r.length then
      (s.count (wordFld A.PIPE_MBX_DROPPED) 1).seenOnce F.PIPE_STAT_MBX_FULL_SEEN Ev.MBX_FULL
    else s.setPipe { s.net.pipe with mailbox := m ++ r }
  else s

/-- A read of MBX_DATA (R364). -/
def State.mailPop (s : State) : Word × State :=
  match s.net.pipe.mailbox with
  | [] => (0, s)
  | m => (wordOf (natAt m 0 4), s.setPipe { s.net.pipe with mailbox := m.drop 4 })

/-- Empties the mailbox (R364). -/
def State.mailFlush (s : State) : State := s.setPipe { s.net.pipe with mailbox := [] }

end Sys2Proof.Machine
end

