-- ==== Sys2Proof/Machine/Pipe.lean ====
section
/-! DEFINITION. The request pipeline: buckets, the six stages, commit and missed slots, expiry, drain
(R324 to R329, R340 to R356, R365 to R372). -/

namespace Sys2Proof.Machine

/-! ### Buckets and caps (R350 to R352, R372) -/

/-- One token in the unit of the buckets. -/
def tokenSize : Nat := 1250000000

/-- Tokens a bucket may hold. -/
def State.burst (s : State) : Nat := s.val A.PIPE_BURST * tokenSize

/-- Fills both buckets up to now (R351). -/
def State.fillBuckets (s : State) : State :=
  let x := s.net.pipe
  let d := s.tally - x.filled
  s.setPipe { x with
    issue := min s.burst (x.issue + d * s.get F.PIPE_CAP_NOW_ISSUE * 1000),
    nts := min s.burst (x.nts + d * s.get F.PIPE_CAP_NOW_NTS * 1000), filled := s.tally }

/-- The caps of a performance level come into force (R350, R352). -/
def State.setCaps (s : State) (level : Nat) : State :=
  let issue := match level with
    | 0 => 48000
    | 1 => 32000
    | 2 => 16000
    | _ => 4000
  (s.fillBuckets.setVal A.PIPE_CAP_NOW (issue + issue / 2 * 65536)).put F.PIPE_STAT_LEVEL level

/-! ### INTAKE -/

/-- The next port in turn with a waiting frame (R345). -/
def State.nextPort (s : State) : Option Nat :=
  ((List.range portCount).map (fun k => (s.net.pipe.next + k) % portCount)).find? (fun p => !(s.eth p).rx.isEmpty)

/-- INTAKE takes a frame (R345, R349, R351). -/
def State.intake (s0 : State) : State :=
  let s := s0.fillBuckets
  match s.nextPort with
  | none => s0
  | some p =>
    match (s.eth p).rx with
    | [] => s0
    | f :: rest =>
      if s.bit F.PIPE_CTL_EN && !s.bit F.PIPE_STAT_DRAINING && s.up .pipe && decide (s.ctxInUse < 480) &&
          decide (tokenSize ≤ s.net.pipe.issue) then
        let c : Ctx :=
          { orig := false, port := p, entry := f.entry, trx := f.trx, frame := f.bytes, born := s.nowSub }
        let s1 := s.setEth p { s.eth p with rx := rest }
        let x := s1.net.pipe
        let s2 := s1.setPipe { x with ctxs := x.ctxs ++ [c], issue := x.issue - tokenSize, next := (p + 1) % portCount }
        let s3 := s2.setVal A.PIPE_CTX_PEAK (max (s2.val A.PIPE_CTX_PEAK) s2.ctxInUse)
        if s3.ctxInUse = 480 ∧ s3.bit F.PIPE_STAT_CTX_FULL = false then
          ((s3.put F.PIPE_STAT_CTX_FULL 1).setBit F.PIPE_STAT_CTX_FULL_SEEN true).raise Ev.PIPE_CTX_FULL
        else s3
      else s0

/-! ### SORT -/

/-- The SORT classes, in the order of the class table. -/
def clsNtp : Nat := 0
def clsNts : Nat := 1
def clsPtpRequest : Nat := 2
def clsPtpOther : Nat := 3
def clsEsmc : Nat := 4
def clsHousekeeping : Nat := 5
def clsUnhandled : Nat := 6

/-- Context `i` ends with its class noted. -/
def State.endAs (s : State) (i : Nat) (c : Ctx) (cls o : Nat) : State := (s.setCtx i { c with cls := cls }).endCtx i o

/-- A frame without a handler (R343, R354, R361). -/
def State.endDropped (s : State) (i : Nat) (c : Ctx) (o : Nat) : State :=
  (s.mirror c.port o c.trx c.frame).endAs i c clsUnhandled o

/-- A request goes on to ADMIT, unless it has no stamp or the mode does not serve it (R310, R354, R355). -/
def State.toAdmit (s : State) (i : Nat) (c : Ctx) : State :=
  if c.trx.isNone then (s.setCtx i c).endCtx i outNoStamp
  else if s.notServing then (s.setCtx i c).endCtx i outNotServing
  else s.setCtx i { c with stage := .admission }

/-- A housekeeping frame with the reply it draws, if any (R346, R357, R358). -/
def State.toHousekeeping (s : State) (i : Nat) (c : Ctx) (reply : Option (List Byte)) : State :=
  match reply with
  | none => s.endAs i c clsHousekeeping outHousekeeping
  | some f =>
    let r := s.hkSend c.port f
    r.1.endAs i c clsHousekeeping r.2

/-- Where an IP PTP message may be addressed: the PTP groups, or the entry. -/
def ptpGroups : List (List Byte) :=
  [beBytes 4 0xE0000181, beBytes 4 0xE000006B, beBytes 16 0xFF0E0000000000000000000000000181,
    beBytes 16 0xFF02000000000000000000000000006B]

/-- A PTP message (class table; R375). `dst` is its destination IP address, empty over Ethernet. -/
def State.sortPtp (s : State) (i : Nat) (c : Ctx) (transport : Nat) (m src dst : List Byte) : State :=
  let p := c.port
  let mac := frameSrc c.frame
  let type := natAt m 0 1 % 16
  let group := if transport = 0 then ptpMulticast.contains (frameDst c.frame) else ptpGroups.contains dst
  let target := natAt m 34 10
  match s.readPtp p transport m mac src c.trx with
  | none => (s.ptpIgnored p).endAs i c clsPtpOther outConsumed
  | some _ =>
    let back : Dest := if group then ptpGroup transport mDelayResp else { mac := mac, ip := src, udp := 320 }
    let from_ := if group then s.ptpSource p else dst
    let req : Ctx := { c with cls := clsPtpRequest, frame := m, srcIp := from_, dest := back }
    if type = mDelayReq then s.toAdmit i req
    else if type = mSignaling ∧ transport ≠ 0 ∧ group = false ∧ (target = s.portIdentity p ∨ target = 2 ^ 80 - 1) then
      s.toAdmit i req
    else if type = mSync ∧ c.trx.isNone then s.endAs i c clsPtpOther outNoStamp
    else (s.takePtp p transport m mac src c.trx).endAs i c clsPtpOther outConsumed

/-- A UDP datagram (class table). -/
def State.sortUdp (s : State) (i : Nat) (c : Ctx) (ip : IpPacket) (d : Datagram) : State :=
  let own := s.entryHas c.port c.entry ip.dst
  if d.dport = 123 ∧ own = true then
    let req (cls : Nat) : Ctx :=
      { c with cls := cls, frame := d.payload, srcIp := ip.dst, dest := ⟨frameSrc c.frame, ip.src, d.sport⟩ }
    match s.ntpKind d.payload with
    | .none => s.endDropped i c outUnhandled
    | .plain => s.toAdmit i (req clsNtp)
    | .nts => s.toAdmit i (req clsNts)
  else if (d.dport = 319 ∨ d.dport = 320) ∧ (own = true ∨ ptpGroups.contains ip.dst = true) then
    s.sortPtp i c (if ip.v6 then 2 else 1) d.payload ip.src ip.dst
  else s.endDropped i c outUnhandled

/-- An IP packet (class table, R343). -/
def State.sortIp (s : State) (i : Nat) (c : Ctx) (ip : IpPacket) : State :=
  let type := natAt ip.body 0 1
  if ip.proto = 17 then
    match ip.udp with
    | none => s.endDropped i c outMalformed
    | some d => s.sortUdp i c ip d
  else if (ip.v6 = false ∧ ip.proto = 1 ∧ type = 8) ∨ (ip.v6 = true ∧ ip.proto = 58 ∧ (type = 128 ∨ type = 135)) then
    s.toHousekeeping i c (s.icmpReply c.port c.entry c.tag (frameSrc c.frame) ip)
  else s.endDropped i c outUnhandled

/-- The SSM code of an ESMC PDU, if the PDU carries its quality TLV (R153). -/
def esmcSsm (b : List Byte) : Option Nat :=
  if natAt b 1 3 = 0x0019A7 ∧ natAt b 10 1 = 1 ∧ natAt b 11 2 = 4 then some (natAt b 13 1 % 16) else none

/-- SORT parses and classifies the oldest context it holds (R342, R343). -/
def State.sortNext (s : State) : State :=
  match s.findCtx (fun c => c.stage == .sort) with
  | none => s
  | some i =>
    match s.net.pipe.ctxs[i]? with
    | none => s
    | some c0 =>
      let c : Ctx := { c0 with tag := s.entryTag c0.port c0.entry }
      let b := framePayload c.frame
      if frameType c.frame = etherPtp then s.sortPtp i c 0 b [] []
      else if frameType c.frame = etherSlow ∧ natAt b 0 1 = 0x0A then
        (match esmcSsm b with
          | some v => s.esmc (8 + c.port) v
          | none => s).endAs i c clsEsmc outConsumed
      else if frameType c.frame = etherArp then s.toHousekeeping i c (s.arpReply c.port c.entry c.tag b)
      else
        match parseIp c.frame with
        | .malformed => s.endDropped i c outMalformed
        | .other => s.endDropped i c outUnhandled
        | .ip ip => s.sortIp i c ip

/-! ### ADMIT -/

/-- An NTS request that ADM admits (R351, R430, R431). -/
def State.admitNts (s0 : State) (i : Nat) (c : Ctx) : State :=
  let s := s0.fillBuckets
  if s.net.pipe.nts < tokenSize then s.endCtx i outNtsCap
  else
    let s1 := s.setPipe { s.net.pipe with nts := s.net.pipe.nts - tokenSize }
    if s1.ntsAway then s1.endCtx i outVoid
    else
      let kiss (t : State) : State := t.setCtx i { c with duty := .kissNts, stage := .read }
      match s1.ntsCheck c.frame with
      | .badCookie => kiss (s1.ntsNak true)
      | .badAuth => kiss (s1.ntsNak false)
      | .unbound => s1.endCtx i outVoid
      | .bound k => s1.setCtx i { c with duty := .nts, key := some k, stage := .read }

/-- An NTP or NTS request at ADMIT (R424, R457, R458, R472, R473). -/
def State.admitNtp (s : State) (i : Nat) (c : Ctx) (trx : Int) : State :=
  let nts := c.cls == clsNts
  if s.safe && (nts || s.bit F.NTP_CTL_SAFE_SILENT) then s.endCtx i outSafeDrop
  else
    match s.admVerdict (c.dest.ip.length == 16) (beNat c.dest.ip) nts trx with
    | (s1, .drop) => s1.endCtx i outRateDrop
    | (s1, .kiss) => s1.setCtx i { c with duty := .kissRate, stage := .read }
    | (s1, .accepted) => if nts then s1.admitNts i c else s1.setCtx i { c with duty := .ntp, stage := .read }

/-- A Delay_Req at ADMIT (R401 to R403). -/
def State.admitDelayReq (s : State) (i : Nat) (c : Ctx) : State :=
  let p := c.port
  let s1 := s.ptpCount p 3
  let unicast := !(c.dest.mac == (ptpGroup (s.get (F.PTP_Pp_CTL_TRANSPORT p)) mDelayResp).mac)
  let allowed : Option State :=
    if s.ptpState p ≠ ptpMaster then none
    else if unicast then (if c.dest.ip = [] then none else s1.delayReqAllowed p (natAt c.frame 20 10) c.dest.ip)
    else if s.bit (F.PTP_Pp_CTL_MCAST_EN p) then some s1 else none
  match allowed with
  | none => s1.endCtx i outPtpRefused
  | some s2 =>
    if s2.safe then s2.endCtx i outSafeDrop
    else if s2.bit F.STR_STAT_F0_SET = false then s2.endCtx i outPtpRefused
    else
      let log := if unicast then
          (match s.liveGrants.find? (fun g => g.port == p && g.id == natAt c.frame 20 10 && g.dest.ip == c.dest.ip &&
              g.kind == mDelayResp) with
            | some g => g.log
            | none => s.logDreq p)
        else s.logDreq p
      let msg := s2.ptpMessage p mDelayResp unicast flagPtp (natAt c.frame 30 2) log
        (List.replicate 10 0 ++ slice c.frame 20 10)
      s2.setCtx i { c with duty := .delayResp, msg := msg, stage := .read }

/-- Unicast Signaling at ADMIT (R397, R400, R401). -/
def State.admitSignaling (s : State) (i : Nat) (c : Ctx) : State :=
  let p := c.port
  let s1 := s.ptpCount p 5
  if s.bit (F.PTP_Pp_CTL_UC_EN p) = false ∧ s.bit (F.PTP_Pp_CTL_UC_REQ p) = false then s1.endCtx i outPtpRefused
  else
    let src := natAt c.frame 20 10
    let base : Grant :=
      { port := p, id := src, dest := c.dest, entry := c.entry, tag := c.tag, srcIp := c.srcIp, kind := 0, log := 0, ends := 0 }
    let body := (c.frame.take (natAt c.frame 2 2)).drop 44
    let l := tlvs body.length body
    let s2 := if s.bit (F.PTP_Pp_CTL_UC_REQ p) && c.dest.ip == s.masterIp p then s1.each l (fun t u => u.noteAnswer p t) else s1
    let r := if s.bit (F.PTP_Pp_CTL_UC_EN p) then s2.answerAll base l else (s2, [])
    if r.2 = [] then r.1.endCtx i outConsumed
    else
      let msg := r.1.ptpMessage p mSignaling true flagPtp ((r.1.ptp p).seqOf mSignaling) 127 (beBytes 10 src ++ r.2)
      (r.1.seqUsed p mSignaling).setCtx i { c with duty := .signaling, msg := msg, stage := .read }

/-- ADMIT judges the oldest context it holds (R342). -/
def State.admitNext (s : State) : State :=
  match s.findCtx (fun c => c.stage == .admission) with
  | none => s
  | some i =>
    match s.net.pipe.ctxs[i]? with
    | none => s
    | some c =>
      if c.cls = clsPtpRequest then
        (if natAt c.frame 0 1 % 16 = mDelayReq then s.admitDelayReq i c else s.admitSignaling i c)
      else
        match c.trx with
        | none => s.endCtx i outNoStamp
        | some t => s.admitNtp i c t

/-! ### READ, SEAL, LAUNCH -/

/-- The message of a context with its stamps in place (R326, R377, R378, R419). -/
def Ctx.stamped (c : Ctx) : List Byte :=
  match c.view with
  | none => c.msg
  | some v =>
    let at_ (t : Int) (pip : Bool) : List Byte :=
      let x := v.at_ t
      patch (patch c.msg 34 (beBytes 6 (faceSec x) ++ beBytes 4 (faceNs x))) 8 (beBytes 8 (if pip then facePip x else 0))
    match c.duty with
    | .sync => at_ c.slot true
    | .announce => at_ c.slot false
    | .delayReq => at_ c.slot false
    | .delayResp => at_ (c.trx.getD 0) true
    | .ntp => patch c.msg 32 (ntpStamp (v.at_ (c.trx.getD 0)) ++ ntpStamp (v.at_ c.slot))
    | .nts => patch c.msg 32 (ntpStamp (v.at_ (c.trx.getD 0)) ++ ntpStamp (v.at_ c.slot))
    | _ => c.msg

/-- Whether a context's message is an NTP one. -/
def Duty.isNtp (d : Duty) : Bool := d == .ntp || d == .nts || d == .kissRate || d == .kissNts

/-- The frame that carries a payload for a context (R273, R417). -/
def State.frameFor (s : State) (c : Ctx) (payload : List Byte) : List Byte :=
  let mac := s.macAddr c.port
  if c.dest.ip = [] then padFrame (etherHeader c.dest.mac mac c.tag etherPtp ++ payload)
  else if c.duty.isNtp then
    udpFrame c.dest.mac mac c.tag c.srcIp c.dest.ip (s.get F.NTP_IP_DSCP) (s.get F.NTP_IP_TTL) 123 c.dest.udp payload
  else
    udpFrame c.dest.mac mac c.tag c.srcIp c.dest.ip (Config.ipDscp 0) (Config.ipHops 0) c.dest.udp c.dest.udp payload

/-- The payload length a context's frame will have. -/
def Ctx.payloadLength (c : Ctx) : Nat :=
  match c.duty, c.key with
  | .nts, some k => k.replyLength
  | _, _ => c.msg.length

/-- A context with its slot: it goes on to SEAL, or ends NO_SLOT (R322, R325). -/
def State.readSlot (s : State) (i : Nat) (c : Ctx) : State :=
  let len := wireLength (s.frameFor c (List.replicate c.payloadLength 0))
  match s.askSlot c.port len with
  | (s1, none) => s1.endCtx i outNoSlot
  | (s1, some t) =>
    s1.setCtx i { c with len := len, slot := t, granted := s.nowSub, board := s.boardWord c.port 0, stage := .seal }

/-- READ for an NTP or NTS reply (R420 to R427). -/
def State.readNtp (s : State) (i : Nat) (c : Ctx) : State :=
  let k := s.ntpCond
  let free := s.ntpSynced k && (s.refInstant k).isNone
  let ref := match s.refInstant k with
    | some t => ntpStamp ((s.view s.ntpFace).at_ t)
    | none => beBytes 8 s.freeNat
  let s1 := (if free then s.drawn else s).takeCond k
  s1.readSlot i { c with
    msg := s.ntpHeader c.frame ref k, view := if s.ntpSynced k then some (s.view s.ntpFace) else none }

/-- READ takes the oldest context it holds (R342, R356). -/
def State.readNext (s : State) : State :=
  match s.findCtx (fun c => c.stage == .read) with
  | none => s
  | some i =>
    match s.net.pipe.ctxs[i]? with
    | none => s
    | some c =>
      if s.portServes c.port = false then (s.portGone c.port).endCtx i outPortGone
      else
        match c.duty with
        | .ntp => if s.safe && s.bit F.NTP_CTL_SAFE_SILENT then s.endCtx i outSafeDrop else s.readNtp i c
        | .nts => if s.safe then s.endCtx i outSafeDrop else s.readNtp i c
        | .kissRate => s.readSlot i { c with msg := s.kissHeader c.frame 0x52415445 }
        | .kissNts =>
          if s.safe then s.endCtx i outSafeDrop
          else
            let uid := ((payloadFields c.frame).getD []).filter (fun f => f.type == extUid)
            s.readSlot i { c with msg := s.kissHeader c.frame 0x4E54534E ++ uid.flatMap (fun f => f.bytes) }
        | .sync => if s.safe then s.endCtx i outSafeDrop else s.readSlot i { c with view := some (s.view .f0) }
        | .delayResp => if s.safe then s.endCtx i outSafeDrop else s.readSlot i { c with view := some (s.view .f0) }
        | .announce =>
          if s.safe && s.bit F.PTP_CTL_SAFE_SILENT then s.endCtx i outSafeDrop
          else
            s.readSlot i { c with
              msg := s.announceNow c.msg, view := some (s.view .f0),
              leapAt := if s.leap ≠ 0 ∧ s.followPort = none then some s.leapAt else none }
        | .delayReq => s.readSlot i { c with view := some (s.view .f0) }
        | .signaling => s.readSlot i c
        | .management => if s.safe then s.endCtx i outSafeDrop else s.readSlot i c
        | .request => s.endCtx i outUnhandled

/-- Whether context `i` stands in one of SEAL's eight lanes: fewer than eight contexts wait at SEAL before it (R341). -/
def State.inLane (s : State) (i : Nat) : Bool := decide ((s.net.pipe.ctxs.take i).countP (fun c => c.stage == .seal) < 8)

/-- SEAL composes context `i` (R341, R342, R432, R453). -/
def State.sealAt (s : State) (i : Nat) : State :=
  match s.net.pipe.ctxs[i]? with
  | none => s
  | some c =>
    if c.stage ≠ .seal ∨ s.inLane i = false then s
    else
      match c.duty, c.key with
      | .nts, some k =>
        match s.keyOf k.slot with
        | none => s.endCtx i outVoid
        | some key =>
          if s.ntsAway ∨ s.keyGen k.slot ≠ k.gen then s.endCtx i outVoid
          else
            let r := s.sealReply c.stamped k key
            (r.2.setCtx i { c with out := s.frameFor c r.1, stage := .launch }).count (wordFld A.NTS_CNT_SEALED) 1
      | .nts, none => s.endCtx i outVoid
      | _, _ => s.setCtx i { c with out := s.frameFor c c.stamped, stage := .launch }

/-- LAUNCH stages context `i` on its port (R323, R356). -/
def State.launchAt (s : State) (i : Nat) : State :=
  match s.net.pipe.ctxs[i]? with
  | none => s
  | some c =>
    if c.stage ≠ .launch then s
    else if s.portServes c.port = false then (s.portGone c.port).endCtx i outPortGone
    else
      let e := s.eth c.port
      let n := s.nowSub - c.granted
      let most := match e.largestN with
        | none => n
        | some m => max m n
      (s.setEth c.port { e with largestN := some most }).setCtx i { c with stage := .staged }

/-! ### Commit and missed slots (R324 to R329, R339) -/

/-- The outcome of a context whose frame is committed. -/
def Duty.outcome (d : Duty) : Nat :=
  match d with
  | .kissRate => outRateKod
  | .kissNts => outNtsNak
  | _ => outSent

/-- What the PTP service keeps of a committed Delay_Req: its sequence number and the Face at its slot (R378). -/
def State.noteAsked (s : State) (c : Ctx) : State :=
  let t3 := match c.view with
    | some v => v.at_ c.slot
    | none => 0
  if c.duty = .delayReq then s.setPtpPort c.port { s.ptp c.port with asked := some (natAt c.msg 30 2, t3) } else s

/-- What a committed message counts as, and what the PTP service keeps of it (R378, R354). -/
def State.committedMessage (s : State) (c : Ctx) : State :=
  let p := c.port
  if c.ended then s.noteAsked c
  else if c.duty.isNtp then
    let vn := natAt c.msg 0 1 / 8 % 8
    let s1 := s.count (wordFld (if vn = 3 then A.NTP_CNT_V3 else A.NTP_CNT_V4)) 1
    if (c.duty = .ntp ∨ c.duty = .nts) ∧ c.view = none then s1.count (wordFld A.NTP_CNT_UNSYNC) 1 else s1
  else
    match c.duty with
    | .announce => s.ptpCount p 7
    | .sync => s.ptpCount p 8
    | .delayReq => (s.ptpCount p 9).noteAsked c
    | .delayResp => s.ptpCount p 10
    | .signaling => s.ptpCount p 11
    | _ => s

/-- Whether the Face a message carries has changed since READ (R325). -/
def State.stale (s : State) (c : Ctx) : Bool :=
  match c.view with
  | none => false
  | some v => v != s.view v.face

/-- A context's frame has missed its slot (R328, R329). -/
def State.missCtx (s : State) (i : Nat) (c : Ctx) (late : Bool) : State :=
  let p := c.port
  let s0 := s.missSeen p
  let s1 := if late then s0 else s0.count ⟨A.MAC_MISS_B p, 16, 16⟩ 1
  let c1 : Ctx := { c with misses := c.misses + 1 }
  if s.portServes p = false then ((s1.portGone p).setCtx i c1).endCtx i outPortGone
  else if (c.duty = .nts ∧ 1 ≤ c.misses) ∨ 3 ≤ c.misses then ((s1.missDrop p).setCtx i c1).endCtx i outMissDrop
  else
    match s1.askSlot p c.len with
    | (s2, none) => (s2.setCtx i c1).endCtx i outNoSlot
    | (s2, some t) =>
      let c2 : Ctx :=
        { c1 with
          slot := t, granted := s.nowSub, board := s.boardWord p 0, view := c.view.map (fun v => s.view v.face) }
      if c.duty = .nts then (s2.count ⟨A.MAC_MISS_A p, 16, 16⟩ 1).setCtx i { c2 with stage := .seal }
      else
        let composed := c.stage == .launch || c.stage == .staged
        (s2.count (⟨A.MAC_MISS_A p, 0, 16⟩) 1).setCtx i
          (if composed then { c2 with out := s.frameFor c2 c2.stamped } else c2)

/-- A context as its commit finds it: composed again where its message is no longer the one it was composed from (R381,
R406). -/
def State.freshened (s : State) (c : Ctx) : Ctx :=
  let m := s.messageNow c
  if m = c.msg then c
  else
    let c1 : Ctx := { c with msg := m }
    { c1 with out := s.frameFor c1 c1.stamped }

/-- A context's commit point is reached (R324, R325). New metadata of another length need another slot (R406). -/
def State.commitCtx (s : State) (i : Nat) : State :=
  match s.net.pipe.ctxs[i]? with
  | none => s
  | some c0 =>
    let c := s.freshened c0
    let late := c.stage != .staged || s.heldBack c.port c.slot c.board
    if late || s.stale c then s.missCtx i c0 late
    else if c.msg.length ≠ c0.msg.length then s.setCtx i { c with stage := .read }
    else
      let f : TxFrame := { kind := .slotted, bytes := c.out, slot := c.slot, board := c.board, origin := .context c }
      ((s.committedMessage c).commitFrame c.port f).endCtx i c.duty.outcome

/-- A committed frame that has not started takes the missed-slot path (R285): its context has ended by the commit, so the
frame alone goes back. -/
def State.uncommit (s : State) (p : Nat) (f : TxFrame) : State :=
  match f.origin with
  | .none => s
  | .relayed r => s.relayMiss p r
  | .context c =>
    let c1 : Ctx := { c with ended := true }
    (s.setCtxs (s.net.pipe.ctxs ++ [c1])).missCtx s.net.pipe.ctxs.length c1 true

/-- The committed frames that a received pause keeps from starting take the missed-slot path (R284, R285). -/
def State.pauseMisses (s : State) (p : Nat) : State :=
  if s.bit (F.MAC_STAT_PAUSED p) then
    let held (f : TxFrame) : Bool := s.pausedAt p (s.startAt p f.slot f.board)
    let e := s.eth p
    (s.setEth p { e with committed := e.committed.filter (fun f => !held f) }).each (e.committed.filter held)
      (fun f t => t.uncommit p f)
  else s

/-- The earliest uncommitted slot of a port: of a context (true) or of a relayed copy, with its place. -/
def State.earliest (s : State) (p : Nat) : Option (Int × Bool × Nat) :=
  let a := s.net.pipe.ctxs.zipIdx.filterMap (fun x => if x.1.port = p ∧ x.1.hasSlot = true then some (x.1.slot, true, x.2) else none)
  let b := (s.eth p).relays.zipIdx.map (fun x => (x.1.slot, false, x.2))
  (a ++ b).foldl (fun best x => match best with
    | none => some x
    | some y => if x.1 < y.1 then some x else best) none

/-- The commit point of a port's earliest slotted frame is reached (R324). -/
def State.slotCommit (s : State) (p : Nat) : State :=
  match s.earliest p with
  | none => s
  | some (_, true, i) => s.commitCtx i
  | some (_, false, i) => s.relayCommit p i

/-- A context has not ended within CTX_TIMEOUT of its allocation (R348). -/
def State.ctxExpired (s : State) (i : Nat) : State :=
  match s.net.pipe.ctxs[i]? with
  | none => s
  | some c =>
    if c.ended = false ∧ (s.val A.PIPE_CTX_TIMEOUT : Int) * 1250 * 65536 ≤ s.nowSub - c.born then s.endCtx i outExpired
    else s

/-! ### Control, drain and words -/

/-- A write of PIPE.CTL (R365, R366). -/
def State.pipeCtlWrite (s : State) (v : Nat) : State :=
  let was := s.bit F.PIPE_CTL_EN
  let s1 := s.setVal A.PIPE_CTL (v % 2 + bitsAt v 4 4 * 16)
  if was && !bitOf v 0 then s1.put F.PIPE_STAT_DRAINING 1 else s1

/-- The drain completes (R366, R367). -/
def State.pipeDrained (s : State) : State :=
  if s.net.pipe.ctxs.all (fun c => c.ended) = true ∧ s.dom .pipe = 2 then s.put F.PIPE_STAT_DRAINING 0 else s

/-- A pipeline block reset (R367). -/
def State.pipeReset (s : State) : State :=
  ((s.endAll (fun _ => true) outVoid).mailFlush).put F.PIPE_STAT_DRAINING 1

/-- The fields of a word of the PIPE bank that have a range (R15): of MBX_CTL, and of the NTP service's words. -/
def pipeFields (w v : Nat) : List (Nat × Nat × Bool) :=
  if w = 0x40 then [(1, 2, bitsAt v 1 2 != 0)]
  else if w = 0x46 then [(0, 4, within (bitsAt v 0 4) 2 15), (8, 4, within (bitsAt v 8 4) 1 15)]
  else if w = 0x48 then [(0, 8, bitsAt v 0 8 != 0)]
  else if w = 0x0A then [(16, 12, within (bitsAt v 16 12) 64 2048)]
  else []

/-- A write to a word of the PIPE bank with a rule of its own. -/
def State.pipeWrite (s : State) (w v : Nat) : Option Written :=
  if w = 0x00 then some (s.pipeCtlWrite v).ok
  else if w = 0x03 then
    if within v 1 512 then
      let s1 := s.fillBuckets.setVal A.PIPE_BURST v
      let x := s1.net.pipe
      some (s1.setPipe { x with issue := min x.issue s1.burst, nts := min x.nts s1.burst }).ok
    else some (s.rejected .range)
  else if w = 0x06 then some (s.setVal A.PIPE_CTX_PEAK s.ctxInUse).ok
  else if w = 0x09 then some (s.hkAnnounce v).ok
  else if w = 0x0D then some (if v = 1 then s.mailFlush else s).ok
  else if allFit (pipeFields w v) = false then some (s.fitWrite (0x1100 + w) v (pipeFields w v))
  else none

/-- Words of the PIPE bank the state computes. -/
def State.pipeRead (s : State) (w : Nat) : Option Word :=
  if w = 0x01 then some (wordOf (withBits (s.val A.PIPE_STAT) 0 1 (flagVal (s.net.pipe.ctxs.any (fun c => !c.ended)))))
  else if w = 0x05 then some (wordOf s.ctxInUse)
  else if w = 0x0B then some (wordOf s.net.pipe.mailbox.length)
  else none

/-- What a start of NET leaves of the ports (R287, R315). -/
def State.netStarts (s : State) : State :=
  let s1 := s.netStops
  s1.each (List.range portCount) (fun p t => if t.portOn p then t.portStart p else t)

/-- What a start of PIPE leaves of the pipeline and the services in its domain (R364, R461, R442). -/
def State.pipeStarts (s : State) : State :=
  let n := s.net
  let nts : NtsState := { keys := n.nts.keys, nonces := n.nts.nonces, sinceSeed := n.nts.sinceSeed }
  let s1 : State := { s with net := { n with pipe := {}, ptp := {}, ntp := {}, nts := nts, adm := {} } }
  let s2 := s1.setPipe { s1.net.pipe with issue := s1.burst, nts := s1.burst, filled := s1.tally }
  (((s2.setCaps (s2.get F.PWR_STAT_LEVEL_NOW)).setAdm { s2.net.adm with ovfTokens := s2.val A.ADM_OVF_DEPTH * tokenUnit, ovfLast := s2.tally }).drawHashKey).ntsStarts

end Sys2Proof.Machine
end

