-- ==== Sys2Proof/Machine/Pwr.lean ====
section
/-! DEFINITION. Power domains: votes, drops, starts, the retention set, regulators and performance levels (R592 to
R623). -/

namespace Sys2Proof.Machine

/-! ### Domains -/

/-- The codes of the domains that `d` requires besides AON, directly or through another (R592). -/
def needs : Nat → List Nat
  | 2 => [7]
  | 3 => [2, 7]
  | 4 => [2, 7]
  | 5 => [4, 2, 7]
  | 6 => [7]
  | _ => []

/-- `d` and every domain that requires it (R596). -/
def withDependents (d : Nat) : List Nat := (List.range 8).filter (fun e => e == d || (needs e).contains d)

/-- The order of an orderly drop (R598). -/
def dropOrder : List Nat := [5, 4, 6, 3, 2, 1, 7]

/-- The order in which a refusal is searched (R597). -/
def searchOrder : List Nat := [5, 4, 3, 6, 2, 1, 7]

/-- The order in which voted domains start: HOST, which TIME and ARRAY require, then that of the domain table. -/
def startOrder : List Nat := [7, 1, 2, 3, 4, 5, 6]

/-- The banks of a domain (R592). TB is shared by OVEN and TIME. -/
def banksOf : Nat → List Nat
  | 1 => [3]
  | 2 => [3, 4, 5, 6, 7, 8, 9, 10]
  | 4 => [11, 12, 13, 14, 15]
  | 5 => [16, 17, 18, 19]
  | 6 => [20, 21]
  | 7 => [0, 2, 23]
  | _ => []

/-- The row of a word; an unmapped word has no bits. -/
def rowOf (a : Nat) : Row := (rowAt a).getD { lo := 0 }

/-- The words of the TB bank that lie in the OVEN domain whole (R831). -/
def ovenWord (w : Nat) : Bool := (within w 2 9) || w == 0x0E || w == 0x0F

/-- The bits of a TB word that lie in the OVEN domain (R831). -/
def ovenBits (w : Nat) : Nat := if ovenWord w then full else (rowOf (0x300 + w)).oven

/-- The bits of word `a` that lie in domain `d`. -/
def domainBits (d a : Nat) : Nat :=
  if (banksOf d).contains (a / 256) then
    if d = 1 then ovenBits (a % 256)
    else if d = 2 ∧ a / 256 = 3 then full - ovenBits (a % 256)
    else full
  else 0

/-- `new` with the bits of `keep` taken from `old`. -/
def mixBits (keep old new : Nat) : Nat := (old &&& keep) ||| (new &&& (full - keep))

/-- The state of the domain with code `d`. -/
def State.domain (s : State) (d : Nat) : Nat := s.dom (Domain.ofCode d)

/-- A domain's state changes (R603). -/
def State.setDomain (s : State) (d v : Nat) : State :=
  if s.domain d = v then s else (s.put (domField (Domain.ofCode d)) v).raise Ev.PWR_DOMAIN

/-- Every listed word goes back to its reset value but for the bits that `keep` names. -/
def State.resetWords (s : State) (keep : Nat → Nat) : State :=
  s.each (s.regs.map Prod.fst) (fun a t => t.setVal a (mixBits (keep a) (t.val a) (resetWord a).toNat))

/-! ### Votes (R593) -/

/-- A list of domains with every domain they require. -/
def withNeeds (l : List Nat) : List Nat := l ++ l.flatMap needs

/-- The domains that voter `v` holds (R593). -/
def State.heldBy (s : State) (v : Nat) : List Nat :=
  let direct : List Nat := match v with
    | 0 => (List.range 8).filter (fun d => d != 0 && bitOf (s.val A.PWR_HOST_VOTE) d)
    | 1 => if (List.range 12).any (fun n => s.bit (F.REFM_Sn_CTL_EN n)) || s.bit F.REFM_ANT_CTL_EN then [2] else []
    | 2 => if s.srvState = srvIdle then [] else [2, 1]
    | 3 => (if (List.range portCount).any s.portOn then [4] else []) ++
        (if s.bit F.PIPE_CTL_EN || !s.net.pipe.ctxs.isEmpty then [5] else [])
    | 4 => if s.anyOutput then [3, 2] else []
    | 5 => if tileCodes.any (fun t => s.bit (tileEn t) || (s.tile t).draining) then [6] else []
    | 6 => if s.safe && s.pwr.guardVote then [3] else []
    | 7 => if s.pwr.wakeHold.isSome then [7, 1] else []
    | _ => []
  withNeeds direct

/-- The mask of the voters of `vs` that hold domain `d`. -/
def State.voteMask (s : State) (vs : List Nat) (d : Nat) : Nat :=
  (vs.map (fun v => if (s.heldBy v).contains d then 2 ^ v else 0)).sum

/-- PWR.VOTES_A or _B: the voters that hold domains `base` to `base` + 3. -/
def State.votesWord (s : State) (base : Nat) : Nat :=
  ((List.range 4).map (fun k => s.voteMask (List.range 8) (base + k) * 256 ^ k)).sum

/-! ### The retention set (R604 to R608) -/

/-- The bits of word `a` in the section of domain `d`. -/
def retBits (d a : Nat) : Nat := if 2 ≤ d ∧ (banksOf d).contains (a / 256) = true then (rowOf a).ret else 0

/-- The words of the section of domain `d`. -/
def sectionWords (d : Nat) : Nat :=
  (((banksOf d).flatMap (fun b => (List.range 256).map (fun w => b * 256 + w))).filter (fun a => retBits d a != 0)).length

/-- The section of domain `d`. -/
def State.retSection (s : State) (d : Nat) : RetSection := s.pwr.ret.getD (d - 2) {}

/-- The state with a section replaced. -/
def State.setSection (s : State) (d : Nat) (x : RetSection) : State :=
  { s with pwr := { s.pwr with ret := s.pwr.ret.setIfInBounds (d - 2) x } }

/-- The valid copy of a section: the one with the higher sequence number, if both are. -/
def RetSection.valid (x : RetSection) : Option RetCopy :=
  if x.a.valid && x.b.valid then some (if x.a.seq < x.b.seq then x.b else x.a)
  else if x.a.valid then some x.a
  else if x.b.valid then some x.b
  else none

/-- Saves the section of domain `d` into the copy that does not hold the newest save; the other copy's is superseded
(R605). -/
def State.saveSection (s : State) (d : Nat) : State :=
  if d < 2 ∨ d = 3 then s
  else
    let x := s.retSection d
    let words := s.regs.filterMap (fun w =>
      if retBits d w.1 = 0 then none else some (w.1, wordOf (w.2.toNat &&& retBits d w.1)))
    let copy : RetCopy := { valid := true, seq := max x.a.seq x.b.seq + 1, words := words }
    if x.b.seq < x.a.seq then s.setSection d { a := { x.a with valid := false }, b := copy }
    else s.setSection d { a := copy, b := { x.b with valid := false } }

/-- Every section is superseded (R608). -/
def State.supersede (s : State) : State :=
  { s with pwr := { s.pwr with ret := s.pwr.ret.map (fun x =>
      { a := { x.a with valid := false }, b := { x.b with valid := false } }) } }

/-- The restore of domain `d`'s section at its start (R606, R607). -/
def State.restoreSection (s : State) (d : Nat) : State :=
  if d < 2 ∨ d = 3 then s
  else if s.pwr.plain.contains d then s
  else if bitOf (s.val A.PWR_RET_CTL) d = false then s
  else
    match (s.retSection d).valid with
    | none => (s.setBit F.PWR_STAT_RET_FAIL_SEEN true).raise Ev.PWR_RET_FAIL
    | some c => s.each c.words (fun w t => t.setVal w.1 (mixBits (full - retBits d w.1) (t.val w.1) w.2.toNat))

/-- PWR.RET_STAT. -/
def State.retStat (s : State) : Nat :=
  let l := [2, 4, 5, 6, 7].filter (fun d => (s.retSection d).valid.isSome)
  (l.map (fun d => 2 ^ d)).sum + (l.map sectionWords).sum % 2048 * 65536

/-! ### What a domain's blocks lose and gain -/

/-- Records an anchor: era, Tally and transit clock (R642). -/
def State.anchor (s : State) (stop : Bool) : State :=
  (((s.setVal A.PWR_ANCHOR_INFO (s.era + flagVal stop * 65536)).setMulti A.PWR_ANCHOR_TALLY_HI (s.tally % 2 ^ 64) 2).setMulti
    A.PWR_ANCHOR_TCLK_HI s.tclk 2).setBit F.PWR_TCLK_STAT_VALID true

/-- An arming whose end the Tally no longer tells. -/
def Arming.untimed (a : Arming) : Arming := { a with ends := none }

/-- What TIME's blocks lose: SRV keeps what lies in AON (R212). The armings of other domains stand (R831). -/
def State.timeStops (s : State) : State :=
  let s1 := if s.tallyRun then s.anchor true else s
  let s2 := s1.each (List.range 8) (fun n t => t.abortRun n calCancelled 0 0 0)
  let v := s2.srv
  let srv : ServoState :=
    { est := v.est, cov := v.cov, estOrigin := v.estOrigin, resid := v.resid, outliers := v.outliers, hist := v.hist }
  { s2 with
    mode := { s2.mode with safeAtStop := s2.safe }
    arms := { tb := s2.arms.tb.map Arming.untimed, nts := s2.arms.nts.map Arming.untimed
              grd := s2.arms.grd.map Arming.untimed }
    str := {}
    refm := {}
    srv := srv
    vc := Vector.replicate 8 {}
    meas := Vector.replicate 4 {}
    pcr := {} }

/-- What the blocks of PIPE lose: contexts, mailbox, tables and grants; the keys stay in AON. -/
def State.pipeStops (s : State) : State :=
  let s1 := s.rotationVoid.mintsVoid
  let n := s1.net
  let nts : NtsState := { keys := n.nts.keys, nonces := n.nts.nonces, sinceSeed := n.nts.sinceSeed }
  { s1 with net := { n with pipe := {}, ptp := {}, ntp := {}, nts := nts, adm := {} } }

/-- What HOST loses: events, trace, the host ports and the jobs of the board bus, and the window words (R600). -/
def State.hostStops (s : State) : State :=
  { s with
    evt := {}
    obs := {}
    arms := {}
    hif := { madd := s.hif.madd }
    regs := s.regs.filter (fun w => w.1 < 65536) }

/-- What a drop of domain `d` takes from its blocks (R600). -/
def State.blocksStop (s : State) (d : Nat) : State :=
  match d with
  | 1 => s.ovenDrops
  | 2 => s.timeStops
  | 3 => s.padsStop (List.range outputs)
  | 4 => s.netStops
  | 5 => s.pipeStops
  | 6 => s.arrStops
  | 7 => s.hostStops
  | _ => s

/-- In Rise, with RISE_RUN = 1, every due channel runs once the PLL is locked (R137). -/
def State.riseRuns (s : State) : State :=
  if s.dom .time = 2 ∧ s.baseMode = .rise ∧ s.bit F.VCAL_CTL_RISE_RUN = true ∧ s.bit F.TB_STAT_PLL_LOCK = true then
    s.each (List.range 8) (fun n t => t.autoRun n)
  else s

/-- TIME's blocks start (R23, R24, R33, R751): a new era, the capture queues, and every unit that its restored
registers enable. A start that no reset and no wake began has a cause that the spec does not state. -/
def State.timeOn (s : State) : State :=
  let s1 := (s.raise Ev.ERA_CHANGE).captureStarts.pacerStarts
  let s2 := s1.each ((List.range 8).filter (fun n => s1.bit (F.VC_Vn_CTL_EN n))) (fun n t => t.channelStarts n)
  let s3 := s2.each ((List.range 12).filter (fun n => s2.bit (F.REFM_Sn_CTL_EN n))) (fun n t => t.slotEnable n true)
  let s4 := if s3.bit F.REFM_ANT_CTL_EN then s3.antStart else s3
  let s5 := s4.each ((List.range outputs).filter (fun n => s4.bit (F.PCR_OUTn_CTL_EN n))) (fun n t => t.outStarts n true)
  let s6 := if s5.baseMode = .rise then s5 else (s5.enterMode .rise (s5.freeNat % 256)).drawn
  ({ s6 with pwr := { s6.pwr with fresh := false } }).riseRuns

/-- HOST's blocks start; the events put off until then are raised (R612, R649, R730). -/
def State.hostOn (s : State) : State :=
  let s1 := (s.raiseIf s.pwr.brownoutDue Ev.PWR_BROWNOUT).raiseIf s.pwr.handoverDue Ev.PWR_HANDOVER
  { s1 with pwr := { s1.pwr with brownoutDue := false, handoverDue := false } }

/-- The start sequences of domain `d`'s blocks (R602). -/
def State.blocksStart (s : State) (d : Nat) : State :=
  match d with
  | 1 => s.ovenStarts
  | 2 => s.timeOn
  | 3 => s.padsStart (List.range outputs)
  | 4 => s.netStarts
  | 5 => s.pipeStarts
  | 6 => s.arrStarts
  | 7 => s.hostOn
  | _ => s

/-! ### Drops -/

/-- The clamps, the save and the regulator of domain `d`: its blocks lose their state, its banks read 0 while it is
down, and its EN fields stay as they stand (R598, R599, R627). `save` tells a drop that saves the section. -/
def State.dropOne (s : State) (save : Bool) (d : Nat) : State :=
  if s.domain d = 0 then s
  else
    let s1 := if save && decide (2 ≤ s.domain d) then s.saveSection d else s
    let s2 := s1.blocksStop d
    let keep (a : Nat) : Nat := (rowOf a).ret ||| (rowOf a).aon ||| (full - domainBits d a)
    let s3 := (s2.resetWords keep).setDomain d 0
    { s3 with pwr := { s3.pwr with dropping := s3.pwr.dropping.filter (· != d) } }

/-- An abrupt drop of the domains listed (R599). -/
def State.abruptDrop (s : State) (l : List Nat) : State :=
  s.each (dropOrder.filter l.contains) (fun d t => t.dropOne true d)

/-- The blocks of domain `d` shut down: the heater under R58, ports under R299, the pipeline under R366, tiles under
R512. -/
def State.blocksShut (s : State) (d : Nat) : State :=
  match d with
  | 1 => s.heatStops
  | 4 => s.each ((List.range portCount).filter s.portOn) (fun p t => t.portStop p)
  | 5 => s.put F.PIPE_STAT_DRAINING 1
  | 6 => s.arrShuts
  | _ => s

/-- The next domain of the orderly drops under way, in the order of R598, is told to shut down once the one before it is
OFF. DEDUCED (log 66): one domain at a time; one that is STARTING is waited for (R619). -/
def State.dropNext (s : State) : State :=
  if dropOrder.any (fun d => s.domain d == 3) then s
  else
    match dropOrder.find? (fun d => s.pwr.dropping.contains d && s.domain d != 0) with
    | some d => if s.domain d = 2 then (s.blocksShut d).setDomain d 3 else s
    | none => s

/-- An orderly drop of the domains listed that are not down begins (R598). -/
def State.drain (s : State) (l : List Nat) : State :=
  let more := (dropOrder.filter l.contains).filter (fun d => s.domain d != 0 && !s.pwr.dropping.contains d)
  ({ s with pwr := { s.pwr with dropping := s.pwr.dropping ++ more } }).dropNext

/-- Whether the blocks of a DRAINING domain have finished. -/
def State.drained (s : State) (d : Nat) : Bool :=
  match d with
  | 1 => s.tb.ramp != .down
  | 4 => !(List.range portCount).any s.portDraining
  | 5 => s.net.pipe.ctxs.isEmpty
  | 6 => !tileCodes.any (fun t => (s.tile t).draining)
  | _ => true

/-- A refusal (R597): the domain found held, the request code and the mask of the voters that hold it. -/
def State.refusePower (s : State) (d req mask : Nat) : State :=
  let voters := setBits mask 8
  let s1 := (s.setVal A.PWR_LAST_REFUSAL (d + req * 16 + voters.headD 0 * 256 + mask * 65536)).wr A.PWR_LAST_REF_TALLY
    s.tallyLow
  let s2 := s1.each voters (fun v t => t.countSat ⟨A.PWR_REFUSALS_A (v / 2), 16 * (v % 2), 16⟩ 1)
  (s2.setBit F.PWR_STAT_REFUSED_SEEN true).raise Ev.PWR_REFUSED

/-- The first domain of `l`, in the order of the search, that voters of `vs` hold, with their mask (R597). -/
def State.firstHeld (s : State) (l vs : List Nat) : Option (Nat × Nat) :=
  ((searchOrder.filter l.contains).map (fun d => (d, s.voteMask vs d))).find? (fun x => x.2 != 0)

/-- Voters other than HOST. -/
def otherVoters : List Nat := [1, 2, 3, 4, 5, 6, 7]

/-- A DROP command for domain `d` is judged (R596, R597, R619). -/
def State.judgeDrop (s : State) (d : Nat) : State :=
  let l := withDependents d
  if l.any (fun e => s.domain e == 1) then
    { s with pwr := { s.pwr with dropWaiting := s.pwr.dropWaiting ++ [d] } }
  else
    match s.firstHeld l otherVoters with
    | some (x, mask) => s.refusePower x 0 mask
    | none =>
      let s1 := s.setVal A.PWR_HOST_VOTE (mixBits (full - (l.map (2 ^ ·)).sum) (s.val A.PWR_HOST_VOTE) 0)
      ({ s1 with pwr := { s1.pwr with forced := s1.pwr.forced.filter (fun e => !l.contains e) } }).drain l

/-- A write of PWR.CMD. -/
def State.pwrCmd (s : State) (v : Nat) : Written :=
  let d := bitsAt v 8 3
  if bitsAt v 0 4 = 1 ∧ 1 ≤ d then (s.judgeDrop d).ok else s.rejected .range

/-! ### Starts -/

/-- A domain's start begins (R602): its regulator comes up with the banks at reset values, and a start of TIME begins
a new era (R23). -/
def State.beginStart (s : State) (d : Nat) : State :=
  let keep (a : Nat) : Nat := (rowOf a).aon ||| (rowOf a).start ||| (full - domainBits d a)
  let s1 := ((s.resetWords keep).setDomain d 1)
  let s2 : State := { s1 with pwr := { s1.pwr with forced := s1.pwr.forced.filter (· != d) } }
  if d = 2 then s2.tickStarts.setVal A.STR_ERA ((s2.era + 1) % 65536) else s2

/-- DOMAIN_DROPPED (R598 steps 2 to 4): the next domain follows. An entry to S2 that finds OVEN dropping starts it again
(R630). -/
def State.domainDropped (s : State) (d : Nat) : State :=
  if 1 ≤ d ∧ d ≤ 7 ∧ s.domain d = 3 ∧ s.drained d = true ∧
      ((withDependents d).filter (· != d)).all (fun e => s.domain e == 0) = true then
    let t := s.dropOne true d
    if d = 1 ∧ t.bit F.PWR_SLEEP_STAT_ENTERING = true ∧ t.get F.PWR_SLEEP_STAT_TARGET = 2 then t.beginStart 1
    else t.dropNext
  else s

/-- Whether a vote, one latched in a drop, or a warm reset wants domain `d`. -/
def State.wanted (s : State) (d : Nat) : Bool := s.pwr.forced.contains d || s.voteMask (List.range 8) d != 0

/-- A vote on the OVEN domain while its heater ramps down for a drop is latched, and TB reports DRAINING (R88, R618). -/
def State.ovenVoted (s : State) : State :=
  if s.domain 1 = 3 ∧ s.tb.ramp = .down ∧ s.tb.latched = false ∧ s.bit F.PWR_SLEEP_STAT_ENTERING = false ∧
      s.wanted 1 = true then
    { s with tb := { s.tb with latched := true } }
  else s

/-- Votes start domains in S0 (R594), each while every domain it requires is up and none of them is to drop (R592). A vote
on a domain that an orderly drop takes down is latched (R618). -/
def State.votesAct (s : State) : State :=
  if s.pwr.started = false ∨ s.pwr.rstLow = true ∨ s.get F.PWR_SLEEP_STAT_NOW ≠ 0 ∨
      s.bit F.PWR_SLEEP_STAT_ENTERING = true then s
  else
    let late := s.pwr.dropping.filter (fun d => s.wanted d && !s.pwr.forced.contains d)
    ({ s with pwr := { s.pwr with forced := s.pwr.forced ++ late } }).each startOrder (fun d t =>
      if t.domain d = 0 ∧ t.pwr.barred.contains d = false ∧
          (needs d).all (fun e => t.domain e == 2 && !t.pwr.dropping.contains e) = true ∧
          t.wanted d = true then t.beginStart d
      else t)

/-- The domains that an entry to sleep state `n` drops (R624). -/
def sleepDrops : Nat → List Nat
  | 1 => [5, 4, 6]
  | 2 => [5, 4, 6, 3, 2]
  | 3 => [5, 4, 6, 3, 2, 1, 7]
  | _ => []

/-- DOMAIN_STARTED (R602, R606): the restore, then the blocks. A DROP that waited is judged (R619); a sleep entry in
progress goes on with its drops (R630). -/
def State.domainStarted (s : State) (d : Nat) : State :=
  if 1 ≤ d ∧ d ≤ 7 ∧ s.domain d = 1 then
    let s1 := ((s.restoreSection d).setDomain d 2).blocksStart d
    let s2 : State := { s1 with pwr := { s1.pwr with
        plain := s1.pwr.plain.filter (· != d), dropWaiting := [] } }
    let s3 := s2.each s1.pwr.dropWaiting (fun x t => t.judgeDrop x)
    if s3.bit F.PWR_SLEEP_STAT_ENTERING then
      let l := sleepDrops (s3.get F.PWR_SLEEP_STAT_TARGET)
      if d = 1 ∧ l.contains 1 = false then s3.drain l else s3.dropNext
    else s3.dropNext
  else s

/-! ### Aborts and regulators -/

/-- Counts an abort (R610, R621, R622). The spec does not say which domain is named when none or several are
concerned: then DOMAIN is a free value. -/
def State.powerAbort (s : State) (cause : Nat) (l : List Nat) : State :=
  let s1 := ((s.count F.PWR_ABORTS_COUNT 1).put F.PWR_ABORTS_CAUSE cause).setBit F.PWR_STAT_ABORT_SEEN true
  match l with
  | [d] => s1.put F.PWR_ABORTS_DOMAIN d
  | _ => (s1.put F.PWR_ABORTS_DOMAIN s1.freeNat).drawn

/-- The domains that are DRAINING or STARTING. -/
def State.busyDomains (s : State) : List Nat := dropOrder.filter (fun d => s.domain d == 1 || s.domain d == 3)

/-- A level change in progress is cut off. -/
def State.cutLevel (s : State) : State :=
  ({ s with pwr := { s.pwr with levelTo := none } }).put F.PWR_STAT_LEVEL_BUSY 0

/-- The domains a regulator feeds (R609): 0 CORE, 1 TICK, 2 SERDES, 3 ANA, 4 AON. -/
def regulatorFeeds : Nat → List Nat
  | 0 => [2, 4, 5, 6, 7]
  | 1 => [2]
  | 2 => [4]
  | 3 => [2, 3, 1]
  | _ => [0]

/-- The REG_n word of a regulator. -/
def regulatorWord (r : Nat) : Nat := A.PWR_REG_CORE + r

/-- The core voltage of a level in mV (R350). -/
def levelMv : Nat → Nat
  | 0 => 800
  | 1 => 720
  | 2 => 650
  | _ => 580

/-- A fault of REG_CORE trips CORE_UV (R610), unless its source is disabled (R569). -/
def State.coreFault (s : State) (mv : Nat) : State :=
  let v : Int := mv * 1000 / levelMv (s.get F.PWR_STAT_LEVEL_NOW)
  let s1 := s.guardSample 8 true v
  if s1.bit (F.GRD_Sx_CFG_EN 8) && !s1.tripped 8 then s1.trip 8 v else s1

/-- REGULATOR_FAULT (R610) of a regulator other than REG_AON, with its output in mV and its current in mA. -/
def State.regulatorFault (s : State) (r mv ma : Nat) : State :=
  let fed := regulatorFeeds r
  let l := dropOrder.filter (fun d => fed.any (fun e => (withDependents e).contains d))
  let s1 := (s.setVal (regulatorWord r) (mv % 65536 + ma % 32768 * 65536 + 2 ^ 31)).setBit F.PWR_STAT_REG_FAULT_SEEN true
  let s2 := (s1.powerAbort 1 fed).raise Ev.PWR_REG_FAULT
  let s3 := s2.abruptDrop l
  let s4 := State.dropNext { s3 with pwr := { s3.pwr with
    barred := s3.pwr.barred ++ l.filter (fun d => !s3.pwr.barred.contains d) } }
  if r = 0 then (s4.cutLevel).coreFault mv else s4

/-- A new vote on domain `d`, made after REG_FAULT_SEEN has been cleared, lets it start again (R610). -/
def State.newVote (s : State) (d : Nat) : State :=
  if s.bit F.PWR_STAT_REG_FAULT_SEEN then s
  else { s with pwr := { s.pwr with barred := s.pwr.barred.filter (fun e => e != d && !(needs d).contains e) } }

/-- Votes that have risen since `before` lift the bar of a regulator fault (R610). -/
def State.votesRise (before s : State) : State :=
  if s.pwr.barred.isEmpty then s
  else
    s.each s.pwr.barred (fun d t =>
      let was := before.voteMask (List.range 8) d
      if (List.range 8).any (fun v => bitOf (s.voteMask (List.range 8) d) v && !bitOf was v) then t.newVote d else t)

/-! ### Levels (R614 to R617, R620) -/

/-- The effective level (R614). -/
def State.effLevel (s : State) : Nat := max (s.get F.PWR_LEVEL_REQ_LEVEL) (if s.bit F.PWR_STAT_CAPPED then 2 else 0)

/-- The caps of a level reach PIPE while it is up (R352). -/
def State.applyCaps (s : State) (level : Nat) : State := if s.up .pipe then s.setCaps level else s

/-- A level change begins when the sequencer is ACTIVE and the effective level is not the level in force (R616,
R620). -/
def State.levelFollows (s : State) : State :=
  if s.get F.PWR_STAT_SEQ = 1 ∧ s.pwr.levelTo = none ∧ s.effLevel ≠ s.get F.PWR_STAT_LEVEL_NOW then
    let l := s.effLevel
    let s1 := (({ s with pwr := { s.pwr with levelTo := some l } }).put F.PWR_STAT_LEVEL_BUSY 1).put F.PWR_STAT_SEQ 2
    if s.get F.PWR_STAT_LEVEL_NOW < l then s1.applyCaps l else s1
  else s

/-- The level in force becomes `l` (R614). -/
def State.levelIs (s : State) (l : Nat) : State :=
  if s.get F.PWR_STAT_LEVEL_NOW = l then s else (s.put F.PWR_STAT_LEVEL_NOW l).raise Ev.PWR_LEVEL

/-- LEVEL_CHANGE_DONE (R616). -/
def State.levelDone (s : State) : State :=
  match s.pwr.levelTo with
  | none => s
  | some l =>
    let s1 := if l < s.get F.PWR_STAT_LEVEL_NOW then s.applyCaps l else s
    let s2 := s1.cutLevel.levelIs l
    if s2.get F.PWR_STAT_SEQ = 2 then s2.put F.PWR_STAT_SEQ 1 else s2

/-- The highest of the Guard's die sensors, as last sampled (R615). -/
def State.hottestDie (s : State) : Int :=
  ((List.range 4).map (fun k => s.ival (A.GRD_TEMP_D k))).foldl max (s.ival (A.GRD_TEMP_D 0))

/-- TCAP_SAMPLE (R615). The die sensors are sampled while the Guard is awake. -/
def State.tcapSample (s : State) : State :=
  if s.pwr.started = false ∨ s.get F.GRD_STAT_FSM = fsmLowduty then s
  else
    let v := s.hottestDie
    let q := Qual.sample .upper (s.descriptor A.PWR_TCAP_ASSERT) v s.pwr.tcap
    let s1 := ({ s with pwr := { s.pwr with tcap := q } }).setBit F.PWR_STAT_CAPPED q.on
    s1.raiseIf (q.on && !s.pwr.tcap.on) Ev.PWR_TCAP

end Sys2Proof.Machine
end

