-- ==== Sys2Proof/Machine/Sleep.lean ====
section
/-! DEFINITION. Sleep states, wake, the transit clock, hand-over to the cell, AON starts and resets (R612, R624 to R656,
R751 to R756, R791, R807). -/

namespace Sys2Proof.Machine

/-- The sleep state in force. -/
def State.sleepNow (s : State) : Nat := s.get F.PWR_SLEEP_STAT_NOW

/-- Whether a sleep entry is in progress. -/
def State.entering (s : State) : Bool := s.bit F.PWR_SLEEP_STAT_ENTERING

/-- Whether a wake is in progress. -/
def State.waking (s : State) : Bool := s.bit F.PWR_SLEEP_STAT_WAKING

/-- Whether AON runs from VBAT. -/
def State.onVbat (s : State) : Bool := s.bit F.PWR_SLEEP_STAT_ON_VBAT

/-- AON's supply (R638, R644): both registers that report it. -/
def State.setVbat (s : State) (b : Bool) : State :=
  (s.setBit F.PWR_SLEEP_STAT_ON_VBAT b).setBit F.PWR_TCLK_STAT_ON_VBAT b

/-- The Guard machine goes to LOWDUTY or to WATCH; a zeroisation goes on (R566, R572). -/
def State.guardSleeps (s : State) (low : Bool) : State :=
  let t := if s.get F.GRD_STAT_FSM = fsmZeroising then s else s.put F.GRD_STAT_FSM (if low then fsmLowduty else fsmWatch)
  if low then t else t.readLatches

/-! ### Waking (R634 to R638) -/

/-- A wake from the sleep state in force (R637): S0, with the WAKE voter. From S1 the mode becomes Free-run, from S2
and S3 Rise (R749); a Safe Hold stays in force from S1, and leads through Rise from S2 (R765). -/
def State.wakeNow (s : State) (c : Nat) : State :=
  let n := s.sleepNow
  let s1 := (((s.put F.PWR_SLEEP_STAT_LAST_WAKE c).put F.PWR_SLEEP_STAT_NOW 0).put F.PWR_SLEEP_STAT_WAKING 1).put
    F.PWR_STAT_SEQ 10
  let s2 := ({ s1 with pwr := { s1.pwr with wakeHold := some s.tclk, wakeLatched := none } }).put F.PWR_WAKE_STAT_PENDING 0
  let s3 := s2.guardSleeps false
  if n = 1 then (if s3.baseMode = .standby then s3.autoMode .freeRun 2 else s3)
  else
    let s4 : State := { s3 with
      mode := { s3.mode with safeAtStop := s3.mode.safeAtStop || s3.safe }
      pwr := { s3.pwr with guardVote := false } }
    if s4.mode.now = .rise then s4 else s4.enterMode .rise (if s4.pwr.fresh then 0 else 2)

/-- A wake cause (R634). During an entry it is latched (R652); from the cell, while the VMAIN qualifier is asserted or
RST_N is low it waits (R638, R752). -/
def State.wakeCause (s : State) (c : Nat) : State :=
  let latch (t : State) : State :=
    { t with pwr := { t.pwr with wakeLatched := some (t.pwr.wakeLatched.getD c) } }
  if s.entering then (latch s).put F.PWR_SLEEP_STAT_ENTRY_WAKE_SEEN 1
  else if s.sleepNow = 0 then s
  else if s.onVbat || (s.sleepNow == 3 && s.pwr.vmainLow) || s.pwr.rstLow then (latch s).put F.PWR_WAKE_STAT_PENDING 1
  else s.wakeNow c

/-! ### Entering sleep (R625 to R632) -/

/-- What a sleep request comes to: discarded (R625, R653, R764), refused (R626), accepted. -/
inductive SleepAnswer where
  | discarded
  | refused
  | accepted
  deriving DecidableEq, Repr

/-- The voters whose votes an entry to state `n` does not yield (R626). -/
def heldVoters : Nat → List Nat
  | 1 => [1, 2, 4, 6, 7]
  | _ => [4, 6, 7]

/-- The mode of a sleep state, Standby or Transit; a mode already in force keeps its PREV and raises nothing (R739,
R748, R816). -/
def State.sleepMode (s : State) (m : Mode) (cause : Nat) : State :=
  if s.mode.now = m then { s with mode := { s.mode with cause := cause } } else s.enterMode m cause

/-- A request for sleep state `n` (R625 to R630, R748). -/
def State.sleepRequest (s : State) (n : Nat) : SleepAnswer × State :=
  if s.pwr.started = false ∨ s.entering = true ∨ s.waking = true ∨ s.safe = true ∨ n ≤ s.sleepNow ∨ 3 < n then
    (.discarded, s)
  else
    let l := (sleepDrops n).filter (fun d => s.domain d != 0)
    match s.firstHeld l (heldVoters n) with
    | some (d, mask) => (.refused, s.refusePower d n mask)
    | none =>
      let s1 := ((s.put F.PWR_SLEEP_STAT_ENTERING 1).put F.PWR_SLEEP_STAT_TARGET n).put F.PWR_STAT_SEQ (1 + 2 * n)
      let s2 := s1.freezeServo.sleepMode (if n = 3 then .transit else .standby) 9
      let s3 :=
        if n = 2 ∧ s2.domain 1 ≠ 2 then (if s2.domain 1 = 0 then s2.beginStart 1 else s2) else s2.drain (sleepDrops n)
      (.accepted, s3)

/-- A write of PWR.SLEEP_REQ. -/
def State.sleepWrite (s : State) (v : Nat) : Written :=
  let n := bitsAt v 0 2
  if n = 0 then
    if s.waking then s.rejected .range
    else if s.entering || s.sleepNow != 0 then (s.wakeCause 1).ok
    else s.ok
  else
    match s.sleepRequest n with
    | (.discarded, t) => t.rejected .range
    | (_, t) => t.ok

/-- SLEEP_ENTRY_DONE (R631, R632): the target is reached; a latched wake follows at once (R652). -/
def State.sleepEntryDone (s : State) : State :=
  let n := s.get F.PWR_SLEEP_STAT_TARGET
  if s.entering = false ∨ (sleepDrops n).any (fun d => s.domain d != 0) = true ∨ (n = 2 ∧ s.domain 1 = 1) then s
  else
    let s1 := (((s.put F.PWR_SLEEP_STAT_ENTERING 0).put F.PWR_SLEEP_STAT_NOW n).put F.PWR_SLEEP_STAT_TARGET 0).put
      F.PWR_STAT_SEQ (2 + 2 * n)
    let s2 := if n = 3 then s1.cutLevel.guardSleeps true else ((s1.raise Ev.PWR_SLEEP).cutLevel).levelIs 3
    match s2.pwr.wakeLatched with
    | none => s2
    | some c => s2.wakeCause c

/-! ### Wake pins (R635, R636) -/

/-- The number of wake pins. -/
def wakePins : Nat := 4

/-- The level of WAKEk. -/
def State.pinLevel (s : State) (k : Nat) : Bool := bitOf s.pwr.pinLevels k

/-- The state after WAKEk has been sampled at `high`. -/
def State.setPin (s : State) (k : Nat) (high : Bool) : State :=
  let v := withBits s.pwr.pinLevels k 1 (flagVal high)
  ({ s with pwr := { s.pwr with pinLevels := v } }).put F.PWR_WAKE_STAT_LEVEL v

/-- Whether a level is WAKEk's active level. -/
def State.pinActive (s : State) (k : Nat) (high : Bool) : Bool := high == bitOf (s.get F.PWR_WAKE_CFG_POL) k

/-- WAKE_PIN_ARMED: a sample finds the pin inactive (R635). -/
def State.pinArmed (s : State) (k : Nat) : State :=
  if s.pwr.started = true ∧ k < wakePins then
    let s1 := s.setPin k (!bitOf (s.get F.PWR_WAKE_CFG_POL) k)
    s1.put F.PWR_WAKE_STAT_ARMED (withBits (s1.get F.PWR_WAKE_STAT_ARMED) k 1 1)
  else s

/-- WAKE_PIN: the pin has been active for 33 AON cycles (R635, R636). -/
def State.pinActivated (s : State) (k : Nat) : State :=
  if s.pwr.started = true ∧ k < wakePins then
    let s1 := s.setPin k (bitOf (s.get F.PWR_WAKE_CFG_POL) k)
    if bitOf (s.get F.PWR_WAKE_STAT_ARMED) k then
      let s2 := (s1.put F.PWR_WAKE_STAT_ARMED (withBits (s1.get F.PWR_WAKE_STAT_ARMED) k 1 0)).put F.PWR_WAKE_STAT_SEEN
        (withBits (s1.get F.PWR_WAKE_STAT_SEEN) k 1 1)
      if s2.sleepNow = 0 ∧ s2.entering = false then s2.raise Ev.WAKE_PIN
      else if bitOf (s2.get F.PWR_WAKE_CFG_EN) k then s2.wakeCause (2 + k)
      else s2
    else s1
  else s

/-- WAKE_AT: the transit clock reaches PWR.WAKE_AT (R634). AT_EN clears. -/
def State.wakeAt (s : State) : State :=
  if s.pwr.started = true ∧ s.bit F.PWR_WAKE_CFG_AT_EN = true ∧
      s.tclk / 65536 = s.multi A.PWR_WAKE_AT_HI 2 % 2 ^ 48 then
    (s.put F.PWR_WAKE_CFG_AT_EN 0).wakeCause 7
  else s

/-! ### The transit clock (R639 to R641) -/

/-- y in units of 10^-12 (R640): X32_OFS + C2 × (θ − TX)², with θ in 0.1 mK and C2 in 10^-11 per K². -/
def State.tclkYAt (s : State) (temp : Int) : Int :=
  let dt := temp - s.getInt F.PWR_TCLK_CFG_TX * 100
  s.ival A.PWR_X32_OFS + roundRat ((s.getInt F.PWR_TCLK_CFG_C2 * dt * dt : Int) * (10 : Rat) / 10 ^ 8)

/-- y is set at a Guard sample (R640). -/
def State.tclkSample (s : State) (temp : Int) : State := s.setIval A.PWR_TCLK_Y (s.tclkYAt temp)

/-- The parabola term at the latest package temperature, in 10^-12. -/
def State.parabola (s : State) : Int := s.tclkYAt (s.ival A.GRD_TEMP_PKG) - s.ival A.PWR_X32_OFS

/-- One X32 window that finds the crystal sound: X32_OFS learns from the ticks it counted (R641). -/
def State.x32Learn (s : State) (ticks : Nat) : State :=
  let err : Int := (1250000000 - (ticks : Int)) * 800 - s.parabola
  let step := roundRat ((err - s.ival A.PWR_X32_OFS : Int) / (64 : Rat))
  let n := min 86400 (s.pwr.x32Windows + 1)
  let s1 := ({ s with pwr := { s.pwr with x32Windows := n } }).setIval A.PWR_X32_OFS (s.ival A.PWR_X32_OFS + step)
  if n = 86400 then s1.put F.PWR_TCLK_STAT_LEARNED 1 else s1

/-- One cycle of the AON crystal (R639): the transit clock advances by 2^-15 s × (1 − y). -/
def State.aonCycle (s : State) : State :=
  let y := s.ival A.PWR_TCLK_Y
  let step := (2 ^ 33 * (10 ^ 12 - y)) / 10 ^ 12
  { s with pwr := { s.pwr with tclk := (s.pwr.tclk + step.toNat) % 2 ^ 96 } }

/-! ### Hand-over (R644 to R649, R816) -/

/-- A pending mode request ends refused with a reason (R743). -/
def State.refuseMode (s : State) (reason : Nat) : State :=
  ({ s with mode := { s.mode with reqResult := 3, reqReason := reason } }).raise Ev.MODE_REFUSED

/-- A hand-over's first steps (R644 steps 1 and 2, R621, R654, R764, R816): the mode is Transit, and every domain goes
down at once with its section saved. -/
def State.handoverDrops (s : State) : State :=
  let s1 := if s.mode.reqResult = 1 then s.refuseMode 7 else s
  let s2 := if s1.safe then s1.put F.GRD_STAT_SAFE_PEND 1 else s1
  let s3 := (({ s2 with pwr := { s2.pwr with guardVote := false } }).sleepMode .transit 10)
  let busy := s3.busyDomains
  let s4 := if !busy.isEmpty || s3.pwr.levelTo.isSome || s3.entering || s3.waking then s3.powerAbort 2 busy else s3
  (s4.abruptDrop dropOrder).cutLevel

/-- A hand-over's last steps (R644 steps 3 and 4): AON runs on the cell, in S3. -/
def State.handoverLands (s : State) : State :=
  let s6 := ((s.put F.PWR_SLEEP_STAT_ENTERING 0).put F.PWR_SLEEP_STAT_TARGET 0).put F.PWR_SLEEP_STAT_WAKING 0
  let s7 := if s6.pwr.wakeLatched.isSome then s6.put F.PWR_WAKE_STAT_PENDING 1 else s6
  let s8 := (((s7.setVbat true).count (wordFld A.PWR_HANDOVERS) 1).put F.PWR_SLEEP_STAT_HANDOVER_SEEN 1).put
    F.PWR_SLEEP_STAT_NOW 3
  let s9 := (s8.put F.PWR_STAT_SEQ 8).guardSleeps true
  { s9 with pwr := { s9.pwr with
      vmainLow := true, handoverDue := true, dropWaiting := [], forced := [], warmAfterWake := false } }

/-- VMAIN_LOSS_IN_S3 (R645). -/
def State.vmainLoss (s : State) : State :=
  if s.pwr.started = true ∧ s.sleepNow = 3 ∧ s.onVbat = false ∧ s.pwr.vmainLow = false then
    (({ s with pwr := { s.pwr with vmainLow := true } }).setVbat true).count (wordFld A.PWR_HANDOVERS) 1
  else s

/-! ### Resets (R608, R655, R713, R755, R756, R770) -/

/-- What a cold reset leaves of the Power Manager's and the mode's own state. -/
def State.powerCold (s : State) : State :=
  { s with
    pwr := { s.pwr with
      tcap := {}, levelTo := none, dropWaiting := [], barred := [], forced := [], plain := [1, 2, 3, 4, 5, 6, 7]
      coldDue := false, guardVote := false, wakeHold := none, wakeLatched := none, warmAfterWake := false }
    mode := { s.mode with
      reqMode := 0, reqResult := 0, reqReason := 0, safeAtStop := false, safeTick := none, late := none, riseTick := none }
    hif := {} }

/-- The bits that a reset keeps of a word of AON's own that shows a live state: DOM_STAT's OVEN field, the wake pins'
levels and arming, AON's supply, the Guard machine, and the tick's lock and the Tally's run, which a warm reset leaves. -/
def liveBits (a : Nat) : Nat :=
  if a = A.PWR_DOM_STAT then full
  else if a = A.PWR_WAKE_STAT then 0xFF
  else if a = A.PWR_SLEEP_STAT then 0x40
  else if a = A.PWR_TCLK_STAT then 4
  else if a = A.GRD_STAT then 0x87
  else if a = A.TB_STAT then 0x50
  else 0

/-- A cold reset acts (R755, R756): every domain but AON and OVEN goes down with no save, every section is superseded,
and every field goes back to its reset value but for those kept by the OVEN domain and in AON. -/
def State.coldReset (s : State) : State :=
  let slept := s.sleepNow != 0
  let s1 := s.each [5, 4, 6, 3, 2, 7] (fun d t => t.dropOne false d)
  let s2 := s1.supersede.resetWords (fun a => (rowOf a).oven ||| (rowOf a).aon ||| liveBits a)
  let s3 := s2.powerCold.guardSleeps false
  let s4 := (s3.put F.HIF_RESET_INFO_KIND 1).count F.HIF_RESET_INFO_COLD_CNT 1
  (if slept then s4.put F.PWR_SLEEP_STAT_LAST_WAKE 8 else s4).dropNext

/-- COLD_RESET (R655, R755): in S3 without VMAIN it waits; before AON's first wake RST_N only holds that wake. -/
def State.rstFalls (s : State) : State :=
  let t : State := { s with pwr := { s.pwr with rstLow := true } }
  if s.pwr.rstLow = true ∨ s.pwr.started = false ∨ s.pwr.fresh = true ∧ s.sleepNow = 3 then t
  else if s.sleepNow = 3 ∧ s.pwr.vmainLow = true then { t with pwr := { t.pwr with coldDue := true } }
  else t.coldReset

/-- MADDR0 and MADDR1 are sampled with RST_N high and VIO_H present (R807). -/
def State.sampleMaddr (s : State) (m : Nat) : State :=
  if s.pwr.rstLow = false ∧ s.pwr.vioH.isSome = true ∧ s.hif.madd = none then
    { s with hif := { s.hif with madd := some (m % 4) } }
  else s

/-- Rise after a cold reset (R755). -/
def State.coldRise (s : State) : State := s.enterMode .rise 1

/-- RESET_RELEASE (R755): the mode becomes Rise and the votes start the domains; a wake that waited goes on. -/
def State.rstRises (s : State) (m : Nat) : State :=
  if s.pwr.rstLow = false then s
  else
    let s1 := ({ s with pwr := { s.pwr with rstLow := false } }).sampleMaddr m
    if s1.pwr.started = false ∨ s1.pwr.coldDue = true then s1
    else if s1.sleepNow ≠ 3 then s1.coldRise
    else
      match s1.pwr.wakeLatched with
      | some c => if s1.pwr.vmainLow then s1 else s1.wakeNow c
      | none => s1

/-- VMAIN_RETURN (R638, R646, R655, R752); `m` are the levels of MADDR1 and MADDR0, which a cold reset that waited
samples (R807). -/
def State.vmainReturn (s : State) (m : Nat) : State :=
  if s.pwr.started = true ∧ s.sleepNow = 3 ∧ s.pwr.vmainLow = true then
    let s1 := ({ s with pwr := { s.pwr with vmainLow := false } }).setVbat false
    if s1.pwr.coldDue then
      let s2 := s1.coldReset
      if s2.pwr.rstLow then s2 else (s2.sampleMaddr m).coldRise
    else
      match s1.pwr.wakeLatched with
      | some c => s1.wakeCause c
      | none => if s1.bit F.PWR_WAKE_CFG_VMAIN_RET then s1.wakeCause 6 else s1
  else s

/-- A warm reset acts (R51, R623, R713, R756, R770). OUT, NET, PIPE, ARRAY and HOST restart without votes; OUT, NET
and PIPE only while TIME, which they require, is up. -/
def State.warmReset (s : State) : State :=
  let timed := s.up .time
  let s0 := (s.each (List.range 8) (fun n t => t.abortRun n calCancelled 0 0 0)).dropDelta
  let s1 := s0.each [5, 4, 6, 3, 7] (fun d t => t.dropOne false d)
  let s2 := s1.resetWords (fun a => (rowOf a).warm ||| (rowOf a).oven ||| (rowOf a).aon ||| liveBits a)
  let again : List Nat := if timed then [7, 3, 4, 5, 6] else [7, 6]
  let s3 : State := { s2 with
    pwr := { s2.pwr with
      forced := again, plain := again ++ s2.pwr.plain.filter (fun d => !again.contains d), dropWaiting := []
      warmAfterWake := false }
    mode := { s2.mode with reqMode := 0, reqResult := 0, reqReason := 0 } }
  ((s3.put F.HIF_RESET_INFO_KIND 2).count F.HIF_RESET_INFO_WARM_CNT 1).dropNext

/-- WARM_RESET (R656, R694): in S1 and S2, and during an entry, the wake comes first. -/
def State.warmRequest (s : State) : State :=
  if s.entering || s.waking || s.sleepNow != 0 then
    let t : State := { s with pwr := { s.pwr with warmAfterWake := true } }
    if s.waking then t else t.wakeCause 1
  else s.warmReset

/-- WAKE_DONE (R637): HOST is ON; a warm reset that waited follows (R656). -/
def State.wakeDone (s : State) : State :=
  if s.waking = true ∧ s.domain 7 = 2 then
    let s1 := ((s.put F.PWR_SLEEP_STAT_WAKING 0).put F.PWR_STAT_SEQ 1).raise Ev.PWR_WAKE
    if s1.pwr.warmAfterWake then s1.warmReset else s1
  else s

/-- Whether WAKE_HOLD seconds have passed since the wake, by the transit clock (R593). -/
def State.wakeHoldOver (s : State) : Bool :=
  match s.pwr.wakeHold with
  | some t => decide (t + s.val A.PWR_WAKE_HOLD * 65536 ≤ s.tclk)
  | none => false

/-- WAKE_HOLD_EXPIRED (R593). -/
def State.wakeHoldEnds (s : State) : State :=
  if s.wakeHoldOver then { s with pwr := { s.pwr with wakeHold := none } } else s

/-! ### AON itself (R612, R752) -/

/-- AON loses its supply: everything but AON MRAM and the non-volatile stores is lost. `present` tells BROWNOUT from
SUPPLY_LOSS. -/
def State.aonLoss (s : State) (present : Bool) : State :=
  let s1 := s.each dropOrder (fun d t => t.dropOne false d)
  let s2 := s1.resetWords (fun a => (rowOf a).aon ||| (if a = A.GRD_STAT then 3 else 0))
  { s2 with
    regs := s2.regs.filter (fun w => w.1 != A.PWR_DOM_STAT)
    pwr := { ret := s2.pwr.ret, flag := some (if present then 2 else 1), rstLow := s2.pwr.rstLow
             pinLevels := s2.pwr.pinLevels, x32Windows := s2.pwr.x32Windows, handoverDue := s2.pwr.handoverDue
             vioH := s2.pwr.vioH, vioO := s2.pwr.vioO }
    mode := {}
    grd := { sources := s2.grd.sources.map (fun g => ({ notedEra := g.notedEra } : GuardSource)), draws := s2.grd.draws, hostReads := s2.grd.hostReads, forceLow := s2.grd.forceLow
             tampActive := s2.grd.tampActive, tampLatch := s2.grd.tampLatch, forceLatch := s2.grd.forceLatch }
    ldg := { s2.ldg with queue := [] }
    tb := {}
    hif := {} }

/-- HANDOVER (R644): `vbat` is the cell in mV and `present` whether a supply stands when AON falls. A cell below 2.0 V
leaves AON without supply after the saves (R647). -/
def State.handover (s : State) (vbat : Nat) (present : Bool) : State :=
  if s.pwr.started = false ∨ s.sleepNow = 3 ∨ s.onVbat = true then s
  else if vbat < 2000 then s.handoverDrops.aonLoss present
  else s.handoverDrops.handoverLands

/-- BROWNOUT (R612). -/
def State.brownout (s : State) (present : Bool) : State := if s.pwr.started then s.aonLoss present else s

/-- AON_START (R612, R634, R639, R752): the sequencer begins in S3 with the VMAIN qualifier asserted. `vbat` says whether
AON draws from VBAT; `m` are the levels of MADDR1 and MADDR0, sampled at once while RST_N is high (R807). -/
def State.aonStart (s : State) (vbat : Bool) (m : Nat) : State :=
  if s.pwr.started then s
  else
    let cause := s.pwr.flag.getD 0
    let s1 := ((s.setVal A.PWR_START_CAUSE cause).wr A.PWR_WAKE_CFG (resetWord A.PWR_WAKE_CFG)).put
      F.HIF_RESET_INFO_KIND 0
    let s2 := if cause = 2 then s1.put F.PWR_STAT_BROWNOUT_SEEN 1 else s1
    let s3 := ((((s2.put F.PWR_SLEEP_STAT_NOW 3).put F.PWR_SLEEP_STAT_LAST_WAKE 0).put F.PWR_STAT_SEQ 8).setVbat
      vbat).guardSleeps true
    State.sampleMaddr { s3 with pwr := { s3.pwr with
        started := true, fresh := true, vmainLow := true, plain := [1, 2, 3, 4, 5, 6, 7], tclk := 0, aonPhase := 0
        brownoutDue := cause == 2 } } m

/-! ### I/O banks (R791) -/

/-- The outputs at the VIO_O level (R218). -/
def bankOutputs : List Nat := [4, 5, 6, 7, 8, 9, 10, 11]

/-- VIO_BANK_PRESENT: VIO_H (`h`) or VIO_O is present in a mode; VIO_H has no 2.5 V mode (R786). With VIO_O OUT4 to OUT11
restart (R812). -/
def State.vioPresent (s : State) (h : Bool) (mv m : Nat) : State :=
  let ok := within mv 1710 1890 || within mv 3135 3465 || (!h && within mv 2375 2625)
  if ok = false then s
  else if h then ({ s with pwr := { s.pwr with vioH := some mv } }).sampleMaddr m
  else
    let t : State := { s with pwr := { s.pwr with vioO := some mv } }
    if s.pwr.vioO.isNone then t.padsStart bankOutputs else t

/-- VIO_BANK_ABSENT. The host ports fall silent with VIO_H, OUT4 to OUT11 with VIO_O. -/
def State.vioAbsent (s : State) (h : Bool) : State :=
  if h then { s with pwr := { s.pwr with vioH := none } }
  else ({ s with pwr := { s.pwr with vioO := none } }).padsStop bankOutputs

/-! ### Recovery of the power sequencer (R561, R622) -/

/-- The sequencer enters ACTIVE with the domains as they stand; an entry or a wake in progress begins again, a drop, a
start or a level change counts as an abort. On VBAT it proceeds to S3. -/
def State.sequencerRecovers (s : State) : State :=
  let busy := s.busyDomains
  let s1 := if !busy.isEmpty || s.pwr.levelTo.isSome then s.powerAbort 3 busy else s
  if s1.entering then s1.put F.PWR_STAT_SEQ (1 + 2 * s1.get F.PWR_SLEEP_STAT_TARGET)
  else if s1.waking then s1.put F.PWR_STAT_SEQ 10
  else if s1.onVbat then s1.put F.PWR_STAT_SEQ 8
  else if s1.pwr.levelTo.isSome then s1.put F.PWR_STAT_SEQ 2
  else ((s1.put F.PWR_SLEEP_STAT_NOW 0).put F.PWR_STAT_SEQ 1).guardSleeps false

/-! ### Register words of the PWR bank -/

/-- Words of the PWR bank the state computes. -/
def State.pwrRead (s : State) (w : Nat) : Option Word :=
  match w with
  | 0x02 => some (wordOf (s.val A.PWR_HOST_VOTE ||| 1))
  | 0x03 => some (wordOf (s.votesWord 0))
  | 0x04 => some (wordOf (s.votesWord 4))
  | 0x14 => some (wordOf s.retStat)
  | 0x26 => some (wordOf (s.tclk / 2 ^ 32))
  | 0x27 => some (wordOf s.tclk)
  | _ => none

/-- A write of PWR.HOST_VOTE (R593, R610). -/
def State.hostVote (s : State) (v : Nat) : State :=
  let s1 := s.setVal A.PWR_HOST_VOTE (v &&& 0xFE)
  s1.each ((List.range 8).filter (bitOf (v &&& 0xFE))) (fun d t => t.newVote d)

/-- A write to a word of the PWR bank with a rule of its own. -/
def State.pwrWrite (s : State) (w v : Nat) : Option Written :=
  match w with
  | 0x02 => some (s.hostVote v).ok
  | 0x05 => some (s.pwrCmd v)
  | 0x20 => some (s.sleepWrite v)
  | 0x2A =>
    let tx := signedOf 16 (v / 65536)
    some (s.fitWrite A.PWR_TCLK_CFG v [(0, 16, decide (signedOf 16 v ≤ 0)), (16, 16, decide (-2000 ≤ tx ∧ tx ≤ 8500))])
  | _ => none

end Sys2Proof.Machine
end

