-- ==== Sys2Proof/Machine/ModeReq.lean ====
section
/-! DEFINITION. Mode requests, the completion of Rise and the commands of CMD (R704 to R707, R718, R743 to R748, R753,
R761). -/

namespace Sys2Proof.Machine

/-! ### Requests -/

/-- Why a request for `m` from mode `frm` is refused (R744, R745), PWR's own refusal apart. -/
def State.modeBar (s : State) (frm m : Mode) : Option Nat :=
  let onAir : List Mode := [.grand, .follow, .holdover, .freeRun, .relay, .measure, .calibrate, .maintain]
  if frm = m then none
  else if frm = .safeHold then some 5
  else
    match m with
    | .rise => some 1
    | .holdover => if frm = .maintain ∧ s.mode.base = .holdover then none else some 1
    | .safeHold => none
    | .grand | .follow =>
      if onAir.contains frm = false then some 2
      else if s.bit F.STR_STAT_F0_SET = false then some 4
      else if s.bit F.REFM_SEL_NOW_HELD || (s.selSlot == 15) || slotMode s.selSlot != m then some 3
      else none
    | .relay | .freeRun | .measure | .calibrate => if onAir.contains frm then none else some 2
    | .maintain =>
      if frm = .grand ∨ frm = .follow ∨ frm = .holdover ∨ frm = .freeRun then none else some 2
    | .standby | .transit => if frm = .rise ∨ frm = .transit then some 2 else none

/-- What an accepted request does (R742, R746 to R748); a request for Standby or Transit can still be refused by PWR
(VOTE). The answer is the reason, 0 when accepted. -/
def State.modeTaken (s : State) (frm m : Mode) : Nat × State :=
  match m with
  | .standby | .transit =>
    if frm = m then (0, s)
    else
      match s.sleepRequest (if m = .transit then 3 else 1) with
      | (.accepted, t) => (0, t)
      | (_, t) => (6, t)
  | .safeHold =>
    let t := s.enterSafe 16
    (0, if s.mode.now = .rise then { t with mode := { t.mode with base := frm, prev := some frm } } else t)
  | .maintain =>
    if s.mode.now = .maintain then (0, s)
    else
      let t := s.enterMode .maintain 4
      (0, { t with mode := { t.mode with base := frm, prev := some frm } })
  | .grand | .follow =>
    if s.mode.now = m then (0, s)
    else
      let t := s.enterMode m 4
      (0, if t.srvState = srvAcquire ∨ t.srvState = srvLocked then t else t.enterAcquire t.f0Rate)
  | .holdover => (0, if s.mode.now = m then s else s.enterMode m 4)
  | _ => if s.mode.now = m then (0, s) else (0, (s.enterMode m 4).srvToIdle)

/-- A request is judged as if made from `frm` (R744); the result and the reason are recorded (R743). -/
def State.judgeMode (s : State) (frm m : Mode) : State :=
  match s.modeBar frm m with
  | some r => s.refuseMode r
  | none =>
    match s.modeTaken frm m with
    | (0, t) => { t with mode := { t.mode with reqResult := 2, reqReason := 0 } }
    | (r, t) => t.refuseMode r

/-- A write of MODE_REQ (R701, R743). -/
def State.modeRequest (s : State) (v : Nat) : Written :=
  match Mode.ofCode (v % 16) with
  | none => s.rejected .range
  | some m =>
    let s1 : State := { s with mode := { s.mode with reqMode := v % 16, reqResult := 1, reqReason := 0 } }
    if s1.entering || s1.waking then (s1.refuseMode 7).ok
    else if s1.mode.now = .rise then s1.ok
    else (s1.judgeMode s1.mode.now m).ok

/-- The MODE_REQ word. -/
def State.modeReqWord (s : State) : Word :=
  wordOf (s.mode.reqMode + s.mode.reqResult * 256 + s.mode.reqReason * 4096)

/-! ### Rise completion -/

/-- Whether Rise completes now (R753). -/
def State.riseReady (s : State) : Bool :=
  s.baseMode == .rise && s.dom .time == 2 && s.bit F.TB_STAT_PLL_LOCK && s.dom .host == 2 &&
    s.cal.all (fun c => c.run.all (fun r => !r.rise)) && (s.bit F.TB_STAT_WARM || s.bit F.PCR_CTL_NO_WARM_WAIT)

/-- A pending request at Rise completion ends refused with reason SAFE. -/
def State.pendingSafe (s : State) : State := if s.mode.reqResult = 1 then s.refuseMode 5 else s

/-- RISE_COMPLETE (R753, R768). A Safe Hold that Rise ends in, or that was entered during Rise, has Free-run as its base
mode from then on. -/
def State.riseComplete (s : State) : State :=
  if s.riseReady = false then s
  else
    let bad := s.alarmTripped || s.bit F.GRD_STAT_SAFE_PEND || s.mode.safeAtStop
    let s1 := ({ s with mode := { s.mode with safeAtStop := false, riseTick := some s.instant } }).put F.GRD_STAT_SAFE_PEND 0
    if s.safe then
      s1.pendingSafe.autoMode .freeRun (if bad then 20 else 3)
    else if bad then
      let s2 := s1.pendingSafe.enterSafe 20
      { s2 with mode := { s2.mode with base := .freeRun, prev := some .freeRun } }
    else
      match (if s.mode.reqResult = 1 then Mode.ofCode s.mode.reqMode else none) with
      | none => s1.enterMode .freeRun 3
      | some m =>
        if m = .freeRun then
          let s2 := s1.enterMode .freeRun 4
          { s2 with mode := { s2.mode with reqResult := 2, reqReason := 0 } }
        else
          let s2 := s1.judgeMode .freeRun m
          if s2.mode.reqResult = 2 then s2 else s2.enterMode .freeRun 3

/-! ### Commands (R704 to R707) -/

/-- The CMD_STATUS word of the window. -/
def cmdStatusAddr : Nat := 0x10012

/-- CMD_STATUS.STATE reads BUSY. -/
def State.cmdBusy (s : State) : Bool := bitsAt (s.val cmdStatusAddr) 8 2 == 1

/-- CMD_STATUS takes a code, a state, the port and a reason. -/
def State.setCmd (s : State) (p : HostPort) (code st reason seq : Nat) : State :=
  s.setVal cmdStatusAddr (code % 256 + st * 256 + p.code * 1024 + reason * 4096 + seq % 65536 * 65536)

/-- A command ends DONE or REFUSED (R706). -/
def State.cmdEnds (s : State) (p : HostPort) (code reason : Nat) : State :=
  (s.setCmd p code (if reason = 0 then 2 else 3) reason (s.val cmdStatusAddr / 65536 + 1)).raise Ev.CMD_DONE

/-- What a BLOCK_RESET target names (R705). -/
inductive ResetTarget where
  | port (p : Nat)
  | tile (t : Nat)
  | pipe
  | nts
  deriving DecidableEq, Repr

/-- The target of a BLOCK_RESET argument; none for any other. -/
def resetTarget (v : Nat) : Option ResetTarget :=
  if v < 4 then some (.port v)
  else if within v 0x10 0x1B then some (.tile (v - 0x10))
  else if within v 0x20 0x23 then some (.tile (v - 0x20 + 16))
  else if v = 0x30 then some .pipe
  else if v = 0x31 then some .nts
  else none

/-- The domain of a target. -/
def ResetTarget.domain : ResetTarget → Domain
  | .port _ => .net
  | .tile _ => .array
  | .pipe => .pipe
  | .nts => .pipe

/-- What a block reset does at once (R304, R367, R456, R511). -/
def State.targetResets (s : State) : ResetTarget → State
  | .port p => s.portReset p
  | .tile t => s.tileReset t
  | .pipe => s.pipeReset
  | .nts => s.ntsReset

/-- Whether a tile's reset still waits for a row write to end (R511). -/
def State.targetResetting (s : State) : ResetTarget → Bool
  | .tile t => (s.tile t).resetting
  | _ => false

/-- BLOCK_RESET (R705 to R707, R718). A reset of a port with EN = 0 is done at once. -/
def State.blockReset (s : State) (p : HostPort) (v : Nat) : State :=
  match resetTarget v with
  | none => s.cmdEnds p 2 1
  | some t =>
    if s.dom t.domain ≠ 2 then s.cmdEnds p 2 2
    else if s.hif.blockReset = some v ∨ s.targetResetting t = true then s.cmdEnds p 2 5
    else
      match t with
      | .port q =>
        if s.portOn q = false then s.cmdEnds p 2 0
        else
          (({ s with hif := { s.hif with blockReset := some v } }).targetResets t).setCmd p 2 1 0
            (s.val cmdStatusAddr / 65536 + 1)
      | _ =>
        (({ s with hif := { s.hif with blockReset := some v } }).targetResets t).setCmd p 2 1 0
          (s.val cmdStatusAddr / 65536 + 1)

/-- The target begins its start sequence (R304, R367, R456, R511). -/
def State.targetStarts (s : State) : ResetTarget → State
  | .port p => s.portDrained p
  | .tile _ => s
  | .pipe => s.pipeDrained
  | .nts => s.ntsResetDone

/-- BLOCK_RESET_DONE (R706). -/
def State.blockResetDone (s : State) : State :=
  match s.hif.blockReset with
  | none => s
  | some v =>
    let port : HostPort := if bitOf (s.val cmdStatusAddr) 10 then .twoWire else .spi
    let s1 : State := { s with hif := { s.hif with blockReset := none } }
    let done (u : State) : State := (u.setCmd port 2 2 0 (s.val cmdStatusAddr / 65536)).raise Ev.CMD_DONE
    match resetTarget v with
    | some t => if s.targetResetting t then s else done (s1.targetStarts t)
    | none => done s1

/-- The cause of Safe Hold that came in this very tick, if one did (R769). -/
def State.lateCause (s : State) : Option Nat :=
  match s.mode.late with
  | some (t, c) => if t = s.instant then some c else none
  | none => none

/-- SAFE_RELEASE (R552, R761, R769). A cause of the same tick that is not the Guard's lets the release pass and enters Safe
Hold again. DESIGN CHOICE (log 125): both in the one step of the command. -/
def State.safeRelease (s : State) (p : HostPort) : State :=
  if s.safe = false then s.cmdEnds p 4 4
  else if s.releaseBarred then s.cmdEnds p 4 3
  else
    match s.lateCause with
    | none => (s.leaveSafe 21).cmdEnds p 4 0
    | some c => if c ≤ 15 then s.cmdEnds p 4 3 else ((s.leaveSafe 21).enterSafe c).cmdEnds p 4 0

/-- FACE_LATCH (R705, R717). -/
def State.faceLatch (s : State) (p : HostPort) : State :=
  (if s.dom .time = 2 ∨ s.dom .time = 3 then s.latchFaces p else s).cmdEnds p 5 0

/-- A command executes with the port's CMD_ARG (R704, R705). -/
def State.runCmd (s : State) (p : HostPort) (code : Nat) : State :=
  let arg := (s.port p).cmdArg.toNat
  match code with
  | 1 => if arg = 0x5741524D then s.warmRequest else s.cmdEnds p 1 1
  | 2 => if arg < 256 then s.blockReset p arg else s.cmdEnds p 2 1
  | 3 => if arg = 0 then (s.enterSafe 16).cmdEnds p 3 0 else s.cmdEnds p 3 1
  | 4 => if arg = 0x53414645 then s.safeRelease p else s.cmdEnds p 4 1
  | 5 => if arg = 0 then s.faceLatch p else s.cmdEnds p 5 1
  | c => s.cmdEnds p c 1

end Sys2Proof.Machine
end

