-- ==== Sys2Proof/Machine/Evt.lean ====
section
/-! DEFINITION. The event logic (R719 to R738): live conditions, the sticky and cause bits, the interrupt lines, the EVT
bank. -/

namespace Sys2Proof.Machine

/-- The event number of each cause bit of group A (R734). -/
def causeEvents : List Nat :=
  [0, 1, 1, 2, 3, 3, 4, 5, 5, 6, 7, 8, 9, 9, 10, 11, 11, 12, 13, 14, 15, 15, 16, 16, 17, 17, 18, 19, 19, 20, 21, 21,
    22, 23, 23, 24, 24, 25, 26, 26, 27, 27, 28, 28, 29, 30, 31]

/-- The event numbers that exist, as a word of 128 bits (R719, R734). -/
def eventMask : BitVec 128 := BitVec.ofNat 128 (2 ^ 81 - 1 + (2 ^ 117 - 2 ^ 96))

/-- The cause bits of an event number. -/
def causesOf (n : Nat) : List Nat := (List.range 47).filter (fun k => causeEvents.getD k 63 == n)

/-- Whether the live condition of event `n` holds; a condition of a domain that is down does not (R723). DEDUCED: a
limit of 0, which switches its event off (R207, R243), switches its live condition off too. -/
def State.live (s : State) (n : Nat) : Bool :=
  match n with
  | 5 => s.up .oven && s.bit F.TB_STAT_WARM
  | 6 => s.up .oven && s.get F.TB_STAT_OVEN_FAULT != 0
  | 7 => s.up .time && !s.bit F.TB_STAT_PLL_LOCK
  | 12 => s.up .time && (List.range 8).any (fun k => s.bit (F.VC_Vn_STAT_IDLE k))
  | 14 => s.up .time && (List.range 8).any (fun k => decide (s.val (A.VQ_Vn_WMARK k) ≤ (s.chan k).queue.length))
  | 19 => s.up .time && s.bit F.REFM_SEL_NOW_HELD
  | 20 => s.up .time && s.bit F.REFM_ANT_STAT_ANT_FAULT
  | 22 => s.up .time && s.srvState == srvLocked
  | 24 => s.up .time && s.srvState == srvHoldover
  | 25 => s.up .time && s.val A.SRV_HO_ERR_LIMIT != 0 && decide (s.val A.SRV_HO_ERR_LIMIT < s.val A.SRV_HO_ERR)
  | 30 =>
    s.up .time && s.val A.PCR_MIS_WARN != 0 &&
      (List.range outputs).any (fun k => decide ((s.val A.PCR_MIS_WARN : Int) * 65536 < |s.misalign k|))
  | 32 => s.up .net && (List.range portCount).any s.linkUp
  | 35 => s.up .net && (List.range portCount).any (fun p => s.bit (F.MAC_STAT_XOFF p))
  | 47 => s.up .pipe && s.bit F.PIPE_STAT_CTX_FULL
  | 53 => s.up .pipe && s.bit F.PTP_STAT_UTC_MISMATCH
  | 61 => s.up .pipe && s.bit F.NTS_STAT_ZEROISED
  | 69 => s.up .array && tileCodes.any (fun t => s.tileState t == 7)
  | 74 => s.safeReq
  | 79 => decide (3840 ≤ s.ledgerCount)
  | 80 => decide (ledgerSlots ≤ s.ledgerCount)
  | 103 => s.bit F.PWR_STAT_CAPPED
  | 114 => s.safe
  | _ => false

/-- The event numbers of group `g` that `f` holds of, as a word. -/
def groupWord (g : Nat) (f : Nat → Bool) : Word := wordOf ((List.range 32).map (fun i => flagVal (f (32 * g + i)) * 2 ^ i)).sum

/-- EVT.STICKY_g. -/
def State.stickyWord (s : State) (g : Nat) : Word := s.evt.sticky.extractLsb' (32 * g) 32

/-- EVT_SUM_g: the pending bits of a group (R721). -/
def State.sumWord (s : State) (g : Nat) : Word := s.stickyWord g &&& s.rd (A.EVT_EN_A g)

/-- Whether a line has an enabled event that is routed to it (R726): `b` for IRQB_N. -/
def State.irqDue (s : State) (b : Bool) : Bool :=
  let en := if b then s.bit F.EVT_IRQ_CTL_B_EN else s.bit F.EVT_IRQ_CTL_A_EN
  en && (List.range 4).any (fun g => s.sumWord g &&& s.rd (if b then A.EVT_RTB_A g else A.EVT_RTA_A g) != 0)

/-- Whether a line is driven low: it is due, HOST is up and its bank present, and no release pulse runs (R726, R728,
R791). -/
def State.irqLow (s : State) (b : Bool) : Bool :=
  s.up .host && s.pwr.vioH.isSome && s.irqDue b && !(if b then s.evt.pulseB else s.evt.pulseA)

/-- A write to an EVT word that finds a line low and leaves it due starts its release pulse, where PULSE is set (R728). -/
def State.irqPulse (before s : State) : State :=
  let a := s.bit F.EVT_IRQ_CTL_PULSE_A && before.irqLow false && s.irqDue false
  let b := s.bit F.EVT_IRQ_CTL_PULSE_B && before.irqLow true && s.irqDue true
  { s with evt := { s.evt with pulseA := s.evt.pulseA || a, pulseB := s.evt.pulseB || b } }

/-- The release pulse of a line ends (R728). -/
def State.irqPulseEnd (s : State) (b : Bool) : State :=
  if b then { s with evt := { s.evt with pulseB := false } } else { s with evt := { s.evt with pulseA := false } }

/-- Clears sticky bits of group `g` (R722); in group A their cause bits go with them (R725). -/
def State.clearSticky (s : State) (g v : Nat) : State :=
  let keep : BitVec 128 := ~~~(BitVec.ofNat 128 (v % 2 ^ 32 * 2 ^ (32 * g)))
  let gone := if g = 0 then (setBits v 32).flatMap causesOf else []
  let left : BitVec 47 := ~~~(BitVec.ofNat 47 ((gone.map (fun k => 2 ^ k)).sum))
  { s with evt := { s.evt with sticky := s.evt.sticky &&& keep, causes := s.evt.causes &&& left } }

/-- Clears cause bits (R725): `hi` for EVT.CAUSE_HI. -/
def State.clearCauses (s : State) (hi : Bool) (v : Nat) : State :=
  let mask : BitVec 47 := BitVec.ofNat 47 (if hi then v % 2 ^ 15 * 2 ^ 32 else v % 2 ^ 32)
  { s with evt := { s.evt with causes := s.evt.causes &&& ~~~mask } }

/-- One raise reaches the event logic (R720, R724, R733). -/
def EventState.take (e : EventState) (x : EventId) (tally : Word) : EventState :=
  let causes := if x.2 < 47 then e.causes ||| BitVec.ofNat 47 (2 ^ x.2) else e.causes
  { e with
    sticky := e.sticky ||| BitVec.ofNat 128 (2 ^ (x.1 % 128))
    causes := causes
    lastTally := tally
    raises := e.raises + 1 }

/-- Whether `a` comes after `b` for EVT.LAST: a higher number, or a higher cause of the same number (R733). -/
def eventAfter (a b : EventId) : Bool := decide (b.1 < a.1) || (a.1 == b.1 && decide (b.2 ≤ a.2))

/-- The event that LAST records of those raised in one cycle (R733). -/
def lastEvent (l : List EventId) (was : EventId) : EventId :=
  match l with
  | [] => was
  | x :: rest => rest.foldl (fun m y => if eventAfter y m then y else m) x

/-- The EVT.LAST word. -/
def lastWord (x : EventId) : Word := wordOf (x.1 + x.2 % 64 * 256)

/-- The events of the cycle reach the event logic, and each forms its trace record; while HOST is down they are lost
(R720, R730, R773). -/
def State.commitEvents (s : State) : State :=
  let l := s.raised
  let s0 : State := { s with raised := [] }
  if s.up .host then
    let e := l.foldl (fun e x => e.take x s.tallyLow) s.evt
    let s1 : State := { s0 with evt := { e with last := lastEvent l s.evt.last } }
    s1.each l (fun x t => t.trace 3 [lastWord x])
  else s0

/-- A word of the EVT bank as it reads. -/
def State.evtRead (s : State) (w : Nat) : Option Word :=
  if w < 4 then some (s.stickyWord w)
  else if w < 8 then some (groupWord (w - 4) s.live)
  else
    match w with
    | 0x14 => some (s.evt.causes.extractLsb' 0 32)
    | 0x15 => some (wordOf (s.evt.causes.toNat / 2 ^ 32))
    | 0x17 => some (wordOf (flagVal (s.irqLow false) + flagVal (s.irqLow true) * 2))
    | 0x18 => some (lastWord s.evt.last)
    | 0x19 => some s.evt.lastTally
    | 0x1A => some s.evt.raises
    | _ => none

/-- The stored words of the EVT bank: EN, RTA, RTB and IRQ_CTL. -/
def State.evtStore (s : State) (w v : Nat) : State :=
  match rowAt (0x200 + w) with
  | some r => s.setVal (0x200 + w) (v &&& r.rw)
  | none => s

/-- A write to a word of the EVT bank (R722, R725, R728). -/
def State.evtWrite (s : State) (w v : Nat) : Option Written :=
  if w < 4 then some (State.irqPulse s (s.clearSticky w v)).ok
  else if 8 ≤ w ∧ w < 0x14 then some (State.irqPulse s (s.evtStore w v)).ok
  else
    match w with
    | 0x14 => some (State.irqPulse s (s.clearCauses false v)).ok
    | 0x15 => some (State.irqPulse s (s.clearCauses true v)).ok
    | 0x16 => some (State.irqPulse s (s.evtStore 0x16 v)).ok
    | _ => none

end Sys2Proof.Machine
end

