-- ==== Sys2Proof/Machine/Obs.lean ====
section
/-! DEFINITION. The trace port (R771 to R785): forming records, the FIFO, the word boundary, the OBS bank. -/

namespace Sys2Proof.Machine

/-- The words of the trace FIFO, and the SYNC word. -/
def traceDepth : Nat := 1024
def syncWord : Word := 0x0A5C3F96

/-- The place of a record's kind among the records of one tick (R776). -/
def kindRank (k : Nat) : Nat :=
  match k with
  | 1 => 0
  | 9 => 1
  | 6 => 2
  | 4 => 3
  | 5 => 4
  | 3 => 5
  | 8 => 6
  | 7 => 7
  | 10 => 8
  | _ => 9

/-- The records of one tick in the order of R776: by kind, and within a kind as they were formed. -/
def traceOrder (l : List TraceRec) : List TraceRec :=
  (List.range 10).flatMap (fun r => l.filter (fun x => kindRank x.kind == r))

/-- A header word (R772). -/
def traceHeader (kind len seq tick : Nat) : Word :=
  wordOf (kind * 2 ^ 28 + len * 2 ^ 26 + seq % 64 * 2 ^ 20 + tick % 2 ^ 20)

/-- The body of a TIME record: while TIME is down it carries NOTIME and the era only (R773, R775). -/
def State.timeBody (s : State) : List Word :=
  if s.up .time then [wordOf (s.tally / 2 ^ 32), wordOf (bitsAt s.tally 20 12 * 2 ^ 20 + s.era)]
  else [0, wordOf (2 ^ 16 + s.era)]

/-- The words of a record, the last of them marked. -/
def recordWords (head : Word) (body : List Word) : List TraceWord :=
  let all := head :: body
  (all.dropLast.map (fun w => { word := w, last := false : TraceWord })) ++
    (all.getLast?.toList.map (fun w => { word := w, last := true : TraceWord }))

/-- One record enters the FIFO with the next SEQ. -/
def State.pushRecord (s : State) (kind tick : Nat) (body : List Word) : State :=
  let o := s.obs
  let fifo := o.fifo ++ recordWords (traceHeader kind body.length o.seq tick) body
  let s1 : State := { s with obs := { o with fifo := fifo, seq := (o.seq + 1) % 64 } }
  if s1.val A.OBS_PEAK < fifo.length then s1.setVal A.OBS_PEAK fifo.length else s1

/-- A record is offered to the FIFO (R777). A dropped record takes a SEQ, so that its loss shows as a gap that the LOST
record explains. -/
def State.offerRecord (s : State) (r : TraceRec) : State :=
  let o := s.obs
  let free := traceDepth - o.fifo.length
  let len := 1 + r.body.length
  let room := if o.dropping then 4 + len else len
  if free < room then
    ({ s with obs := { o with dropping := true, lostNow := satAdd (2 ^ 20 - 1) o.lostNow 1, seq := (o.seq + 1) % 64 } }).countSat
      (wordFld A.OBS_DROPPED) 1
  else if o.dropping then
    let s1 : State := (s.pushRecord 2 o.lostNow []).pushRecord 1 0 s.timeBody
    let s2 : State := { s1 with obs := { s1.obs with dropping := false, lostNow := 0 } }
    (s2.setBit F.OBS_STAT_LOST_SEEN true).pushRecord r.kind r.tick r.body
  else s.pushRecord r.kind r.tick r.body

/-- The records of the tick enter the FIFO (R776). -/
def State.flushTrace (s : State) : State :=
  let l := traceOrder s.obs.batch
  let s0 : State := { s with obs := { s.obs with batch := [] } }
  s0.each l (fun r t => t.offerRecord r)

/-- One word leaves the trace port (R771, R774). -/
def State.sendWord (s : State) : State :=
  let o := s.obs
  let s1 := s.count (wordFld A.OBS_WORDS) 1
  match o.fifo with
  | [] => { s1 with obs := { o with sent := some syncWord, sinceSync := 0 } }
  | w :: rest =>
    if 255 ≤ o.sinceSync then { s1 with obs := { o with sent := some syncWord, sinceSync := 0 } }
    else
      let s2 : State := { s1 with obs := { o with fifo := rest, sent := some w.word, sinceSync := o.sinceSync + 1 } }
      if w.last then s2.count (wordFld A.OBS_RECORDS) 1 else s2

/-- A word boundary of the trace port: OBS.CTL and OBS.OUT_MASK take effect (R782), and the next word is sent (R774).
A start sends a SYNC first, then a TIME record (R775, R783); a stop discards the FIFO. The records of the present tick
enter the FIFO when it is over (R776). -/
def State.wordBoundary (s : State) : State :=
  let was := bitOf s.obs.ctlNow.toNat 0
  let o : ObsState := { s.obs with ctlNow := s.rd A.OBS_CTL, maskNow := s.rd A.OBS_OUT_MASK }
  let s1 : State := { s with obs := o }
  if s.bit F.OBS_CTL_EN = false then
    { s1 with obs := { o with batch := [], fifo := [], sent := none, sinceSync := 0, dropping := false, lostNow := 0 } }
  else if was then s1.sendWord
  else
    let s2 : State := { s1 with obs := { o with batch := [], fifo := [] } }
    s2.sendWord.pushRecord 1 0 s2.timeBody

/-- A TIME record falls due at a Tally multiple of 2^20 (R775). -/
def State.timeRecord (s : State) : State :=
  if s.up .time = true ∧ s.tallyRun = true ∧ s.tally % 2 ^ 20 = 0 ∧ s.traces 1 = true ∧
      s.obs.batch.all (fun r => r.kind != 1) = true then
    { s with obs := { s.obs with batch := s.obs.batch ++ [{ kind := 1, tick := 0, body := s.timeBody }] } }
  else s

/-! ### What every cycle traces -/

/-- The states that STATE records trace: block, instance, code (R773). -/
def State.traced (s : State) : List (Nat × Nat × Nat) :=
  let link (p : Nat) : Nat := if s.linkUp p then (if s.settling p then 2 else 1) else 0
  (1, 0, s.srvState) :: (List.range 12).map (fun n => (2, n, s.slotState n)) ++
    (3, 0, s.selSlot) :: (List.range portCount).map (fun p => (4, p, link p)) ++
    (List.range portCount).map (fun p => (5, p, s.ptpState p)) ++
    (6, 0, s.get F.NTP_STAT_COND) :: (7, 0, if s.safe then 8 else s.ptpCond) ::
    (List.range outputs).map (fun n => (8, n, flagVal (s.squelched n))) ++
    tileCodes.map (fun t => (9, t, s.tileState t)) ++
    (List.range 8).map (fun d => (10, d, s.domain d)) ++
    [(11, 0, s.sleepNow), (12, 0, flagVal (s.bit F.TB_STAT_WARM) + flagVal (s.bit F.TB_STAT_PLL_LOCK) * 2)]

/-- MODE and STATE records of a cycle (R773). -/
def State.traceChanges (before s : State) : State :=
  let s1 := if s.traces 4 && before.modeNow != s.modeNow then s.trace 4 [s.modeNow] else s
  if s1.traces 5 then
    s1.each (before.traced.zip s.traced) (fun x t =>
      if x.1.2.2 = x.2.2.2 then t
      else t.trace 5 [wordOf (x.1.1 * 2 ^ 24 + x.1.2.1 * 2 ^ 16 + x.1.2.2 % 256 * 256 + x.2.2.2 % 256)])
  else s1

/-- The end of an engine cycle: MODE and STATE records, then the events and their records (R720, R733, R776). A reserved
event has no sticky bit (R719), and a line that is no longer due needs no release pulse. -/
def State.endCycle (before s : State) : State :=
  let s1 := (before.traceChanges s).commitEvents
  let s2 : State := { s1 with evt := { s1.evt with sticky := s1.evt.sticky &&& eventMask } }
  { s2 with evt := { s2.evt with
      pulseA := s2.evt.pulseA && s2.irqDue false
      pulseB := s2.evt.pulseB && s2.irqDue true } }

/-! ### The OBS bank -/

/-- A word of the OBS bank as it reads. -/
def State.obsRead (s : State) (w : Nat) : Option Word :=
  if w = 1 then
    some (wordOf (flagVal (bitOf s.obs.ctlNow.toNat 0) + s.get F.OBS_STAT_LOST_SEEN * 256 + s.obs.fifo.length * 2 ^ 16))
  else if 0x20 ≤ w ∧ w < 0x2C then some (if s.up .time then wordOf (s.out (w - 0x20)).skipped else 0)
  else none

/-- A write to a word of the OBS bank with a rule of its own (R773, R785). -/
def State.obsWrite (s : State) (w v : Nat) : Option Written :=
  match w with
  | 3 => some (s.trace 11 [wordOf v]).ok
  | 7 => some (s.setVal A.OBS_PEAK s.obs.fifo.length).ok
  | _ => none

end Sys2Proof.Machine
end

