-- ==== Sys2Proof/Machine/Operands.lean ====
section
/-! DEFINITION. The operand forms of a register access: parameters wider than a word (R16), threshold descriptors (R70,
R71), and the judgement of a word write by the access codes of its fields (R12, R13, R15, R829). -/

namespace Sys2Proof.Machine

/-! ### Parameters wider than a word (R16) -/

/-- The first words and lengths of the multi-word parameters of a bank, by word. -/
def multiWords (b : Nat) : List (Nat × Nat) :=
  match b with
  | 1 => [(0x24, 2), (0x26, 2)]
  | 3 => [(0x20, 2)]
  | 4 => [(0x09, 3), (0x0C, 3), (0x19, 2), (0x1B, 2), (0x1D, 3), (0x29, 2), (0x2B, 2), (0x2D, 3), (0x32, 2)]
  | 5 => (List.range 8).map (fun n => (0x29 + 16 * n, 2))
  | 8 => (0x06, 3) :: (List.range 12).map (fun n => (0x4A + 16 * n, 3))
  | 10 =>
    (List.range 12).flatMap (fun n => [(0x25 + 16 * n, 2), (0x27 + 16 * n, 2), (0x2C + 16 * n, 2), (0x2E + 16 * n, 2)])
  | 11 => [(0x02, 2), (0x10, 2), (0x12, 2), (0x14, 2), (0x16, 2)]
  | 12 => [(0x02, 2), (0x10, 2), (0x12, 2), (0x14, 2), (0x16, 2)]
  | 13 => [(0x02, 2), (0x10, 2), (0x12, 2), (0x14, 2), (0x16, 2)]
  | 14 => [(0x02, 2), (0x10, 2), (0x12, 2), (0x14, 2), (0x16, 2)]
  | 15 => [(0x06, 2)]
  | 16 => (0x04, 2) :: (List.range 4).flatMap (fun p => [(0x44 + 32 * p, 2), (0x49 + 32 * p, 2), (0x4B + 32 * p, 2)])
  | 20 => [(0x16, 2)]
  | _ => []

/-- The multi-word parameter that a word belongs to: the address of its _HI word and its length. -/
def multiAt (a : Nat) : Option (Nat × Nat) :=
  ((multiWords (a / 256)).find? (fun m => decide (m.1 ≤ a % 256) && decide (a % 256 < m.1 + m.2))).map
    (fun m => (a / 256 * 256 + m.1, m.2))

/-- The lower words of a multi-word parameter. -/
def lowerWords (hi len : Nat) : List Nat := (List.range (len - 1)).map (fun i => hi + 1 + i)

/-! ### Threshold descriptors (R70, R71) -/

/-- The direction of a Guard quantity source (R545). -/
def guardLimit (x : Nat) : Limit := if x = 1 ∨ x = 7 ∨ x = 8 ∨ x = 10 then .lower else .upper

/-- The descriptor that a word belongs to: the address of its ASSERT word and its direction. -/
def descriptorAt (a : Nat) : Option (Nat × Limit) :=
  let fixed : List (Nat × Limit) :=
    [(A.PWR_TCAP_ASSERT, .upper), (A.TB_TIM_REF_ASSERT, .upper), (A.VCAL_DRIFT_ASSERT, .upper),
      (A.REFM_ANT_TEMP_ASSERT, .upper), (A.SRV_LOCK_ASSERT, .lower), (A.ARR_RECAL_T_ASSERT, .upper)]
  match fixed.find? (fun d => decide (d.1 ≤ a) && decide (a < d.1 + 3)) with
  | some d => some d
  | none =>
    if 0x1660 ≤ a ∧ a < 0x1684 then some (0x1660 + (a - 0x1660) / 3 * 3, guardLimit ((a - 0x1660) / 3)) else none

/-- The qualifier of a descriptor keeps its state and starts its run again (R70). -/
def State.resetRun (s : State) (base : Nat) : State :=
  if base = A.PWR_TCAP_ASSERT then { s with pwr := { s.pwr with tcap := { s.pwr.tcap with run := 0 } } }
  else if base = A.TB_TIM_REF_ASSERT then { s with tb := { s.tb with ref := { s.tb.ref with run := 0 } } }
  else if base = A.VCAL_DRIFT_ASSERT then
    { s with cal := s.cal.map (fun c => ({ c with drift := { c.drift with run := 0 } } : CalChannel)) }
  else if base = A.REFM_ANT_TEMP_ASSERT then
    { s with refm := { s.refm with antTemp := { s.refm.antTemp with run := 0 } } }
  else if base = A.SRV_LOCK_ASSERT then { s with srv := { s.srv with lock := { s.srv.lock with run := 0 } } }
  else if base = A.ARR_RECAL_T_ASSERT then
    { s with arr := { s.arr with tiles := s.arr.tiles.map (fun x => ({ x with temp := { x.temp with run := 0 } } : Tile)) } }
  else
    let x := (base - 0x1660) / 3
    let g := s.source x
    s.setSource x { g with q := { g.q with run := 0 } }

/-- A write to a word of a descriptor: ASSERT and RELEASE are held for the port, DWELL applies all three (R70, R71). -/
def State.descriptorWrite (s : State) (p : HostPort) (base : Nat) (dir : Limit) (a : Nat) (v : Word) : Written :=
  if a < base + 2 then (s.hold p a v).ok
  else
    let up := (s.heldWord p base).getD (s.rd base)
    let down := (s.heldWord p (base + 1)).getD (s.rd (base + 1))
    let s1 := s.dropHolds p [base, base + 1]
    if (Descriptor.ofWords up down v).ok dir then
      ((((s1.wr base up).wr (base + 1) down).wr (base + 2) v).resetRun base).ok
    else s1.rejected .range

/-! ### Access codes (R12, R829) -/

/-- The bits of a word that a write can reach. -/
def Row.writable (r : Row) : Nat := r.rw ||| r.w1c ||| r.w1s ||| r.wa ||| r.rl ||| r.wo

/-- Whether a write counts as one to the fields `bits`: always when no other field of the word can be written, else
when it changes them (R829). -/
def Row.writesTo (r : Row) (bits old v : Nat) : Bool :=
  bits != 0 && (r.writable == bits || decide ((old ^^^ v) &&& bits ≠ 0))

/-- Whether a written value is in the range of the word's row (R15). -/
def Row.inRange (r : Row) (v : Nat) : Bool :=
  let x := v &&& r.writable
  within x r.least r.most || (r.zero && x == 0)

/-- The stored word after an accepted write (R12, R13). -/
def Row.stores (r : Row) (old v : Nat) : Nat :=
  let set_ := r.rw ||| r.wa ||| r.rl
  let x := mixBits (full - set_) old v
  (x &&& (full - (v &&& r.w1c))) ||| (v &&& r.w1s)

/-- The bank whose arming a WA field of bank `b` needs (R708). -/
def armBankOf (b : Nat) : Option ArmBank :=
  match b with
  | 3 => some .tb
  | 4 => some .str
  | 9 => some .srv
  | 19 => some .nts
  | 22 => some .grd
  | _ => none

/-- Whether the RL fields of bank `b` are locked (R557, R712). -/
def State.locked (s : State) (b : Nat) : Bool :=
  if b = 22 then s.bit F.GRD_STAT_LOCKED else bitOf (s.val A.HIF_BANK_LOCK) b

/-- A write to a word that follows its row of the register map. -/
def State.rowWrite (s : State) (p : HostPort) (r : Row) (a v : Nat) : Written :=
  let old := s.val a
  let s1 : Option State :=
    if r.writesTo r.wa old v then
      match armBankOf (a / 256) with
      | some b => s.useArm p b
      | none => none
    else some s
  match s1 with
  | none => s.rejected .unarmed
  | some t => if r.inRange v then (t.setVal a (r.stores old v)).ok else t.rejected .range

/-- A write to a word of a multi-word parameter without a rule of its own (R16). -/
def State.multiWrite (s : State) (p : HostPort) (hi len a : Nat) (v : Word) : Written :=
  if a = hi then
    let low := lowerWords hi len
    let ws := low.map (fun x => (x, (s.heldWord p x).getD (s.rd x)))
    let s1 := (s.dropHolds p low).each ws (fun w t => t.wr w.1 w.2)
    match rowAt hi with
    | some r => if r.inRange v.toNat then (s1.setVal hi (r.stores (s.val hi) v.toNat)).ok else (s.dropHolds p low).rejected .range
    | none => s1.ok
  else (s.hold p a v).ok

end Sys2Proof.Machine
end

