-- ==== Sys2Proof/Machine/Board.lean ====
section
/-! DEFINITION. The board-bus controller (R685 to R691, R695). -/

namespace Sys2Proof.Machine

/-- BB_STAT.STATE codes. -/
def boardBusy : Nat := 1
def boardDone : Nat := 2
def boardNack : Nat := 3
def boardArbLost : Nat := 4
def boardTimeout : Nat := 5

/-- The fields of a BB_CMD word. -/
def boardKind (v : Nat) : Nat := bitsAt v 0 2
def boardAddr (v : Nat) : Nat := bitsAt v 8 7
def boardLen (v : Nat) : Nat := bitsAt v 24 8

/-- Whether an address is an enabled BB_WR_ADDR entry. -/
def State.boardMayWrite (s : State) (a : Nat) : Bool :=
  (s.bit F.HIF_BB_WR_ADDR_EN0 && s.get F.HIF_BB_WR_ADDR_ADDR0 == a) ||
    (s.bit F.HIF_BB_WR_ADDR_EN1 && s.get F.HIF_BB_WR_ADDR_ADDR1 == a)

/-- Whether a BB_CMD word lies within the table of R685. -/
def State.boardCmdOk (s : State) (v : Nat) : Bool :=
  let a := boardAddr v
  let n := boardLen v
  match boardKind v with
  | 1 => within a 0x08 0x77 && within n 1 128
  | 2 => true
  | 3 => within a 0x08 0x77 && s.boardMayWrite a && a != 0x50 && a != 0x51 && within n 1 4
  | _ => false

/-- Replaces the board-bus job. -/
def State.setJob (s : State) (j : Option BoardJob) : State := { s with hif := { s.hif with job := j } }

/-- A write of BB_CMD (R685): a job starts with LOSSES at 0 and waits for a free bus (R686, R688). -/
def State.boardCmd (s : State) (v : Nat) : Written :=
  if s.bit F.HIF_BB_CTL_EN = false ∨ s.get F.HIF_BB_STAT_STATE = boardBusy ∨ s.boardCmdOk v = false then s.rejected .range
  else
    ((((s.setJob (some { cmd := wordOf v, phase := .waiting })).put F.HIF_BB_STAT_STATE boardBusy).put
      F.HIF_BB_STAT_LOSSES 0).count F.HIF_BB_CNT_JOBS 1).ok

/-- A write of BB_CTL (R691). -/
def State.boardCtl (s : State) (v : Nat) : Written :=
  if s.get F.HIF_BB_STAT_STATE = boardBusy ∧ v % 8 ≠ s.val A.HIF_BB_CTL then s.rejected .range
  else s.fitWrite A.HIF_BB_CTL v [(1, 2, bitsAt v 1 2 != 3)]

/-- A write of BB_WR_ADDR: 0x50 and 0x51 are out of range. -/
def State.boardWrAddr (s : State) (v : Nat) : Written :=
  let free (a : Nat) : Bool := a != 0x50 && a != 0x51
  s.fitWrite A.HIF_BB_WR_ADDR v [(0, 7, free (bitsAt v 0 7)), (8, 7, free (bitsAt v 8 7))]

/-- The job ends without its transfer (R688 to R690). -/
def State.boardFails (s : State) (state : Nat) : State :=
  (((s.setJob none).put F.HIF_BB_STAT_STATE state).setBit F.HIF_BB_STAT_FAIL_SEEN true).raise Ev.BOARD_FAIL

/-- The bus has been free for long enough and the first transfer starts (R686). -/
def State.boardStarts (s : State) : State :=
  match s.hif.job with
  | some j => if j.phase = .waiting then s.setJob (some { j with phase := .running }) else s
  | none => s

/-- Ticks of `k` back-off steps of 0.25 µs (R688). -/
def backoffTicks (k : Nat) : Nat := (625 * k + 1) / 2

/-- Arbitration is lost (R687, R688): the 8th consecutive loss ends the job, else a back-off of 0 to 16 × n µs is drawn
after the n-th. While the random source is down the back-off is 0 and nothing is drawn. -/
def State.boardArbLoss (s : State) : State :=
  match s.hif.job with
  | none => s
  | some j =>
    if j.phase = .backoff then s
    else
      let s1 := (s.count F.HIF_BB_CNT_ARB_LOSSES 1).count F.HIF_BB_STAT_LOSSES 1
      if 8 ≤ s1.get F.HIF_BB_STAT_LOSSES then (s1.setBit F.HIF_BB_STAT_ARB_SEEN true).boardFails boardArbLost
      else
        let d := s1.random
        let k := d.1 % (64 * s1.get F.HIF_BB_STAT_LOSSES + 1)
        if s1.rngOk then d.2.setJob (some { j with phase := .backoff, retryAt := s.hif.clock + backoffTicks k })
        else s1.setJob (some { j with phase := .backoff, retryAt := s.hif.clock })

/-- The back-off ends and the job begins again from START (R688). -/
def State.boardRetry (s : State) : State :=
  match s.hif.job with
  | some j =>
    if j.phase = .backoff ∧ j.retryAt ≤ s.hif.clock then s.setJob (some { j with phase := .running }) else s
  | none => s

/-- The 128 bytes of BB_DATA. -/
def State.boardBytes (s : State) : List Byte := (List.range 32).flatMap (fun i => bytesOfWord (s.rd (A.HIF_BB_DATA i)))

/-- Stores read bytes in BB_DATA from its first byte on (R685). -/
def State.storeBoard (s : State) (bs : List Byte) : State :=
  let all := patch s.boardBytes 0 bs
  s.each (List.range 32) (fun i t => t.setVal (A.HIF_BB_DATA i) (natAt all (4 * i) 4))

/-- The job's transfer ends (R685, R689, R690): `acked` unless its address or a written byte was not acknowledged.
`data` is what a READ received; a byte the list does not give reads as the released line, 0xFF. -/
def State.boardEnds (s : State) (acked : Bool) (data : List Byte) : State :=
  match s.hif.job with
  | none => s
  | some j =>
    if j.phase = .backoff then s
    else if acked = false then s.boardFails boardNack
    else
      let v := j.cmd.toNat
      let n := boardLen v
      let s1 := (s.setJob none).put F.HIF_BB_STAT_STATE boardDone
      let s2 := if boardKind v = 1 then
          (s1.storeBoard ((data ++ List.replicate 128 0xFF).take n)).put F.HIF_BB_STAT_BYTES n
        else s1
      s2.raise Ev.BOARD_DONE

/-- The bus is not free in time, or SCL is held too long (R689). -/
def State.boardTimesOut (s : State) : State := if s.hif.job.isSome then s.boardFails boardTimeout else s

end Sys2Proof.Machine
end

