-- ==== Sys2Proof/Machine/Engine.lean ====
section
/-! DEFINITION. The register engine's view of the banks: reading and writing one parameter (R15, R601, R628, R702, R709,
R829, R831), and the words of HIF, SRV and GRD with a rule of their own. -/

namespace Sys2Proof.Machine

/-! ### HIF, SRV, GRD -/

/-- The whole ms left of a lease, rounded up (R680). -/
def State.leaseLeft (s : State) : Nat :=
  match s.hif.lease with
  | some l => (l.ends - s.hif.clock + 1249999) / 1250000
  | none => 0

/-- The address of the two-wire target (R670). -/
def State.twAddr (s : State) : Nat := 0x4C + s.hif.madd.getD 0

/-- Words of the HIF bank the state computes. The reading port's message owns the engine (R657). -/
def State.hifRead (s : State) (p : HostPort) (w : Nat) : Option Word :=
  match w with
  | 0x00 => some (wordOf (s.val A.HIF_BANK_LOCK + s.get F.GRD_STAT_LOCKED * 2 ^ 22))
  | 0x20 =>
    let held := match s.hif.lease with
      | some l => 4 + l.holder.code * 8
      | none => 0
    some (wordOf (s.val A.HIF_PORT_STAT + (p.code + 1) + held + s.leaseLeft * 256))
  | 0x21 => some (wordOf (s.val A.HIF_TW_CTL + s.twAddr * 256))
  | _ => none

/-- A write to a word of the HIF bank with a rule of its own. -/
def State.hifWrite (s : State) (w v : Nat) : Option Written :=
  if 0x10 ≤ w ∧ w < 0x18 then some (s.fitWrite w v [(8, 5, decide (bitsAt v 8 5 ≤ 0x17))])
  else
    match w with
    | 0x40 => some (s.boardCtl v)
    | 0x41 => some (s.boardWrAddr v)
    | 0x42 => some (s.boardCmd v)
    | _ => none

/-- A write to a word of the SRV bank with a rule of its own. -/
def State.srvWrite (s : State) (p : HostPort) (w v : Nat) : Option Written :=
  match w with
  | 0x01 =>
    let x := fitted (s.val A.SRV_CTL) v [(0, 4, decide (bitsAt v 0 4 ≤ 12))]
    some ((s.setVal A.SRV_CTL (x % 512)).ok.judged (decide (bitsAt v 0 4 ≤ 12)))
  | 0x02 => some (if v = 1 then s.reacquire else if v = 2 then s.resume else s.rejected .range)
  | 0x20 => if within (bitsAt v 0 4) 8 14 then none else some (s.rejected .range)
  | 0x22 => some (s.estWrite p 0 (0x900 + w) v)
  | 0x23 => some (s.estWrite p 1 (0x900 + w) v)
  | 0x24 => some (s.estWrite p 2 (0x900 + w) v)
  | 0x25 => some (s.estWrite p 3 (0x900 + w) v)
  | 0x36 => some (s.histClear p v)
  | 0x3E => some (s.armCodeWrite .srv (v % 65536))
  | 0x3F => some (s.armWrite p .srv (v % 65536))
  | _ => none

/-- Sources whose N and W are fixed, and sources whose severity is fixed (R545). -/
def fixedCount (x : Nat) : Bool := x == 0 || within x 13 17 || within x 22 24
def fixedSeverity (x : Nat) : Bool := x == 0 || x == 17 || x == 22

/-- Whether a Sx_CFG word is accepted (R545, R559): N and W from 1 to 15, N at most W, nothing fixed changed, THERMAL for
DIE_HOT only. A source of fixed severity cannot be disabled. -/
def State.guardCfgOk (s : State) (x v : Nat) : Bool :=
  let old := s.val (A.GRD_Sx_CFG x)
  let n := bitsAt v 8 4
  let w := bitsAt v 16 4
  decide (1 ≤ n) && decide (n ≤ w) &&
    (!fixedCount x || (n == bitsAt old 8 4 && w == bitsAt old 16 4)) &&
    (!fixedSeverity x || (bitOf v 0 && bitsAt v 1 2 == bitsAt old 1 2)) &&
    (x == 0 || bitsAt v 1 2 != sevThermal)

/-- A write of GRD.LOCK (R557, R558): 1 locks; 0 unlocks, armed only, with a Ledger entry. -/
def State.guardLock (s : State) (p : HostPort) (v : Nat) : Written :=
  if bitOf v 0 then (s.setBit F.GRD_STAT_LOCKED true).ok
  else if s.bit F.GRD_STAT_LOCKED = false then s.ok
  else
    match s.useArm p .grd with
    | none => s.rejected .unarmed
    | some s1 =>
      ((((s1.setBit F.GRD_STAT_LOCKED false).setBit F.GRD_STAT_UNLOCK_SEEN true).raise Ev.GRD_UNLOCK).ledger 37 1 []
        none).ok

/-- A write to a word of the GRD bank with a rule of its own. -/
def State.grdWrite (s : State) (p : HostPort) (w v : Nat) : Option Written :=
  if 0x20 ≤ w ∧ w < 0x52 then
    if w % 2 = 0 then
      let x := (w - 0x20) / 2
      if s.guardCfgOk x v then none else some (s.rejected .range)
    else none
  else
    match w with
    | 0x02 => some (s.guardLock p v)
    | 0x03 => some (s.armCodeWrite .grd (v % 65536))
    | 0x04 => some (s.armWrite p .grd (v % 65536))
    | 0x05 => some (s.writeTripped v).ok
    | 0x08 => if bitsAt v 8 8 = 0 then some (s.rejected .range) else none
    | 0xC1 => some (if v ≤ 4095 then (s.setPort p { s.port p with ldgSel := v }).ok else s.rejected .range)
    | 0xD0 => some (if v ≤ 63 then (s.setPort p { s.port p with sumSel := v }).ok else s.rejected .range)
    | _ => none

/-- Words of the GRD bank the state computes. -/
def State.grdRead (s : State) (p : HostPort) (w : Nat) : Option Word :=
  if 0xC2 ≤ w ∧ w < 0xCA then some (s.latched p (0x1600 + w))
  else if 0xCA ≤ w ∧ w < 0xCE then some (wordOf (natAt (beBytes 16 Config.serial) (4 * (w - 0xCA)) 4))
  else if 0xD1 ≤ w ∧ w < 0xD6 then some (s.latched p (0x1600 + w))
  else
    match w with
    | 0x00 => some (wordOf (s.val A.GRD_STAT + flagVal s.safeReq * 8))
    | 0x02 => some (wordOf (s.get F.GRD_STAT_LOCKED))
    | 0xC0 => some (wordOf s.ledgerStat)
    | 0xC1 => some (wordOf (s.port p).ldgSel)
    | 0xD0 => some (wordOf (s.port p).sumSel)
    | _ => none

/-- A read of GRD.RNG_DATA (R565). -/
def State.rngRead (s : State) : Word × State :=
  if s.rngOk then (Config.hostRandom s.grd.hostReads, { s with grd := { s.grd with hostReads := s.grd.hostReads + 1 } })
  else (0, s)

/-- The words of bytes for a port's latch from address `a` on. -/
def latchWords (a : Nat) (bs : List Byte) (n : Nat) : List (Nat × Word) :=
  (List.range n).map (fun i => (a + i, wordOf (natAt bs (4 * i) 4)))

/-- A read of an LDG.ENTRY word: ENTRY_0 latches the slot, ENTRY_7 advances SEL (R587). -/
def State.entryRead (s : State) (p : HostPort) (k : Nat) : Word × State :=
  let s1 := if k = 0 then s.latch p (latchWords (A.LDG_ENTRY 0) (s.ledgerSlot (s.port p).ldgSel) 8) else s
  let v := s1.latched p (A.LDG_ENTRY k)
  (v, if k = 7 then s1.setPort p { s1.port p with ldgSel := min 4095 ((s1.port p).ldgSel + 1) } else s1)

/-- A read of an LDG.SUM word: SUM_0 latches the record (R586). -/
def State.sumRead (s : State) (p : HostPort) (k : Nat) : Word × State :=
  let s1 := if k = 0 then s.latch p (latchWords (A.LDG_SUM 0) (s.ledgerSumBytes (s.port p).sumSel) 5) else s
  (s1.latched p (A.LDG_SUM k), s1)

/-! ### Banks and domains -/

/-- The domain of a bank, TB apart (R708). -/
def bankDomain (b : Nat) : Domain :=
  if b = 1 ∨ b = 22 then .aon
  else if b = 0 ∨ b = 2 ∨ b = 23 then .host
  else if b ≤ 10 then .time
  else if b ≤ 15 then .net
  else if b ≤ 19 then .pipe
  else .array

/-- Whether the banks of a domain can be read: it is up (R601, R709). -/
def State.readable (s : State) (d : Domain) : Bool := d == .aon || s.up d

/-- Whether the banks of a domain take writes: it is up, and no sleep entry in progress drops it (R601, R628). -/
def State.takesWrites (s : State) (d : Domain) : Bool :=
  s.readable d && !(s.entering && (sleepDrops (s.get F.PWR_SLEEP_STAT_TARGET)).contains d.code)

/-- An access to a bank of a domain that is down is counted (R601). -/
def State.downAccess (s : State) : State := s.count (wordFld A.PWR_DOWN_ACCESS) 1

/-! ### Reading -/

/-- A word with its own rule for reading, without side effects. -/
def State.bankRead (s : State) (p : HostPort) (b w : Nat) : Option Word :=
  if 11 ≤ b ∧ b ≤ 14 then s.macRead (b - 11) w
  else
    match b with
    | 0 => s.hifRead p w
    | 1 => s.pwrRead w
    | 2 => s.evtRead w
    | 3 => s.tbRead w
    | 4 => s.strRead w
    | 5 => s.vcRead p w
    | 6 => s.vcalRead w
    | 8 => s.refmRead w
    | 9 => s.srvRead p w
    | 10 => s.pcrRead w
    | 16 => s.ptpRead w
    | 17 => s.pipeRead w
    | 18 => s.admRead w
    | 19 => s.ntsRead p w
    | 20 => s.arrRead w
    | 22 => s.grdRead p w
    | 23 => s.obsRead w
    | _ => none

/-- A word as it stands: computed, or stored. Write-only fields are never stored. -/
def State.liveWord (s : State) (p : HostPort) (a : Nat) : Word := (s.bankRead p (a / 256) (a % 256)).getD (s.rd a)

/-- A read whose chapter gives the word an effect or a latch of its own; none for every other word. -/
def State.effectRead (s : State) (p : HostPort) (b w : Nat) : Option (Word × State) :=
  match b with
  | 1 =>
    if w = 0x2C then
      some (s.rd (0x100 + w), s.latch p ([0x12D, 0x12E, 0x12F, 0x130].map (fun a => (a, s.rd a))))
    else if 0x2D ≤ w ∧ w ≤ 0x30 then some (s.latched p (0x100 + w), s)
    else none
  | 4 =>
    if 0x40 ≤ w ∧ w < 0x50 then
      let f : Face := match (w - 0x40) / 4 with
        | 0 => .f0
        | 1 => .f1
        | 2 => .f2
        | _ => .f3
      let t := if w % 4 = 0 then s.latchFace p f else s
      some (t.latched p (0x400 + w), t)
    else if w = 0x50 ∨ w = 0x51 then some (s.latched p (0x400 + w), s)
    else none
  | 5 => if 0xC0 ≤ w ∧ w % 16 = 2 then some (s.rd (0x500 + w), s.latchUnit p ((w - 0xC0) / 16)) else none
  | 7 =>
    if 0x80 ≤ w ∧ w < 0x88 then some (s.vqFifo p (w - 0x80))
    else if w < 0x80 ∧ w % 16 = 0 then some (s.vqPop p (w / 16))
    else if w < 0x80 ∧ w % 16 = 1 then some (s.latched p (0x700 + w), s)
    else if w < 0x80 ∧ w % 16 = 2 then some (wordOf (s.chan (w / 16)).queue.length, s)
    else none
  | 9 =>
    if w = 0x32 then
      let t := s.latchHist p
      some (t.latched p (0x900 + w), t)
    else none
  | 17 => if w = 0x0C then some s.mailPop else none
  | 19 => if w = 0x32 then some (s.mintPop p) else none
  | 22 =>
    if w = 0x07 then some s.rngRead
    else if 0xC2 ≤ w ∧ w < 0xCA then some (s.entryRead p (w - 0xC2))
    else if 0xD1 ≤ w ∧ w < 0xD6 then some (s.sumRead p (w - 0xD1))
    else none
  | _ => none

/-- A read of a word whose domain is up: the _HI word of a multi-word parameter latches the lower words, a lower word
reads the latch (R16). -/
def State.wordRead (s : State) (p : HostPort) (a : Nat) : Word × State :=
  match s.effectRead p (a / 256) (a % 256) with
  | some x => x
  | none =>
    match multiAt a with
    | some (hi, len) =>
      if a = hi then (s.liveWord p a, s.latch p ((lowerWords hi len).map (fun x => (x, s.liveWord p x))))
      else (s.latched p a, s)
    | none => (s.liveWord p a, s)

/-- A read of a TB word, each part while its domain is up (R831). -/
def State.tbWordRead (s : State) (p : HostPort) (w : Nat) : Word × State :=
  let o := ovenBits w
  let mask := (if s.up .oven then o else 0) ||| (if s.up .time then full - o else 0)
  if mask = 0 then (0, s)
  else
    let x := s.wordRead p (0x300 + w)
    (wordOf (x.1.toNat &&& mask), x.2)

/-- A read of one parameter through the register engine. -/
def State.paramRead (s : State) (p : HostPort) (a : Nat) : Word × State :=
  let b := a / 256
  if b = 3 then
    if s.up .oven || s.up .time then s.tbWordRead p (a % 256) else (0, s.downAccess)
  else if s.readable (bankDomain b) then s.wordRead p a
  else (0, s.downAccess)

/-! ### Writing -/

/-- A word with its own rule for writing; none for the words that follow the register map. -/
def State.bankWrite (s : State) (p : HostPort) (b w v : Nat) : Option Written :=
  if 11 ≤ b ∧ b ≤ 14 then s.macWrite p (b - 11) w v
  else
    match b with
    | 0 => s.hifWrite w v
    | 1 => s.pwrWrite w v
    | 2 => s.evtWrite w v
    | 3 => s.tbWrite p w v
    | 4 => s.strWrite p w v
    | 5 => s.vcWrite w v
    | 6 => s.vcalWrite w v
    | 7 => s.vqWrite w v
    | 8 => s.refmWrite w v
    | 9 => s.srvWrite p w v
    | 10 => s.pcrWrite p w v
    | 15 => if w = 0 then some (s.snapCtlWrite v).ok else none
    | 16 => s.ptpWrite p w v
    | 17 => s.pipeWrite w v
    | 18 => s.admWrite p w v
    | 19 => s.ntsWrite p w v
    | 20 => s.arrWrite w v
    | 21 => if w = 0 then some (s.loadData (wordOf v)).ok else none
    | 22 => s.grdWrite p w v
    | 23 => s.obsWrite w v
    | _ => none

/-- The lower words whose hold a write of the word at `a` empties, whether or not it is discarded: those of the parameter
or descriptor that the word applies (R16, R70). -/
def appliedHolds (a : Nat) : List Nat :=
  match descriptorAt a with
  | some (base, _) => if a = base + 2 then [base, base + 1] else []
  | none =>
    match multiAt a with
    | some (hi, len) => if a = hi then lowerWords hi len else []
    | none => []

/-- What the write of a word comes to before its hold is emptied (R702): an unmapped word, a read-only word (any write to
an EVT word may start a release pulse, R728), a locked RL field, then the word's own rule, the descriptor, the multi-word parameter or the register map. -/
def State.wordJudged (s : State) (p : HostPort) (a : Nat) (v : Word) : Written :=
  match rowAt a with
  | none => s.rejected .unmapped
  | some r =>
    if r.writable = 0 then (if a / 256 = 2 then State.irqPulse s s else s).ok
    else if r.writesTo r.rl (s.val a) v.toNat = true ∧ s.locked (a / 256) = true then s.rejected .locked
    else
      match descriptorAt a with
      | some (base, dir) => s.descriptorWrite p base dir a v
      | none =>
        match s.bankWrite p (a / 256) (a % 256) v.toNat with
        | some x => x
        | none =>
          match multiAt a with
          | some (hi, len) => s.multiWrite p hi len a v
          | none => s.rowWrite p r a v.toNat

/-- A write to a word whose domain takes writes. A discarded write of a parameter's _HI word empties the port's hold as an
accepted one does (R16). -/
def State.wordWrite (s : State) (p : HostPort) (a : Nat) (v : Word) : Written :=
  let x := s.wordJudged p a v
  if x.rej.isSome && !(appliedHolds a).isEmpty then { x with state := x.state.dropHolds p (appliedHolds a) } else x

/-- A write to a TB word: each part takes it while its domain does (R831). -/
def State.tbWordWrite (s : State) (p : HostPort) (oven time : Bool) (w : Nat) (v : Word) : Written :=
  if w = 0x01 then s.tbCtlWrite p oven time v.toNat
  else if w = 0x00 then
    let o := ovenBits 0
    let mask := (if oven then o else 0) ||| (if time then full - o else 0)
    s.wordWrite p 0x300 (wordOf (v.toNat &&& mask))
  else if (if ovenWord w then oven else time) || (rowAt (0x300 + w)).isNone then s.wordWrite p (0x300 + w) v
  else s.ok

/-- A write of one parameter through the register engine. -/
def State.paramWrite (s : State) (p : HostPort) (a : Nat) (v : Word) : Written :=
  let b := a / 256
  if 24 ≤ b then s.rejected .unmapped
  else if b = 3 then
    let oven := s.takesWrites .oven
    let time := s.takesWrites .time
    if oven || time then s.tbWordWrite p oven time (a % 256) v else s.downAccess.ok
  else if s.takesWrites (bankDomain b) then s.wordWrite p a v
  else s.downAccess.ok

end Sys2Proof.Machine
end

