-- ==== Sys2Proof/Machine/Window.lean ====
section
/-! DEFINITION. The direct window and the messages of the two host ports (R657 to R677, R698 to R704), with the claim
leases (R680 to R684). -/

namespace Sys2Proof.Machine

/-! ### The port -/

/-- Whether the host ports answer: HOST is up and the VIO_H bank is present (R600, R791). -/
def State.hostServes (s : State) : Bool := s.up .host && s.pwr.vioH.isSome

/-- Whether the other port of `p` holds a lease (R682). -/
def State.leasedAway (s : State) (p : HostPort) : Bool :=
  match s.hif.lease with
  | some l => l.holder == p.other
  | none => false

/-- Whether the engine belongs to a two-wire write that waits to be applied; it gives way to an SPI lease only (R692,
R693). -/
def State.writeWaits (s : State) : Bool := s.hif.twWrite.isSome && !s.leasedAway .twoWire

/-- Whether a message of port `p` cannot have the engine (R667, R675, R678, R682). -/
def State.engineBusy (s : State) (p : HostPort) : Bool :=
  match p with
  | .spi => s.leasedAway .spi || s.writeWaits
  | .twoWire => s.leasedAway .twoWire || s.hif.twWrite.isSome

/-- Whether the words of the last message may still be applied or fetched (R660, R674, R692). -/
def State.stillUsed (s : State) : Bool := decide (s.hif.clock < s.hif.usedUntil)

/-- The status byte of a port (R667); `busy` says that its message cannot have the engine. -/
def State.statusByte (s : State) (p : HostPort) (busy : Bool) : Byte :=
  let r := (s.port p).result
  BitVec.ofNat 8 (flagVal busy * 128 + flagVal (s.leasedAway p) * 64 + flagVal r.crcErr * 32 +
    flagVal r.done * 16 + flagVal r.refused * 8 + flagVal r.reject * 4 + 2)

/-- Replaces a port's message result. -/
def State.setResult (s : State) (p : HostPort) (r : MsgResult) : State := s.setPort p { s.port p with result := r }

/-- Replaces the bytes a port returned. -/
def State.setBytes (s : State) (p : HostPort) (bs : List Byte) : State := s.setPort p { s.port p with out := bs }

/-! ### Words of a message -/

/-- What a word write came to: the state, and whether the status byte shows REJECT (R667, R681, R683). -/
structure Applied where
  state : State
  reject : Bool := false
  deriving DecidableEq, Repr

/-- The target words whose HOST record carries no value (R779). -/
def hiddenParam (a : Nat) : Bool :=
  within a 0x1340 0x134F ||
    [A.HIF_BANK_LOCK, A.TB_ARM_CODE, A.TB_ARM, A.STR_ARM_CODE, A.STR_ARM, A.STR_COMMIT, A.SRV_ARM_CODE, A.SRV_ARM,
      A.NTS_ARM_CODE, A.NTS_ARM, A.GRD_ARM_CODE, A.GRD_ARM, A.GRD_LOCK].contains a

/-- The HOST record of an applied word (R773, R778, R779). -/
def State.hostRecord (s : State) (p : HostPort) (via : Bool) (a : Nat) (kind : Nat) (v : Word) : State :=
  let hide := if via then a == 0x11 || a == 0x0D else hiddenParam a
  let at_ := if via then a + 2 ^ 15 else a % 256 + a / 256 * 256
  s.trace 10 [wordOf (at_ + kind * 2 ^ 16 + p.code * 2 ^ 31), if hide then 0 else v]

/-- A discarded write (R702): REJ_LAST, REJ_COUNT and PARAM_REJECT; of a COMMIT while unarmed no event (R43). -/
def State.recordReject (s : State) (p : HostPort) (via : Bool) (a : Nat) (r : Reject) : State :=
  let x := s.port p
  let at_ := if via then a + 2 ^ 15 else a
  (s.setPort p { x with rejLast := wordOf (at_ + r.code * 2 ^ 16), rejCount := x.rejCount + 1 }).raiseIf (r != .lateCommit)
    Ev.PARAM_REJECT

/-- Ends a word write: its HOST record, and what a discard leaves. -/
def Written.finish (w : Written) (p : HostPort) (via : Bool) (a : Nat) (v : Word) : Applied :=
  match w.rej with
  | none => { state := w.state.hostRecord p via a 0 v }
  | some r => { state := (w.state.hostRecord p via a r.code v).recordReject p via a r, reject := true }

/-- The address that a port's pointers name. -/
def State.pointed (s : State) (p : HostPort) : Nat := (s.port p).ptrBank * 256 + (s.port p).ptrWord

/-- PTR_WORD steps on within its bank (R658). -/
def State.stepPointer (s : State) (p : HostPort) : State :=
  s.setPort p { s.port p with ptrWord := ((s.port p).ptrWord + 1) % 256 }

/-- The alias word of window word 0x30 + k: the address it names, if it is enabled (R703). -/
def State.alias_ (s : State) (k : Nat) : Option Nat :=
  if s.bit (F.HIF_ALIAS_EN k) then some (s.get (F.HIF_ALIAS_BANK k) * 256 + s.get (F.HIF_ALIAS_WORD k)) else none

/-- A lease is granted (R681). -/
def State.grantLease (s : State) (p : HostPort) (code ms : Nat) : State :=
  let l : Lease := { holder := p, code := code, ends := s.hif.clock + ms * 1250000 }
  ({ s with hif := { s.hif with lease := some l } }).count F.HIF_CLAIM_CNT_TAKEN 1

/-- The lease ends: its holder's 1 ms gap begins (R681, R683, R684). -/
def State.endLease (s : State) : State :=
  match s.hif.lease with
  | none => s
  | some l =>
    let s1 : State := { s with hif := { s.hif with lease := none } }
    s1.setPort l.holder { s1.port l.holder with leaseEnd := some s.hif.clock }

/-- A TAKE (R681). -/
def State.claimTake (s : State) (p : HostPort) (code ms : Nat) : Applied :=
  let rested := match (s.port p).leaseEnd with
    | none => true
    | some e => decide (e + 1250000 ≤ s.hif.clock)
  if s.hif.lease.isNone && rested then { state := s.grantLease p code ms }
  else { state := s.count F.HIF_CLAIM_CNT_REFUSED 1, reject := true }

/-- A RELEASE (R683). With no lease held there is nothing to end. -/
def State.claimRelease (s : State) (p : HostPort) (code : Nat) : Applied :=
  match s.hif.lease with
  | none => { state := s }
  | some l =>
    if l.holder = p ∧ l.code = code then { state := s.endLease }
    else { state := s.count F.HIF_CLAIM_CNT_MISMATCH 1, reject := true }

/-- A write of CLAIM (R680): held for CLAIM_CODE. -/
def State.claimWrite (s : State) (p : HostPort) (v : Word) : Written :=
  let op := bitsAt v.toNat 0 2
  if op = 0 ∨ op = 3 ∨ within (bitsAt v.toNat 8 7) 1 100 = false then s.rejected .range
  else (s.setPort p { s.port p with claimWord := v }).ok

/-- A write of CLAIM_CODE (R680): it applies the CLAIM word held. -/
def State.claimCode (s : State) (p : HostPort) (v : Word) : Applied :=
  let code := bitsAt v.toNat 0 16
  let held := (s.port p).claimWord.toNat
  if code = 0 ∨ held = 0 then (s.rejected .range).finish p true 0x0D v
  else
    let s1 := s.setPort p { s.port p with claimWord := 0 }
    let x := if bitsAt held 0 2 = 1 then s1.claimTake p code (bitsAt held 8 7) else s1.claimRelease p code
    { x with state := x.state.hostRecord p true 0x0D 0 v }

/-- Whether the lease held has reached its time (R684). -/
def State.leaseOver (s : State) : Bool :=
  match s.hif.lease with
  | some l => decide (l.ends ≤ s.hif.clock)
  | none => false

/-- A lease reaches its time (R684). -/
def State.leaseExpires (s : State) : State :=
  if s.leaseOver then
    ((s.endLease.count F.HIF_CLAIM_CNT_EXPIRED 1).setBit F.HIF_PORT_STAT_EXPIRED_SEEN true).raise Ev.CLAIM_EXPIRED
  else s

/-- The CLAIM word as port `p` reads it (R680). -/
def State.claimRead (s : State) (p : HostPort) : Word :=
  match s.hif.lease with
  | none => 0
  | some l => wordOf (1 + l.holder.code * 2 + flagVal (l.holder == p) * 4 + s.leaseLeft * 256)

/-- The STATUS word (R700). -/
def State.statusWord (s : State) : Word :=
  let t := s.up .time
  let b (k : Nat) (x : Bool) : Nat := flagVal x * 2 ^ k
  wordOf (b 0 s.safe + b 1 (s.up .oven && s.bit F.TB_STAT_WARM) + b 2 (t && s.bit F.TB_STAT_PLL_LOCK) +
    b 3 (t && s.bit F.STR_STAT_F0_SET) + b 4 (t && s.bit F.STR_STAT_F3_SET) + b 5 (t && s.srvState == srvLocked) +
    b 6 (t && s.srvState == srvHoldover) + b 7 (s.bit F.PWR_STAT_CAPPED) + s.get F.PWR_STAT_LEVEL_NOW * 2 ^ 8 +
    s.get F.PWR_SLEEP_STAT_NOW * 2 ^ 10 + b 12 (s.val A.GRD_TRIPPED != 0) + b 13 (decide (ledgerSlots ≤ s.ledgerCount)) +
    ((List.range 4).map (fun g => b (16 + g) (s.sumWord g != 0))).sum +
    ((List.range 8).map (fun d => b (24 + d) (s.domain d == 2))).sum)

/-- The bank word of a Face window word (R698). -/
def faceWindow (w : Nat) : Nat :=
  if w < 0x24 then 0x440 + (w - 0x20)
  else if w = 0x24 then A.STR_LAT_TALLY_HI
  else if w = 0x25 then A.STR_LAT_TALLY_LO
  else if w = 0x26 then latEraAddr
  else if w < 0x2C then 0x444 + (w - 0x28)
  else 0x44C + (w - 0x2C)

/-- A read of a Face window word: F0, F1 or F3 SEC_HI latches (R699); all read 0 while TIME is down. -/
def State.faceWindowRead (s : State) (p : HostPort) (w : Nat) : Word × State :=
  if s.up .time = false then (0, s)
  else
    let t := if w = 0x20 then s.latchFace p .f0 else if w = 0x28 then s.latchFace p .f1
      else if w = 0x2C then s.latchFace p .f3 else s
    (t.latched p (faceWindow w), t)

/-- A read of one window word (R698). -/
def State.windowRead (s : State) (p : HostPort) (w : Nat) : Word × State :=
  let x := s.port p
  if 0x30 ≤ w ∧ w < 0x38 then
    match s.alias_ (w - 0x30) with
    | some a => s.paramRead p a
    | none => (0, s)
  else if (0x20 ≤ w ∧ w ≤ 0x26) ∨ (0x28 ≤ w ∧ w ≤ 0x2F) then s.faceWindowRead p w
  else
    match w with
    | 0x00 => (0x4D514160, s)
    | 0x01 => (0x00000100, s)
    | 0x02 => (s.statusWord, s)
    | 0x03 => (s.rd A.HIF_RESET_INFO, s)
    | 0x04 => (s.sumWord 0, s)
    | 0x05 => (s.sumWord 1, s)
    | 0x06 => (s.sumWord 2, s)
    | 0x07 => (s.sumWord 3, s)
    | 0x08 => (wordOf x.ptrBank, s)
    | 0x09 => (wordOf x.ptrWord, s)
    | 0x0A =>
      let r := s.paramRead p (s.pointed p)
      (r.1, r.2.stepPointer p)
    | 0x0B => s.paramRead p (s.pointed p)
    | 0x0C => (s.claimRead p, s)
    | 0x0E => (x.rejLast, s)
    | 0x0F => (x.rejCount, s)
    | 0x11 => (x.cmdArg, s)
    | 0x12 => (s.rd cmdStatusAddr, s)
    | 0x14 => (s.modeNow, s)
    | 0x15 => (s.modeReqWord, s)
    | _ => (0, s)

/-- A write through DATA, DATA_HOLD or an alias. -/
def State.paramApply (s : State) (p : HostPort) (a : Nat) (v : Word) : Applied := (s.paramWrite p a v).finish p false a v

/-- A write of a pointer (R709): PTR_BANK keeps its value on a bank above 0x17, and every pointer write returns the
port's FIFO alternation to the first read (R111). -/
def State.pointerWrite (s : State) (p : HostPort) (bank : Bool) (v : Nat) : Written :=
  let x := { s.port p with fifoSecond := false }
  if bank then
    if 0x17 < v then (s.setPort p x).rejected .range else (s.setPort p { x with ptrBank := v }).ok
  else (s.setPort p { x with ptrWord := v % 256 }).ok

/-- The window words that only read (R698). -/
def windowReadOnly (w : Nat) : Bool :=
  within w 0x00 0x07 || w == 0x0E || w == 0x0F || w == 0x12 || w == 0x14 || within w 0x20 0x26 || within w 0x28 0x2F

/-- A write of one window word (R698, R702, R704). -/
def State.windowWrite (s : State) (p : HostPort) (w : Nat) (v : Word) : Applied :=
  let via (x : Written) : Applied := x.finish p true w v
  if windowReadOnly w then via s.ok
  else if 0x30 ≤ w ∧ w < 0x38 then
    match s.alias_ (w - 0x30) with
    | some a => s.paramApply p a v
    | none => via (s.rejected .unmapped)
  else
    match w with
    | 0x08 => via (s.pointerWrite p true v.toNat)
    | 0x09 => via (s.pointerWrite p false v.toNat)
    | 0x0A =>
      let x := s.paramApply p (s.pointed p) v
      { x with state := x.state.stepPointer p }
    | 0x0B => s.paramApply p (s.pointed p) v
    | 0x0C => via (s.claimWrite p v)
    | 0x0D => s.claimCode p v
    | 0x10 =>
      if s.cmdBusy then via (s.rejected .range)
      else via ({ s with hif := { s.hif with cmdLatched := some (v.toNat % 256) } } : State).ok
    | 0x11 => via (s.setPort p { s.port p with cmdArg := v }).ok
    | 0x15 => via (s.modeRequest v.toNat)
    | _ => via (s.rejected .unmapped)

/-- The window word of a message's k-th word: DATA and DATA_HOLD repeat, every other word runs on (R658, R659). -/
def targetWord (w k : Nat) : Nat := if w = 0x0A ∨ w = 0x0B then w else w + k

/-- Whether a message of `n` words from window word `w` stays within the window (R659). -/
def spanOk (w n : Nat) : Bool := w == 0x0A || w == 0x0B || decide (w + n ≤ 0x40)

/-- Applies the words of a write message in order (R660). -/
def State.applyWords (s : State) (p : HostPort) (w : Nat) (vs : List Word) : Applied :=
  vs.zipIdx.foldl (fun x y =>
    let r := x.state.windowWrite p (targetWord w y.2) y.1
    { r with reject := r.reject || x.reject }) { state := s }

/-- Fetches `n` words of a read message in order (R661). -/
def State.fetchWords (s : State) (p : HostPort) (w : Nat) : Nat → List Word × State
  | 0 => ([], s)
  | n + 1 =>
    let x := s.fetchWords p w n
    let y := x.2.windowRead p (targetWord w n)
    (x.1 ++ [y.1], y.2)

/-- The message is over: a latched CMD runs with the port's CMD_ARG (R704). -/
def State.endMessage (s : State) (p : HostPort) : State :=
  match s.hif.cmdLatched with
  | none => s
  | some c => ({ s with hif := { s.hif with cmdLatched := none } } : State).runCmd p c

/-- The engine is taken for 0.5 µs + 10 ns × the number of words, and `more` ticks (R660). -/
def State.useEngine (s : State) (words more : Nat) : State :=
  { s with hif := { s.hif with usedUntil := s.hif.clock + 625 + (25 * words + 1) / 2 + more } }

/-- A write message is applied: its words, its command, its result. A warm reset takes the port's state with it. -/
def State.applyWrite (s : State) (p : HostPort) (w : Nat) (vs : List Word) (cnt : Fld) : State :=
  let x := (s.useEngine vs.length 0).applyWords p w vs
  ((x.state.count cnt 1).setResult p { done := true, reject := x.reject }).endMessage p

/-! ### SPI messages (R663 to R669, R833) -/

/-- A message that is refused or truncated (R665, R669). -/
def State.spiRefused (s : State) : State := (s.setResult .spi { refused := true }).count F.HIF_SPI_CNT_B_REFUSED 1

/-- CRC_SEEN is set; HOST_FRAME_ERR at its change from 0 to 1. -/
def State.crcSeen (s : State) : State :=
  (s.setBit F.HIF_PORT_STAT_CRC_SEEN true).raiseIf (!s.bit F.HIF_PORT_STAT_CRC_SEEN) Ev.HOST_FRAME_ERR

/-- A message whose CRC fails (R668). -/
def State.spiCrcError (s : State) : State :=
  ((s.setResult .spi { crcErr := true }).count F.HIF_SPI_CNT_B_CRC_ERR 1).crcSeen

/-- Whether LEN suits READ and WRITE (R665). -/
def lengthOk (len most : Nat) : Bool := within len 4 most && len % 4 == 0

/-- The bytes HSDO sends: `bs` from byte 0 on, 0x00 after them, as many as were clocked (R664, R668, R669). -/
def sentBytes (n : Nat) (bs : List Byte) : List Byte := (bs ++ List.replicate n 0).take n

/-- Words of a READ fetched by the time `n` bytes have been clocked (R833). -/
def fetchedWords (n words : Nat) : Nat := min words (if n ≤ 5 then 0 else 1 + (n - 3) / 4 - 1)

/-- An accepted READ of which `n` bytes are clocked (R661, R666, R669, R833). -/
def State.spiReadWords (s : State) (status : Byte) (w len n : Nat) : State :=
  let k := fetchedWords n (len / 4)
  let x := s.fetchWords .spi w k
  let data := x.1.flatMap bytesOfWord
  let all := status :: List.replicate 5 0 ++ data ++ (if k = len / 4 then beBytes 2 (crc16 data) else [])
  let s1 := x.2.setBytes .spi (sentBytes n all)
  if n < 8 + len then s1.spiRefused else (s1.setResult .spi { done := true }).count F.HIF_SPI_CNT_A_DONE 1

/-- An accepted WRITE whose bytes after the header are `rest` (R660, R668, R669). -/
def State.spiWriteWords (s : State) (w len : Nat) (rest : List Byte) : State :=
  if rest.length < len + 2 then s.spiRefused
  else if crc16 (rest.take len) ≠ natAt rest len 2 then s.spiCrcError
  else s.applyWrite .spi w (wordsOfBytes (rest.take len)) F.HIF_SPI_CNT_A_DONE

/-- One SPI message: `bytes` is what the host clocks on HSDI between the fall and the rise of HCS_N (R663 to R669). `early`
says that HCS_N falls while the engine still applies or fetches the words of the message before (R678, R692), which is
possible for the time that these take. -/
def State.spiMessage (s : State) (early : Bool) (bytes : List Byte) : State :=
  let n := bytes.length
  let busy := s.engineBusy .spi || (early && s.stillUsed)
  let status := s.statusByte .spi busy
  let s0 := s.setBytes .spi (sentBytes n [status])
  if s.hostServes = false then s
  else if busy then s0.count F.HIF_SPI_CNT_A_BUSY 1
  else if n < 5 then s0.spiRefused
  else if crc8 (bytes.take 4) ≠ natAt bytes 4 1 then s0.spiCrcError
  else
    let cmd := natAt bytes 0 1
    let w := natAt bytes 1 1
    let len := natAt bytes 2 2
    if cmd % 64 ≠ 0 ∨ 64 ≤ w then s0.spiRefused
    else
      match cmd / 64 with
      | 0 => if len = 0 then (s0.setResult .spi { done := true }).count F.HIF_SPI_CNT_A_DONE 1 else s0.spiRefused
      | 1 =>
        if lengthOk len 4096 && spanOk w (len / 4) then s0.spiReadWords status w len n else s0.spiRefused
      | 2 =>
        if lengthOk len 4096 && spanOk w (len / 4) then s0.spiWriteWords w len (bytes.drop 5) else s0.spiRefused
      | _ => s0.spiRefused

/-! ### Two-wire messages (R670 to R677) -/

/-- A message refused after its address: `nack` when a byte was not acknowledged (R675). -/
def State.twRefused (s : State) (nack : Bool) : State :=
  let s1 := s.setResult .twoWire { refused := true }
  if nack then s1.count F.HIF_TW_CNT_B_REFUSED 1 else s1

/-- A PEC that does not match (R675). -/
def State.twPecError (s : State) : State :=
  ((s.setResult .twoWire { crcErr := true }).count F.HIF_TW_CNT_B_PEC_ERR 1).crcSeen

/-- The address byte of a phase. -/
def State.twAddrByte (s : State) (read : Bool) : Byte := BitVec.ofNat 8 (2 * s.twAddr + flagVal read)

/-- What the write phase of a transaction comes to. -/
inductive TwPhase where
  | silent
  | addressNack
  | truncated
  | nack
  | pecError
  | overrun
  | nop
  | read (w len : Nat)
  | write (w len : Nat)
  deriving DecidableEq, Repr

/-- Judges the write phase (R671, R672, R675): the 7-bit address and the bytes after the address byte. `away` says that the
address meets an SPI message that has the engine or takes it in the same cycle (R679), or a lease. -/
def State.twJudge (s : State) (addr : Nat) (away : Bool) (bytes : List Byte) : TwPhase :=
  let pec := flagVal (s.bit F.HIF_TW_CTL_PEC_EN)
  if s.hostServes = false ∨ s.hif.madd = none ∨ addr ≠ s.twAddr then .silent
  else if away || s.hif.twWrite.isSome then .addressNack
  else if bytes.length < 4 then .truncated
  else
    let cmd := natAt bytes 0 1
    let w := natAt bytes 1 1
    let len := natAt bytes 2 2
    let body := if cmd / 64 = 2 then len else 0
    let bad := cmd % 64 != 0 || decide (64 ≤ w) || decide (3 ≤ cmd / 64) ||
      (if cmd / 64 = 0 then len != 0 else !lengthOk len 256)
    if bad then .nack
    else if bytes.length < 4 + body + pec then .truncated
    else if pec = 1 ∧ crc8 (s.twAddrByte false :: bytes.take (4 + body)) ≠ natAt bytes (4 + body) 1 then .pecError
    else if 4 + body + pec < bytes.length then .nack
    else if cmd / 64 ≠ 0 ∧ spanOk w (len / 4) = false then .overrun
    else
      match cmd / 64 with
      | 0 => .nop
      | 1 => .read w len
      | _ => .write w len

/-- The bytes of a read phase: the status byte, the data, the PEC over the whole transaction where it is on (R671,
R672). -/
def State.twReply (s : State) (bytes : List Byte) (status : Byte) (data : List Byte) : List Byte :=
  let sent := status :: data
  if s.bit F.HIF_TW_CTL_PEC_EN then
    sent ++ [BitVec.ofNat 8 (crc8 (s.twAddrByte false :: bytes ++ s.twAddrByte true :: sent))]
  else sent

/-- The outcome of a write phase that no accepted command follows. -/
def State.twFails (s : State) (x : TwPhase) : State :=
  match x with
  | .silent => s
  | .addressNack => s.count F.HIF_TW_CNT_A_NACKED 1
  | .truncated => s.twRefused false
  | .nack => s.twRefused true
  | .pecError => s.twPecError
  | .overrun => s.twRefused false
  | .nop => s
  | .read _ _ => s
  | .write _ _ => s

/-- A two-wire NOP or READ (R671, R674): `bytes` is the write phase after the address byte, `n` the bytes of the read
phase that the controller reads. An SPI message met at the read-phase address has it NACKed, with nothing fetched
(R675). -/
def State.twFetch (s : State) (addr : Nat) (meets : TwMeets) (bytes : List Byte) (n : Nat) : State :=
  let status := s.statusByte .twoWire (s.engineBusy .twoWire)
  match s.twJudge addr (s.leasedAway .twoWire || meets == .address) bytes with
  | .nop =>
    if meets = .readAddress then s.twFails .addressNack
    else
      ((s.setBytes .twoWire (sentBytes n (s.twReply bytes status []))).setResult .twoWire { done := true }).count
        F.HIF_TW_CNT_A_DONE 1
  | .read w len =>
    if meets = .readAddress then s.twFails .addressNack
    else
    let x := (s.useEngine (len / 4) 2500).fetchWords .twoWire w (len / 4)
    let s1 := x.2.setBytes .twoWire (sentBytes n (s.twReply bytes status (x.1.flatMap bytesOfWord)))
    (s1.setResult .twoWire { done := true }).count F.HIF_TW_CNT_A_DONE 1
  | x => s.twFails x

/-- A two-wire WRITE (R671, R673, R693): collected whole and, unless an SPI message has the engine at its end (`waits`),
applied at once. A lease that such a message took after the address was acknowledged holds it back, and does not refuse it.
`n` is the bytes the controller reads in a read phase that follows; an SPI message met at its address has that NACKed. -/
def State.twWrite (s : State) (addr : Nat) (meets : TwMeets) (bytes : List Byte) (waits : Bool) (n : Nat) : State :=
  let status := s.statusByte .twoWire (s.engineBusy .twoWire)
  match s.twJudge addr ((s.leasedAway .twoWire && !waits) || meets == .address) bytes with
  | .write w len =>
    let vs := wordsOfBytes (slice bytes 4 len)
    if waits then
      let s1 : State := { s with hif := { s.hif with twWrite := some { window := w, words := vs } } }
      if n = 0 then s1 else s1.count F.HIF_TW_CNT_A_NACKED 1
    else if meets = .readAddress then
      (s.twFails .addressNack).applyWrite .twoWire w vs F.HIF_TW_CNT_A_DONE
    else
      (s.setBytes .twoWire (sentBytes n (s.twReply bytes status []))).applyWrite .twoWire w vs F.HIF_TW_CNT_A_DONE
  | x => s.twFails x

/-- The collected write is applied once the engine is free (R673, R693). -/
def State.twApply (s : State) : State :=
  match s.hif.twWrite with
  | none => s
  | some x =>
    if s.leasedAway .twoWire then s
    else
      ({ s with hif := { s.hif with twWrite := none } } : State).applyWrite .twoWire x.window x.words F.HIF_TW_CNT_A_DONE

/-- A transaction is abandoned after SCL was held low (R676). -/
def State.twTimesOut (s : State) : State :=
  if s.hostServes && s.bit F.HIF_TW_CTL_TMO_EN then s.twRefused true else s

/-! ### One access -/

/-- One write of a window word by port `p` as a message of its own. -/
def State.hostWrite (s : State) (p : HostPort) (w : Nat) (v : Word) : State :=
  if s.hostServes = false ∨ s.engineBusy p = true then s
  else
    let x := s.windowWrite p w v
    (x.state.setResult p { done := true, reject := x.reject }).endMessage p

/-- One write of a parameter by port `p`, as an access through DATA_HOLD with the pointers at it. -/
def State.hostParam (s : State) (p : HostPort) (a : Nat) (v : Word) : State :=
  if s.hostServes = false ∨ s.engineBusy p = true then s
  else
    let x := s.paramApply p a v
    x.state.setResult p { done := true, reject := x.reject }

/-- One read of a parameter by port `p`: the word goes to the port's bytes. -/
def State.hostRead (s : State) (p : HostPort) (a : Nat) : State :=
  if s.hostServes = false ∨ s.engineBusy p = true then s
  else
    let x := s.paramRead p a
    (x.2.setBytes p (bytesOfWord x.1)).setResult p { done := true }

/-- The command words of a message: CMD, then CMD_ARG (R704). -/
def State.hostCommand (s : State) (p : HostPort) (code : Nat) (arg : Word) : State :=
  if s.hostServes = false ∨ s.engineBusy p = true then s
  else
    let x := s.applyWords p 0x10 [wordOf code, arg]
    (x.state.setResult p { done := true, reject := x.reject }).endMessage p

end Sys2Proof.Machine
end

