-- ==== Sys2Proof/Machine/React.lean ====
section
/-! DEFINITION. What follows from a command in the same engine cycle: the units that watch the state (references, outputs,
ports, the PTP and NTP services, the power sequencer), and the two forms of a command's meaning. Each reaction's reach is
written out: the pages of registers and the fields of State that it may change. -/

namespace Sys2Proof.Machine

/-! ### Reach -/

/-- The four 64-word pages of a bank. -/
def bankPages (b : Nat) : List Nat := [4 * b, 4 * b + 1, 4 * b + 2, 4 * b + 3]

/-- The page of the Ledger's words in bank 0x16. -/
def ledgerPage : Nat := 91

/-- The registers `old` with the words of the listed pages taken from `new`. -/
def RegFile.overlay (pages : List Nat) (old new : RegFile) : RegFile :=
  (new.filter (fun x => pages.contains (x.1 / 64))).foldl (fun r x => insertKey x.1 x.2 r)
    (old.filter (fun x => !pages.contains (x.1 / 64)))

/-- The banks that the references and the servo write: STR, REFM, SRV, and the Ledger's words. -/
def steerPages : List Nat := ledgerPage :: (bankPages 4 ++ bankPages 8 ++ bankPages 9)

/-- The banks that the ports and the pipeline write when frames are discarded: the MACs and PIPE. -/
def framePages : List Nat := bankPages 11 ++ bankPages 12 ++ bankPages 13 ++ bankPages 14 ++ bankPages 17

/-- The reach of the references and the servo. -/
def State.steerReach (s r : State) (pages : List Nat) : State :=
  { s with
    regs := RegFile.overlay pages s.regs r.regs
    raised := r.raised
    obs := r.obs
    mode := r.mode
    str := r.str
    refm := r.refm
    srv := r.srv
    draws := r.draws
    ldg := { r.ldg with slots := s.ldg.slots } }

/-- The reach of a discard of frames. -/
def State.frameReach (s r : State) (pages : List Nat) : State :=
  { s with
    regs := RegFile.overlay pages s.regs r.regs
    raised := r.raised
    obs := r.obs
    net := r.net }

/-! ### The reactions -/

/-- A change of mode: units stop when Measure is left (R108); entering Calibrate runs every due channel and re-acquires the
DLLs of ports without link and owes them a latency calibration (R136, R316); entering Safe Hold discards the slotted frames (R336). -/
def State.modeReact (before s : State) : State :=
  let s1 := if before.baseMode = .measure ∧ s.baseMode ≠ .measure then
      let r := s.unitsStop
      { s with regs := RegFile.overlay (bankPages 5) s.regs r.regs, meas := r.meas }
    else s
  let s2 := if before.baseMode ≠ .calibrate ∧ s1.baseMode = .calibrate ∧ s1.dom .time = 2 then
      let r := ((s1.each (List.range 8) (fun n t => t.autoRun n)).each (List.range 8) (fun d t =>
        if t.linkUp (d / 2) then t else t.dllForce d)).latCalibrate
      { s1 with
        regs := RegFile.overlay (bankPages 5 ++ bankPages 6 ++ bankPages 7 ++ bankPages 8) s1.regs r.regs
        raised := r.raised
        vc := r.vc
        cal := r.cal
        net := { s1.net with ports := r.net.ports } }
    else s1
  if before.safe = false ∧ s2.safe = true ∧ s2.up .net = true then s2.frameReach s2.safeDropFrames framePages else s2

/-- The Guard enters ZEROISING: the NTS keys and the hash key go (R448, R461, R554); ADM draws a new hash key while the
random source gives output. -/
def State.zeroReact (before s : State) : State :=
  if before.get F.GRD_STAT_FSM ≠ fsmZeroising ∧ s.get F.GRD_STAT_FSM = fsmZeroising then
    let r := s.ntsZeroise.dropHashKey.drawHashKey
    { s.frameReach r (ledgerPage :: (framePages ++ bankPages 18 ++ bankPages 19)) with
      draws := r.draws
      grd := r.grd
      ldg := { r.ldg with slots := s.ldg.slots } }
  else s

/-- What TIME's units see: the slot under the REF check (R77), slot quality and the selection (R165, R170, R182), the
antenna's supply (R180), the drift interval (R197, R210). -/
def State.timeReact (before s : State) : State :=
  if s.up .time then
    let r := before.servoWatch s.refmWatch.refCheckFollows.antWatch
    { s.steerReach r steerPages with tb := r.tb }
  else s

/-- What the oven sees of the REF check and of TB.CTL: FREQ_SETTLED follows, and WARM with it (R61, R63). -/
def State.ovenReact (s : State) : State :=
  if s.up .oven = true ∧ s.freqSettled ≠ s.bit F.TB_STAT_FREQ_SETTLED then
    let r := s.freqFollows
    { s with
      regs := RegFile.overlay (ledgerPage :: bankPages 3) s.regs r.regs
      raised := r.raised
      obs := r.obs
      tb := r.tb
      ldg := { r.ldg with slots := s.ldg.slots } }
  else s

/-- What the outputs see (R222, R231, R238, R243, R247, R257). -/
def State.outReact (before s : State) : State :=
  if s.tallyRun = true ∧ before.tallyRun = true ∧ before.era = s.era then
    let r := before.pacerWatch s
    { s with regs := RegFile.overlay (bankPages 10) s.regs r.regs, raised := r.raised, pcr := r.pcr }
  else s

/-- What the ports see of their DLLs (R314, R316, R317, R337), and their slots with them (R150). -/
def State.portReact (before s : State) : State :=
  if s.up .net = true ∧
      ((List.range 8).any (fun d => before.bit (F.VCAL_DLL_LOCKED d) && !s.bit (F.VCAL_DLL_LOCKED d)) ||
        (List.range portCount).any (fun p => (s.eth p).latDue)) = true then
    let r := before.portWatch s
    { s.frameReach r (framePages ++ bankPages 8) with refm := r.refm }
  else s

/-- What the PTP ports see (R387, R390, R399, R410): a change of the followed master reaches REFM (R174). -/
def State.ptpReact (s : State) : State :=
  if s.up .pipe then
    let r := s.ptpPorts
    { s.steerReach r (steerPages ++ bankPages 16) with net := { s.net with ptp := r.net.ptp } }
  else s

/-- What the PTP service sees of the clock it announces (R383, R395). -/
def State.clockReact (before s : State) : State :=
  if s.up .pipe then
    let r := before.ptpWatch s
    { s with regs := RegFile.overlay (bankPages 16) s.regs r.regs, raised := r.raised }
  else s

/-- What the NTP service sees (R325, R421). -/
def State.ntpReact (before s : State) : State :=
  if s.up .pipe then { s with net := { s.net with ntp := (before.ntpWatch s).net.ntp } } else s

/-- Whether nothing is left for the power sequencer to do on its own: every domain is ON, no domain is barred, and no
level change is due (R594, R610, R616). -/
def State.powerQuiet (s : State) : Bool :=
  [1, 2, 3, 4, 5, 6, 7].all (fun d => s.domain d == 2) && s.pwr.barred.isEmpty &&
    (s.get F.PWR_STAT_SEQ != 1 || s.pwr.levelTo.isSome || s.effLevel == s.get F.PWR_STAT_LEVEL_NOW)

/-- What the power sequencer does: votes lift bars and start domains, and the level follows (R594, R610, R616). -/
def State.powerReact (before s : State) : State :=
  if s.powerQuiet then s else ((before.votesRise s).ovenVoted.votesAct).levelFollows

/-- The reactions in the order in which they are taken: what the ports and the PTP service declare lost reaches REFM (R150,
R165), and what REFM and SRV make of it reaches the PTP ports and the outputs. -/
def State.react (before s : State) : State :=
  let s1 := before.portReact (before.zeroReact (before.modeReact s))
  let s2 := (before.timeReact s1.ptpReact).ovenReact
  let s3 := before.clockReact (before.outReact s2).ptpReact
  before.powerReact (before.ntpReact s3)

/-! ### The two forms of a meaning -/

/-- What no command changes: the queue of waiting commands; the Ledger's committed slots, which only LDG_GROUP_COMMIT
writes (R580); and the Tally while it runs, which only a start of TIME restarts (R23). -/
def State.kept (before s : State) : State :=
  { s with
    pending := before.pending
    ldg := { s.ldg with slots := before.ldg.slots }
    tally := if before.tallyRun && s.tallyRun then before.tally else s.tally }

/-- What follows an effect that left the state `s`: the other units act on it, and the engine cycle ends. -/
def State.after (before s : State) : State := before.endCycle (before.kept (before.react s))

/-- What follows an effect on which no other unit acts: the engine cycle ends. -/
def State.still (before s : State) : State := before.endCycle (before.kept s)

/-- A command whose effect `f` the other units can see. -/
def happen (s : State) (f : State → State) : Host.Outcome State Fault Refusal := .next (s.after (f s))

/-- A command whose effect `f` no other unit acts on. -/
def calm (s : State) (f : State → State) : Host.Outcome State Fault Refusal := .next (s.still (f s))

/-- An effect in AON: it needs AON started (R752). -/
def State.inAon (s : State) (ok : Bool) (f : State → State) : State := if s.pwr.started && ok then f s else s

end Sys2Proof.Machine
end

