-- ==== Sys2Proof/Machine/CmdArr.lean ====
section
/-! DEFINITION. The meanings of the commands of the array fabric: tiles, images, models and jobs. -/

namespace Sys2Proof.Machine

/-! ### Tiles -/

/-- TILE_EN_WRITE (R508, R512): port `p` writes the control word of tile `t`. -/
def execTileEnWrite (p : HostPort) (t : Nat) (v : Word) (s : State) : Host.Outcome State Fault Refusal :=
  happen s (fun s => s.hostParam p (tileBase t) v)

/-- TILE_STARTED (R508). -/
def execTileStarted (t : Nat) (s : State) : Host.Outcome State Fault Refusal :=
  happen s (fun s => s.inside .array (isTile t) (fun s => s.tileStarted t))

/-- TILE_DRAIN_DONE (R512). -/
def execTileDrainDone (t : Nat) (s : State) : Host.Outcome State Fault Refusal :=
  happen s (fun s => s.inside .array (isTile t) (fun s => s.tileDrainDone t))

/-- ROW_WRITE_DONE (R492 to R496): a row write of a tile, or of layer image 28 to 31, ends with `stuck` stuck data
cells; `good` when its reference cells, or its read-back, are as written. -/
def execRowWriteDone (target stuck : Nat) (good : Bool) (s : State) : Host.Outcome State Fault Refusal :=
  happen s (fun s => s.inside .array true (fun s =>
    if isTile target then s.rowDone target stuck good else s.layerRowDone target good))

/-- TILE_RECAL_DONE (R498 to R500): for each of the 256 converters its sums S_0 to S_8. -/
def execTileRecalDone (t : Nat) (sums : List (List Nat)) (s : State) : Host.Outcome State Fault Refusal :=
  happen s (fun s => s.inside .array (isTile t) (fun s => s.recalDone t sums))

/-- TILE_RECAL_RETRY (R500). -/
def execTileRecalRetry (t : Nat) (s : State) : Host.Outcome State Fault Refusal :=
  happen s (fun s => s.inside .array (isTile t) (fun s => s.recalRetry t))

/-- TILE_RECAL_DUE (R501, R514): a second of a running analog tile passes, which may make it due. -/
def execTileRecalDue (t : Nat) (s : State) : Host.Outcome State Fault Refusal :=
  happen s (fun s => s.inside .array (isTile t) (fun s => s.recalSecond t))

/-- TILE_RECAL_WAIT_EXPIRED (R502). -/
def execTileRecalWaitExpired (t : Nat) (s : State) : Host.Outcome State Fault Refusal :=
  happen s (fun s => s.inside .array (isTile t) (fun s => s.recalWaited t))

/-- TILE_CHECK_DUE (R504). -/
def execTileCheckDue (t : Nat) (s : State) : Host.Outcome State Fault Refusal :=
  happen s (fun s => s.inside .array (isTile t) (fun s => s.checkDue t))

/-- TILE_CHECK_DONE (R503): the codes of the conversions of the check, and the memory errors it met (row,
uncorrectable). -/
def execTileCheckDone (t : Nat) (codes : List Nat) (ecc : List (Nat × Bool)) (s : State) : Host.Outcome State Fault Refusal :=
  happen s (fun s => s.inside .array (isTile t) (fun s => s.checkDone t codes ecc))

/-- ARR_RECAL (R510): port `p` writes ARR.CMD with RECAL. -/
def execArrRecal (p : HostPort) (v : Word) (s : State) : Host.Outcome State Fault Refusal :=
  happen s (fun s => s.hostParam p A.ARR_CMD v)

/-- ARR_CHECK (R510): port `p` writes ARR.CMD with CHECK. -/
def execArrCheck (p : HostPort) (v : Word) (s : State) : Host.Outcome State Fault Refusal :=
  happen s (fun s => s.hostParam p A.ARR_CMD v)

/-- TILE_RESET (R511): port `p` writes ARR.CMD with RESET. -/
def execTileReset (p : HostPort) (v : Word) (s : State) : Host.Outcome State Fault Refusal :=
  happen s (fun s => s.hostParam p A.ARR_CMD v)

/-! ### Models and images -/

/-- MODEL_CTL_WRITE (R520, R521). -/
def execModelCtlWrite (p : HostPort) (m : Nat) (v : Word) (s : State) : Host.Outcome State Fault Refusal :=
  happen s (fun s => s.hostParam p (A.ARR_Mm_CTL m) v)

/-- LOAD_GO (R525): port `p` writes LOAD_CTL with GO. -/
def execLoadGo (p : HostPort) (v : Word) (s : State) : Host.Outcome State Fault Refusal :=
  happen s (fun s => s.hostParam p A.ARR_LOAD_CTL v)

/-- LOAD_ABORT (R529): port `p` writes LOAD_CTL with ABORT. -/
def execLoadAbort (p : HostPort) (v : Word) (s : State) : Host.Outcome State Fault Refusal :=
  happen s (fun s => s.hostParam p A.ARR_LOAD_CTL v)

/-- LOAD_DATA_WRITE (R526 to R529). -/
def execLoadDataWrite (p : HostPort) (v : Word) (s : State) : Host.Outcome State Fault Refusal :=
  happen s (fun s => s.hostParam p A.ARRW_LOAD_DATA v)

/-! ### Jobs -/

/-- JOB_OFFER (R203, R531): a job of class `cls` is offered by the block that the class belongs to: SRV's predictor job for
the interval in progress (0), REFM's integrity job of slot `n` (1), ADM's next batch (2), the host's USER job (3). -/
def execJobOffer (cls n : Nat) (s : State) : Host.Outcome State Fault Refusal :=
  happen s (fun s => s.jobOffer cls n)

/-- INTEG_JOB_OFFER (R161): the integrity job of slot `n`. -/
def execIntegJobOffer (n : Nat) (s : State) : Host.Outcome State Fault Refusal :=
  happen s (fun s => s.inside .time (decide (n < 12)) (fun s => s.offerInteg n))

/-- ABUSE_BATCH_OFFER (R469). -/
def execAbuseBatchOffer (s : State) : Host.Outcome State Fault Refusal := happen s (fun s => s.offerAbuse)

/-- USER_SUBMIT (R537). -/
def execUserSubmit (p : HostPort) (v : Word) (s : State) : Host.Outcome State Fault Refusal :=
  happen s (fun s => s.hostParam p A.ARR_USER_SUBMIT v)

/-- JOB_START (R532, R533): the next job starts and its rolls run: the codes of its analog conversions in order, the
memory errors its rolls meet (tile, row, uncorrectable), and for each layer reload the row whose write fails, if one does. -/
def execJobStart (codes : List Nat) (ecc : List (Nat × Nat × Bool)) (reloads : List (Option Nat)) (s : State) : Host.Outcome State Fault Refusal :=
  happen s (fun s => s.inside .array true (fun s => s.jobStart codes ecc reloads))

/-- JOB_DEADLINE (R534): the job in place `k` of the queue. -/
def execJobDeadline (k : Nat) (s : State) : Host.Outcome State Fault Refusal :=
  happen s (fun s => s.inside .array true (fun s => s.jobDeadline k))

/-- JOB_COMPLETE (R535): the running job of model `m`. -/
def execJobComplete (m : Nat) (s : State) : Host.Outcome State Fault Refusal :=
  happen s (fun s => s.inside .array true (fun s => s.jobComplete m))

end Sys2Proof.Machine
end

