-- ==== Sys2Proof/Machine/CmdCapture.lean ====
section
/-! DEFINITION. The meanings of the commands of time capture, its queues and measure units, and of calibration and the
DLLs. -/

namespace Sys2Proof.Machine

/-! ### Edges, stamps and queues -/

/-- REF_EDGE (R92 to R94, R99, R112): an edge arrives at channel `n` after the prescaler, at subtick `sub` of the present
tick, in coarse bin `k`; `short` marks one of a pulse or rate beyond the prescaler. -/
def execRefEdge (n sub k : Nat) (falling short : Bool) (s : State) : Host.Outcome State Fault Refusal :=
  happen s (fun s => s.refEdge n sub k falling short)

/-- STAMP_COMPOSE (R89 to R96): the vernier of channel `n` counted `cnt` cycles; `met` says whether the oscillators met. -/
def execStampCompose (n cnt : Nat) (met : Bool) (s : State) : Host.Outcome State Fault Refusal :=
  happen s (fun s => s.inside .time (decide (n < 8)) (fun s => s.composeStamp n cnt met))

/-- VQ_RATE_WINDOW_END (R100). -/
def execVqRateWindowEnd (s : State) : Host.Outcome State Fault Refusal :=
  calm s (fun s => s.inside .time true State.rateWindowEnd)

/-- VQ_ENTRY_READ (R98, R111, R115). -/
def execVqEntryRead (p : HostPort) (n : Nat) (s : State) : Host.Outcome State Fault Refusal :=
  calm s (fun s => s.hostRead p (A.VQ_Vn_ENTRY_HI n))

/-- VQ_FIFO_READ (R111). -/
def execVqFifoRead (p : HostPort) (n : Nat) (s : State) : Host.Outcome State Fault Refusal :=
  calm s (fun s => s.hostRead p (A.VQ_Vn_FIFO n))

/-- VQ_FLUSH (R97). -/
def execVqFlush (p : HostPort) (n : Nat) (v : Word) (s : State) : Host.Outcome State Fault Refusal :=
  calm s (fun s => s.hostParam p (A.VQ_Vn_FLUSH n) v)

/-- VC_MARK (R97, R113). -/
def execVcMark (p : HostPort) (n : Nat) (v : Word) (s : State) : Host.Outcome State Fault Refusal :=
  calm s (fun s => s.hostParam p (A.VC_Vn_MARK n) v)

/-- VC_CTL_WRITE (R106, R112, R140): port `p` writes a control, delay or VCAL word of a channel, at `a`. -/
def execVcCtlWrite (p : HostPort) (a : Nat) (v : Word) (s : State) : Host.Outcome State Fault Refusal :=
  happen s (fun s => s.hostParam p a v)

/-- VC_DRAIN_DONE (R114). -/
def execVcDrainDone (n : Nat) (s : State) : Host.Outcome State Fault Refusal :=
  happen s (fun s => s.inside .time (decide (n < 8)) (fun s => s.vcDrained n))

/-- VC_IDLE (R104). -/
def execVcIdle (n : Nat) (s : State) : Host.Outcome State Fault Refusal :=
  happen s (fun s => s.inside .time (decide (n < 8)) (fun s => s.vcIdle n))

/-- MEASURE_GATE_END (R109, R110). -/
def execMeasureGateEnd (m : Nat) (s : State) : Host.Outcome State Fault Refusal :=
  calm s (fun s => s.inside .time (decide (m < 4)) (fun s => s.measureGate m))

/-! ### Calibration -/

/-- CAL_RUN (R138): port `p` writes Vn_CAL_CTL with RUN. -/
def execCalRun (p : HostPort) (n : Nat) (v : Word) (s : State) : Host.Outcome State Fault Refusal :=
  happen s (fun s => s.hostParam p (A.VCAL_Vn_CAL_CTL n) v)

/-- CAL_TRIM_ONLY (R138): port `p` writes Vn_CAL_CTL with TRIM_ONLY. -/
def execCalTrimOnly (p : HostPort) (n : Nat) (v : Word) (s : State) : Host.Outcome State Fault Refusal :=
  happen s (fun s => s.hostParam p (A.VCAL_Vn_CAL_CTL n) v)

/-- CAL_DISCARD (R128): port `p` writes Vn_CAL_CTL with DISCARD. -/
def execCalDiscard (p : HostPort) (n : Nat) (v : Word) (s : State) : Host.Outcome State Fault Refusal :=
  happen s (fun s => s.hostParam p (A.VCAL_Vn_CAL_CTL n) v)

/-- CAL_AUTO_START (R133 to R137). -/
def execCalAutoStart (n : Nat) (s : State) : Host.Outcome State Fault Refusal :=
  happen s (fun s => s.inside .time (decide (n < 8)) (fun s => s.autoRun n))

/-- CAL_DUE (R128, R133). -/
def execCalDue (n : Nat) (s : State) : Host.Outcome State Fault Refusal :=
  happen s (fun s => s.inside .time (decide (n < 8)) (fun s => s.calDue n))

/-- CAL_DRIFT_SAMPLE (R66 to R70, R133). -/
def execCalDriftSample (n : Nat) (s : State) : Host.Outcome State Fault Refusal :=
  happen s (fun s => s.inside .time (decide (n < 8)) (fun s => s.driftSample n))

/-- TRIM_PERIOD_DUE (R135). -/
def execTrimPeriodDue (s : State) : Host.Outcome State Fault Refusal :=
  happen s (fun s => s.inside .time true State.trimDue)

/-- CAL_HITS_COLLECTED (R120 to R122): the counts of the 32 bins in each quarter of the run. -/
def execCalHitsCollected (n : Nat) (quarters : List (List Nat)) (s : State) : Host.Outcome State Fault Refusal :=
  happen s (fun s => s.inside .time (decide (n < 8)) (fun s => s.hitsCollected n quarters))

/-- CAL_NO_EDGES_TIMEOUT (R118). -/
def execCalNoEdgesTimeout (n : Nat) (s : State) : Host.Outcome State Fault Refusal :=
  happen s (fun s => s.inside .time (decide (n < 8)) (fun s => s.noEdges n))

/-- CAL_BIN_SATURATED (R119). -/
def execCalBinSaturated (n bin : Nat) (s : State) : Host.Outcome State Fault Refusal :=
  happen s (fun s => s.inside .time (decide (n < 8)) (fun s => s.binSaturated n bin))

/-- TRIM_MEASUREMENT_DONE (R123, R124): the cycles of the slow and of the fast oscillator over G ticks. -/
def execTrimMeasurementDone (n slow fast : Nat) (s : State) : Host.Outcome State Fault Refusal :=
  happen s (fun s => s.inside .time (decide (n < 8)) (fun s => s.trimMeasured n slow fast))

/-! ### The DLLs -/

/-- DLL_LOCKED (R129). -/
def execDllLocked (t : Nat) (s : State) : Host.Outcome State Fault Refusal :=
  happen s (fun s => s.inside .time (decide (t < 8)) (fun s => s.dllLocked t))

/-- DLL_UNLOCK (R131). -/
def execDllUnlock (t : Nat) (s : State) : Host.Outcome State Fault Refusal :=
  happen s (fun s => s.inside .time (decide (t < 8)) (fun s => s.dllLose t))

/-- DLL_REACQUIRE (R132): port `p` writes VCAL.DLL_CMD. -/
def execDllReacquire (p : HostPort) (v : Word) (s : State) : Host.Outcome State Fault Refusal :=
  happen s (fun s => s.hostParam p A.VCAL_DLL_CMD v)

end Sys2Proof.Machine
end

