-- ==== Sys2Proof/Machine/CmdGuard.lean ====
section
/-! DEFINITION. The meanings of the commands of the Guard, its random source and the Ledger. -/

namespace Sys2Proof.Machine

/-! ### Sensors (R545 to R547, R566, R567) -/

/-- A reading held to the range of its sensor (edges of the chapter). -/
def inSpan (lo hi v : Int) : Int := max lo (min hi v)

/-- A temperature within −55 °C to 150 °C, in 0.1 mK. -/
def spanTemp (v : Int) : Int := inSpan (-550000) 1500000 v

/-- Whether the Guard samples only in battery windows: in S3, which is Transit, and on the cell (R566, R631). -/
def State.windowed (s : State) : Bool := s.sleepNow == 3 || s.onVbat

/-- The four die temperatures: their words, then sources 0, 1 and 2 (R545). -/
def State.dieSample (s : State) (t0 t1 t2 t3 : Int) : State :=
  let ts := [spanTemp t0, spanTemp t1, spanTemp t2, spanTemp t3]
  let hi := ts.foldl max (spanTemp t0)
  let lo := ts.foldl min (spanTemp t0)
  let s1 := s.each ts.zipIdx (fun x u => u.setIval (A.GRD_TEMP_D x.2) x.1)
  ((s1.quantitySample 0 .upper hi).quantitySample 1 .lower lo).quantitySample 2 .upper (hi - lo)

/-- The package temperature: its word, y of the transit clock, then sources 3 and 4. An open or shorted sensor is an event
of PKG_FAULT in every sample; its comparison with the die needs the die sensors, which a battery window does not
sample. -/
def State.packageSample (s : State) (t : Int) (broken : Bool) : State :=
  let v := spanTemp t
  let s1 := ((s.setIval A.GRD_TEMP_PKG v).tclkSample v).quantitySample 3 .upper v
  if broken then s1.guardSample 4 true (if s.windowed then 0 else |v - s.dieTemp|)
  else if s.windowed then s1
  else (s1.quantitySample 4 .upper |v - s.dieTemp|).filterTheta v

/-- A voltage in mV: its word, then its source. -/
def State.voltSample (s : State) (a x : Nat) (dir : Limit) (mv : Nat) : State :=
  (s.setVal a (min 6000 mv)).quantitySample x dir (min 6000 mv)

/-- A rail in per-mille of a nominal in mV. -/
def perMille (mv nominal : Nat) : Int := (mv * 1000 / nominal : Nat)

/-- The core voltage: its word, then CORE_UV against the lower and CORE_OV against the higher nominal of the levels a
change moves between (R546). -/
def State.coreSample (s : State) (mv : Nat) : State :=
  let v := min 1200 mv
  let now := levelMv (s.get F.PWR_STAT_LEVEL_NOW)
  let next := match s.pwr.levelTo with
    | some l => levelMv l
    | none => now
  ((s.setVal A.GRD_V_CORE v).quantitySample 8 .lower (perMille v (min now next))).quantitySample 9 .upper
    (perMille v (max now next))

/-- The AON rail, nominally 800 mV (R609): its word, then AON_UV. -/
def State.aonSample (s : State) (mv : Nat) : State :=
  (s.setVal A.GRD_V_AON (min 1200 mv)).quantitySample 10 .lower (perMille (min 1200 mv) 800)

/-- The light code: its word, then LIGHT. -/
def State.lightSample (s : State) (code : Nat) : State :=
  (s.setVal A.GRD_LIGHT (min 1023 code)).quantitySample 11 .upper (min 1023 code)

/-- One sample of a sensor. -/
def State.sensor (s : State) : SensorSample → State
  | .die t0 t1 t2 t3 => s.dieSample t0 t1 t2 t3
  | .package t broken => s.packageSample t broken
  | .vmain mv => s.voltSample A.GRD_V_MAIN 5 .upper mv
  | .vheat mv => s.voltSample A.GRD_V_HEAT 6 .upper mv
  | .vbat mv => s.voltSample A.GRD_V_BAT 7 .lower mv
  | .core mv => s.coreSample mv
  | .aonRail mv => s.aonSample mv
  | .light code => s.lightSample code

/-- The pattern of a mesh check: drawn from the random source or, while that gives none, the complement of the last one
(R564). -/
def State.drawPattern (s : State) : State :=
  let d := s.random
  if s.rngOk then { d.2 with grd := { d.2.grd with pattern := d.1 % 65536 } }
  else { s with grd := { s.grd with pattern := 65535 - s.grd.pattern % 65536 } }

/-- A check of the four serpentines (R545): which are open, shorted or return another pattern. -/
def State.meshCheck (s : State) (opens shorts wrong : Nat) : State :=
  let v := opens % 16 + shorts % 16 * 16 + wrong % 16 * 256
  let s1 := s.drawPattern
  (s1.setVal A.GRD_MESH v).guardSample 12 (v != 0) v

/-- GRD_SENSOR_SAMPLE (R545 to R547): a sample while the Guard is awake. -/
def execGrdSensorSample (x : SensorSample) (s : State) : Host.Outcome State Fault Refusal :=
  happen s (fun s => s.inAon (!s.windowed) (fun s => s.sensor x))

/-- MESH_CHECK (R545): a check while the Guard is awake. -/
def execMeshCheck (opens shorts wrong : Nat) (s : State) : Host.Outcome State Fault Refusal :=
  happen s (fun s => s.inAon (!s.windowed) (fun s => s.meshCheck opens shorts wrong))

/-- A TAMP input: its qualified activation is latched, or it is inactive again (R544). The Guard reads the latch at once
while it is awake, else in its next battery window (R566). -/
def State.tampInput (s : State) (n : Nat) (active : Bool) : State :=
  let g := s.grd
  let s1 : State := { s with grd := { g with tampActive := g.tampActive.setIfInBounds n active } }
  if active then
    let s2 : State := { s1 with grd := { s1.grd with tampLatch := s1.grd.tampLatch.setIfInBounds n true } }
    if s2.windowed then s2 else s2.readLatches
  else s1

/-- TAMP_ACTIVATION (R544): TAMP input `n` has been at its active level for QUAL AON cycles, or (`active` false) has left
it. -/
def execTampActivation (n : Nat) (active : Bool) (s : State) : Host.Outcome State Fault Refusal :=
  happen s (fun s => s.inAon (decide (n < 4)) (fun s => s.tampInput n active))

/-- FORCE_SAFE_N: low for 4 AON cycles, or high again (R551, R574). -/
def State.forceInput (s : State) (low : Bool) : State :=
  let s1 : State := { s with grd := { s.grd with forceLow := low } }
  if low then
    let s2 : State := { s1 with grd := { s1.grd with forceLatch := true } }
    if s2.windowed then s2 else s2.readLatches
  else s1

/-- FORCE_SAFE_N (R545, R574): the pin has been low for 4 AON cycles, or (`low` false) is high again. -/
def execForceSafeN (low : Bool) (s : State) : Host.Outcome State Fault Refusal :=
  happen s (fun s => s.inAon true (fun s => s.forceInput low))

/-- A battery window (R566, R567): package temperature, VBAT, AON rail and light, the latches, and in every eighth window
the mesh with what `mesh` reports of it (open, shorted, wrong). -/
def State.batteryWindow (s : State) (t : Int) (broken : Bool) (vbat aon light : Nat) (mesh : Nat × Nat × Nat) : State :=
  let s1 := (((s.packageSample t broken).voltSample A.GRD_V_BAT 7 .lower vbat).aonSample aon).lightSample light
  let n := s1.grd.windows + 1
  let s2 : State := { s1 with grd := { s1.grd with windows := n % 8 } }
  (if n = 8 then s2.meshCheck mesh.1 mesh.2.1 mesh.2.2 else s2).readLatches

/-- LOWDUTY_WINDOW (R566, R567). -/
def execLowdutyWindow (temp : Int) (broken : Bool) (vbat aon light opens shorts wrong : Nat) (s : State) :
    Host.Outcome State Fault Refusal :=
  happen s (fun s => s.inAon s.windowed (fun s => s.batteryWindow temp broken vbat aon light (opens, shorts, wrong)))

/-! ### Trips, lock, codewords, zeroisation -/

/-- TRIPPED_CLEAR (R549, R573). -/
def execTrippedClear (p : HostPort) (v : Word) (s : State) : Host.Outcome State Fault Refusal :=
  happen s (fun s => s.hostParam p A.GRD_TRIPPED v)

/-- GRD_LOCK (R557): port `p` writes GRD.LOCK. -/
def execGrdLock (p : HostPort) (v : Word) (s : State) : Host.Outcome State Fault Refusal :=
  happen s (fun s => s.hostParam p A.GRD_LOCK v)

/-- GRD_UNLOCK (R558): port `p` writes GRD.LOCK. -/
def execGrdUnlock (p : HostPort) (v : Word) (s : State) : Host.Outcome State Fault Refusal :=
  happen s (fun s => s.hostParam p A.GRD_LOCK v)

/-- The state codes of a wide-distance machine (R560): 0 Guard, 1 power sequencer, 2 key slot, 3 step limiter. -/
def machineCodes : Nat → List Nat
  | 0 => [1, 2, 4, 8]
  | 1 => [1, 2, 3, 4, 5, 6, 7, 8, 9, 10]
  | 2 => [1, 2, 4, 8, 7]
  | 3 => [3, 5, 6, 9]
  | _ => []

/-- The codewords of a machine: each state code five times (R560). -/
def codewords (machine : Nat) : List Nat := (machineCodes machine).map (fun d => d * 0x11111)

/-- The recovery of a machine (R45, R449, R561). -/
def State.machineRecovers (s : State) (machine slot : Nat) : State :=
  match machine with
  | 0 =>
    let gs := s.grd.sources.map (fun g => ({ g with q := {}, recent := [] } : GuardSource))
    ({ s with grd := { s.grd with sources := gs } }).put F.GRD_STAT_FSM (if s.windowed then fsmLowduty else fsmWatch)
  | 1 => s.sequencerRecovers
  | 2 =>
    let s1 := match s.net.nts.rotation with
      | some (k, _, _) => if k = slot then s.rotationVoid else s
      | none => s
    (s1.destroyKey slot).voidUnbound
  | _ => (s.disarm .str).dropDelta

/-- A machine holds a value that is no codeword of it (R561). -/
def State.codeword (s : State) (machine slot value : Nat) : State :=
  let w := value % 2 ^ 20 + machine * 2 ^ 24 + (if machine = 2 then slot % 8 else 0) * 2 ^ 28
  let s1 := ((s.setVal A.GRD_CW_LAST w).setBit F.GRD_STAT_CW_SEEN true).raise Ev.GRD_CODEWORD
  (s1.machineRecovers machine (slot % 8)).guardSample 22 true w

/-- CODEWORD_DETECTED (R561): the machine, the slot of a key-slot machine, and the value. A codeword of the machine is no
event. -/
def execCodewordDetected (machine slot value : Nat) (s : State) : Host.Outcome State Fault Refusal :=
  happen s (fun s => s.inAon (decide (machine < 4) && !(codewords machine).contains (value % 2 ^ 20))
    (fun s => s.codeword machine slot value))

/-- ZEROISATION_COMPLETE (R554): the Guard leaves ZEROISING. -/
def execZeroisationComplete (s : State) : Host.Outcome State Fault Refusal :=
  happen s (fun s => s.inAon (s.get F.GRD_STAT_FSM == fsmZeroising) (fun s =>
    s.put F.GRD_STAT_FSM (if s.windowed then fsmLowduty else fsmWatch)))

/-! ### The random source -/

/-- TRNG_HEALTH_FAIL (R562, R563). -/
def execTrngHealthFail (s : State) : Host.Outcome State Fault Refusal :=
  happen s (fun s => s.inAon true (fun s => (s.put F.GRD_STAT_RNG_OK 0).guardSample 24 true 0))

/-- The start-up test is repeated (R461, R563, R564): at a pass, a sample of TRNG_FAIL without event, output returns; a test
that fails is one more event. -/
def State.retest (s : State) (pass : Bool) : State :=
  if pass then
    let s1 := (s.put F.GRD_STAT_RNG_OK 1).guardSample 24 false 0
    if s1.up .pipe then s1.drawHashKey else s1
  else s.guardSample 24 true 0

/-- TRNG_RETEST (R563): the start-up test, every 10 s while RNG_OK is 0. -/
def execTrngRetest (pass : Bool) (s : State) : Host.Outcome State Fault Refusal :=
  happen s (fun s => s.inAon (!s.rngOk) (fun s => s.retest pass))

/-- RNG_DATA_READ (R565). -/
def execRngDataRead (p : HostPort) (s : State) : Host.Outcome State Fault Refusal :=
  calm s (fun s => s.hostRead p A.GRD_RNG_DATA)

/-! ### The Ledger -/

/-- LDG_GROUP_COMMIT (R580 to R586): the head group of the queue is written. `worn` says of each slot that it reaches in
turn whether the slot fails its first write and every rewrite. -/
def execLdgGroupCommit (worn : List Bool) (s : State) : Host.Outcome State Fault Refusal :=
  .next (s.endCycle ({ s.inAon true (fun s => s.commitGroup worn) with pending := s.pending }))

/-- LDG_ENTRY_READ (R587, R832): port `p` reads word `k` of LDG.ENTRY. -/
def execLdgEntryRead (p : HostPort) (k : Nat) (s : State) : Host.Outcome State Fault Refusal :=
  calm s (fun s => s.hostRead p (A.LDG_ENTRY k))

end Sys2Proof.Machine
end

