-- ==== Sys2Proof/Machine/CmdHost.lean ====
section
/-! DEFINITION. The meanings of the commands of the host interface, the board bus, the window, the event bank and the trace
port. -/

namespace Sys2Proof.Machine

/-! ### Messages -/

/-- The bytes of a message whose first byte carries command `c` in bits 7:6. -/
def withCmd (c : Nat) : List Byte → List Byte
  | [] => []
  | b :: l => BitVec.ofNat 8 (b.toNat % 64 + c * 64) :: l

/-- The bytes of a NOP: command 0, or the reserved command 3 where the first byte carries it. -/
def withNop : List Byte → List Byte
  | [] => []
  | b :: l => withCmd (if b.toNat / 64 = 3 then 3 else 0) (b :: l)

/-- SPI_NOP (R665): the bytes the host clocks while HCS_N is low; `early` says that it falls while the engine is still at
the message before (R678, R692). -/
def execSpiNop (early : Bool) (bytes : List Byte) (s : State) : Host.Outcome State Fault Refusal :=
  calm s (fun s => s.spiMessage early (withNop bytes))

/-- SPI_READ (R661, R666, R833). -/
def execSpiRead (early : Bool) (bytes : List Byte) (s : State) : Host.Outcome State Fault Refusal :=
  happen s (fun s => s.spiMessage early (withCmd 1 bytes))

/-- SPI_WRITE (R660, R668). -/
def execSpiWrite (early : Bool) (bytes : List Byte) (s : State) : Host.Outcome State Fault Refusal :=
  happen s (fun s => s.spiMessage early (withCmd 2 bytes))

/-- TW_NOP (R671): the address, what it meets (R675, R679), the write phase after it, and how many bytes the controller
reads. -/
def execTwNop (addr : Nat) (meets : TwMeets) (bytes : List Byte) (n : Nat) (s : State) : Host.Outcome State Fault Refusal :=
  calm s (fun s => s.twFetch addr meets (withNop bytes) n)

/-- TW_READ (R671, R674). -/
def execTwRead (addr : Nat) (meets : TwMeets) (bytes : List Byte) (n : Nat) (s : State) : Host.Outcome State Fault Refusal :=
  happen s (fun s => s.twFetch addr meets (withCmd 1 bytes) n)

/-- TW_WRITE (R671, R673): `waits` says that an SPI message has the engine when the transaction ends. -/
def execTwWrite (addr : Nat) (meets : TwMeets) (bytes : List Byte) (waits : Bool) (n : Nat) (s : State) :
    Host.Outcome State Fault Refusal :=
  happen s (fun s => s.twWrite addr meets (withCmd 2 bytes) waits n)

/-- TW_WRITE_APPLY (R673, R693). -/
def execTwWriteApply (s : State) : Host.Outcome State Fault Refusal :=
  happen s (fun s => s.inside .host true State.twApply)

/-- TW_TIMEOUT (R676). -/
def execTwTimeout (s : State) : Host.Outcome State Fault Refusal := calm s (fun s => s.twTimesOut)

/-! ### Claims -/

/-- CLAIM and CLAIM_CODE in one message of port `p` (R680). -/
def State.claimMessage (s : State) (p : HostPort) (op ms code : Nat) : State :=
  if s.hostServes = false ∨ s.engineBusy p = true then s
  else
    let x := s.applyWords p 0x0C [wordOf (op + ms % 128 * 256), wordOf (code % 65536)]
    (x.state.setResult p { done := true, reject := x.reject }).endMessage p

/-- CLAIM_TAKE (R681): for `ms` milliseconds, with a claim code. -/
def execClaimTake (p : HostPort) (ms code : Nat) (s : State) : Host.Outcome State Fault Refusal :=
  calm s (fun s => s.claimMessage p 1 ms code)

/-- CLAIM_RELEASE (R683). -/
def execClaimRelease (p : HostPort) (code : Nat) (s : State) : Host.Outcome State Fault Refusal :=
  calm s (fun s => s.claimMessage p 2 1 code)

/-- CLAIM_EXPIRED (R684). -/
def execClaimExpired (s : State) : Host.Outcome State Fault Refusal :=
  calm s (fun s => s.inside .host true State.leaseExpires)

/-! ### The board bus -/

/-- BB_READ (R685): port `p` writes BB_CMD. -/
def execBbRead (p : HostPort) (v : Word) (s : State) : Host.Outcome State Fault Refusal :=
  calm s (fun s => s.hostParam p A.HIF_BB_CMD v)

/-- BB_PAGE (R685): port `p` writes BB_CMD. -/
def execBbPage (p : HostPort) (v : Word) (s : State) : Host.Outcome State Fault Refusal :=
  calm s (fun s => s.hostParam p A.HIF_BB_CMD v)

/-- BB_WRITE (R685): port `p` writes BB_CMD. -/
def execBbWrite (p : HostPort) (v : Word) (s : State) : Host.Outcome State Fault Refusal :=
  calm s (fun s => s.hostParam p A.HIF_BB_CMD v)

/-- FREE_BUS_TRANSFER_START (R686). -/
def execFreeBusTransferStart (s : State) : Host.Outcome State Fault Refusal :=
  calm s (fun s => s.inside .host true State.boardStarts)

/-- BB_ARB_LOST (R687, R688). -/
def execBbArbLost (s : State) : Host.Outcome State Fault Refusal :=
  calm s (fun s => s.inside .host true State.boardArbLoss)

/-- BB_RETRY (R688). -/
def execBbRetry (s : State) : Host.Outcome State Fault Refusal :=
  calm s (fun s => s.inside .host true State.boardRetry)

/-- BB_JOB_DONE (R690): whether every byte was acknowledged, and what a READ received. -/
def execBbJobDone (acked : Bool) (data : List Byte) (s : State) : Host.Outcome State Fault Refusal :=
  calm s (fun s => s.inside .host true (fun s => s.boardEnds acked data))

/-- BB_TIMEOUT (R689). -/
def execBbTimeout (s : State) : Host.Outcome State Fault Refusal :=
  calm s (fun s => s.inside .host true State.boardTimesOut)

/-! ### Accesses -/

/-- One read of a window word by port `p`: the word goes to the port's bytes. -/
def State.hostFetch (s : State) (p : HostPort) (w : Nat) : State :=
  if s.hostServes = false ∨ s.engineBusy p = true then s
  else
    let x := s.windowRead p w
    (x.2.setBytes p (bytesOfWord x.1)).setResult p { done := true }

/-- One access to a window word: a write of `v`, or a read. -/
def State.hostAccess (s : State) (p : HostPort) (w : Nat) (write : Bool) (v : Word) : State :=
  if write then s.hostWrite p w v else s.hostFetch p w

/-- DATA_ACCESS (R658): through DATA_HOLD (`keep`) or DATA. -/
def execDataAccess (p : HostPort) (keep write : Bool) (v : Word) (s : State) : Host.Outcome State Fault Refusal :=
  happen s (fun s => s.hostAccess p (if keep then 0x0B else 0x0A) write v)

/-- POINTER_WRITE (R709): PTR_BANK (`bank`) or PTR_WORD. -/
def execPointerWrite (p : HostPort) (bank : Bool) (v : Word) (s : State) : Host.Outcome State Fault Refusal :=
  calm s (fun s => s.hostWrite p (if bank then 0x08 else 0x09) v)

/-- ALIAS_ACCESS (R703): alias word `k`. -/
def execAliasAccess (p : HostPort) (k : Nat) (write : Bool) (v : Word) (s : State) : Host.Outcome State Fault Refusal :=
  happen s (fun s => s.hostAccess p (0x30 + k % 8) write v)

/-- REGISTER_WRITE (R15): port `p` writes the parameter at `a`. -/
def execRegisterWrite (p : HostPort) (a : Nat) (v : Word) (s : State) : Host.Outcome State Fault Refusal :=
  happen s (fun s => s.hostParam p a v)

/-! ### Events and trace -/

/-- STICKY_CLEAR (R722, R725): port `p` writes the sticky word of group `g`. -/
def execStickyClear (p : HostPort) (g : Nat) (v : Word) (s : State) : Host.Outcome State Fault Refusal :=
  calm s (fun s => s.hostParam p (0x200 + g % 4) v)

/-- CAUSE_CLEAR (R725): port `p` writes EVT.CAUSE_HI (`hi`) or EVT.CAUSE_LO. -/
def execCauseClear (p : HostPort) (hi : Bool) (v : Word) (s : State) : Host.Outcome State Fault Refusal :=
  calm s (fun s => s.hostParam p (if hi then A.EVT_CAUSE_HI else A.EVT_CAUSE_LO) v)

/-- IRQ_PULSE_END (R728): of line B (`b`) or line A. -/
def execIrqPulseEnd (b : Bool) (s : State) : Host.Outcome State Fault Refusal :=
  calm s (fun s => s.inside .host true (fun s => s.irqPulseEnd b))

/-- OBS_CTL_WRITE (R782): port `p` writes OBS.OUT_MASK (`mask`) or OBS.CTL. -/
def execObsCtlWrite (p : HostPort) (mask : Bool) (v : Word) (s : State) : Host.Outcome State Fault Refusal :=
  calm s (fun s => s.hostParam p (if mask then A.OBS_OUT_MASK else A.OBS_CTL) v)

/-- OBS_MARK (R773). -/
def execObsMark (p : HostPort) (v : Word) (s : State) : Host.Outcome State Fault Refusal :=
  calm s (fun s => s.hostParam p A.OBS_MARK v)

/-- TRACE_TIME_RECORD (R775). -/
def execTraceTimeRecord (s : State) : Host.Outcome State Fault Refusal :=
  calm s (fun s => s.inside .host true State.timeRecord)

/-- TRACE_WORD_BOUNDARY (R774, R782). -/
def execTraceWordBoundary (s : State) : Host.Outcome State Fault Refusal :=
  calm s (fun s => s.inside .host true State.wordBoundary)

end Sys2Proof.Machine
end

