-- ==== Sys2Proof/Machine/CmdNet.lean ====
section
/-! DEFINITION. The meanings of the commands of the Ethernet ports, their timestamps and the snapshots. -/

namespace Sys2Proof.Machine

/-- PCS_SAMPLE (R264, R265, R289): what the PCS of port `p` reports, with the code errors and the corrected and
uncorrected FEC errors since the last sample. -/
def execPcsSample (p : Nat) (lock hiBer remoteFault anDone fullDuplex fecLock : Bool) (code corr uncorr : Nat) (s : State) :
    Host.Outcome State Fault Refusal :=
  happen s (fun s => s.inside .net (decide (p < 4))
    (fun s => s.pcsSample p ⟨lock, hiBer, remoteFault, anDone, fullDuplex, fecLock⟩ code corr uncorr))

/-- RX_FRAME (R268, R269, R285, R307): the bytes of a frame, its FCS among them, and the bin and age in ticks of its
timestamp point. A PAUSE takes the slots it covers from the frames that have not started. -/
def execRxFrame (p : Nat) (bytes : List Byte) (bin ago : Nat) (s : State) : Host.Outcome State Fault Refusal :=
  happen s (fun s => s.inside .net (decide (p < 4)) (fun s => (s.rxFrame p bytes bin ago).pauseMisses p))

/-- RX_PAUSE_END (R284). -/
def execRxPauseEnd (p : Nat) (s : State) : Host.Outcome State Fault Refusal :=
  happen s (fun s => s.inside .net (decide (p < 4)) (fun s => s.pauseRunsOut p))

/-- RXB_LEVEL_SAMPLE (R276 to R278). -/
def execRxbLevelSample (p : Nat) (s : State) : Host.Outcome State Fault Refusal :=
  happen s (fun s => s.inside .net (decide (p < 4)) (fun s => s.xoffSample p))

/-- PAUSE_REPEAT (R277). -/
def execPauseRepeat (p : Nat) (s : State) : Host.Outcome State Fault Refusal :=
  happen s (fun s => s.inside .net (decide (p < 4)) (fun s => s.pauseAgain p))

/-- PAUSE_FRAME_SEND (R279, R280, R303). -/
def execPauseFrameSend (p : Nat) (s : State) : Host.Outcome State Fault Refusal :=
  happen s (fun s => s.inside .net (decide (p < 4)) (fun s => s.pauseSend p))

/-- TX_FRAME_DONE (R266, R286). -/
def execTxFrameDone (p : Nat) (s : State) : Host.Outcome State Fault Refusal :=
  happen s (fun s => s.inside .net (decide (p < 4)) (fun s => s.txDone p))

/-- SNAP_TRIG (R290, R292): port `h` writes SNAP.CTL. -/
def execSnapTrig (h : HostPort) (v : Word) (s : State) : Host.Outcome State Fault Refusal :=
  happen s (fun s => s.hostParam h A.SNAP_CTL v)

/-- SNAP_PERIODIC (R290). -/
def execSnapPeriodic (s : State) : Host.Outcome State Fault Refusal :=
  happen s (fun s => s.inside .net true State.snapPeriodic)

/-- HOLD_WINDOW_EXPIRED (R295). -/
def execHoldWindowExpired (p : Nat) (s : State) : Host.Outcome State Fault Refusal :=
  happen s (fun s => s.inside .net (decide (p < 4)) (fun s => s.holdExpired p))

/-- PORT_CTL_WRITE (R261, R262, R299): port `h` writes MACn.CTL. -/
def execPortCtlWrite (h : HostPort) (p : Nat) (v : Word) (s : State) : Host.Outcome State Fault Refusal :=
  happen s (fun s => s.hostParam h (A.MAC_CTL p) v)

/-- PORT_DRAIN_DONE (R299, R300). -/
def execPortDrainDone (p : Nat) (s : State) : Host.Outcome State Fault Refusal :=
  happen s (fun s => s.inside .net (decide (p < 4)) (fun s => s.portDrained p))

/-- IF_CTL_WRITE (R274): port `h` writes IFe_CTL. -/
def execIfCtlWrite (h : HostPort) (p e : Nat) (v : Word) (s : State) : Host.Outcome State Fault Refusal :=
  happen s (fun s => s.hostParam h (A.MAC_IFe_CTL p e) v)

/-- LAT_CAL_RUN (R312): port `h` writes LAT_CAL with RUN. -/
def execLatCalRun (h : HostPort) (p : Nat) (v : Word) (s : State) : Host.Outcome State Fault Refusal :=
  happen s (fun s => s.hostParam h (A.MAC_LAT_CAL p) v)

/-- LAT_CAL_DISCARD (R315): port `h` writes LAT_CAL with DISCARD. -/
def execLatCalDiscard (h : HostPort) (p : Nat) (v : Word) (s : State) : Host.Outcome State Fault Refusal :=
  happen s (fun s => s.hostParam h (A.MAC_LAT_CAL p) v)

/-- LAT_CAL_DONE (R313, R314): the mean and the spread of the 256 loop frames in subticks. -/
def execLatCalDone (p : Nat) (mean : Int) (spread : Nat) (s : State) : Host.Outcome State Fault Refusal :=
  happen s (fun s => s.inside .net (decide (p < 4)) (fun s => s.latDone p mean spread))

/-- LAT_CAL_NO_LOOP (R314). -/
def execLatCalNoLoop (p : Nat) (s : State) : Host.Outcome State Fault Refusal :=
  happen s (fun s => s.inside .net (decide (p < 4)) (fun s => s.latCancel p latNoLoop))

/-- TS_SETTLE_MEASURE (R317): RX_VAR and TX_VAR as measured, in subticks. -/
def execTsSettleMeasure (p : Nat) (rxVar txVar : Int) (s : State) : Host.Outcome State Fault Refusal :=
  happen s (fun s => s.inside .net (decide (p < 4)) (fun s => s.settleMeasure p rxVar txVar))

/-- TS_SETTLE_SLOW (R318). -/
def execTsSettleSlow (p : Nat) (s : State) : Host.Outcome State Fault Refusal :=
  happen s (fun s => s.inside .net (decide (p < 4)) (fun s => s.settleSlow p))

/-- MARGIN_WINDOW_END (R323). -/
def execMarginWindowEnd (p : Nat) (s : State) : Host.Outcome State Fault Refusal :=
  happen s (fun s => s.inside .net (decide (p < 4)) (fun s => s.marginWindow p))

/-- SLOT_COMMIT (R324, R325). -/
def execSlotCommit (p : Nat) (s : State) : Host.Outcome State Fault Refusal :=
  happen s (fun s => s.inside .net (decide (p < 4)) (fun s => s.slotCommit p))

/-- SLOTTED_FRAME_LAUNCH (R308, R330): the transmit TSU stamps the frame's crossing in bin `bin` of the present tick. -/
def execSlottedFrameLaunch (p bin : Nat) (s : State) : Host.Outcome State Fault Refusal :=
  happen s (fun s => s.inside .net (decide (p < 4)) (fun s => s.slotLaunch p bin))

end Sys2Proof.Machine
end

