-- ==== Sys2Proof/Machine/CmdNts.lean ====
section
/-! DEFINITION. The meanings of the commands of the NTS keys and cookies and of admission. -/

namespace Sys2Proof.Machine

/-! ### Keys and cookies -/

/-- NTS_ROTATE (R438, R439, R440): port `p` writes KEY_CMD with ROTATE. -/
def execNtsRotate (p : HostPort) (v : Word) (s : State) : Host.Outcome State Fault Refusal :=
  happen s (fun s => s.hostParam p A.NTS_KEY_CMD v)

/-- NTS_RETIRE (R443): port `p` writes KEY_CMD with RETIRE. -/
def execNtsRetire (p : HostPort) (v : Word) (s : State) : Host.Outcome State Fault Refusal :=
  happen s (fun s => s.hostParam p A.NTS_KEY_CMD v)

/-- NTS_WIPE_ALL (R443): port `p` writes KEY_CMD with WIPE_ALL. -/
def execNtsWipeAll (p : HostPort) (v : Word) (s : State) : Host.Outcome State Fault Refusal :=
  happen s (fun s => s.hostParam p A.NTS_KEY_CMD v)

/-- NTS_AUTO_ROTATE (R440). -/
def execNtsAutoRotate (s : State) : Host.Outcome State Fault Refusal :=
  happen s (fun s => s.inside .pipe true State.autoRotate)

/-- NTS_ROTATE_RETRY (R441). -/
def execNtsRotateRetry (s : State) : Host.Outcome State Fault Refusal :=
  happen s (fun s => s.inside .pipe true State.retryRotate)

/-- NTS_ROTATION_SWITCH (R438). -/
def execNtsRotationSwitch (s : State) : Host.Outcome State Fault Refusal :=
  happen s (fun s => s.inside .pipe true State.rotationSwitch)

/-- NTS_GRACE_END (R442): the GRACE slot `k`. -/
def execNtsGraceEnd (k : Nat) (s : State) : Host.Outcome State Fault Refusal :=
  happen s (fun s => s.inside .pipe (decide (k < 8)) (fun s => s.graceEnd k))

/-- MINT_CMD (R446, R447, R454). -/
def execMintCmd (p : HostPort) (v : Word) (s : State) : Host.Outcome State Fault Refusal :=
  happen s (fun s => s.hostParam p A.NTS_MINT_CMD v)

/-- MINT_DONE (R446, R447): the mint of port `p` finishes. -/
def execMintDone (p : HostPort) (s : State) : Host.Outcome State Fault Refusal :=
  happen s (fun s => s.inside .pipe true (fun s => s.mintDone p))

/-! ### Admission -/

/-- ADM_FLUSH (R461). -/
def execAdmFlush (p : HostPort) (v : Word) (s : State) : Host.Outcome State Fault Refusal :=
  happen s (fun s => s.hostParam p A.ADM_FLUSH v)

/-- ADM_LOOKUP (R474): port `p` writes LOOKUP_CTL with GO. -/
def execAdmLookup (p : HostPort) (v : Word) (s : State) : Host.Outcome State Fault Refusal :=
  happen s (fun s => s.hostParam p A.ADM_LOOKUP_CTL v)

/-- OVR_CTL_WRITE (R475). -/
def execOvrCtlWrite (p : HostPort) (o : Nat) (v : Word) (s : State) : Host.Outcome State Fault Refusal :=
  happen s (fun s => s.hostParam p (A.ADM_OVRo_CTL o) v)

/-- ADM_HASH_KEY_DRAW (R461). -/
def execAdmHashKeyDraw (s : State) : Host.Outcome State Fault Refusal :=
  happen s (fun s => s.inside .pipe true State.drawHashKey)

end Sys2Proof.Machine
end

