-- ==== Sys2Proof/Machine/CmdOut.lean ====
section
/-! DEFINITION. The meanings of the commands of the outputs and their verification. -/

namespace Sys2Proof.Machine

/-- OUTPUT_EDGE (R230): the scheduled edge of output `n` that lies in the present tick. -/
def execOutputEdge (n : Nat) (s : State) : Host.Outcome State Fault Refusal :=
  happen s (fun s => s.inside .time (decide (n < 12)) (fun s => s.outputEdge n))

/-- OUTPUT_CTL_WRITE (R239, R242, R253, R254, R256). -/
def execOutputCtlWrite (p : HostPort) (n : Nat) (v : Word) (s : State) : Host.Outcome State Fault Refusal :=
  happen s (fun s => s.hostParam p (A.PCR_OUTn_CTL n) v)

/-- ONESHOT_ARM (R227, R228): port `p` writes OUTn_AT_SEC_HI. -/
def execOneshotArm (p : HostPort) (n : Nat) (v : Word) (s : State) : Host.Outcome State Fault Refusal :=
  happen s (fun s => s.hostParam p (A.PCR_OUTn_AT_SEC_HI n) v)

/-- ALIGN (R240): port `p` writes PCR.CMD. -/
def execAlignOutput (p : HostPort) (v : Word) (s : State) : Host.Outcome State Fault Refusal :=
  happen s (fun s => s.hostParam p A.PCR_CMD v)

/-- SLEW_ALIGN (R241): port `p` writes PCR.CMD. -/
def execSlewAlign (p : HostPort) (v : Word) (s : State) : Host.Outcome State Fault Refusal :=
  happen s (fun s => s.hostParam p A.PCR_CMD v)

/-- SLEW_STOP (R241): port `p` writes PCR.CMD. -/
def execSlewStop (p : HostPort) (v : Word) (s : State) : Host.Outcome State Fault Refusal :=
  happen s (fun s => s.hostParam p A.PCR_CMD v)

/-- DISARM (R228): port `p` writes PCR.CMD. -/
def execDisarm (p : HostPort) (v : Word) (s : State) : Host.Outcome State Fault Refusal :=
  happen s (fun s => s.hostParam p A.PCR_CMD v)

/-- SLEW_DONE (R241). -/
def execSlewDone (n : Nat) (s : State) : Host.Outcome State Fault Refusal :=
  happen s (fun s => s.inside .time (decide (n < 12)) (fun s => s.slewDone n))

/-- SQUELCH_HOLD_TIMEOUT (R246). -/
def execSquelchHoldTimeout (n : Nat) (s : State) : Host.Outcome State Fault Refusal :=
  happen s (fun s => s.inside .time (decide (n < 12)) (fun s => s.squelchHold n))

/-- OUTPUT_DRAIN_DONE (R246, R256). -/
def execOutputDrainDone (n : Nat) (s : State) : Host.Outcome State Fault Refusal :=
  happen s (fun s => s.inside .time (decide (n < 12)) (fun s => s.outDrained n))

/-- VER_CTL_WRITE (R249). -/
def execVerCtlWrite (p : HostPort) (v : Word) (s : State) : Host.Outcome State Fault Refusal :=
  happen s (fun s => s.hostParam p A.PCR_VER_CTL v)

/-- VER_GATE_END (R250, R251). -/
def execVerGateEnd (s : State) : Host.Outcome State Fault Refusal :=
  happen s (fun s => s.inside .time true State.verGate)

end Sys2Proof.Machine
end

