-- ==== Sys2Proof/Machine/CmdPipe.lean ====
section
/-! DEFINITION. The meanings of the commands of the request pipeline, housekeeping and the PTP service. -/

namespace Sys2Proof.Machine

/-! ### The pipeline -/

/-- INTAKE (R345, R349, R351). -/
def execIntake (s : State) : Host.Outcome State Fault Refusal := happen s (fun s => s.inside .pipe true State.intake)

/-- SORT (R342, R343). -/
def execSortCtx (s : State) : Host.Outcome State Fault Refusal :=
  happen s (fun s => s.inside .pipe true State.sortNext)

/-- ADMIT (R342, R457). -/
def execAdmitCtx (s : State) : Host.Outcome State Fault Refusal :=
  happen s (fun s => s.inside .pipe true State.admitNext)

/-- READ (R325, R342, R356). -/
def execReadCtx (s : State) : Host.Outcome State Fault Refusal :=
  happen s (fun s => s.inside .pipe true State.readNext)

/-- SEAL (R342, R432, R453): SEAL composes context `i`. -/
def execSealCtx (i : Nat) (s : State) : Host.Outcome State Fault Refusal :=
  happen s (fun s => s.inside .pipe true (fun s => s.sealAt i))

/-- LAUNCH (R341, R356): LAUNCH stages context `i`. -/
def execLaunchCtx (i : Nat) (s : State) : Host.Outcome State Fault Refusal :=
  happen s (fun s => s.inside .pipe true (fun s => s.launchAt i))

/-- CTX_EXPIRED (R348). -/
def execCtxExpired (i : Nat) (s : State) : Host.Outcome State Fault Refusal :=
  happen s (fun s => s.inside .pipe true (fun s => s.ctxExpired i))

/-- HK_ANNOUNCE (R360). -/
def execHkAnnounce (p : HostPort) (v : Word) (s : State) : Host.Outcome State Fault Refusal :=
  happen s (fun s => s.hostParam p A.PIPE_HK_ANNOUNCE v)

/-- MBX_DATA_READ (R364). -/
def execMbxDataRead (p : HostPort) (s : State) : Host.Outcome State Fault Refusal :=
  calm s (fun s => s.hostRead p A.PIPE_MBX_DATA)

/-- MBX_FLUSH (R364). -/
def execMbxFlush (p : HostPort) (v : Word) (s : State) : Host.Outcome State Fault Refusal :=
  calm s (fun s => s.hostParam p A.PIPE_MBX_FLUSH v)

/-- PIPE_CTL_WRITE (R365, R366). -/
def execPipeCtlWrite (p : HostPort) (v : Word) (s : State) : Host.Outcome State Fault Refusal :=
  happen s (fun s => s.hostParam p A.PIPE_CTL v)

/-- PIPE_DRAIN_DONE (R366, R367). -/
def execPipeDrainDone (s : State) : Host.Outcome State Fault Refusal :=
  happen s (fun s => s.inside .pipe true State.pipeDrained)

/-! ### The PTP service -/

/-- PTP_ANNOUNCE_TX (R379, R389): for the group of port `p`, or for a grant. -/
def execPtpAnnounceTx (p : Nat) (grant : Option Nat) (s : State) : Host.Outcome State Fault Refusal :=
  happen s (fun s => s.inside .pipe (decide (p < 4)) (fun s => s.announceTx p grant))

/-- PTP_SYNC_TX (R377, R379): for the group of port `p`, or for a grant. -/
def execPtpSyncTx (p : Nat) (grant : Option Nat) (s : State) : Host.Outcome State Fault Refusal :=
  happen s (fun s => s.inside .pipe (decide (p < 4)) (fun s => s.syncTx p grant))

/-- PTP_DELAY_REQ_TX (R378). -/
def execPtpDelayReqTx (p : Nat) (s : State) : Host.Outcome State Fault Refusal :=
  happen s (fun s => s.inside .pipe (decide (p < 4)) (fun s => s.delayReqTx p))

/-- FOREIGN_MASTER_EXPIRED (R385): the record in place `i` of port `p`. -/
def execForeignMasterExpired (p i : Nat) (s : State) : Host.Outcome State Fault Refusal :=
  happen s (fun s => s.inside .pipe (decide (p < 4)) (fun s => s.foreignExpired p i))

/-- PRE_MASTER_DONE (R388). -/
def execPreMasterDone (p : Nat) (s : State) : Host.Outcome State Fault Refusal :=
  happen s (fun s => s.inside .pipe (decide (p < 4)) (fun s => s.preMasterDone p))

/-- UC_GRANT_LAPSE (R399): the grant in place `i`. -/
def execUcGrantLapse (i : Nat) (s : State) : Host.Outcome State Fault Refusal :=
  happen s (fun s => s.inside .pipe true (fun s => s.grantLapse i))

/-- UC_REQUEST_TX (R400). -/
def execUcRequestTx (p : Nat) (s : State) : Host.Outcome State Fault Refusal :=
  happen s (fun s => s.inside .pipe (decide (p < 4)) (fun s => s.unicastRequest p))

/-- SM_COMMIT (R406). -/
def execSmCommit (p : HostPort) (v : Word) (s : State) : Host.Outcome State Fault Refusal :=
  happen s (fun s => s.hostParam p A.PTP_SM_COMMIT v)

/-- SM_MANAGEMENT_TX (R407). -/
def execSmManagementTx (p : Nat) (s : State) : Host.Outcome State Fault Refusal :=
  happen s (fun s => s.inside .pipe (decide (p < 4)) (fun s => s.metaTx p))

end Sys2Proof.Machine
end

