-- ==== Sys2Proof/Machine/CmdPower.lean ====
section
/-! DEFINITION. The meanings of the commands of reset, modes, domains, levels, sleep and the supplies. -/

namespace Sys2Proof.Machine

/-! ### Reset and modes -/

/-- AON_START (R752): `vbat` says whether AON draws from the cell; `maddr` are the levels of MADDR1 and MADDR0. -/
def execAonStart (vbat : Bool) (maddr : Nat) (s : State) : Host.Outcome State Fault Refusal :=
  happen s (fun s => s.aonStart vbat (maddr % 4))

/-- BROWNOUT (R612): `present` says whether a supply is still there, so that the flag tells a brownout from a loss. -/
def execBrownout (present : Bool) (s : State) : Host.Outcome State Fault Refusal := happen s (fun s => s.brownout present)

/-- COLD_RESET (R755, R756): RST_N has been low for 1 µs. -/
def execColdReset (s : State) : Host.Outcome State Fault Refusal := happen s (fun s => s.rstFalls)

/-- RESET_RELEASE (R755, R807): RST_N rises; `maddr` are the levels of MADDR1 and MADDR0. -/
def execResetRelease (maddr : Nat) (s : State) : Host.Outcome State Fault Refusal :=
  happen s (fun s => s.rstRises (maddr % 4))

/-- WARM_RESET (R623, R705, R713): command 0x01 of port `p` with its argument. -/
def execWarmReset (p : HostPort) (arg : Word) (s : State) : Host.Outcome State Fault Refusal :=
  happen s (fun s => s.hostCommand p 1 arg)

/-- BLOCK_RESET (R705 to R707, R718): command 0x02. -/
def execBlockReset (p : HostPort) (arg : Word) (s : State) : Host.Outcome State Fault Refusal :=
  happen s (fun s => s.hostCommand p 2 arg)

/-- BLOCK_RESET_DONE (R706). -/
def execBlockResetDone (s : State) : Host.Outcome State Fault Refusal :=
  happen s (fun s => s.inside .host true State.blockResetDone)

/-- SAFE_ENTER (R705, R757): command 0x03. -/
def execSafeEnter (p : HostPort) (arg : Word) (s : State) : Host.Outcome State Fault Refusal :=
  happen s (fun s => s.hostCommand p 3 arg)

/-- SAFE_RELEASE (R761, R769): command 0x04. -/
def execSafeRelease (p : HostPort) (arg : Word) (s : State) : Host.Outcome State Fault Refusal :=
  happen s (fun s => s.hostCommand p 4 arg)

/-- FACE_LATCH (R705, R717): command 0x05. -/
def execFaceLatch (p : HostPort) (arg : Word) (s : State) : Host.Outcome State Fault Refusal :=
  happen s (fun s => s.hostCommand p 5 arg)

/-- MODE_REQ (R743, R744): a write of window word 0x15. -/
def execModeReq (p : HostPort) (v : Word) (s : State) : Host.Outcome State Fault Refusal :=
  happen s (fun s => s.hostWrite p 0x15 v)

/-- RISE_COMPLETE (R753). -/
def execRiseComplete (s : State) : Host.Outcome State Fault Refusal := happen s (fun s => s.riseComplete)

/-! ### Domains, regulators and levels -/

/-- DROP (R596, R597): a write of PWR.CMD. -/
def execDropDomain (p : HostPort) (v : Word) (s : State) : Host.Outcome State Fault Refusal :=
  happen s (fun s => s.hostParam p A.PWR_CMD v)

/-- DOMAIN_DROPPED (R598): the orderly drop of domain `d` finishes. -/
def execDomainDropped (d : Domain) (s : State) : Host.Outcome State Fault Refusal :=
  happen s (fun s => s.domainDropped d.code)

/-- DOMAIN_STARTED (R602): domain `d` is up. -/
def execDomainStarted (d : Domain) (s : State) : Host.Outcome State Fault Refusal :=
  happen s (fun s => s.domainStarted d.code)

/-- REGULATOR_FAULT (R610, R612) of regulator `r` at `mv` millivolts and `ma` milliamperes. A fault of REG_AON takes AON's
own supply. -/
def execRegulatorFault (r : Regulator) (mv ma : Nat) (s : State) : Host.Outcome State Fault Refusal :=
  happen s (fun s => s.inAon true (fun s => if r = .aon then s.aonLoss true else s.regulatorFault r.code mv ma))

/-- LEVEL_REQ (R614): a write of PWR.LEVEL_REQ. -/
def execLevelReq (p : HostPort) (v : Word) (s : State) : Host.Outcome State Fault Refusal :=
  happen s (fun s => s.hostParam p A.PWR_LEVEL_REQ v)

/-- LEVEL_CHANGE_DONE (R616). -/
def execLevelChangeDone (s : State) : Host.Outcome State Fault Refusal := happen s (fun s => s.inAon true State.levelDone)

/-- TCAP_SAMPLE (R615): the hottest die sensor. -/
def execTcapSample (s : State) : Host.Outcome State Fault Refusal := happen s (fun s => s.tcapSample)

/-! ### Sleep and wake -/

/-- SLEEP_REQ (R625 to R630): a write of PWR.SLEEP_REQ with STATE 1, 2 or 3. -/
def execSleepReq (p : HostPort) (v : Word) (s : State) : Host.Outcome State Fault Refusal :=
  happen s (fun s => s.hostParam p A.PWR_SLEEP_REQ v)

/-- WAKE_REQUEST (R634): a write of PWR.SLEEP_REQ with STATE 0. -/
def execWakeRequest (p : HostPort) (v : Word) (s : State) : Host.Outcome State Fault Refusal :=
  happen s (fun s => s.hostParam p A.PWR_SLEEP_REQ v)

/-- SLEEP_ENTRY_DONE (R631, R632). -/
def execSleepEntryDone (s : State) : Host.Outcome State Fault Refusal :=
  happen s (fun s => s.inAon true State.sleepEntryDone)

/-- WAKE_PIN (R635, R636): pin `k` has been active for 33 AON cycles. -/
def execWakePin (k : Nat) (s : State) : Host.Outcome State Fault Refusal := happen s (fun s => s.pinActivated k)

/-- WAKE_AT (R634): the transit clock reaches PWR.WAKE_AT. -/
def execWakeAt (s : State) : Host.Outcome State Fault Refusal := happen s (fun s => s.wakeAt)

/-- WAKE_DONE (R637). -/
def execWakeDone (s : State) : Host.Outcome State Fault Refusal := happen s (fun s => s.inAon true State.wakeDone)

/-- WAKE_HOLD_EXPIRED (R593). -/
def execWakeHoldExpired (s : State) : Host.Outcome State Fault Refusal :=
  happen s (fun s => s.inAon true State.wakeHoldEnds)

/-- WAKE_PIN_ARMED (R635): a sample finds pin `k` inactive. -/
def execWakePinArmed (k : Nat) (s : State) : Host.Outcome State Fault Refusal := happen s (fun s => s.pinArmed k)

/-! ### Supplies -/

/-- HANDOVER (R644, R647): `vbat` is the cell in mV, and `present` says whether a supply stands if AON falls with it. -/
def execHandover (vbat : Nat) (present : Bool) (s : State) : Host.Outcome State Fault Refusal :=
  happen s (fun s => s.handover vbat present)

/-- VMAIN_LOSS_IN_S3 (R645). -/
def execVmainLossInS3 (s : State) : Host.Outcome State Fault Refusal := happen s (fun s => s.vmainLoss)

/-- VMAIN_RETURN (R638, R646): `maddr` are the levels of MADDR1 and MADDR0. -/
def execVmainReturn (maddr : Nat) (s : State) : Host.Outcome State Fault Refusal :=
  happen s (fun s => s.vmainReturn (maddr % 4))

/-- VIO_BANK_PRESENT (R786, R791, R807): VIO_H (`h`) or VIO_O has held `mv` millivolts for 1 ms; with RST_N high the
presence of VIO_H samples MADDR. -/
def execVioBankPresent (h : Bool) (mv maddr : Nat) (s : State) : Host.Outcome State Fault Refusal :=
  happen s (fun s => s.vioPresent h mv (maddr % 4))

/-- VIO_BANK_ABSENT (R791, R811): without VIO_H the board bus is dead too. -/
def execVioBankAbsent (h : Bool) (s : State) : Host.Outcome State Fault Refusal :=
  happen s (fun s =>
    let t := s.vioAbsent h
    if h then t.inside .host true State.boardTimesOut else t)

end Sys2Proof.Machine
end

