-- ==== Sys2Proof/Machine/CmdRef.lean ====
section
/-! DEFINITION. The meanings of the commands of the references, the antenna feed and the servo. -/

namespace Sys2Proof.Machine

/-! ### References -/

/-- REF_LOS (R149): the loss timer of PIN slot `n` runs out. -/
def execRefLos (n : Nat) (s : State) : Host.Outcome State Fault Refusal :=
  happen s (fun s => s.inside .time (decide (n < 8)) (fun s => s.pinLoss n))

/-- NET_SYNC_TIMEOUT (R150): the Sync timer of NET slot `n` (8 to 11) runs out. -/
def execNetSyncTimeout (n : Nat) (s : State) : Host.Outcome State Fault Refusal :=
  happen s (fun s => s.inside .time (Sys2Proof.Machine.within n 8 11) (fun s => s.netLoss n))

/-- NMEA_SENTENCE (R155 to R160): the characters of a sentence on UART `g`, whose pin is dead without VIO_H (R791). -/
def execNmeaSentence (g : Nat) (line : List Nat) (s : State) : Host.Outcome State Fault Refusal :=
  happen s (fun s => s.inside .time (decide (g < 2) && s.pwr.vioH.isSome) (fun s => s.nmea g line))

/-- The verdicts of a UART with the one of a sentence type (0 GGA, 1 RMC, 2 GSA, 3 $PMQST) no longer fresh (R156). -/
def Uart.expire (u : Uart) (kind : Nat) : Uart :=
  match kind with
  | 0 => { u with gga := none }
  | 1 => { u with rmc := none }
  | 2 => { u with gsa := none }
  | _ => { u with pmqst := none }

/-- NMEA_VERDICT_EXPIRED (R156): a verdict of UART `g` ages past MSG_TIMEOUT. -/
def execNmeaVerdictExpired (g kind : Nat) (s : State) : Host.Outcome State Fault Refusal :=
  happen s (fun s => s.inside .time (decide (g < 2)) (fun s => s.setUart g ((s.refm.uarts.getD g {}).expire kind)))

/-- ESMC_TIMEOUT (R153): 5 s without an ESMC PDU for NET slot `n`. -/
def execEsmcTimeout (n : Nat) (s : State) : Host.Outcome State Fault Refusal :=
  happen s (fun s => s.inside .time (Sys2Proof.Machine.within n 8 11) (fun s => s.put (F.REFM_Sn_IQ_SYNCE_QL n) 15))

/-- INTEG_VERDICT_TIMEOUT (R161): 10 s without a verdict for slot `n`. -/
def execIntegVerdictTimeout (n : Nat) (s : State) : Host.Outcome State Fault Refusal :=
  happen s (fun s => s.inside .time (decide (n < 12)) (fun s => s.setSlot n { s.slot n with job := 3 }))

/-- WTR_EXPIRED (R163, R166). -/
def execWtrExpired (n : Nat) (s : State) : Host.Outcome State Fault Refusal :=
  happen s (fun s => s.inside .time (decide (n < 12)) (fun s => s.wtrExpired n))

/-- SEL_REQ (R164). -/
def execSelReq (p : HostPort) (v : Word) (s : State) : Host.Outcome State Fault Refusal :=
  happen s (fun s => s.hostParam p A.REFM_SEL_REQ v)

/-- ABS_CLEAR (R173). -/
def execAbsClear (p : HostPort) (v : Word) (s : State) : Host.Outcome State Fault Refusal :=
  happen s (fun s => s.hostParam p A.REFM_ABS_CLEAR v)

/-! ### The antenna feed -/

/-- ANT_CTL_WRITE (R175, R185). -/
def execAntCtlWrite (p : HostPort) (v : Word) (s : State) : Host.Outcome State Fault Refusal :=
  happen s (fun s => s.hostParam p A.REFM_ANT_CTL v)

/-- ANT_CLR (R177): port `p` writes ANT_CTL with CLR. -/
def execAntClr (p : HostPort) (v : Word) (s : State) : Host.Outcome State Fault Refusal :=
  happen s (fun s => s.hostParam p A.REFM_ANT_CTL v)

/-- ANT_RAMP_DONE (R175). -/
def execAntRampDone (s : State) : Host.Outcome State Fault Refusal :=
  happen s (fun s => s.inside .time (s.ant == antRamp) (fun s => s.setAnt antOn))

/-- ANT_DISCHARGE_DONE (R175, R185). -/
def execAntDischargeDone (s : State) : Host.Outcome State Fault Refusal :=
  happen s (fun s => s.inside .time true State.antDischarged)

/-- ANT_RAMP_LIMIT_FAIL (R176). -/
def execAntRampLimitFail (s : State) : Host.Outcome State Fault Refusal :=
  happen s (fun s => s.inside .time (s.ant == antRamp) State.antFail)

/-- ANT_SHORT_TRIP (R176). -/
def execAntShortTrip (s : State) : Host.Outcome State Fault Refusal :=
  happen s (fun s => s.inside .time (s.ant == antOn) State.antFail)

/-- ANT_RETRY (R177). -/
def execAntRetry (s : State) : Host.Outcome State Fault Refusal :=
  happen s (fun s => s.inside .time (s.ant == antWait) State.antStart)

/-- ANT_COUNT_RESET (R177, R178): 64 s without a trip. -/
def execAntCountReset (s : State) : Host.Outcome State Fault Refusal :=
  happen s (fun s => s.inside .time (s.ant == antOn) (fun s =>
    (s.put F.REFM_ANT_STAT_FAILS 0).put F.REFM_ANT_STAT_ANT_FAULT 0))

/-- ANT_TEMP_SAMPLE (R179): the switch temperature in 0.1 mK. -/
def execAntTempSample (temp : Int) (s : State) : Host.Outcome State Fault Refusal :=
  happen s (fun s => s.inside .time true (fun s => s.antTempSample temp))

/-- ANT_CURRENT_SAMPLE (R180): the antenna current in 0.1 mA. -/
def execAntCurrentSample (ima : Nat) (s : State) : Host.Outcome State Fault Refusal :=
  happen s (fun s => s.inside .time true (fun s => s.antCurrentSample ima))

/-! ### The servo -/

/-- SRV_UPDATE (R187, R188, R191). -/
def execSrvUpdate (s : State) : Host.Outcome State Fault Refusal :=
  happen s (fun s => s.inside .time true State.servoUpdate)

/-- REACQUIRE (R195): port `p` writes SRV.CMD. -/
def execReacquire (p : HostPort) (v : Word) (s : State) : Host.Outcome State Fault Refusal :=
  happen s (fun s => s.hostParam p A.SRV_CMD v)

/-- RESUME (R198): port `p` writes SRV.CMD. -/
def execResumeServo (p : HostPort) (v : Word) (s : State) : Host.Outcome State Fault Refusal :=
  happen s (fun s => s.hostParam p A.SRV_CMD v)

/-- HO_RATE_UPDATE (R200, R206, R207). -/
def execHoRateUpdate (s : State) : Host.Outcome State Fault Refusal :=
  happen s (fun s => s.inside .time true State.holdoverTick)

/-- HO_LIMIT_REACHED (R199). -/
def execHoLimitReached (s : State) : Host.Outcome State Fault Refusal :=
  happen s (fun s => s.inside .time true State.holdoverLimit)

/-- DRIFT_RECORD (R201, R203, R209 to R211): the record, and the predictor job for the interval that it opens. -/
def execDriftRecord (s : State) : Host.Outcome State Fault Refusal :=
  happen s (fun s => s.inside .time s.recordDue (fun s => s.driftRecord.offerPred))

/-- PRED_DECAY_START (R204). -/
def execPredDecayStart (s : State) : Host.Outcome State Fault Refusal :=
  happen s (fun s => s.inside .time true State.predDecay)

/-- HIST_CLEAR (R209). -/
def execHistClear (p : HostPort) (v : Word) (s : State) : Host.Outcome State Fault Refusal :=
  happen s (fun s => s.hostParam p A.SRV_HIST_CLEAR v)

end Sys2Proof.Machine
end

