-- ==== Sys2Proof/Machine/CmdSteer.lean ====
section
/-! DEFINITION. The meanings of the commands of the direct parameters, the Faces, arming and commits, leaps and UTC. -/

namespace Sys2Proof.Machine

/-- FACE_READ_LATCH (R52, R699): port `p` reads STR's SEC_HI word of Face `f`. -/
def execFaceReadLatch (p : HostPort) (f : Face) (s : State) : Host.Outcome State Fault Refusal :=
  calm s (fun s => s.hostRead p (A.STR_F0_SEC_HI (4 * faceIndex f)))

/-- MULTIWORD_HI_READ (R16): port `p` reads the _HI word at `a`. -/
def execMultiwordHiRead (p : HostPort) (a : Nat) (s : State) : Host.Outcome State Fault Refusal :=
  calm s (fun s => s.hostRead p a)

/-- MULTIWORD_HI_WRITE (R16): port `p` writes the _HI word at `a`. -/
def execMultiwordHiWrite (p : HostPort) (a : Nat) (v : Word) (s : State) : Host.Outcome State Fault Refusal :=
  happen s (fun s => s.hostParam p a v)

/-- The address of a main Face's RATE_HI and STEP_HI words. -/
def rateHi : MainFace → Nat
  | .f0 => A.STR_F0_RATE_HI
  | .f3 => A.STR_F3_RATE_HI 0
def stepHi (f : MainFace) : Nat := rateHi f + 2

/-- RATE_WRITE (R32, R37, R38): port `p` writes RATE_HI of a main Face. -/
def execRateWrite (p : HostPort) (f : MainFace) (v : Word) (s : State) : Host.Outcome State Fault Refusal :=
  happen s (fun s => s.hostParam p (rateHi f) v)

/-- HOST_STEP (R32, R35, R36): port `p` writes STEP_HI of a main Face. -/
def execHostStep (p : HostPort) (f : MainFace) (v : Word) (s : State) : Host.Outcome State Fault Refusal :=
  happen s (fun s => s.hostParam p (stepHi f) v)

/-- PEND_DELTA_WRITE (R40). -/
def execPendDeltaWrite (p : HostPort) (v : Word) (s : State) : Host.Outcome State Fault Refusal :=
  happen s (fun s => s.hostParam p A.STR_PEND_DELTA_HI v)

/-- The address of a bank's ARM word, which follows its ARM_CODE word. -/
def armWord (b : ArmBank) : Nat := b.codeWord + 1

/-- ARM (R39, R43, R710): port `p` writes a bank's ARM word. -/
def execArmBank (p : HostPort) (b : ArmBank) (v : Word) (s : State) : Host.Outcome State Fault Refusal :=
  happen s (fun s => s.hostParam p (armWord b) v)

/-- COMMIT (R41 to R43, R710): port `p` writes STR.COMMIT. -/
def execCommitDelta (p : HostPort) (v : Word) (s : State) : Host.Outcome State Fault Refusal :=
  happen s (fun s => s.hostParam p A.STR_COMMIT v)

/-- ARM_EXPIRED (R44). -/
def execArmExpired (b : ArmBank) (s : State) : Host.Outcome State Fault Refusal := happen s (fun s => s.armExpired b)

/-- ARM_CODE_WRITE (R711). -/
def execArmCodeWrite (p : HostPort) (b : ArmBank) (v : Word) (s : State) : Host.Outcome State Fault Refusal :=
  happen s (fun s => s.hostParam p b.codeWord v)

/-- BANK_LOCK_WRITE (R712). -/
def execBankLockWrite (p : HostPort) (v : Word) (s : State) : Host.Outcome State Fault Refusal :=
  happen s (fun s => s.hostParam p A.HIF_BANK_LOCK v)

/-- LEAP_SCHEDULE (R46): a write of LEAP_CTL that schedules a leap. -/
def execLeapSchedule (p : HostPort) (v : Word) (s : State) : Host.Outcome State Fault Refusal :=
  happen s (fun s => s.hostParam p A.STR_LEAP_CTL v)

/-- LEAP_CANCEL (R49): a write of LEAP_CTL with NONE. -/
def execLeapCancel (p : HostPort) (v : Word) (s : State) : Host.Outcome State Fault Refusal :=
  happen s (fun s => s.hostParam p A.STR_LEAP_CTL v)

/-- LEAP_APPLIED (R47). -/
def execLeapApplied (s : State) : Host.Outcome State Fault Refusal :=
  happen s (fun s => s.inside .time true State.leapApply)

/-- SMEAR_WINDOW_OPEN (R48). -/
def execSmearWindowOpen (s : State) : Host.Outcome State Fault Refusal :=
  happen s (fun s => s.inside .time true State.smearUpdate)

/-- SMEAR_WINDOW_CLOSE (R48). -/
def execSmearWindowClose (s : State) : Host.Outcome State Fault Refusal :=
  happen s (fun s => s.inside .time true State.smearUpdate)

/-- UTC_OFFSET_WRITE (R50). -/
def execUtcOffsetWrite (p : HostPort) (v : Word) (s : State) : Host.Outcome State Fault Refusal :=
  happen s (fun s => s.hostParam p A.STR_UTC_OFFSET v)

end Sys2Proof.Machine
end

