-- ==== Sys2Proof/Machine/CmdTime.lean ====
section
/-! DEFINITION. The meanings of the commands of the time base: the oven, the PLL and the tick checks. -/

namespace Sys2Proof.Machine

/-- OVEN_SAMPLE (R57 to R65): thermistors `a` and `b` in 0.1 mK, VHEAT in mV, the heater's and the commanded current in
mA. -/
def execOvenSample (a b : Int) (vheat drive commanded : Nat) (s : State) : Host.Outcome State Fault Refusal :=
  happen s (fun s => s.inside .oven true (fun s => s.ovenSample a b vheat drive commanded))

/-- SLOW_WARM_TIMEOUT (R86). -/
def execSlowWarmTimeout (s : State) : Host.Outcome State Fault Refusal := happen s (fun s => s.slowWarm)

/-- OVEN_EN_WRITE (R65): a write of TB.CTL. -/
def execOvenEnWrite (p : HostPort) (v : Word) (s : State) : Host.Outcome State Fault Refusal :=
  happen s (fun s => s.hostParam p A.TB_CTL v)

/-- HEATER_RAMP_DONE (R88). -/
def execHeaterRampDone (s : State) : Host.Outcome State Fault Refusal :=
  happen s (fun s => s.inside .oven true State.rampDone)

/-- The PLL locks: the Tally starts at the first lock, an anchor is recorded, and every DLL begins acquisition (R72, R73,
R130, R137, R642). -/
def State.lockRises (s : State) : State :=
  if s.bit F.TB_STAT_PLL_LOCK then s
  else
    let s1 := s.pllLocked
    if s1.bit F.TB_STAT_PLL_LOCK then
      let s2 := if s.tallyRun then s1 else s1.anchor false
      s2.dllAcquire.riseRuns
    else s1

/-- PLL_LOCKED (R72). -/
def execPllLocked (s : State) : Host.Outcome State Fault Refusal := happen s (fun s => s.lockRises)

/-- TICK_UNLOCK (R74, R125, R130). -/
def execTickUnlock (s : State) : Host.Outcome State Fault Refusal :=
  happen s (fun s => s.inside .time (s.bit F.TB_STAT_PLL_LOCK) (fun s => s.pllUnlock.noTick))

/-- X32_WINDOW_END (R78, R641, R830): the window counted `ticks`, was completed or cut off, and met `slips` DIV findings.
A sound crystal teaches the transit clock. -/
def execX32WindowEnd (ticks : Nat) (completed : Bool) (slips : Nat) (s : State) : Host.Outcome State Fault Refusal :=
  happen s (fun s => s.inside .time s.tallyRun (fun s =>
    let t := s.x32Window ticks completed slips
    if completed && (s.windowVerdict ticks completed slips).1.crystalSound then t.x32Learn ticks else t))

/-- REF_GATE_END (R63, R75): the gate's deviation in 10^-12. -/
def execRefGateEnd (dev : Int) (s : State) : Host.Outcome State Fault Refusal :=
  happen s (fun s => s.inside .time true (fun s => s.refGate dev))

/-- THRESHOLD_DESCRIPTOR_WRITE (R70): port `p` writes the _DWELL word at `a`. -/
def execThresholdDescriptorWrite (p : HostPort) (a : Nat) (v : Word) (s : State) : Host.Outcome State Fault Refusal :=
  happen s (fun s => s.hostParam p a v)

end Sys2Proof.Machine
end

