-- ==== Sys2Proof/Machine/Dispatch.lean ====
section
/-! DEFINITION. Dispatch: every command to its meaning. -/

namespace Sys2Proof.Machine

def exec (i : Instr) (s : State) : Host.Outcome State Fault Refusal :=
  match i with
  | .aonStart vbat maddr => Sys2Proof.Machine.execAonStart vbat maddr s
  | .brownout present => Sys2Proof.Machine.execBrownout present s
  | .coldReset => Sys2Proof.Machine.execColdReset s
  | .resetRelease maddr => Sys2Proof.Machine.execResetRelease maddr s
  | .warmReset p arg => Sys2Proof.Machine.execWarmReset p arg s
  | .blockReset p arg => Sys2Proof.Machine.execBlockReset p arg s
  | .blockResetDone => Sys2Proof.Machine.execBlockResetDone s
  | .safeEnter p arg => Sys2Proof.Machine.execSafeEnter p arg s
  | .safeRelease p arg => Sys2Proof.Machine.execSafeRelease p arg s
  | .faceLatch p arg => Sys2Proof.Machine.execFaceLatch p arg s
  | .modeReq p v => Sys2Proof.Machine.execModeReq p v s
  | .riseComplete => Sys2Proof.Machine.execRiseComplete s
  | .dropDomain p v => Sys2Proof.Machine.execDropDomain p v s
  | .domainDropped d => Sys2Proof.Machine.execDomainDropped d s
  | .domainStarted d => Sys2Proof.Machine.execDomainStarted d s
  | .regulatorFault r mv ma => Sys2Proof.Machine.execRegulatorFault r mv ma s
  | .levelReq p v => Sys2Proof.Machine.execLevelReq p v s
  | .levelChangeDone => Sys2Proof.Machine.execLevelChangeDone s
  | .tcapSample => Sys2Proof.Machine.execTcapSample s
  | .sleepReq p v => Sys2Proof.Machine.execSleepReq p v s
  | .wakeRequest p v => Sys2Proof.Machine.execWakeRequest p v s
  | .sleepEntryDone => Sys2Proof.Machine.execSleepEntryDone s
  | .wakePin k => Sys2Proof.Machine.execWakePin k s
  | .wakePinArmed k => Sys2Proof.Machine.execWakePinArmed k s
  | .wakeAt => Sys2Proof.Machine.execWakeAt s
  | .wakeDone => Sys2Proof.Machine.execWakeDone s
  | .wakeHoldExpired => Sys2Proof.Machine.execWakeHoldExpired s
  | .handover vbat present => Sys2Proof.Machine.execHandover vbat present s
  | .vmainLossInS3 => Sys2Proof.Machine.execVmainLossInS3 s
  | .vmainReturn maddr => Sys2Proof.Machine.execVmainReturn maddr s
  | .vioBankPresent h mv maddr => Sys2Proof.Machine.execVioBankPresent h mv maddr s
  | .vioBankAbsent h => Sys2Proof.Machine.execVioBankAbsent h s
  | .faceReadLatch p f => Sys2Proof.Machine.execFaceReadLatch p f s
  | .multiwordHiRead p a => Sys2Proof.Machine.execMultiwordHiRead p a s
  | .multiwordHiWrite p a v => Sys2Proof.Machine.execMultiwordHiWrite p a v s
  | .rateWrite p f v => Sys2Proof.Machine.execRateWrite p f v s
  | .hostStep p f v => Sys2Proof.Machine.execHostStep p f v s
  | .pendDeltaWrite p v => Sys2Proof.Machine.execPendDeltaWrite p v s
  | .armBank p b v => Sys2Proof.Machine.execArmBank p b v s
  | .commitDelta p v => Sys2Proof.Machine.execCommitDelta p v s
  | .armExpired b => Sys2Proof.Machine.execArmExpired b s
  | .armCodeWrite p b v => Sys2Proof.Machine.execArmCodeWrite p b v s
  | .bankLockWrite p v => Sys2Proof.Machine.execBankLockWrite p v s
  | .leapSchedule p v => Sys2Proof.Machine.execLeapSchedule p v s
  | .leapCancel p v => Sys2Proof.Machine.execLeapCancel p v s
  | .leapApplied => Sys2Proof.Machine.execLeapApplied s
  | .smearWindowOpen => Sys2Proof.Machine.execSmearWindowOpen s
  | .smearWindowClose => Sys2Proof.Machine.execSmearWindowClose s
  | .utcOffsetWrite p v => Sys2Proof.Machine.execUtcOffsetWrite p v s
  | .ovenSample a b vheat drive commanded => Sys2Proof.Machine.execOvenSample a b vheat drive commanded s
  | .slowWarmTimeout => Sys2Proof.Machine.execSlowWarmTimeout s
  | .ovenEnWrite p v => Sys2Proof.Machine.execOvenEnWrite p v s
  | .heaterRampDone => Sys2Proof.Machine.execHeaterRampDone s
  | .pllLocked => Sys2Proof.Machine.execPllLocked s
  | .tickUnlock => Sys2Proof.Machine.execTickUnlock s
  | .x32WindowEnd ticks completed slips => Sys2Proof.Machine.execX32WindowEnd ticks completed slips s
  | .refGateEnd dev => Sys2Proof.Machine.execRefGateEnd dev s
  | .thresholdDescriptorWrite p a v => Sys2Proof.Machine.execThresholdDescriptorWrite p a v s
  | .refEdge n sub k falling short => Sys2Proof.Machine.execRefEdge n sub k falling short s
  | .stampCompose n cnt met => Sys2Proof.Machine.execStampCompose n cnt met s
  | .vqRateWindowEnd => Sys2Proof.Machine.execVqRateWindowEnd s
  | .vqEntryRead p n => Sys2Proof.Machine.execVqEntryRead p n s
  | .vqFifoRead p n => Sys2Proof.Machine.execVqFifoRead p n s
  | .vqFlush p n v => Sys2Proof.Machine.execVqFlush p n v s
  | .vcMark p n v => Sys2Proof.Machine.execVcMark p n v s
  | .vcCtlWrite p a v => Sys2Proof.Machine.execVcCtlWrite p a v s
  | .vcDrainDone n => Sys2Proof.Machine.execVcDrainDone n s
  | .vcIdle n => Sys2Proof.Machine.execVcIdle n s
  | .measureGateEnd m => Sys2Proof.Machine.execMeasureGateEnd m s
  | .calRun p n v => Sys2Proof.Machine.execCalRun p n v s
  | .calTrimOnly p n v => Sys2Proof.Machine.execCalTrimOnly p n v s
  | .calDiscard p n v => Sys2Proof.Machine.execCalDiscard p n v s
  | .calAutoStart n => Sys2Proof.Machine.execCalAutoStart n s
  | .calDue n => Sys2Proof.Machine.execCalDue n s
  | .calDriftSample n => Sys2Proof.Machine.execCalDriftSample n s
  | .trimPeriodDue => Sys2Proof.Machine.execTrimPeriodDue s
  | .calHitsCollected n quarters => Sys2Proof.Machine.execCalHitsCollected n quarters s
  | .calNoEdgesTimeout n => Sys2Proof.Machine.execCalNoEdgesTimeout n s
  | .trimMeasurementDone n slow fast => Sys2Proof.Machine.execTrimMeasurementDone n slow fast s
  | .dllLocked t => Sys2Proof.Machine.execDllLocked t s
  | .dllUnlock t => Sys2Proof.Machine.execDllUnlock t s
  | .dllReacquire p v => Sys2Proof.Machine.execDllReacquire p v s
  | .refLos n => Sys2Proof.Machine.execRefLos n s
  | .netSyncTimeout n => Sys2Proof.Machine.execNetSyncTimeout n s
  | .nmeaSentence g line => Sys2Proof.Machine.execNmeaSentence g line s
  | .nmeaVerdictExpired g kind => Sys2Proof.Machine.execNmeaVerdictExpired g kind s
  | .esmcTimeout n => Sys2Proof.Machine.execEsmcTimeout n s
  | .integVerdictTimeout n => Sys2Proof.Machine.execIntegVerdictTimeout n s
  | .wtrExpired n => Sys2Proof.Machine.execWtrExpired n s
  | .selReq p v => Sys2Proof.Machine.execSelReq p v s
  | .absClear p v => Sys2Proof.Machine.execAbsClear p v s
  | .antCtlWrite p v => Sys2Proof.Machine.execAntCtlWrite p v s
  | .antClr p v => Sys2Proof.Machine.execAntClr p v s
  | .antRampDone => Sys2Proof.Machine.execAntRampDone s
  | .antDischargeDone => Sys2Proof.Machine.execAntDischargeDone s
  | .antRampLimitFail => Sys2Proof.Machine.execAntRampLimitFail s
  | .antShortTrip => Sys2Proof.Machine.execAntShortTrip s
  | .antRetry => Sys2Proof.Machine.execAntRetry s
  | .antCountReset => Sys2Proof.Machine.execAntCountReset s
  | .antTempSample temp => Sys2Proof.Machine.execAntTempSample temp s
  | .antCurrentSample ima => Sys2Proof.Machine.execAntCurrentSample ima s
  | .srvUpdate => Sys2Proof.Machine.execSrvUpdate s
  | .reacquire p v => Sys2Proof.Machine.execReacquire p v s
  | .resumeServo p v => Sys2Proof.Machine.execResumeServo p v s
  | .hoRateUpdate => Sys2Proof.Machine.execHoRateUpdate s
  | .hoLimitReached => Sys2Proof.Machine.execHoLimitReached s
  | .driftRecord => Sys2Proof.Machine.execDriftRecord s
  | .predDecayStart => Sys2Proof.Machine.execPredDecayStart s
  | .histClear p v => Sys2Proof.Machine.execHistClear p v s
  | .outputEdge n => Sys2Proof.Machine.execOutputEdge n s
  | .outputCtlWrite p n v => Sys2Proof.Machine.execOutputCtlWrite p n v s
  | .oneshotArm p n v => Sys2Proof.Machine.execOneshotArm p n v s
  | .alignOutput p v => Sys2Proof.Machine.execAlignOutput p v s
  | .slewAlign p v => Sys2Proof.Machine.execSlewAlign p v s
  | .slewStop p v => Sys2Proof.Machine.execSlewStop p v s
  | .disarm p v => Sys2Proof.Machine.execDisarm p v s
  | .slewDone n => Sys2Proof.Machine.execSlewDone n s
  | .squelchHoldTimeout n => Sys2Proof.Machine.execSquelchHoldTimeout n s
  | .outputDrainDone n => Sys2Proof.Machine.execOutputDrainDone n s
  | .verCtlWrite p v => Sys2Proof.Machine.execVerCtlWrite p v s
  | .verGateEnd => Sys2Proof.Machine.execVerGateEnd s
  | .pcsSample p lock hiBer remoteFault anDone fullDuplex fecLock code corr uncorr => Sys2Proof.Machine.execPcsSample p lock hiBer remoteFault anDone fullDuplex fecLock code corr uncorr s
  | .rxFrame p bytes bin ago => Sys2Proof.Machine.execRxFrame p bytes bin ago s
  | .rxPauseEnd p => Sys2Proof.Machine.execRxPauseEnd p s
  | .rxbLevelSample p => Sys2Proof.Machine.execRxbLevelSample p s
  | .pauseRepeat p => Sys2Proof.Machine.execPauseRepeat p s
  | .pauseFrameSend p => Sys2Proof.Machine.execPauseFrameSend p s
  | .txFrameDone p => Sys2Proof.Machine.execTxFrameDone p s
  | .snapTrig h v => Sys2Proof.Machine.execSnapTrig h v s
  | .snapPeriodic => Sys2Proof.Machine.execSnapPeriodic s
  | .holdWindowExpired p => Sys2Proof.Machine.execHoldWindowExpired p s
  | .portCtlWrite h p v => Sys2Proof.Machine.execPortCtlWrite h p v s
  | .portDrainDone p => Sys2Proof.Machine.execPortDrainDone p s
  | .ifCtlWrite h p e v => Sys2Proof.Machine.execIfCtlWrite h p e v s
  | .latCalRun h p v => Sys2Proof.Machine.execLatCalRun h p v s
  | .latCalDiscard h p v => Sys2Proof.Machine.execLatCalDiscard h p v s
  | .latCalDone p mean spread => Sys2Proof.Machine.execLatCalDone p mean spread s
  | .latCalNoLoop p => Sys2Proof.Machine.execLatCalNoLoop p s
  | .tsSettleMeasure p rxVar txVar => Sys2Proof.Machine.execTsSettleMeasure p rxVar txVar s
  | .tsSettleSlow p => Sys2Proof.Machine.execTsSettleSlow p s
  | .marginWindowEnd p => Sys2Proof.Machine.execMarginWindowEnd p s
  | .slotCommit p => Sys2Proof.Machine.execSlotCommit p s
  | .slottedFrameLaunch p bin => Sys2Proof.Machine.execSlottedFrameLaunch p bin s
  | .intake => Sys2Proof.Machine.execIntake s
  | .sortCtx => Sys2Proof.Machine.execSortCtx s
  | .admitCtx => Sys2Proof.Machine.execAdmitCtx s
  | .readCtx => Sys2Proof.Machine.execReadCtx s
  | .sealCtx k => Sys2Proof.Machine.execSealCtx k s
  | .launchCtx k => Sys2Proof.Machine.execLaunchCtx k s
  | .ctxExpired k => Sys2Proof.Machine.execCtxExpired k s
  | .hkAnnounce p v => Sys2Proof.Machine.execHkAnnounce p v s
  | .mbxDataRead p => Sys2Proof.Machine.execMbxDataRead p s
  | .mbxFlush p v => Sys2Proof.Machine.execMbxFlush p v s
  | .pipeCtlWrite p v => Sys2Proof.Machine.execPipeCtlWrite p v s
  | .pipeDrainDone => Sys2Proof.Machine.execPipeDrainDone s
  | .ptpAnnounceTx p grant => Sys2Proof.Machine.execPtpAnnounceTx p grant s
  | .ptpSyncTx p grant => Sys2Proof.Machine.execPtpSyncTx p grant s
  | .ptpDelayReqTx p => Sys2Proof.Machine.execPtpDelayReqTx p s
  | .foreignMasterExpired p k => Sys2Proof.Machine.execForeignMasterExpired p k s
  | .preMasterDone p => Sys2Proof.Machine.execPreMasterDone p s
  | .ucGrantLapse k => Sys2Proof.Machine.execUcGrantLapse k s
  | .ucRequestTx p => Sys2Proof.Machine.execUcRequestTx p s
  | .smCommit p v => Sys2Proof.Machine.execSmCommit p v s
  | .smManagementTx p => Sys2Proof.Machine.execSmManagementTx p s
  | .ntsRotate p v => Sys2Proof.Machine.execNtsRotate p v s
  | .ntsRetire p v => Sys2Proof.Machine.execNtsRetire p v s
  | .ntsWipeAll p v => Sys2Proof.Machine.execNtsWipeAll p v s
  | .ntsAutoRotate => Sys2Proof.Machine.execNtsAutoRotate s
  | .ntsRotateRetry => Sys2Proof.Machine.execNtsRotateRetry s
  | .ntsRotationSwitch => Sys2Proof.Machine.execNtsRotationSwitch s
  | .ntsGraceEnd k => Sys2Proof.Machine.execNtsGraceEnd k s
  | .mintCmd p v => Sys2Proof.Machine.execMintCmd p v s
  | .mintDone p => Sys2Proof.Machine.execMintDone p s
  | .admFlush p v => Sys2Proof.Machine.execAdmFlush p v s
  | .admLookup p v => Sys2Proof.Machine.execAdmLookup p v s
  | .ovrCtlWrite p o v => Sys2Proof.Machine.execOvrCtlWrite p o v s
  | .admHashKeyDraw => Sys2Proof.Machine.execAdmHashKeyDraw s
  | .tileEnWrite p t v => Sys2Proof.Machine.execTileEnWrite p t v s
  | .tileStarted t => Sys2Proof.Machine.execTileStarted t s
  | .tileDrainDone t => Sys2Proof.Machine.execTileDrainDone t s
  | .rowWriteDone target stuck good => Sys2Proof.Machine.execRowWriteDone target stuck good s
  | .tileRecalDone t sums => Sys2Proof.Machine.execTileRecalDone t sums s
  | .tileRecalRetry t => Sys2Proof.Machine.execTileRecalRetry t s
  | .tileRecalDue t => Sys2Proof.Machine.execTileRecalDue t s
  | .tileRecalWaitExpired t => Sys2Proof.Machine.execTileRecalWaitExpired t s
  | .tileCheckDue t => Sys2Proof.Machine.execTileCheckDue t s
  | .tileCheckDone t codes ecc => Sys2Proof.Machine.execTileCheckDone t codes ecc s
  | .arrRecal p v => Sys2Proof.Machine.execArrRecal p v s
  | .arrCheck p v => Sys2Proof.Machine.execArrCheck p v s
  | .tileReset p v => Sys2Proof.Machine.execTileReset p v s
  | .modelCtlWrite p m v => Sys2Proof.Machine.execModelCtlWrite p m v s
  | .loadGo p v => Sys2Proof.Machine.execLoadGo p v s
  | .loadAbort p v => Sys2Proof.Machine.execLoadAbort p v s
  | .loadDataWrite p v => Sys2Proof.Machine.execLoadDataWrite p v s
  | .jobOffer cls n => Sys2Proof.Machine.execJobOffer cls n s
  | .integJobOffer n => Sys2Proof.Machine.execIntegJobOffer n s
  | .abuseBatchOffer => Sys2Proof.Machine.execAbuseBatchOffer s
  | .userSubmit p v => Sys2Proof.Machine.execUserSubmit p v s
  | .jobStart codes ecc reloads => Sys2Proof.Machine.execJobStart codes ecc reloads s
  | .jobDeadline k => Sys2Proof.Machine.execJobDeadline k s
  | .jobComplete m => Sys2Proof.Machine.execJobComplete m s
  | .grdSensorSample x => Sys2Proof.Machine.execGrdSensorSample x s
  | .meshCheck opens shorts wrong => Sys2Proof.Machine.execMeshCheck opens shorts wrong s
  | .tampActivation n active => Sys2Proof.Machine.execTampActivation n active s
  | .forceSafeN low => Sys2Proof.Machine.execForceSafeN low s
  | .trippedClear p v => Sys2Proof.Machine.execTrippedClear p v s
  | .grdLock p v => Sys2Proof.Machine.execGrdLock p v s
  | .grdUnlock p v => Sys2Proof.Machine.execGrdUnlock p v s
  | .lowdutyWindow temp broken vbat aon light opens shorts wrong => Sys2Proof.Machine.execLowdutyWindow temp broken vbat aon light opens shorts wrong s
  | .codewordDetected machine slot value => Sys2Proof.Machine.execCodewordDetected machine slot value s
  | .trngHealthFail => Sys2Proof.Machine.execTrngHealthFail s
  | .trngRetest pass => Sys2Proof.Machine.execTrngRetest pass s
  | .rngDataRead p => Sys2Proof.Machine.execRngDataRead p s
  | .ldgGroupCommit worn => Sys2Proof.Machine.execLdgGroupCommit worn s
  | .ldgEntryRead p k => Sys2Proof.Machine.execLdgEntryRead p k s
  | .spiNop early bytes => Sys2Proof.Machine.execSpiNop early bytes s
  | .spiRead early bytes => Sys2Proof.Machine.execSpiRead early bytes s
  | .spiWrite early bytes => Sys2Proof.Machine.execSpiWrite early bytes s
  | .twNop addr meets bytes n => Sys2Proof.Machine.execTwNop addr meets bytes n s
  | .twRead addr meets bytes n => Sys2Proof.Machine.execTwRead addr meets bytes n s
  | .twWrite addr meets bytes waits n => Sys2Proof.Machine.execTwWrite addr meets bytes waits n s
  | .twWriteApply => Sys2Proof.Machine.execTwWriteApply s
  | .twTimeout => Sys2Proof.Machine.execTwTimeout s
  | .claimTake p ms code => Sys2Proof.Machine.execClaimTake p ms code s
  | .claimRelease p code => Sys2Proof.Machine.execClaimRelease p code s
  | .claimExpired => Sys2Proof.Machine.execClaimExpired s
  | .bbRead p v => Sys2Proof.Machine.execBbRead p v s
  | .bbPage p v => Sys2Proof.Machine.execBbPage p v s
  | .bbWrite p v => Sys2Proof.Machine.execBbWrite p v s
  | .bbArbLost => Sys2Proof.Machine.execBbArbLost s
  | .bbRetry => Sys2Proof.Machine.execBbRetry s
  | .bbJobDone acked data => Sys2Proof.Machine.execBbJobDone acked data s
  | .bbTimeout => Sys2Proof.Machine.execBbTimeout s
  | .dataAccess p keep write v => Sys2Proof.Machine.execDataAccess p keep write v s
  | .pointerWrite p bank v => Sys2Proof.Machine.execPointerWrite p bank v s
  | .aliasAccess p k write v => Sys2Proof.Machine.execAliasAccess p k write v s
  | .registerWrite p a v => Sys2Proof.Machine.execRegisterWrite p a v s
  | .stickyClear p g v => Sys2Proof.Machine.execStickyClear p g v s
  | .causeClear p hi v => Sys2Proof.Machine.execCauseClear p hi v s
  | .irqPulseEnd b => Sys2Proof.Machine.execIrqPulseEnd b s
  | .obsCtlWrite p mask v => Sys2Proof.Machine.execObsCtlWrite p mask v s
  | .obsMark p v => Sys2Proof.Machine.execObsMark p v s
  | .traceTimeRecord => Sys2Proof.Machine.execTraceTimeRecord s
  | .calBinSaturated n bin => Sys2Proof.Machine.execCalBinSaturated n bin s
  | .zeroisationComplete => Sys2Proof.Machine.execZeroisationComplete s
  | .freeBusTransferStart => Sys2Proof.Machine.execFreeBusTransferStart s
  | .traceWordBoundary => Sys2Proof.Machine.execTraceWordBoundary s

end Sys2Proof.Machine
end

