-- ==== Sys2Proof/Machine/Tick.lean ====
section
/-! DEFINITION. One tick of 800 ps in which no command arrives: what the block's clocks do by themselves. -/

namespace Sys2Proof.Machine

/-- Ticks in 256 cycles of the AON crystal: 256 / 32,768 s in ticks of 800 ps (R78, R639). -/
def crystalTicks : Nat := 9765625

/-- Cycles of the AON crystal in the first `n` ticks of 256 cycles. -/
def aonCycles (n : Nat) : Nat := n * 256 / crystalTicks

/-- A whole second of the transit clock: the key times run (R438, R442), and on VBAT the seconds are counted. -/
def State.aonSecond (s : State) : State :=
  let s1 := s.keySecond
  if s1.onVbat then s1.countSat (wordFld A.PWR_VBAT_SECS) 1 else s1

/-- One tick of AON: the transit clock advances at each cycle of the crystal (R639). -/
def State.aonTick (s : State) : State :=
  if s.pwr.started then
    let n := s.pwr.aonPhase
    let s1 := if aonCycles n < aonCycles (n + 1) then s.aonCycle else s
    let s2 := if s1.tclkSeconds = s.tclkSeconds then s1 else s1.aonSecond
    { s2 with pwr := { s2.pwr with aonPhase := (n + 1) % crystalTicks } }
  else s

/-- One tick of the Tally (R23, R72). -/
def State.tallyTick (s : State) : State := if s.tallyRun then { s with tally := (s.tally + 1) % 2 ^ 64 } else s

/-- One tick of the interface clock. -/
def State.hostTick (s : State) : State :=
  if s.up .host then { s with hif := { s.hif with clock := s.hif.clock + 1 } } else s

/-- What a tick moves: the trace records of the tick enter the FIFO (R776), the microseconds of received pauses count
(R289), the clocks advance, and a snapshot that is due falls at the new boundary (R290). -/
def State.tickMoves (s : State) : State := s.flushTrace.pauseTicks.tallyTick.hostTick.aonTick.snapTick

/-- A tick passes; what it raises reaches the event logic at its end. -/
def State.passTick (s : State) : State := if s.tickMoves.raised = s.raised then s.tickMoves else s.endCycle s.tickMoves

end Sys2Proof.Machine
end

