-- ==== Sys2Proof/WellFormed.lean ====
section
/-! DEFINITION. Well-formed commands: every operand lies in the range the spec gives the thing it names. -/

namespace Sys2Proof

/-- Whether an address lies in the parameter space: banks 0 to 0x17 of 256 words (R708). -/
def isParam (a : Nat) : Bool := decide (a < 0x1800)

/-- Whether a tile code names a tile: 0 to 11 the analog tiles, 16 to 19 the digital ones (field TILE of ARR.CMD). -/
def isTileCode (t : Nat) : Bool := decide (t < 12) || (decide (16 ≤ t) && decide (t < 20))

/-- The command in bits 7:6 of a message's first byte (R665, R671); 0 for a message without bytes. -/
def commandOf : List Byte → Nat
  | [] => 0
  | b :: _ => b.toNat / 64

/-- Whether a command's operands lie in their ranges. -/
def Instr.wf : Instr → Bool
  | .aonStart _ maddr => decide (maddr < 4)
  | .brownout _ => true
  | .coldReset => true
  | .resetRelease maddr => decide (maddr < 4)
  | .warmReset _ _ => true
  | .blockReset _ _ => true
  | .blockResetDone => true
  | .safeEnter _ _ => true
  | .safeRelease _ _ => true
  | .faceLatch _ _ => true
  | .modeReq _ _ => true
  | .riseComplete => true
  | .dropDomain _ _ => true
  | .domainDropped _ => true
  | .domainStarted _ => true
  | .regulatorFault _ _ _ => true
  | .levelReq _ _ => true
  | .levelChangeDone => true
  | .tcapSample => true
  | .sleepReq _ _ => true
  | .wakeRequest _ _ => true
  | .sleepEntryDone => true
  | .wakePin k => decide (k < 4)
  | .wakeAt => true
  | .wakeDone => true
  | .wakeHoldExpired => true
  | .handover vbat _ => decide (vbat < 65536)
  | .vmainLossInS3 => true
  | .vmainReturn maddr => decide (maddr < 4)
  | .vioBankPresent _ _ maddr => decide (maddr < 4)
  | .vioBankAbsent _ => true
  | .faceReadLatch _ _ => true
  | .multiwordHiRead _ a => isParam a
  | .multiwordHiWrite _ a _ => isParam a
  | .rateWrite _ _ _ => true
  | .hostStep _ _ _ => true
  | .pendDeltaWrite _ _ => true
  | .armBank _ _ _ => true
  | .commitDelta _ _ => true
  | .armExpired _ => true
  | .armCodeWrite _ _ _ => true
  | .bankLockWrite _ _ => true
  | .leapSchedule _ _ => true
  | .leapCancel _ _ => true
  | .leapApplied => true
  | .smearWindowOpen => true
  | .smearWindowClose => true
  | .utcOffsetWrite _ _ => true
  | .ovenSample _ _ _ _ _ => true
  | .slowWarmTimeout => true
  | .ovenEnWrite _ _ => true
  | .heaterRampDone => true
  | .pllLocked => true
  | .tickUnlock => true
  | .x32WindowEnd _ _ _ => true
  | .refGateEnd _ => true
  | .thresholdDescriptorWrite _ a _ => isParam a
  | .refEdge n sub k _ _ => decide (n < 8) && decide (sub < 65536) && decide (k < 32)
  | .stampCompose n _ _ => decide (n < 8)
  | .vqRateWindowEnd => true
  | .vqEntryRead _ n => decide (n < 8)
  | .vqFifoRead _ n => decide (n < 8)
  | .vqFlush _ n _ => decide (n < 8)
  | .vcMark _ n _ => decide (n < 8)
  | .vcCtlWrite _ a _ => isParam a
  | .vcDrainDone n => decide (n < 8)
  | .vcIdle n => decide (n < 8)
  | .measureGateEnd m => decide (m < 4)
  | .calRun _ n _ => decide (n < 8)
  | .calTrimOnly _ n _ => decide (n < 8)
  | .calDiscard _ n _ => decide (n < 8)
  | .calAutoStart n => decide (n < 8)
  | .calDue n => decide (n < 8)
  | .calDriftSample n => decide (n < 8)
  | .trimPeriodDue => true
  | .calHitsCollected n quarters => decide (n < 8) && decide (quarters.length = 4) && quarters.all (fun q => decide (q.length = 32))
  | .calNoEdgesTimeout n => decide (n < 8)
  | .trimMeasurementDone n _ _ => decide (n < 8)
  | .dllLocked t => decide (t < 8)
  | .dllUnlock t => decide (t < 8)
  | .dllReacquire _ _ => true
  | .refLos n => decide (n < 8)
  | .netSyncTimeout n => decide (8 ≤ n) && decide (n < 12)
  | .nmeaSentence g line => decide (g < 2) && line.all (fun x => decide (x < 256))
  | .nmeaVerdictExpired g kind => decide (g < 2) && decide (kind < 4)
  | .esmcTimeout n => decide (8 ≤ n) && decide (n < 12)
  | .integVerdictTimeout n => decide (n < 12)
  | .wtrExpired n => decide (n < 12)
  | .selReq _ _ => true
  | .absClear _ _ => true
  | .antCtlWrite _ _ => true
  | .antClr _ _ => true
  | .antRampDone => true
  | .antDischargeDone => true
  | .antRampLimitFail => true
  | .antShortTrip => true
  | .antRetry => true
  | .antCountReset => true
  | .antTempSample _ => true
  | .antCurrentSample _ => true
  | .srvUpdate => true
  | .reacquire _ _ => true
  | .resumeServo _ _ => true
  | .hoRateUpdate => true
  | .hoLimitReached => true
  | .driftRecord => true
  | .predDecayStart => true
  | .histClear _ _ => true
  | .outputEdge n => decide (n < 12)
  | .outputCtlWrite _ n _ => decide (n < 12)
  | .oneshotArm _ n _ => decide (n < 12)
  | .alignOutput _ _ => true
  | .slewAlign _ _ => true
  | .slewStop _ _ => true
  | .disarm _ _ => true
  | .slewDone n => decide (n < 12)
  | .squelchHoldTimeout n => decide (n < 12)
  | .outputDrainDone n => decide (n < 12)
  | .verCtlWrite _ _ => true
  | .verGateEnd => true
  | .pcsSample p _ _ _ _ _ _ _ _ _ => decide (p < 4)
  | .rxFrame p _ bin _ => decide (p < 4) && decide (bin < 32)
  | .rxPauseEnd p => decide (p < 4)
  | .rxbLevelSample p => decide (p < 4)
  | .pauseRepeat p => decide (p < 4)
  | .pauseFrameSend p => decide (p < 4)
  | .txFrameDone p => decide (p < 4)
  | .snapTrig _ _ => true
  | .snapPeriodic => true
  | .holdWindowExpired p => decide (p < 4)
  | .portCtlWrite _ p _ => decide (p < 4)
  | .portDrainDone p => decide (p < 4)
  | .ifCtlWrite _ p e _ => decide (p < 4) && decide (e < 8)
  | .latCalRun _ p _ => decide (p < 4)
  | .latCalDiscard _ p _ => decide (p < 4)
  | .latCalDone p _ _ => decide (p < 4)
  | .latCalNoLoop p => decide (p < 4)
  | .tsSettleMeasure p _ _ => decide (p < 4)
  | .tsSettleSlow p => decide (p < 4)
  | .marginWindowEnd p => decide (p < 4)
  | .slotCommit p => decide (p < 4)
  | .slottedFrameLaunch p bin => decide (p < 4) && decide (bin < 32)
  | .intake => true
  | .sortCtx => true
  | .admitCtx => true
  | .readCtx => true
  | .sealCtx _ => true
  | .launchCtx _ => true
  | .ctxExpired _ => true
  | .hkAnnounce _ _ => true
  | .mbxDataRead _ => true
  | .mbxFlush _ _ => true
  | .pipeCtlWrite _ _ => true
  | .pipeDrainDone => true
  | .ptpAnnounceTx p _ => decide (p < 4)
  | .ptpSyncTx p _ => decide (p < 4)
  | .ptpDelayReqTx p => decide (p < 4)
  | .foreignMasterExpired p _ => decide (p < 4)
  | .preMasterDone p => decide (p < 4)
  | .ucGrantLapse _ => true
  | .ucRequestTx p => decide (p < 4)
  | .smCommit _ _ => true
  | .smManagementTx p => decide (p < 4)
  | .ntsRotate _ _ => true
  | .ntsRetire _ _ => true
  | .ntsWipeAll _ _ => true
  | .ntsAutoRotate => true
  | .ntsRotateRetry => true
  | .ntsRotationSwitch => true
  | .ntsGraceEnd k => decide (k < 8)
  | .mintCmd _ _ => true
  | .mintDone _ => true
  | .admFlush _ _ => true
  | .admLookup _ _ => true
  | .ovrCtlWrite _ o _ => decide (o < 16)
  | .admHashKeyDraw => true
  | .tileEnWrite _ t _ => isTileCode t
  | .tileStarted t => isTileCode t
  | .tileDrainDone t => isTileCode t
  | .rowWriteDone target _ _ => isTileCode target || (decide (28 ≤ target) && decide (target < 32))
  | .tileRecalDone t sums => isTileCode t && sums.all (fun q => decide (q.length = 9))
  | .tileRecalRetry t => isTileCode t
  | .tileRecalDue t => isTileCode t
  | .tileRecalWaitExpired t => isTileCode t
  | .tileCheckDue t => isTileCode t
  | .tileCheckDone t _ _ => isTileCode t
  | .arrRecal _ _ => true
  | .arrCheck _ _ => true
  | .tileReset _ _ => true
  | .modelCtlWrite _ m _ => decide (m < 4)
  | .loadGo _ _ => true
  | .loadAbort _ _ => true
  | .loadDataWrite _ _ => true
  | .jobOffer cls n => decide (cls < 4) && decide (n < 12)
  | .integJobOffer n => decide (n < 12)
  | .abuseBatchOffer => true
  | .userSubmit _ _ => true
  | .jobStart _ _ _ => true
  | .jobDeadline _ => true
  | .jobComplete m => decide (m < 4)
  | .grdSensorSample _ => true
  | .meshCheck opens shorts wrong => decide (opens < 16) && decide (shorts < 16) && decide (wrong < 16)
  | .tampActivation n _ => decide (n < 4)
  | .forceSafeN _ => true
  | .trippedClear _ _ => true
  | .grdLock _ _ => true
  | .grdUnlock _ _ => true
  | .lowdutyWindow _ _ _ _ _ opens shorts wrong => decide (opens < 16) && decide (shorts < 16) && decide (wrong < 16)
  | .codewordDetected machine slot value => decide (machine < 4) && decide (slot < 8) && decide (value < 2 ^ 20)
  | .trngHealthFail => true
  | .trngRetest _ => true
  | .rngDataRead _ => true
  | .ldgGroupCommit _ => true
  | .ldgEntryRead _ k => decide (k < 8)
  | .spiNop _ bytes => commandOf bytes != 1 && commandOf bytes != 2
  | .spiRead _ bytes => commandOf bytes == 1
  | .spiWrite _ bytes => commandOf bytes == 2
  | .twNop addr _ bytes _ => decide (addr < 128) && commandOf bytes != 1 && commandOf bytes != 2
  | .twRead addr _ bytes _ => decide (addr < 128) && commandOf bytes == 1
  | .twWrite addr _ bytes _ _ => decide (addr < 128) && commandOf bytes == 2
  | .twWriteApply => true
  | .twTimeout => true
  | .claimTake _ ms code => decide (1 ≤ ms) && decide (ms ≤ 100) && decide (code < 65536)
  | .claimRelease _ code => decide (code < 65536)
  | .claimExpired => true
  | .bbRead _ _ => true
  | .bbPage _ _ => true
  | .bbWrite _ _ => true
  | .bbArbLost => true
  | .bbRetry => true
  | .bbJobDone _ _ => true
  | .bbTimeout => true
  | .dataAccess _ _ _ _ => true
  | .pointerWrite _ _ _ => true
  | .aliasAccess _ k _ _ => decide (k < 8)
  | .registerWrite _ a _ => isParam a
  | .stickyClear _ g _ => decide (g < 4)
  | .causeClear _ _ _ => true
  | .obsCtlWrite _ _ _ => true
  | .obsMark _ _ => true
  | .traceTimeRecord => true
  | .calBinSaturated n bin => decide (n < 8) && decide (bin < 32)
  | .zeroisationComplete => true
  | .wakePinArmed k => decide (k < 4)
  | .irqPulseEnd _ => true
  | .freeBusTransferStart => true
  | .traceWordBoundary => true

end Sys2Proof
end

