-- ==== Sys2Proof/Safety.lean ====
section
/-! DEFINITION. The terms in which the statements speak of a run: who has the register engine, what two states agree on,
and the invariants that every step keeps. -/

namespace Sys2Proof.Machine

/-- Port `p` has the register engine for a message of its own: HOST answers, and neither the other port's lease nor a
collected two-wire write stands in its way (R600, R667, R678, R682, R791). -/
def State.hostReady (s : State) (p : HostPort) : Bool := s.hostServes && !s.engineBusy p

/-- Every word of `u` at an address that `f` does not hold of is the word of `s`. -/
def State.keptBut (s u : State) (f : Nat → Bool) : Prop := ∀ a, f a = false → u.rd a = s.rd a

/-- Outside the listed banks every word of `u` is the word of `s`. -/
def State.banksKept (s u : State) (banks : List Nat) : Prop := ∀ a, a / 256 ∉ banks → u.rd a = s.rd a

/-- Outside the listed words every word of `u` is the word of `s`. -/
def State.wordsKept (s u : State) (words : List Nat) : Prop := ∀ a, a ∉ words → u.rd a = s.rd a

/-- `t` after port `p`'s write of `v` to the parameter at `a` has taken effect in it: the HOST record (R773, R779) and the
port's result (R667). -/
def State.written (t : State) (p : HostPort) (a : Nat) (v : Word) : State :=
  (t.hostRecord p false a 0 v).setResult p { done := true }

/-- `t` after the engine has discarded port `p`'s write of `v` to the parameter at `a`: the HOST record, REJ_LAST,
REJ_COUNT and PARAM_REJECT (R15, R702), and the port's result. -/
def State.turnedAway (t : State) (p : HostPort) (a : Nat) (v : Word) (r : Reject) : State :=
  ((t.hostRecord p false a r.code v).recordReject p false a r).setResult p { done := true, reject := true }

/-- Port `p` may write the parameter at `a`: it has the engine, the word's domain takes writes, and the bank's lock is
open (R15, R600, R712). -/
def State.mayWrite (s : State) (p : HostPort) (a : Nat) : Bool :=
  s.hostReady p && s.takesWrites (bankDomain (a / 256)) && !s.locked (a / 256)

/-- `t` after port `p`'s read has returned the word `w`. -/
def State.returned (t : State) (p : HostPort) (w : Word) : State :=
  (t.setBytes p (bytesOfWord w)).setResult p { done := true }

/-- Port `p` has originated a message of type `type`: its sequenceId of that type has gone up by 1, and, while fewer than
32 originated contexts are held, the message waits at READ in one more context and ORIG counts it (R344, R353, R374). -/
def State.messageSent (s u : State) (p type : Nat) (duty : Duty) : Prop :=
  (u.ptp p).seqOf type = ((s.ptp p).seqOf type + 1) % 65536 ∧
  (∀ t, t ≠ type → (u.ptp p).seqOf t = (s.ptp p).seqOf t) ∧
  (∀ q, q < 4 → q ≠ p → u.ptp q = s.ptp q) ∧ u.net.ptp.grants = s.net.ptp.grants ∧
  ((s.net.pipe.ctxs.filter (fun x => x.orig)).length < 32 →
    u.net.pipe.ctxs.dropLast = s.net.pipe.ctxs ∧ u.net.pipe.ctxs.length = s.net.pipe.ctxs.length + 1 ∧
    u.net.pipe.ctxs.getLast?.all (fun c => c.orig && c.port == p && c.duty == duty && c.stage == .read &&
      natAt c.msg 0 1 % 16 == type && natAt c.msg 30 2 == (s.ptp p).seqOf type % 65536 &&
      natAt c.msg 20 10 == s.portIdentity p) = true ∧
    u.val A.PIPE_ORIG = (s.val A.PIPE_ORIG + 1) % 2 ^ 32) ∧
  (32 ≤ (s.net.pipe.ctxs.filter (fun x => x.orig)).length →
    u.net.pipe.ctxs = s.net.pipe.ctxs ∧ u.val A.PIPE_ORIG = s.val A.PIPE_ORIG) ∧
  s.wordsKept u [A.PIPE_ORIG] ∧ u = { s with regs := u.regs, net := u.net, grd := u.grd }

/-- The words in which a sample of the Guard's sensors is recorded (R545). -/
def sensorWords : SensorSample → List (Nat × Word)
  | .die t0 t1 t2 t3 =>
    [(A.GRD_TEMP_D 0, wordOfInt (spanTemp t0)), (A.GRD_TEMP_D 1, wordOfInt (spanTemp t1)),
      (A.GRD_TEMP_D 2, wordOfInt (spanTemp t2)), (A.GRD_TEMP_D 3, wordOfInt (spanTemp t3))]
  | .package t _ => [(A.GRD_TEMP_PKG, wordOfInt (spanTemp t))]
  | .vmain mv => [(A.GRD_V_MAIN, wordOf (min 6000 mv))]
  | .vheat mv => [(A.GRD_V_HEAT, wordOf (min 6000 mv))]
  | .vbat mv => [(A.GRD_V_BAT, wordOf (min 6000 mv))]
  | .core mv => [(A.GRD_V_CORE, wordOf (min 1200 mv))]
  | .aonRail mv => [(A.GRD_V_AON, wordOf (min 1200 mv))]
  | .light code => [(A.GRD_LIGHT, wordOf (min 1023 code))]

/-- A wrapping counter field has counted one (R10). -/
def State.counted (s u : State) (f : Fld) : Prop := u.get f = (s.get f + 1) % 2 ^ f.width

/-- What an access to the host's side leaves as it was: every word but those listed, and every part of the state but the
host interface and the trace records. -/
def State.hostKept (s u : State) (words : List Nat) : Prop :=
  s.wordsKept u words ∧ u = { s with regs := u.regs, obs := u.obs, hif := u.hif }

/-- The same for an effect that raises an event. -/
def State.hostKeptEv (s u : State) (words : List Nat) : Prop :=
  s.wordsKept u words ∧ u = { s with regs := u.regs, obs := u.obs, hif := u.hif, raised := u.raised }

/-- Whether a port may take a lease again: its own last one ended at least 1 ms ago (R681). -/
def State.rested (s : State) (p : HostPort) : Bool :=
  match (s.port p).leaseEnd with
  | none => true
  | some e => decide (e + 1250000 ≤ s.hif.clock)

/-- `s` after port `p`'s words CMD and CMD_ARG have been taken, as their message ends (R704). -/
def State.cmdWords (s : State) (p : HostPort) (code : Nat) (arg : Word) : State :=
  let s1 := s.hostRecord p true 0x10 0 (wordOf code)
  ((s1.setPort p { s1.port p with cmdArg := arg }).hostRecord p true 0x11 0 arg).setResult p { done := true }

/-- Port `p` may send a command: it has the engine, and no command is in progress (R704, R706). -/
def State.cmdReady (s : State) (p : HostPort) : Bool := s.hostReady p && !s.cmdBusy && s.hif.cmdLatched.isNone

/-- What CMD_STATUS says when a command has ended (R706): its code, DONE (2) or REFUSED (3), its reason, and SEQ one on. -/
def State.cmdEnded (s u : State) (code state reason : Nat) : Prop :=
  bitsAt (u.val cmdStatusAddr) 0 8 = code ∧ bitsAt (u.val cmdStatusAddr) 8 2 = state ∧
    bitsAt (u.val cmdStatusAddr) 12 4 = reason ∧
    bitsAt (u.val cmdStatusAddr) 16 16 = (bitsAt (s.val cmdStatusAddr) 16 16 + 1) % 65536

/-- What the power sequencer's own commands leave as it was outside AON's power words. -/
def State.powerKept (s u : State) : Prop :=
  s.banksKept u [1] ∧ u = { s with regs := u.regs, raised := u.raised, pwr := u.pwr }

/-- The header of an SPI message: command, window word, LEN and their CRC-8 (R664 to R666). -/
def spiHeader (cmd w len : Nat) : List Byte :=
  let h : List Byte := [BitVec.ofNat 8 (cmd * 64), BitVec.ofNat 8 w, BitVec.ofNat 8 (len / 256), BitVec.ofNat 8 len]
  h ++ [BitVec.ofNat 8 (crc8 h)]

/-- The write phase of a two-wire message after its address, with its PEC where PEC_EN is 1 (R671, R672). -/
def State.twPhase (s : State) (cmd w len : Nat) (data : List Byte) : List Byte :=
  let h : List Byte :=
    [BitVec.ofNat 8 (cmd * 64), BitVec.ofNat 8 w, BitVec.ofNat 8 (len / 256), BitVec.ofNat 8 len] ++ data
  if s.bit F.HIF_TW_CTL_PEC_EN then h ++ [BitVec.ofNat 8 (crc8 (s.twAddrByte false :: h))] else h

/-- A word that follows its row of the register map: mapped, writable, not locked, outside TB, without WA fields, and
without a rule of its own, in a bank that takes writes. -/
def State.plainWord (s : State) (p : HostPort) (a : Nat) (v : Word) : Bool :=
  match rowAt a with
  | none => false
  | some r =>
    decide (a < 0x1800) && a / 256 != 3 && s.takesWrites (bankDomain (a / 256)) && r.writable != 0 && r.wa == 0 &&
      !(r.writesTo r.rl (s.val a) v.toNat && s.locked (a / 256)) && (descriptorAt a).isNone && (multiAt a).isNone &&
      (s.bankWrite p (a / 256) (a % 256) v.toNat).isNone

/-- The Guard's configuration words that its lock protects (R557): CFG, the threshold descriptors, TAMP_CFG. -/
def guardLocks (a : Nat) : Bool :=
  (List.range 25).any (fun x => a == A.GRD_Sx_CFG x) || (decide (0x1660 ≤ a) && decide (a < 0x1684)) || a == A.GRD_TAMP_CFG

/-- One more event of a Guard source, as its saturating count shows it (R547, R569). -/
def State.oneMoreEvent (s u : State) (x : Nat) : Prop :=
  u.get (F.GRD_Sx_COUNT_EVENTS x) = min (2 ^ 24 - 1) (s.get (F.GRD_Sx_COUNT_EVENTS x) + 1)

/-- What a sample of the Guard leaves as it was: every word outside bank GRD (which holds the Ledger's words) but the
transit clock's y, the committed Ledger entries, and the state of every other block but the mode, the power votes, the
trace records and the servo's filtered package temperature (R200). -/
def State.guardKept (s u : State) : Prop :=
  s.keptBut u (fun a => a / 256 == 0x16 || a == A.PWR_TCLK_Y) ∧ u.ldg.slots = s.ldg.slots ∧
    u = { s with
      regs := u.regs, raised := u.raised, obs := u.obs, pwr := u.pwr, mode := u.mode, grd := u.grd, ldg := u.ldg
      srv := { s.srv with theta := u.srv.theta } }

/-- The registers' canonical form: addresses strictly rising, and no word listed at its reset value. -/
def RegFile.wf : RegFile → Bool
  | [] => true
  | [x] => x.2 != resetWord x.1
  | x :: y :: l => x.2 != resetWord x.1 && decide (x.1 < y.1) && RegFile.wf (y :: l)

/-- The Ledger as R575 and R576 build it: every entry carries its slot number as SEQ and, as CHAIN, the first 12 bytes of
the SHA-256 of the entry before it and its own first 20 bytes. -/
def ledgerChained (slots : List LedgerSlot) : Prop :=
  ∀ k b, slots[k]? = some (.entry b) →
    b.length = 32 ∧ b.take 2 = beBytes 2 k ∧ b.drop 20 = (sha256 (lastEntry (slots.take k) ++ b.take 20)).take 12

/-- The Ledger's invariant: no more than its 4,096 slots, and the chain of R575 and R576. -/
def State.ledgerSound (s : State) : Prop := s.ldg.slots.length ≤ ledgerSlots ∧ ledgerChained s.ldg.slots

/-- The event logic between commands: every event of the last engine cycle has been committed, no reserved event is
sticky, and a release pulse runs only on a line that is due (R720, R728, R733). -/
def State.eventsSettled (s : State) : Prop :=
  s.raised = [] ∧ s.evt.sticky &&& eventMask = s.evt.sticky ∧
    (s.evt.pulseA = true → s.irqDue false = true) ∧ (s.evt.pulseB = true → s.irqDue true = true)

end Sys2Proof.Machine
end

