-- ==== Sys2Proof/Certificates/Slice0/Obligations.lean ====
section
/-! DEFINITION. The statements for the provers. `s.after u` is what follows a command whose own effect on `s` is `u`: the
reactions of the other units and the end of the engine cycle (Machine/React.lean); `s.still u` is the end of the cycle
alone. A statement names the whole own effect `u` and what it leaves as it was; AfterReach says what can still follow. -/

open Sys2Proof Sys2Proof.Machine


/-- For every command c and state s, a step with c at the front of the queue is exec of c on the state with the
queue's rest. With an empty queue the step is one tick of 800 ps (the model's choice, log entry 1): it always answers
a next state; the Tally counts by one exactly while it runs, and nothing but the clocks, the trace FIFO, the key
times, the time on VBAT, the microseconds of received pauses and a snapshot that is due moves; with no received pause
running and no snapshot due, no port moves and no event is raised. From 00_scope.md: The blocks,
01_tally_and_faces.md: The Tally and its eras. -/
def Obligations.StepTakesTheFront : Prop :=
  (∀ (s : State) (c : Instr) (rest : List Instr),
    step { s with pending := c :: rest } = exec c { s with pending := rest }) ∧
  (∀ s : State, s.pending = [] → ∀ u, u = s.passTick → step s = .next u ∧
    (s.tallyRun = true → u.tally = (s.tally + 1) % 2 ^ 64) ∧ (s.tallyRun = false → u.tally = s.tally) ∧
    u = { s with
      regs := u.regs, tally := u.tally, hif := u.hif, pwr := u.pwr, obs := u.obs, raised := u.raised, evt := u.evt
      net := { s.net with ports := u.net.ports, snapDue := u.net.snapDue, snapLast := u.net.snapLast } } ∧
    ((∀ p, p < 4 → s.bit (F.MAC_STAT_PAUSED p) = false) → s.net.snapDue = false →
      u.net = s.net ∧ u.raised = s.raised ∧ u.evt = s.evt))

/-- For every state, a step answers a next state, and in it: the queue is the rest of the queue; if every register
word is listed at most once, in rising order and only away from its reset value, this stays so; if the events of the
last cycle are committed, no reserved event is sticky and a release pulse runs only on a due line, this stays so; and
while the Tally runs, it stays as it is at a command, counts by one at a tick, or restarts at 0 together with the
increment of the era. From 01_tally_and_faces.md: The Tally and its eras, 22_events.md: Raising, pending and clearing,
R23, R720, R728, R733. -/
def Obligations.StepsAnswerAndKeepTheInvariants : Prop :=
  ∀ s : State, ∃ t, step s = .next t ∧ t.pending = s.pending.tail ∧
    (s.regs.wf = true → t.regs.wf = true) ∧
    (s.eventsSettled → t.eventsSettled) ∧
    (s.tallyRun = true →
      (t.tally = s.tally ∧ s.pending ≠ []) ∨ (t.tally = (s.tally + 1) % 2 ^ 64 ∧ s.pending = []) ∨
        (t.tally = 0 ∧ t.era = (s.era + 1) % 65536))

/-- For every state and every step: the committed slots of the Ledger before the step are the first slots after it,
whatever the command is, a reset or a zeroisation among them; and if before the step the Ledger has at most 4,096
slots and every entry carries its slot number as SEQ and the first 12 bytes of the SHA-256 of the entry before it and
its own first 20 bytes as CHAIN, then this holds after the step. From 17_ledger.md: Entries and the chain,
17_ledger.md: Writing and atomicity, R575, R576, R580, R583. -/
def Obligations.LedgerIsAppendOnlyAndChained : Prop :=
  ∀ s t : State, step s = .next t →
    s.ldg.slots <+: t.ldg.slots ∧ (s.ledgerSound → t.ledgerSound)

/-- Right after reset no command waits, every register reads its reset value, only AON is on and not yet started, the
Ledger has no entry, no reservation, lease, latch, job, context, key or flow is held, the Tally is 0, and the
registers, the events and the Ledger meet the invariants that every step keeps. From 19_sleep_wake_cell.md,
17_ledger.md: Entries and the chain, 22_events.md: Across domains and resets. -/
def Obligations.ResetHoldsTheInvariants : Prop :=
  State.reset.pending = [] ∧ (∀ a, State.reset.rd a = resetWord a) ∧ State.reset.tally = 0 ∧
    State.reset.pwr.started = false ∧ State.reset.ldg.slots = [] ∧ State.reset.net.pipe.ctxs = [] ∧
    (∀ k, k < 8 → State.reset.keyOf k = none) ∧ State.reset.net.adm.flows = [] ∧ State.reset.arr.queue = [] ∧
    State.reset.arr.running = [] ∧ State.reset.regs.wf = true ∧ State.reset.eventsSettled ∧ State.reset.ledgerSound

/-- LDG_GROUP_COMMIT with no event queued, or with AON not started, changes no slot. With an event at the head of the
queue, the event leaves the queue and is summed up for its source. Whatever slots are worn, the slots that were there
stay and LDG.BAD_SLOTS counts the worn ones. With no worn slot and room below slot 4,095, its entry and, where it has
one, its continuation stand behind the slots that were there. When the group would extend beyond slot 4,094 the Ledger
has 4,096 slots after the commit and LDG_FULL is raised; a full Ledger keeps its slots, and the event counts as
unwritten. From 17_ledger.md: Writing and atomicity, R577, R580, R583, R584, R585, R586. -/
def Obligations.GroupsAreCommitted : Prop :=
  ∀ s : State,
    (∀ worn, (s.ldg.queue = [] ∨ s.pwr.started = false) → exec (.ldgGroupCommit worn) s = .next (s.endCycle s)) ∧
    (s.pwr.started = true → ∀ e, s.ldg.queue.head? = some e → ∀ worn : List Bool,
      ∀ u, u = { s.commitGroup worn with pending := s.pending } →
      exec (.ldgGroupCommit worn) s = .next (s.endCycle u) ∧ u.ldg.queue = s.ldg.queue.tail ∧
      s.wordsKept u [A.LDG_BAD_SLOTS] ∧ u = { s with regs := u.regs, ldg := u.ldg, raised := u.raised } ∧
      (u.ledgerSum e.src).count = satAdd (2 ^ 32 - 1) (s.ledgerSum e.src).count 1 ∧
      (∀ x, x ≠ e.src → u.ledgerSum x = s.ledgerSum x) ∧ s.ldg.slots <+: u.ldg.slots ∧
      u.val A.LDG_BAD_SLOTS = (s.val A.LDG_BAD_SLOTS + wornFrom s.ldg.slots.length u.ldg.slots) % 2 ^ 32 ∧
      (worn.all (fun w => !w) = true → s.ldg.slots.length + e.bodies.length ≤ 4095 →
        u.ldg.slots = e.bodies.foldl appendEntry s.ldg.slots ∧
        u.ldg.slots.length = s.ldg.slots.length + e.bodies.length ∧
        (u.ledgerSum e.src).unwritten = (s.ledgerSum e.src).unwritten ∧
        (s.ldg.slots.length < 3840 → 3840 ≤ u.ldg.slots.length → Ev.LDG_NEAR ∈ u.raised)) ∧
      (worn.all (fun w => !w) = true → 4095 < s.ldg.slots.length + e.bodies.length → s.ldg.slots.length < 4096 →
        u.ldg.slots.length = 4096 ∧ Ev.LDG_FULL ∈ u.raised ∧
        (u.ledgerSum e.src).unwritten = satAdd (2 ^ 32 - 1) (s.ledgerSum e.src).unwritten 1) ∧
      (4096 ≤ s.ldg.slots.length → u.ldg.slots = s.ldg.slots ∧
        (u.ledgerSum e.src).unwritten = satAdd (2 ^ 32 - 1) (s.ledgerSum e.src).unwritten 1))

/-- For every state, every host port and every address, the word that a read returns is the same whatever keys stand
in the eight NTS slots, in a rotation under way and in the draw of the hash key, and the same is true of a port's mint
words and of a queue entry: no register returns key material. From 12_ntp_and_nts.md: Key slots and generations, R437.
-/
def Obligations.NoReadReturnsKeys : Prop :=
  ∀ (s : State) (keys : Vector (Option Nat) 8) (p : HostPort) (a k : Nat), ∀ t,
    t = { s with net := { s.net with nts := { s.net.nts with
        keys := keys, rotation := s.net.nts.rotation.map (fun (r : Nat × Nat × Bool) => (r.1, k, r.2.2)) } } } →
    t.liveWord p a = s.liveWord p a ∧ (t.mintPop p).1 = (s.mintPop p).1 ∧ t.mailPop.1 = s.mailPop.1 ∧
      ∀ n, (t.vqPop p n).1 = (s.vqPop p n).1 ∧ (t.vqFifo p n).1 = (s.vqFifo p n).1

/-- For a state s and the state u after a command's own effect on it: what follows leaves the queue and the committed
Ledger slots of s, keeps the Tally while it runs, and commits every event. Unless the power sequencer has something to
do, it changes no word of the banks HIF, PWR, EVT, SNAP, ARR and its window, nor of TB while OVEN is down, and no part
of the host interface, the arms, the power state, the tiles, jobs and images. From 20_host_ports.md: The register
engine, 22_events.md: Raising, pending and clearing. -/
def Obligations.AfterReach : Prop :=
  ∀ s u : State, ∀ t, t = s.after u →
    t.pending = s.pending ∧ t.ldg.slots = s.ldg.slots ∧ t.raised = [] ∧
    (s.tallyRun = true → u.tallyRun = true → t.tallyRun = true → t.tally = s.tally) ∧
    (∀ r, r = s.ntpReact (s.clockReact (s.outReact
        (s.timeReact (s.portReact (s.zeroReact (s.modeReact u))).ptpReact).ovenReact).ptpReact) →
      r.powerQuiet = true →
      t.hif = u.hif ∧ t.arms = u.arms ∧ t.pwr = u.pwr ∧ t.arr = u.arr ∧ t.meas.size = 4 ∧
      (∀ b, b ∈ [0x00, 0x01, 0x02, 0x0F, 0x14, 0x15] → ∀ w, w < 256 → t.rd (b * 256 + w) = u.rd (b * 256 + w)) ∧
      (u.up .oven = false → ∀ w, w < 256 → t.rd (0x300 + w) = u.rd (0x300 + w)) ∧
      (s.modeNow = u.modeNow → s.baseMode = u.baseMode → t.vc = u.vc ∧ t.cal = u.cal ∧ t.meas = u.meas))

/-- With the register engine free for port p: while LOCKED is 1, a write to a CFG word, to a threshold descriptor word
or to TAMP_CFG is discarded as locked with nothing else changed, but that a discarded DWELL empties the port's hold of
that descriptor; and GRD_LOCK with bit 0 set completes with LOCKED set and nothing else changed. Formalises R557. -/
def Obligations.GuardLockDiscardsAndSets : Prop :=
  ∀ (s : State) (p : HostPort) (v : Word), s.hostReady p = true →
    (s.bit F.GRD_STAT_LOCKED = true →
      ∀ a, guardLocks a = true → ∀ h, h = (if appliedHolds a = [] then s else s.dropHolds p (appliedHolds a)) →
        exec (.registerWrite p a v) s = .next (s.after (h.turnedAway p a v .locked))) ∧
    (bitOf v.toNat 0 = true →
      exec (.grdLock p v) s = .next (s.after ((s.setBit F.GRD_STAT_LOCKED true).written p A.GRD_LOCK v)))

/-- With the register engine free for port p and LOCKED 1, GRD_UNLOCK with bit 0 clear: while port p holds the arming
of GRD it completes with the arming consumed, LOCKED cleared, UNLOCK_SEEN set, GRD_UNLOCK raised and a Ledger entry of
source 37, event 1 queued; without the arming the write is discarded as unarmed. Formalises R558. -/
def Obligations.GuardUnlockNeedsArming : Prop :=
  ∀ (s : State) (p : HostPort) (v : Word), s.hostReady p = true → s.bit F.GRD_STAT_LOCKED = true → bitOf v.toNat 0 = false →
    (s.armedFor p .grd = true →
      exec (.grdUnlock p v) s = .next (s.after ((((((s.disarm .grd).setBit F.GRD_STAT_LOCKED false).setBit
        F.GRD_STAT_UNLOCK_SEEN true).raise Ev.GRD_UNLOCK).ledger 37 1 [] none).written p A.GRD_LOCK v))) ∧
    (s.armedFor p .grd = false →
      exec (.grdUnlock p v) s = .next (s.after (s.turnedAway p A.GRD_LOCK v .unarmed)))

/-- GRD_SENSOR_SAMPLE and MESH_CHECK while the Guard is awake and LOWDUTY_WINDOW in a battery window each complete;
every sampled quantity is recorded in its word, a mesh fault counts one event of MESH, the window counter advances
modulo 8, and no state outside the Guard, the Ledger, the mode, the power votes, the trace and the servo's filtered
package temperature changes, nor any word outside bank GRD but PWR.TCLK_Y. From 16_guard.md: Sensors, R545, R546,
R547, R566, R567. -/
def Obligations.GuardSamplesAreRecorded : Prop :=
  ∀ s : State, s.pwr.started = true →
    (∀ x, s.windowed = false → ∀ u, u = s.sensor x →
      exec (.grdSensorSample x) s = .next (s.after u) ∧ (∀ w ∈ sensorWords x, u.rd w.1 = w.2) ∧ s.guardKept u) ∧
    (∀ o k w, o < 16 → k < 16 → w < 16 → s.windowed = false → ∀ u, u = s.meshCheck o k w →
      exec (.meshCheck o k w) s = .next (s.after u) ∧ u.val A.GRD_MESH = o + k * 16 + w * 256 ∧
        (o + k + w ≠ 0 → s.oneMoreEvent u 12) ∧ (o + k + w = 0 → s.wordsKept u [A.GRD_MESH]) ∧ s.guardKept u) ∧
    (∀ t b vb ao li o k w, s.windowed = true → ∀ u, u = s.batteryWindow t b vb ao li (o, k, w) →
      exec (.lowdutyWindow t b vb ao li o k w) s = .next (s.after u) ∧ u.rd A.GRD_TEMP_PKG = wordOfInt (spanTemp t) ∧
        u.val A.GRD_V_BAT = min 6000 vb ∧ u.val A.GRD_V_AON = min 1200 ao ∧ u.val A.GRD_LIGHT = min 1023 li ∧
        u.grd.windows = (s.grd.windows + 1) % 8 ∧ u.grd.tampLatch = Vector.replicate 4 false ∧
        u.grd.forceLatch = false ∧ s.guardKept u)

/-- With AON started: TAMP_ACTIVATION (n below 4) and FORCE_SAFE_N complete. An activation while the Guard is awake
counts one event of its source and leaves no latch set; in battery windows it is only latched; an input that goes
inactive changes its level and nothing else. From 16_guard.md: Sources, R544, R566, R574. -/
def Obligations.TamperInputsAreLatched : Prop :=
  ∀ s : State, s.pwr.started = true →
    (∀ n, n < 4 → s.windowed = false → ∀ u, u = s.tampInput n true →
      exec (.tampActivation n true) s = .next (s.after u) ∧ s.oneMoreEvent u (13 + n) ∧
        u.grd.tampActive[n]? = some true ∧ u.grd.tampLatch = Vector.replicate 4 false ∧ s.guardKept u) ∧
    (∀ n, n < 4 → s.windowed = true →
      exec (.tampActivation n true) s = .next (s.after ({ s with grd := { s.grd with
        tampActive := s.grd.tampActive.setIfInBounds n true
        tampLatch := s.grd.tampLatch.setIfInBounds n true } } : State))) ∧
    (∀ n, n < 4 →
      exec (.tampActivation n false) s = .next (s.after ({ s with grd := { s.grd with
        tampActive := s.grd.tampActive.setIfInBounds n false } } : State))) ∧
    (s.windowed = false → ∀ u, u = s.forceInput true →
      exec (.forceSafeN true) s = .next (s.after u) ∧ s.oneMoreEvent u 17 ∧ u.grd.forceLow = true ∧
        u.grd.forceLatch = false ∧ s.guardKept u) ∧
    (s.windowed = true →
      exec (.forceSafeN true) s = .next (s.after ({ s with grd := { s.grd with forceLow := true, forceLatch := true } } : State))) ∧
    exec (.forceSafeN false) s = .next (s.after ({ s with grd := { s.grd with forceLow := false } } : State))

/-- With the register engine free for port p, TRIPPED_CLEAR completes: each trip bit below 25 stays set unless the
write has a 1 there and the source may be cleared (no event in its last W samples, input inactive, TB sound); no other
word and no other state changes. From 16_guard.md: Counting, tripping and clearing, R549, R550. -/
def Obligations.TripsClearOnlyWhenQuiet : Prop :=
  ∀ (s : State) (p : HostPort) (v : Word), s.hostReady p = true → ∀ u, u = s.writeTripped v.toNat →
    exec (.trippedClear p v) s = .next (s.after (u.written p A.GRD_TRIPPED v)) ∧
      (∀ x, x < 25 → u.tripped x = (s.tripped x && !(bitOf v.toNat x && s.tripClears x))) ∧
      s.wordsKept u [A.GRD_TRIPPED] ∧ u = { s with regs := u.regs }

/-- With AON started: CODEWORD_DETECTED with a value that is no codeword of its machine completes with machine, slot
and value in CW_LAST, CW_SEEN set, GRD_CODEWORD raised and one more event of CODEWORD, and the key of an affected key
slot gone; with a codeword of the machine it changes nothing. From 16_guard.md: Configuration lock, R560, R561, R449.
-/
def Obligations.CodewordsAreChecked : Prop :=
  ∀ (s : State) (m k w : Nat), s.pwr.started = true → m < 4 → k < 8 → w < 2 ^ 20 →
    ((codewords m).contains w = false → ∀ u, u = s.codeword m k w →
      exec (.codewordDetected m k w) s = .next (s.after u) ∧
        u.val A.GRD_CW_LAST = w + m * 2 ^ 24 + (if m = 2 then k else 0) * 2 ^ 28 ∧
        u.bit F.GRD_STAT_CW_SEEN = true ∧ Ev.GRD_CODEWORD ∈ u.raised ∧ s.oneMoreEvent u 22 ∧
        (m = 2 → u.net.nts.keys.getD k none = none) ∧ u.ldg.slots = s.ldg.slots ∧ u.vc = s.vc ∧ u.arr = s.arr) ∧
    ((codewords m).contains w = true → exec (.codewordDetected m k w) s = .next (s.after s))

/-- With AON started: TRNG_HEALTH_FAIL clears RNG_OK and counts an event of TRNG_FAIL; TRNG_RETEST while RNG_OK is 0
sets RNG_OK at a pass, a sample without event, and counts one more event at a failure; RNG_DATA_READ by a port that
has the engine returns the next word of the host instance while RNG_OK is 1 and 0 while it is 0; ZEROISATION_COMPLETE
returns the Guard to WATCH or LOWDUTY and changes nothing else. From 16_guard.md: The true random source, R554, R562,
R563, R565. -/
def Obligations.RandomSourceHealth : Prop :=
  ∀ s : State, s.pwr.started = true →
    (∀ u, u = (s.put F.GRD_STAT_RNG_OK 0).guardSample 24 true 0 →
      exec .trngHealthFail s = .next (s.after u) ∧ u.rngOk = false ∧ s.oneMoreEvent u 24 ∧ s.guardKept u) ∧
    (s.rngOk = false → s.up .pipe = false →
      exec (.trngRetest true) s = .next (s.after ((s.put F.GRD_STAT_RNG_OK 1).guardSample 24 false 0))) ∧
    (s.rngOk = false → s.up .pipe = true →
      exec (.trngRetest true) s = .next (s.after ((s.put F.GRD_STAT_RNG_OK 1).guardSample 24 false 0).drawHashKey)) ∧
    (s.rngOk = true → ∀ b, exec (.trngRetest b) s = .next (s.after s)) ∧
    (s.rngOk = false → ∀ u, u = s.guardSample 24 true 0 →
      exec (.trngRetest false) s = .next (s.after u) ∧ u.rngOk = false ∧ s.oneMoreEvent u 24 ∧ s.guardKept u) ∧
    (∀ p, s.hostReady p = true → s.rngOk = true →
      exec (.rngDataRead p) s = .next (s.still (({ s with grd := { s.grd with hostReads := s.grd.hostReads + 1 } } : State).returned
        p (Config.hostRandom s.grd.hostReads)))) ∧
    (∀ p, s.hostReady p = true → s.rngOk = false → exec (.rngDataRead p) s = .next (s.still (s.returned p 0))) ∧
    (s.get F.GRD_STAT_FSM = fsmZeroising →
      exec .zeroisationComplete s = .next (s.after (s.put F.GRD_STAT_FSM (if s.windowed then fsmLowduty else fsmWatch)))) ∧
    (s.get F.GRD_STAT_FSM ≠ fsmZeroising → exec .zeroisationComplete s = .next (s.after s))

/-- With HOST answering: while the engine is free for SPI, and HCS_N does not fall while it is still at the message
before, a whole NOP completes with DONE counted; a whole READ fetches its words in order and sends them with their
CRC-16; a whole WRITE with a good CRC-16 applies its words in order; while the engine is busy, or still at the message
before, each of the three only counts BUSY and sends the status byte. From 20_host_ports.md: SPI host port, R660,
R661, R664, R665, R666, R668, R678, R692. -/
def Obligations.SpiMessagesRun : Prop :=
  ∀ (s : State) (early : Bool) (w : Nat) (tail : List Byte), s.hostServes = true → w < 64 →
    ((s.engineBusy .spi || (early && s.stillUsed)) = false →
      (∀ bs, bs = spiHeader 0 w 0 ++ tail →
        exec (.spiNop early bs) s = .next (s.still (((s.setBytes .spi (sentBytes bs.length [s.statusByte .spi false])).setResult
          .spi { done := true }).count F.HIF_SPI_CNT_A_DONE 1))) ∧
      (∀ k, 1 ≤ k → k ≤ 1024 → spanOk w k = true → ∀ bs, bs = spiHeader 1 w (4 * k) ++ tail → 8 + 4 * k ≤ bs.length →
        ∀ x, x = (s.setBytes .spi (sentBytes bs.length [s.statusByte .spi false])).fetchWords .spi w k →
        exec (.spiRead early bs) s = .next (s.after (((x.2.setBytes .spi (sentBytes bs.length (s.statusByte .spi false ::
          List.replicate 5 0 ++ x.1.flatMap bytesOfWord ++ beBytes 2 (crc16 (x.1.flatMap bytesOfWord))))).setResult .spi
          { done := true }).count F.HIF_SPI_CNT_A_DONE 1))) ∧
      (∀ vs : List Word, 1 ≤ vs.length → vs.length ≤ 1024 → spanOk w vs.length = true →
        ∀ bs, bs = spiHeader 2 w (4 * vs.length) ++ vs.flatMap bytesOfWord ++ beBytes 2 (crc16 (vs.flatMap bytesOfWord)) ++ tail →
        exec (.spiWrite early bs) s = .next (s.after ((s.setBytes .spi (sentBytes bs.length [s.statusByte .spi
          false])).applyWrite .spi w vs F.HIF_SPI_CNT_A_DONE)))) ∧
    ((s.engineBusy .spi || (early && s.stillUsed)) = true →
      ∀ bs u, u = (s.setBytes .spi (sentBytes bs.length [s.statusByte .spi true])).count F.HIF_SPI_CNT_A_BUSY 1 →
      exec (.spiNop early bs) s = .next (s.still u) ∧ exec (.spiRead early bs) s = .next (s.after u) ∧
        exec (.spiWrite early bs) s = .next (s.after u))

/-- With HOST answering, the target addressed and the engine free for it: a whole NOP completes; a READ fetches its
words and answers with status, data and PEC; a WRITE is applied at once, or is held whole while an SPI message has the
engine and applied by TW_WRITE_APPLY; an address that meets an SPI message is not acknowledged, which is counted, and
nothing is fetched or applied, but that a WRITE met at the address of a read phase is applied; TW_TIMEOUT with TMO_EN
counts a refused message and changes nothing else. From 20_host_ports.md: Two-wire management target, R671, R672,
R673, R674, R675, R676, R679, R693. -/
def Obligations.TwoWireMessagesRun : Prop :=
  ∀ (s : State) (w n : Nat), s.hostReady .twoWire = true → s.hif.madd.isSome = true → s.twAddr < 128 → w < 64 →
    ∀ nacked, nacked = s.count F.HIF_TW_CNT_A_NACKED 1 →
    exec (.twNop s.twAddr .nothing (s.twPhase 0 w 0 []) n) s = .next (s.still (((s.setBytes .twoWire (sentBytes n (s.twReply
      (s.twPhase 0 w 0 []) (s.statusByte .twoWire false) []))).setResult .twoWire { done := true }).count F.HIF_TW_CNT_A_DONE 1)) ∧
    exec (.twNop s.twAddr .readAddress (s.twPhase 0 w 0 []) n) s = .next (s.still nacked) ∧
    (∀ bs waits, exec (.twNop s.twAddr .address bs n) s = .next (s.still nacked) ∧
      exec (.twRead s.twAddr .address bs n) s = .next (s.after nacked) ∧
      exec (.twWrite s.twAddr .address bs waits n) s = .next (s.after nacked)) ∧
    (∀ k, 1 ≤ k → k ≤ 64 → spanOk w k = true →
      (∀ x, x = (s.useEngine k 2500).fetchWords .twoWire w k →
        exec (.twRead s.twAddr .nothing (s.twPhase 1 w (4 * k) []) n) s = .next (s.after (((x.2.setBytes .twoWire (sentBytes n
          (s.twReply (s.twPhase 1 w (4 * k) []) (s.statusByte .twoWire false) (x.1.flatMap bytesOfWord)))).setResult .twoWire
          { done := true }).count F.HIF_TW_CNT_A_DONE 1))) ∧
      exec (.twRead s.twAddr .readAddress (s.twPhase 1 w (4 * k) []) n) s = .next (s.after nacked)) ∧
    (∀ vs : List Word, 1 ≤ vs.length → vs.length ≤ 64 → spanOk w vs.length = true →
      ∀ bs, bs = s.twPhase 2 w (4 * vs.length) (vs.flatMap bytesOfWord) →
      exec (.twWrite s.twAddr .nothing bs false n) s = .next (s.after ((s.setBytes .twoWire (sentBytes n (s.twReply bs
        (s.statusByte .twoWire false) []))).applyWrite .twoWire w vs F.HIF_TW_CNT_A_DONE)) ∧
      exec (.twWrite s.twAddr .readAddress bs false n) s =
        .next (s.after (nacked.applyWrite .twoWire w vs F.HIF_TW_CNT_A_DONE)) ∧
      exec (.twWrite s.twAddr .nothing bs true 0) s = .next (s.after
        ({ s with hif := { s.hif with twWrite := some { window := w, words := vs } } } : State)) ∧
      exec .twWriteApply ({ s with hif := { s.hif with twWrite := some { window := w, words := vs } } } : State) =
        .next (({ s with hif := { s.hif with twWrite := some { window := w, words := vs } } } : State).after
          (s.applyWrite .twoWire w vs F.HIF_TW_CNT_A_DONE))) ∧
    (s.bit F.HIF_TW_CTL_TMO_EN = true →
      exec .twTimeout s = .next (s.still ((s.setResult .twoWire { refused := true }).count F.HIF_TW_CNT_B_REFUSED 1)))

/-- With the engine free for port p: CLAIM_TAKE for 1 to 100 ms with no lease held and the port rested for 1 ms gives
port p the lease and counts it; otherwise it counts a refusal and leaves the lease as it was. CLAIM_RELEASE by the
holder with its code ends the lease and begins the rest; with another code it counts a mismatch and keeps it.
CLAIM_EXPIRED of a lease that has reached its time ends it, counts it, sets EXPIRED_SEEN and raises CLAIM_EXPIRED;
before that it changes nothing. Nothing else changes. From 20_host_ports.md: Contention, R680, R681, R683, R684. -/
def Obligations.ClaimLeases : Prop :=
  ∀ (s : State) (p : HostPort) (ms code : Nat), s.hostReady p = true → s.hif.cmdLatched = none → 0 < code → code < 65536 →
    (1 ≤ ms → ms ≤ 100 → ∀ u, u = s.claimMessage p 1 ms code →
      exec (.claimTake p ms code) s = .next (s.still u) ∧ s.hostKept u [A.HIF_CLAIM_CNT] ∧
        (s.hif.lease = none → s.rested p = true →
          u.hif.lease = some { holder := p, code := code, ends := s.hif.clock + ms * 1250000 } ∧
            s.counted u F.HIF_CLAIM_CNT_TAKEN ∧ (u.port p).result.reject = false) ∧
        (s.hif.lease.isSome = true ∨ s.rested p = false →
          u.hif.lease = s.hif.lease ∧ s.counted u F.HIF_CLAIM_CNT_REFUSED ∧ (u.port p).result.reject = true)) ∧
    (∀ u, u = s.claimMessage p 2 1 code →
      exec (.claimRelease p code) s = .next (s.still u) ∧ s.hostKept u [A.HIF_CLAIM_CNT] ∧
        (∀ l ∈ s.hif.lease, l.code = code → u.hif.lease = none ∧ (u.port p).leaseEnd = some s.hif.clock ∧
          (u.port p).result.reject = false) ∧
        (∀ l ∈ s.hif.lease, l.code ≠ code → u.hif.lease = s.hif.lease ∧ s.counted u F.HIF_CLAIM_CNT_MISMATCH ∧
          (u.port p).result.reject = true)) ∧
    (s.leaseOver = false → exec .claimExpired s = .next (s.still s)) ∧
    (∀ l, s.hif.lease = some l → l.ends ≤ s.hif.clock → ∀ u, u = s.leaseExpires →
      exec .claimExpired s = .next (s.still u) ∧ u.hif.lease = none ∧ s.counted u F.HIF_CLAIM_CNT_EXPIRED ∧
        u.bit F.HIF_PORT_STAT_EXPIRED_SEEN = true ∧ Ev.CLAIM_EXPIRED ∈ u.raised ∧
        s.hostKeptEv u [A.HIF_CLAIM_CNT, A.HIF_PORT_STAT])

/-- With the engine free for port p, a BB_CMD write of kind READ, PAGE or WRITE within its table, with EN set and no
job, starts a job that waits for the bus; one outside its table, with EN clear or with a job in progress is discarded
as a range error. FREE_BUS_TRANSFER_START starts its transfer; a lost arbitration counts and backs off for 0 to 16 µs
× the losses, the eighth ends the job ARB_LOST; BB_RETRY at the end of that time starts again; BB_JOB_DONE ends it
DONE (a READ with its bytes in BB_DATA) or NACK; BB_TIMEOUT ends it TIMEOUT. Nothing outside the host interface, the
random draw and the named words changes. From 20_host_ports.md: The board-bus controller, R685, R686, R687, R688,
R689, R690. -/
def Obligations.BoardBusJobs : Prop :=
  ∀ s : State,
    (∀ (p : HostPort) (v : Word), s.hostReady p = true → s.bit F.HIF_BB_CTL_EN = true →
      s.get F.HIF_BB_STAT_STATE ≠ boardBusy → s.boardCmdOk v.toNat = true →
      ∀ u, u = ((((s.setJob (some { cmd := v, phase := .waiting })).put F.HIF_BB_STAT_STATE boardBusy).put
        F.HIF_BB_STAT_LOSSES 0).count F.HIF_BB_CNT_JOBS 1).written p A.HIF_BB_CMD v →
      (boardKind v.toNat = 1 → exec (.bbRead p v) s = .next (s.still u)) ∧
      (boardKind v.toNat = 2 → exec (.bbPage p v) s = .next (s.still u)) ∧
      (boardKind v.toNat = 3 → exec (.bbWrite p v) s = .next (s.still u))) ∧
    (∀ (p : HostPort) (v : Word), s.hostReady p = true →
      s.bit F.HIF_BB_CTL_EN = false ∨ s.get F.HIF_BB_STAT_STATE = boardBusy ∨ s.boardCmdOk v.toNat = false →
      ∀ u, u = s.turnedAway p A.HIF_BB_CMD v .range →
      exec (.bbRead p v) s = .next (s.still u) ∧ exec (.bbPage p v) s = .next (s.still u) ∧
        exec (.bbWrite p v) s = .next (s.still u)) ∧
    (s.up .host = true → ∀ j : BoardJob,
      (s.hif.job = some { j with phase := .waiting } →
        exec .freeBusTransferStart s = .next (s.still (s.setJob (some { j with phase := .running })))) ∧
      (s.hif.job = some { j with phase := .backoff } →
        (j.retryAt ≤ s.hif.clock →
          exec .bbRetry s = .next (s.still (s.setJob (some { j with phase := .running })))) ∧
        (s.hif.clock < j.retryAt → exec .bbRetry s = .next (s.still s))) ∧
      (s.hif.job = some { j with phase := .running } → ∀ u, u = s.boardArbLoss →
        exec .bbArbLost s = .next (s.still u) ∧ s.counted u F.HIF_BB_CNT_ARB_LOSSES ∧
          u = { s with regs := u.regs, hif := u.hif, grd := u.grd, raised := u.raised } ∧
          s.wordsKept u [A.HIF_BB_CNT, A.HIF_BB_STAT] ∧
          (s.get F.HIF_BB_STAT_LOSSES < 7 → u.raised = s.raised ∧
            ∃ r, u.hif.job = some { j with phase := .backoff, retryAt := r } ∧ s.hif.clock ≤ r ∧
              r ≤ s.hif.clock + 20000 * (s.get F.HIF_BB_STAT_LOSSES + 1)) ∧
          (s.get F.HIF_BB_STAT_LOSSES = 7 → u.hif.job = none ∧ u.get F.HIF_BB_STAT_STATE = boardArbLost ∧
            u.bit F.HIF_BB_STAT_ARB_SEEN = true ∧ u.bit F.HIF_BB_STAT_FAIL_SEEN = true ∧ Ev.BOARD_FAIL ∈ u.raised)) ∧
      (s.hif.job = some { j with phase := .running } → ∀ data,
        (∀ u, u = s.boardEnds true data →
          exec (.bbJobDone true data) s = .next (s.still u) ∧ u.hif.job = none ∧ u.get F.HIF_BB_STAT_STATE = boardDone ∧
            Ev.BOARD_DONE ∈ u.raised ∧ s.hostKeptEv u (A.HIF_BB_STAT :: (List.range 32).map A.HIF_BB_DATA) ∧
            (boardKind j.cmd.toNat = 1 → 1 ≤ boardLen j.cmd.toNat → boardLen j.cmd.toNat ≤ 128 →
              u.boardBytes = patch s.boardBytes 0 ((data ++ List.replicate 128 0xFF).take (boardLen j.cmd.toNat)) ∧
                u.get F.HIF_BB_STAT_BYTES = boardLen j.cmd.toNat)) ∧
        exec (.bbJobDone false data) s = .next (s.still (s.boardFails boardNack))) ∧
      (s.hif.job.isSome = true → exec .bbTimeout s = .next (s.still (s.boardFails boardTimeout))))

/-- With the engine free for port p, REGISTER_WRITE to a word that follows its row of the register map: a value in the
row's range is stored by its access codes and nothing else changes; any other value leaves every word as it was, is
recorded as a range discard and raises PARAM_REJECT. From R12, 00_scope.md: Registers and access codes, R15, R702. -/
def Obligations.PlainWritesKeepOrStore : Prop :=
  ∀ (s : State) (p : HostPort) (a : Nat) (v : Word), s.hostReady p = true → s.plainWord p a v = true →
    ∀ r, r = rowOf a →
    (r.inRange v.toNat = true →
      exec (.registerWrite p a v) s = .next (s.after ((s.setVal a (r.stores (s.val a) v.toNat)).written p a v))) ∧
    (r.inRange v.toNat = false → ∀ u, u = s.turnedAway p a v .range →
      exec (.registerWrite p a v) s = .next (s.after u) ∧ s.wordsKept u [] ∧ Ev.PARAM_REJECT ∈ u.raised ∧
        (u.port p).rejLast = wordOf (a + 2 ^ 16) ∧ (u.port p).rejCount = (s.port p).rejCount + 1)

/-- With the engine free for port p: DATA_ACCESS writes or reads the parameter under the pointers, and DATA steps
PTR_WORD on within its bank while DATA_HOLD keeps it; POINTER_WRITE sets PTR_BANK (0 to 0x17) or PTR_WORD and restarts
the FIFO alternation, and a bank above 0x17 is discarded as a range error that restarts it too; ALIAS_ACCESS with the
alias enabled acts as DATA_HOLD does at its address and keeps the pointers, and with it disabled reads 0 and discards
a write as unmapped. From 20_host_ports.md: The register engine, R658, R703, R709. -/
def Obligations.WindowAccesses : Prop :=
  ∀ (s : State) (p : HostPort) (v : Word), s.hostReady p = true → s.hif.cmdLatched = none →
    exec (.dataAccess p true true v) s = .next (s.after (s.hostParam p (s.pointed p) v)) ∧
    exec (.dataAccess p true false v) s = .next (s.after (s.hostRead p (s.pointed p))) ∧
    (∀ x, x = s.paramApply p (s.pointed p) v →
      exec (.dataAccess p false true v) s = .next (s.after ((x.state.stepPointer p).setResult p
        { done := true, reject := x.reject }))) ∧
    (∀ x, x = s.paramRead p (s.pointed p) →
      exec (.dataAccess p false false v) s = .next (s.after ((x.2.stepPointer p).returned p x.1))) ∧
    (v.toNat ≤ 0x17 → exec (.pointerWrite p true v) s = .next (s.still ((((s.setPort p { s.port p with
      ptrBank := v.toNat, fifoSecond := false }).hostRecord p true 8 0 v).setResult p { done := true })))) ∧
    (0x17 < v.toNat → exec (.pointerWrite p true v) s = .next (s.still ((((s.setPort p { s.port p with
      fifoSecond := false }).hostRecord p true 8 1 v).recordReject p true 8 .range).setResult p
        { done := true, reject := true }))) ∧
    exec (.pointerWrite p false v) s = .next (s.still ((((s.setPort p { s.port p with
      ptrWord := v.toNat % 256, fifoSecond := false }).hostRecord p true 9 0 v).setResult p { done := true }))) ∧
    (∀ k, k < 8 → s.bit (F.HIF_ALIAS_EN k) = true → ∀ a, a = s.get (F.HIF_ALIAS_BANK k) * 256 + s.get (F.HIF_ALIAS_WORD k) →
      exec (.aliasAccess p k true v) s = .next (s.after (s.hostParam p a v)) ∧
        exec (.aliasAccess p k false v) s = .next (s.after (s.hostRead p a))) ∧
    (∀ k, k < 8 → s.bit (F.HIF_ALIAS_EN k) = false →
      exec (.aliasAccess p k false v) s = .next (s.after (s.returned p 0)) ∧
        exec (.aliasAccess p k true v) s = .next (s.after (((s.hostRecord p true (0x30 + k) 4 v).recordReject p true
          (0x30 + k) .unmapped).setResult p { done := true, reject := true })))

/-- With the engine free for port p: STICKY_CLEAR of group g clears exactly the sticky bits written as 1 in that
group, and in group A also every cause bit of those event numbers; CAUSE_CLEAR clears exactly the cause bits written
as 1 and leaves every sticky bit; IRQ_PULSE_END ends the release pulse of its line only. From 22_events.md: Raising,
pending and clearing, R722, R725, R728. -/
def Obligations.StickyAndCauseClears : Prop :=
  ∀ (s : State) (p : HostPort) (v : Word), s.up .host = true →
    (s.hostReady p = true → ∀ g, g < 4 → ∀ u, u = State.irqPulse s (s.clearSticky g v.toNat) →
      exec (.stickyClear p g v) s = .next (s.still (u.written p (0x200 + g) v)) ∧
        (∀ n, n < 128 → u.evt.sticky.getLsbD n = (s.evt.sticky.getLsbD n && !(n / 32 == g && v.getLsbD (n % 32)))) ∧
        (∀ k, k < 47 → u.evt.causes.getLsbD k = (s.evt.causes.getLsbD k &&
          !(g == 0 && v.getLsbD (causeEvents.getD k 63)))) ∧
        u = { s with evt := { s.evt with
          sticky := u.evt.sticky, causes := u.evt.causes, pulseA := u.evt.pulseA, pulseB := u.evt.pulseB } }) ∧
    (s.hostReady p = true → ∀ hi, ∀ u, u = State.irqPulse s (s.clearCauses hi v.toNat) →
      exec (.causeClear p hi v) s = .next (s.still (u.written p (if hi then A.EVT_CAUSE_HI else A.EVT_CAUSE_LO) v)) ∧
        (∀ k, k < 47 → u.evt.causes.getLsbD k = (s.evt.causes.getLsbD k &&
          !(if hi then decide (32 ≤ k) && v.getLsbD (k - 32) else decide (k < 32) && v.getLsbD k))) ∧
        u = { s with evt := { s.evt with causes := u.evt.causes, pulseA := u.evt.pulseA, pulseB := u.evt.pulseB } }) ∧
    exec (.irqPulseEnd false) s = .next (s.still ({ s with evt := { s.evt with pulseA := false } } : State)) ∧
    exec (.irqPulseEnd true) s = .next (s.still ({ s with evt := { s.evt with pulseB := false } } : State))

/-- At the end of an engine cycle with HOST up, the sticky bit of an event number that exists is set exactly when it
was set before or the cycle raised that event, whatever the enables hold; RAISES has counted every raise, and no raise
is left over. With HOST down the raises are lost. Formalises R720. -/
def Obligations.RaisesSetSticky : Prop :=
  ∀ s u : State,
    (u.up .host = true → ∀ t, t = s.still u →
      (∀ n, n < 128 → t.evt.sticky.getLsbD n =
        (eventMask.getLsbD n && (u.evt.sticky.getLsbD n || u.raised.any (fun x => x.1 % 128 == n)))) ∧
      t.evt.raises = u.evt.raises + BitVec.ofNat 32 u.raised.length ∧ t.raised = []) ∧
    (u.up .host = false → (s.still u).raised = [] ∧ (s.still u).evt.raises = u.evt.raises ∧
      (s.still u).evt.sticky = u.evt.sticky &&& eventMask)

/-- With HOST up, the bank of the lines present and no release pulse running on the line, IRQA_N is low exactly when
A_EN is 1 and some event number has its sticky, enable and RTA bits set; IRQB_N is low exactly when B_EN is 1 and some
event number has its sticky, enable and RTB bits set. Formalises R726. -/
def Obligations.LinesFollowPending : Prop :=
  ∀ s : State, s.up .host = true → s.pwr.vioH.isSome = true →
    (s.evt.pulseA = false → (s.irqLow false = true ↔ s.bit F.EVT_IRQ_CTL_A_EN = true ∧ ∃ g k, g < 4 ∧ k < 32 ∧
      s.evt.sticky.getLsbD (32 * g + k) = true ∧ (s.rd (A.EVT_EN_A g)).getLsbD k = true ∧
      (s.rd (A.EVT_RTA_A g)).getLsbD k = true)) ∧
    (s.evt.pulseB = false → (s.irqLow true = true ↔ s.bit F.EVT_IRQ_CTL_B_EN = true ∧ ∃ g k, g < 4 ∧ k < 32 ∧
      s.evt.sticky.getLsbD (32 * g + k) = true ∧ (s.rd (A.EVT_EN_A g)).getLsbD k = true ∧
      (s.rd (A.EVT_RTB_A g)).getLsbD k = true))

/-- With the engine free for port p, OBS_CTL_WRITE stores OBS.CTL or OBS.OUT_MASK and OBS_MARK forms a MARK record of
its word. With HOST up, TRACE_TIME_RECORD forms a TIME record at a Tally multiple of 2^20, once in its tick;
TRACE_WORD_BOUNDARY makes the stored settings effective, and with EN set it sends one word and counts it, with EN
clear it empties the FIFO. Nothing outside the trace port changes. From 24_observation.md: The trace port, R771, R773,
R774, R775, R782. -/
def Obligations.TracePortRuns : Prop :=
  ∀ s : State,
    (∀ (p : HostPort) (v : Word) (m : Bool), s.hostReady p = true → ∀ a, a = (if m then A.OBS_OUT_MASK else A.OBS_CTL) →
      s.plainWord p a v = true → ∀ r, r = rowOf a → r.inRange v.toNat = true →
      exec (.obsCtlWrite p m v) s = .next (s.still ((s.setVal a (r.stores (s.val a) v.toNat)).written p a v))) ∧
    (∀ (p : HostPort) (v : Word), s.hostReady p = true →
      exec (.obsMark p v) s = .next (s.still ((s.trace 11 [v]).written p A.OBS_MARK v))) ∧
    (s.up .host = true → s.up .time = true → s.tallyRun = true → s.tally % 2 ^ 20 = 0 → s.traces 1 = true →
      s.obs.batch.all (fun r => r.kind != 1) = true →
      exec .traceTimeRecord s = .next (s.still ({ s with obs := { s.obs with batch := s.obs.batch ++
        [{ kind := 1, tick := 0, body := s.timeBody }] } } : State))) ∧
    (s.up .host = true → ∀ u, u = s.wordBoundary →
      exec .traceWordBoundary s = .next (s.still u) ∧ u.obs.ctlNow = s.rd A.OBS_CTL ∧ u.obs.maskNow = s.rd A.OBS_OUT_MASK ∧
        u = { s with regs := u.regs, obs := u.obs } ∧ s.banksKept u [0x17] ∧
        (s.bit F.OBS_CTL_EN = false → u.obs.fifo = [] ∧ u.obs.batch = [] ∧ u.obs.sent = none) ∧
        (s.bit F.OBS_CTL_EN = true → u.obs.sent.isSome = true ∧ s.counted u (wordFld A.OBS_WORDS)))

/-- With the engine free for port p: FACE_READ_LATCH with TIME up and MULTIWORD_HI_READ with the parameter's domain up
latch the lower words for that port and return the high word; VQ_ENTRY_READ and VQ_FIFO_READ take the oldest queue
entry, or read the empty mark; MBX_DATA_READ takes four bytes of the mailbox; LDG_ENTRY_READ of ENTRY_0 latches the
selected slot and ENTRY_7 steps SEL on. Words in banks other than the one read, committed Ledger slots and every block
not read stay as they were. From R16, R52, 03_vernier_capture.md: Range, rate and the queue, R111, R364, R587. -/
def Obligations.ReadsReturnAndLatch : Prop :=
  ∀ (s : State) (p : HostPort), s.hostReady p = true →
    (s.up .time = true → ∀ f : Face, ∀ u, u = s.latchFace p f →
      exec (.faceReadLatch p f) s = .next (s.still (u.returned p (u.latched p (A.STR_F0_SEC_HI (4 * faceIndex f))))) ∧
        (u.port p).latches = (s.faceWords f ++ s.latchTally).foldl (fun l w => insertKey w.1 w.2 l) (s.port p).latches ∧
        u = { s with hif := u.hif } ∧ u.port p.other = s.port p.other) ∧
    (∀ a len, a / 256 ≠ 3 → s.readable (bankDomain (a / 256)) = true → s.effectRead p (a / 256) (a % 256) = none →
      multiAt a = some (a, len) →
      exec (.multiwordHiRead p a) s = .next (s.still ((s.latch p ((lowerWords a len).map (fun x => (x, s.liveWord p x)))).returned
        p (s.liveWord p a)))) ∧
    (s.up .time = true → ∀ n, n < 8 →
      (∀ x, x = s.vqPop p n → exec (.vqEntryRead p n) s = .next (s.still (x.2.returned p x.1)) ∧
        ((s.chan n).queue = [] → x.1 = 0xF0000000 ∧ x.2.vc = s.vc) ∧
        ((s.chan n).queue ≠ [] → n < 8 → x.1 = wordOf (((s.chan n).queue.headD 0).toNat / 2 ^ 32) ∧
          (x.2.chan n).queue = (s.chan n).queue.tail)) ∧
      (∀ x, x = s.vqFifo p n → exec (.vqFifoRead p n) s = .next (s.still (x.2.returned p x.1)) ∧
        (x.2.port p).fifoSecond = !(s.port p).fifoSecond)) ∧
    (s.up .pipe = true →
      (s.net.pipe.mailbox = [] → exec (.mbxDataRead p) s = .next (s.still (s.returned p 0))) ∧
      (s.net.pipe.mailbox ≠ [] → exec (.mbxDataRead p) s = .next (s.still ((s.setPipe { s.net.pipe with
        mailbox := s.net.pipe.mailbox.drop 4 }).returned p (wordOf (natAt s.net.pipe.mailbox 0 4)))))) ∧
    (∀ k, k < 8 → ∀ x, x = s.entryRead p k → exec (.ldgEntryRead p k) s = .next (s.still (x.2.returned p x.1)) ∧
      (k = 0 → x.1 = wordOf (natAt (s.ledgerSlot (s.port p).ldgSel) 0 4)) ∧
      (k ≠ 0 → x.1 = s.latched p (A.LDG_ENTRY k)) ∧
      (x.2.port p).ldgSel = (if k = 7 then min 4095 ((s.port p).ldgSel + 1) else (s.port p).ldgSel) ∧
      x.2 = { s with hif := x.2.hif })

/-- AON_START from an AON that is down begins in S3 on the named supply with the stored start cause, and samples MADDR
while RST_N is high. BROWNOUT takes every domain down, resets the mode and stores the cause. COLD_RESET takes every
domain but AON and OVEN down, invalidates every retention copy and counts itself, or waits in S3 without VMAIN.
RESET_RELEASE brings Rise. WARM_RESET with its argument takes OUT, NET, PIPE, ARRAY and HOST down; without it, it ends
refused. Neither reset changes OVEN, nor the warm one TIME, but that an orderly drop that was waiting for its turn
goes on. None of them touches a committed Ledger slot. From 23_modes_and_startup.md, R608, R612, R623, R655, R705,
R752, R755, R807. -/
def Obligations.ResetsTakeTheirDomains : Prop :=
  ∀ s : State,
    (s.pwr.started = false → ∀ b m u, u = s.aonStart b (m % 4) →
      exec (.aonStart b m) s = .next (s.after u) ∧ u.pwr.started = true ∧ u.sleepNow = 3 ∧ u.onVbat = b ∧
        u.val A.PWR_START_CAUSE = s.pwr.flag.getD 0 % 2 ^ 32 ∧ u.pwr.vmainLow = true ∧ u.pwr.tclk = 0 ∧
        (s.pwr.rstLow = false → s.pwr.vioH.isSome = true → s.hif.madd = none → u.hif.madd = some (m % 4)) ∧
        u.ldg.slots = s.ldg.slots ∧ s.banksKept u [0, 1, 22]) ∧
    (s.pwr.started = true → ∀ b u, u = s.aonLoss b →
      exec (.brownout b) s = .next (s.after u) ∧ u.pwr.started = false ∧ u.pwr.flag = some (if b then 2 else 1) ∧
        (∀ d, d < 8 → 1 ≤ d → u.domain d = 0) ∧ u.mode = {} ∧ u.ldg.queue = [] ∧ u.ldg.slots = s.ldg.slots ∧
        u.net.nts.keys = s.net.nts.keys ∧ u.pending = s.pending) ∧
    (s.pwr.rstLow = false → s.pwr.started = true → ¬ (s.pwr.fresh = true ∧ s.sleepNow = 3) →
      (s.sleepNow = 3 → s.pwr.vmainLow = true →
        exec .coldReset s = .next (s.after ({ s with pwr := { s.pwr with rstLow := true, coldDue := true } } : State))) ∧
      (¬ (s.sleepNow = 3 ∧ s.pwr.vmainLow = true) → ∀ u, u = State.coldReset { s with pwr := { s.pwr with rstLow := true } } →
        exec .coldReset s = .next (s.after u) ∧ (∀ d ∈ [2, 3, 4, 5, 6, 7], u.domain d = 0) ∧
          (u.domain 1 = s.domain 1 ∨ (s.pwr.dropping.contains 1 = true ∧ s.domain 1 = 2 ∧ u.domain 1 = 3)) ∧
          u.get F.HIF_RESET_INFO_KIND = 1 ∧ s.counted u F.HIF_RESET_INFO_COLD_CNT ∧
          (∀ x ∈ u.pwr.ret, x.valid = none) ∧ u.ldg.slots = s.ldg.slots ∧ u.hif = {} ∧ u.mode.reqResult = 0)) ∧
    (s.pwr.rstLow = true → s.pwr.started = true → s.pwr.coldDue = false → s.sleepNow ≠ 3 → ∀ m u, u = s.rstRises (m % 4) →
      exec (.resetRelease m) s = .next (s.after u) ∧ u.pwr.rstLow = false ∧ u.mode.now = .rise ∧ u.mode.cause = 1 ∧
        (s.pwr.vioH.isSome = true → s.hif.madd = none → u.hif.madd = some (m % 4)) ∧ s.wordsKept u []) ∧
    (∀ p, s.cmdReady p = true →
      (s.entering = false → s.waking = false → s.sleepNow = 0 → ∀ u, u = (s.cmdWords p 1 0x5741524D).warmReset →
        exec (.warmReset p 0x5741524D) s = .next (s.after u) ∧ (∀ d ∈ [3, 4, 5, 6, 7], u.domain d = 0) ∧
          (∀ d ∈ [1, 2], u.domain d = s.domain d ∨
            (s.pwr.dropping.contains d = true ∧ s.domain d = 2 ∧ u.domain d = 3)) ∧
          u.get F.HIF_RESET_INFO_KIND = 2 ∧
          s.counted u F.HIF_RESET_INFO_WARM_CNT ∧ u.ldg.slots = s.ldg.slots ∧ u.net.nts.keys = s.net.nts.keys) ∧
      (∀ arg, arg ≠ 0x5741524D →
        exec (.warmReset p arg) s = .next (s.after ((s.cmdWords p 1 arg).cmdEnds p 1 1))))

/-- A port that may send a command: BLOCK_RESET of a unit in a domain that is ON, with no reset of it in progress,
resets it and reports RUNNING, of a port with EN = 0 it is done at once, of one that is being reset it ends refused as
TARGET_BUSY, of an unknown unit or one in a domain that is not ON it ends refused; SAFE_ENTER enters Safe Hold;
SAFE_RELEASE leaves it for the base mode unless a Guard cause bars it, or it is not in force, and then ends refused,
and a cause of another kind of the same tick enters it again; FACE_LATCH with TIME up latches every Face for the port.
A wrong argument ends each refused. BLOCK_RESET_DONE with HOST up reports DONE once the unit is free of its reset.
From 21_parameter_banks.md, R704, R705, R706, R707, R717, R757, R761, R769. -/
def Obligations.HostCommandsEnd : Prop :=
  ∀ s : State,
    (s.up .host = true →
      (s.hif.blockReset = none → exec .blockResetDone s = .next (s.after s)) ∧
      (∀ v, s.hif.blockReset = some v → ∀ t, resetTarget v = some t →
        (s.targetResetting t = true → exec .blockResetDone s = .next (s.after s)) ∧
        (s.targetResetting t = false → ∀ u, u = s.blockResetDone →
          exec .blockResetDone s = .next (s.after u) ∧ u.hif.blockReset = none ∧ Ev.CMD_DONE ∈ u.raised ∧
            bitsAt (u.val cmdStatusAddr) 8 2 = 2))) ∧
    ∀ (p : HostPort) (arg : Word), s.cmdReady p = true →
    (∀ t, resetTarget arg.toNat = some t → s.dom t.domain = 2 →
      (s.hif.blockReset ≠ some arg.toNat → s.targetResetting t = false →
        (match t with | .port q => s.portOn q | _ => true) = true → ∀ u, u = (s.cmdWords p 2 arg).blockReset p arg.toNat →
        exec (.blockReset p arg) s = .next (s.after u) ∧ u.hif.blockReset = some arg.toNat ∧ s.cmdEnded u 2 1 0) ∧
      (s.hif.blockReset = some arg.toNat ∨ s.targetResetting t = true →
        exec (.blockReset p arg) s = .next (s.after ((s.cmdWords p 2 arg).cmdEnds p 2 5)))) ∧
    (arg.toNat < 4 → s.dom .net = 2 → s.hif.blockReset ≠ some arg.toNat → s.portOn arg.toNat = false →
      exec (.blockReset p arg) s = .next (s.after ((s.cmdWords p 2 arg).cmdEnds p 2 0))) ∧
    (resetTarget arg.toNat = none →
      exec (.blockReset p arg) s = .next (s.after ((s.cmdWords p 2 arg).cmdEnds p 2 1))) ∧
    (∀ t, resetTarget arg.toNat = some t → s.dom t.domain ≠ 2 →
      exec (.blockReset p arg) s = .next (s.after ((s.cmdWords p 2 arg).cmdEnds p 2 2))) ∧
    exec (.safeEnter p 0) s = .next (s.after (((s.cmdWords p 3 0).enterSafe 16).cmdEnds p 3 0)) ∧
    (arg ≠ 0 → exec (.safeEnter p arg) s = .next (s.after ((s.cmdWords p 3 arg).cmdEnds p 3 1))) ∧
    (s.safe = true → s.releaseBarred = false → ∀ w, w = s.cmdWords p 4 0x53414645 →
      (s.lateCause = none → exec (.safeRelease p 0x53414645) s = .next (s.after ((w.leaveSafe 21).cmdEnds p 4 0))) ∧
      (∀ c, s.lateCause = some c → c ≤ 15 → exec (.safeRelease p 0x53414645) s = .next (s.after (w.cmdEnds p 4 3))) ∧
      (∀ c, s.lateCause = some c → 15 < c →
        exec (.safeRelease p 0x53414645) s = .next (s.after (((w.leaveSafe 21).enterSafe c).cmdEnds p 4 0)))) ∧
    (s.safe = true → s.releaseBarred = true →
      exec (.safeRelease p 0x53414645) s = .next (s.after ((s.cmdWords p 4 0x53414645).cmdEnds p 4 3))) ∧
    (s.safe = false → exec (.safeRelease p 0x53414645) s = .next (s.after ((s.cmdWords p 4 0x53414645).cmdEnds p 4 4))) ∧
    (arg ≠ 0x53414645 → exec (.safeRelease p arg) s = .next (s.after ((s.cmdWords p 4 arg).cmdEnds p 4 1))) ∧
    (s.up .time = true → exec (.faceLatch p 0) s = .next (s.after (((s.cmdWords p 5 0).latchFaces p).cmdEnds p 5 0))) ∧
    (s.up .time = false → exec (.faceLatch p 0) s = .next (s.after ((s.cmdWords p 5 0).cmdEnds p 5 0))) ∧
    (arg ≠ 0 → exec (.faceLatch p arg) s = .next (s.after ((s.cmdWords p 5 arg).cmdEnds p 5 1)))

/-- Entering Safe Hold from any mode but Transit and Safe Hold makes Safe Hold the mode over the base mode that was in
force, with the cause given, or SAFE_PEND for an alarm in the very tick in which Rise completed, raises SAFE_ENTERED
and MODE_CHANGE, and changes no register; in Transit a cause changes nothing; in Safe Hold a further cause is only
noted, but that of the causes of the tick of the entry CAUSE takes the lowest code. Leaving it restores the base mode,
clears THERMAL_ONLY and raises SAFE_RELEASED. From 23_modes_and_startup.md, R739, R740, R757, R758, R759, R762, R767,
R768. -/
def Obligations.SafeHoldEntryAndExit : Prop :=
  ∀ (s : State) (c : Nat),
    (s.mode.now ≠ .transit → s.mode.now ≠ .safeHold → ∀ u, u = s.enterSafe c →
      u.mode.now = .safeHold ∧ u.mode.base = s.baseMode ∧ u.baseMode = s.baseMode ∧
        (s.mode.riseTick ≠ some s.instant → u.mode.cause = c) ∧
        (s.mode.riseTick = some s.instant → u.mode.cause = (if alarmCause c then 20 else c)) ∧
        Ev.SAFE_ENTERED ∈ u.raised ∧ Ev.MODE_CHANGE ∈ u.raised ∧ u.regs = s.regs ∧
        u = { s with mode := u.mode, raised := u.raised, pwr := { s.pwr with guardVote := s.anyOutput } }) ∧
    (s.mode.now = .transit → s.enterSafe c = s) ∧
    (s.mode.now = .safeHold → ∀ u, u = s.enterSafe c →
      u = { s with mode := { s.mode with late := some (s.instant, c), cause := u.mode.cause } } ∧
      (s.mode.safeTick ≠ some s.instant → u.mode.cause = s.mode.cause) ∧
      (s.mode.safeTick = some s.instant → isSafeCause s.mode.cause = true → u.mode.cause = min c s.mode.cause)) ∧
    (s.safe = true → ∀ u, u = s.leaveSafe c →
      u.mode.now = s.mode.base ∧ u.mode.prev = some .safeHold ∧ u.mode.cause = c ∧ Ev.SAFE_RELEASED ∈ u.raised ∧
        u.bit F.GRD_STAT_THERMAL_ONLY = false ∧ s.wordsKept u [A.GRD_STAT])

/-- With the engine free for port p: MODE_REQ of a code that is no mode is discarded; during a sleep entry or a wake
it ends refused with reason 7; in Rise it waits; otherwise it is judged at once, and ends accepted, or refused with
the mode as it was where a rule bars it; a request for the mode in force is accepted and changes nothing.
RISE_COMPLETE with its conditions met in Rise ends in Safe Hold with cause SAFE_PEND where an alarm stands or a Safe
Hold is due, a waiting request then refused as SAFE; else a waiting request is judged as from Free-run, and one
refused, or none, leads to Free-run; with a condition unmet it changes nothing. From 23_modes_and_startup.md, R701,
R743, R744, R753. -/
def Obligations.ModeRequestsAreJudged : Prop :=
  ∀ s : State,
    (∀ (p : HostPort) (v : Word), s.hostReady p = true → s.hif.cmdLatched = none →
      (Mode.ofCode (v.toNat % 16) = none → exec (.modeReq p v) s = .next (s.after (((s.hostRecord p true 0x15 1 v).recordReject
        p true 0x15 .range).setResult p { done := true, reject := true }))) ∧
      (∀ m, Mode.ofCode (v.toNat % 16) = some m → ∀ t, t = ({ s with mode := { s.mode with reqMode := v.toNat % 16, reqResult := 1, reqReason := 0 } } : State) →
        (s.entering = true ∨ s.waking = true → exec (.modeReq p v) s = .next (s.after (((t.refuseMode 7).hostRecord p true
          0x15 0 v).setResult p { done := true }))) ∧
        (s.entering = false → s.waking = false → s.mode.now = .rise → exec (.modeReq p v) s = .next (s.after ((t.hostRecord p
          true 0x15 0 v).setResult p { done := true }))) ∧
        (s.entering = false → s.waking = false → s.mode.now ≠ .rise → ∀ u, u = t.judgeMode s.mode.now m →
          exec (.modeReq p v) s = .next (s.after ((u.hostRecord p true 0x15 0 v).setResult p { done := true })) ∧
          (u.mode.reqResult = 2 ∨ u.mode.reqResult = 3) ∧
          (∀ r, s.modeBar s.mode.now m = some r → u = t.refuseMode r) ∧
          (s.modeBar s.mode.now m = none → m ≠ .standby → m ≠ .transit → ¬ (m = .safeHold ∧ s.mode.now = .transit) →
            u.mode.reqResult = 2 ∧ u.mode.reqReason = 0 ∧ u.mode.now = m) ∧
          (m = s.mode.now → m ≠ .safeHold → u = { t with mode := { t.mode with reqResult := 2 } })))) ∧
    (s.riseReady = true → s.mode.now = .rise → ∀ u, u = s.riseComplete → exec .riseComplete s = .next (s.after u) ∧
      (s.alarmTripped = true ∨ s.bit F.GRD_STAT_SAFE_PEND = true ∨ s.mode.safeAtStop = true →
        u.mode.now = .safeHold ∧ u.mode.cause = 20 ∧ u.mode.base = .freeRun ∧ Ev.SAFE_ENTERED ∈ u.raised ∧
        s.wordsKept u [A.GRD_STAT] ∧
        (s.mode.reqResult = 1 → u.mode.reqResult = 3 ∧ u.mode.reqReason = 5 ∧ Ev.MODE_REFUSED ∈ u.raised)) ∧
      (s.alarmTripped = false → s.bit F.GRD_STAT_SAFE_PEND = false → s.mode.safeAtStop = false →
        (s.mode.reqResult ≠ 1 → u.mode.now = .freeRun ∧ u.mode.cause = 3 ∧ u.mode.prev = some .rise ∧
          Ev.MODE_CHANGE ∈ u.raised ∧ s.wordsKept u []) ∧
        (∀ m, s.mode.reqResult = 1 → Mode.ofCode s.mode.reqMode = some m →
          (∀ r, s.modeBar .freeRun m = some r → u.mode.now = .freeRun ∧ u.mode.cause = 3 ∧ u.mode.reqResult = 3 ∧
            u.mode.reqReason = r) ∧
          (s.modeBar .freeRun m = none → m ≠ .standby → m ≠ .transit → u.mode.now = m ∧ u.mode.reqResult = 2 ∧
            u.mode.reqReason = 0)))) ∧
    (s.riseReady = false → exec .riseComplete s = .next (s.after s))

/-- With the engine free for port p, DROP of a domain 1 to 7: while a domain concerned is STARTING it waits; while a
voter other than HOST holds one it is refused, recorded and nothing drains; otherwise HOST's votes on the domains are
withdrawn, every one that is not OFF is to drop, and, with no other drop under way, the first of them in the order of
dropping is DRAINING. DOMAIN_DROPPED of a drained domain whose dependants are OFF takes it OFF; DOMAIN_STARTED takes a
STARTING domain ON. REGULATOR_FAULT of a regulator other than REG_AON takes every domain it feeds, and those that
require them, OFF, records its reading and raises PWR_REG_FAULT. Every other domain stays as it was, but that the next
domain to drop becomes DRAINING. From 18_power_domains.md: Dropping and starting, R592, R596, R597, R598, R602, R609,
R610, R619, R630. -/
def Obligations.DomainsDropAndStart : Prop :=
  ∀ s : State,
    (∀ (p : HostPort) (v : Word), s.hostReady p = true → bitsAt v.toNat 0 4 = 1 → ∀ d, d = bitsAt v.toNat 8 3 → 1 ≤ d →
      ∀ u, u = s.judgeDrop d →
        exec (.dropDomain p v) s = .next (s.after (u.written p A.PWR_CMD v)) ∧
        ((withDependents d).any (fun e => s.domain e == 1) = true →
          u = { s with pwr := { s.pwr with dropWaiting := s.pwr.dropWaiting ++ [d] } }) ∧
        ((withDependents d).any (fun e => s.domain e == 1) = false → ∀ x, s.firstHeld (withDependents d) otherVoters = some x →
          u = s.refusePower x.1 0 x.2 ∧ (∀ e, e < 8 → u.domain e = s.domain e) ∧ u.bit F.PWR_STAT_REFUSED_SEEN = true) ∧
        ((withDependents d).any (fun e => s.domain e == 1) = false → s.firstHeld (withDependents d) otherVoters = none →
          (∀ e, 1 ≤ e → e < 8 →
            (u.domain e = s.domain e ∨ (u.pwr.dropping.contains e = true ∧ s.domain e = 2 ∧ u.domain e = 3)) ∧
            u.pwr.dropping.contains e =
              (s.pwr.dropping.contains e || ((withDependents d).contains e && s.domain e != 0)) ∧
            bitOf (u.val A.PWR_HOST_VOTE) e = (!(withDependents d).contains e && bitOf (s.val A.PWR_HOST_VOTE) e)) ∧
          (s.pwr.dropping = [] → dropOrder.all (fun e => s.domain e != 3) = true → ∀ e,
            (dropOrder.filter (withDependents d).contains).find? (fun e => s.domain e != 0) = some e → u.domain e = 3))) ∧
    (∀ (p : HostPort) (v : Word), s.hostReady p = true → bitsAt v.toNat 0 4 ≠ 1 ∨ bitsAt v.toNat 8 3 = 0 →
      exec (.dropDomain p v) s = .next (s.after (s.turnedAway p A.PWR_CMD v .range))) ∧
    (∀ d : Domain, d ≠ .aon → s.domain d.code = 3 → s.drained d.code = true →
      ((withDependents d.code).filter (· != d.code)).all (fun e => s.domain e == 0) = true →
      ∀ t, t = s.dropOne true d.code → t.domain d.code = 0 ∧ (∀ e, e < 8 → e ≠ d.code → t.domain e = s.domain e) ∧
        t.ldg.slots = s.ldg.slots ∧
        (d = .oven → s.entering = true → s.get F.PWR_SLEEP_STAT_TARGET = 2 →
          exec (.domainDropped d) s = .next (s.after (t.beginStart 1))) ∧
        (¬ (d = .oven ∧ s.entering = true ∧ s.get F.PWR_SLEEP_STAT_TARGET = 2) → ∀ u, u = t.dropNext →
          exec (.domainDropped d) s = .next (s.after u) ∧ u.domain d.code = 0 ∧
          ∀ e, e < 8 → u.domain e = t.domain e ∨
            (s.pwr.dropping.contains e = true ∧ s.domain e = 2 ∧ u.domain e = 3))) ∧
    (∀ d : Domain, d ≠ .aon → s.domain d.code = 1 → s.pwr.dropWaiting = [] → s.entering = false →
      ∀ u, u = s.domainStarted d.code → exec (.domainStarted d) s = .next (s.after u) ∧
        (∀ e, e < 8 → u.domain e = (if e = d.code then 2 else s.domain e) ∨
          (s.pwr.dropping.contains e = true ∧ u.domain e = 3)) ∧ u.ldg.slots = s.ldg.slots) ∧
    (∀ (r : Regulator) (mv ma : Nat), s.pwr.started = true → r ≠ .aon → ∀ u, u = s.regulatorFault r.code mv ma →
      exec (.regulatorFault r mv ma) s = .next (s.after u) ∧ Ev.PWR_REG_FAULT ∈ u.raised ∧
        u.bit F.PWR_STAT_REG_FAULT_SEEN = true ∧ u.val (regulatorWord r.code) = mv % 65536 + ma % 32768 * 65536 + 2 ^ 31 ∧
        (∀ d, 1 ≤ d → d < 8 → (regulatorFeeds r.code).any (fun e => (withDependents e).contains d) = true →
          u.domain d = 0 ∧ u.pwr.barred.contains d = true) ∧
        (∀ d, 1 ≤ d → d < 8 → (regulatorFeeds r.code).any (fun e => (withDependents e).contains d) = false →
          u.domain d = s.domain d ∨ (s.pwr.dropping.contains d = true ∧ s.domain d = 2 ∧ u.domain d = 3)))

/-- With the engine free for port p LEVEL_REQ of an in-range value is stored and nothing else changes. TCAP_SAMPLE
while the Guard is awake feeds the cap's qualifier the highest of the die sensors as last sampled, shows it in CAPPED
and raises PWR_TCAP when it asserts. LEVEL_CHANGE_DONE with a change in progress makes its level the one in force and
ends the change. From 18_power_domains.md: Performance levels, R614, R615, R616. -/
def Obligations.PerformanceLevelsFollow : Prop :=
  ∀ s : State,
    (∀ (p : HostPort) (v : Word), s.hostReady p = true → ∀ r, r = rowOf A.PWR_LEVEL_REQ → r.inRange v.toNat = true →
      exec (.levelReq p v) s = .next (s.after ((s.setVal A.PWR_LEVEL_REQ (r.stores (s.val A.PWR_LEVEL_REQ) v.toNat)).written p
        A.PWR_LEVEL_REQ v))) ∧
    (∀ temp, s.pwr.started = true → s.get F.GRD_STAT_FSM ≠ fsmLowduty →
      (∃ k, k < 4 ∧ s.ival (A.GRD_TEMP_D k) = temp) → (∀ k, k < 4 → s.ival (A.GRD_TEMP_D k) ≤ temp) →
      ∀ q, q = Qual.sample .upper (s.descriptor A.PWR_TCAP_ASSERT) temp s.pwr.tcap →
      exec .tcapSample s = .next (s.after ((({ s with pwr := { s.pwr with tcap := q } } : State).setBit F.PWR_STAT_CAPPED
        q.on).raiseIf (q.on && !s.pwr.tcap.on) Ev.PWR_TCAP))) ∧
    (s.pwr.started = true → ∀ l, s.pwr.levelTo = some l → l < 4 → ∀ u, u = s.levelDone →
      exec .levelChangeDone s = .next (s.after u) ∧ u.get F.PWR_STAT_LEVEL_NOW = l ∧ u.pwr.levelTo = none ∧
        u.bit F.PWR_STAT_LEVEL_BUSY = false ∧ (s.get F.PWR_STAT_LEVEL_NOW ≠ l → Ev.PWR_LEVEL ∈ u.raised) ∧
        (s.get F.PWR_STAT_SEQ = 2 → u.get F.PWR_STAT_SEQ = 1) ∧ s.banksKept u [1, 17])

/-- With the engine free for port p: SLEEP_REQ for a deeper state, outside an entry, a wake and Safe Hold, is refused
and recorded where a voter that does not yield holds a domain, else begins the entry; WAKE_REQUEST in S0 changes
nothing. SLEEP_ENTRY_DONE with its domains OFF reaches the target. WAKE_PIN_ARMED arms its pin; WAKE_PIN of an armed
pin clears the arming and sets SEEN; WAKE_AT at the transit clock's time clears AT_EN; WAKE_DONE with HOST on ends the
wake; WAKE_HOLD_EXPIRED once WAKE_HOLD seconds have passed ends WAKE's vote, and before changes nothing. From
19_sleep_wake_cell.md: The wake sequence, R593, R625, R626, R632, R634, R635, R636, R637. -/
def Obligations.SleepIsEnteredAndLeft : Prop :=
  ∀ s : State, s.pwr.started = true →
    (∀ (p : HostPort) (v : Word), s.hostReady p = true → ∀ n, n = bitsAt v.toNat 0 2 → 1 ≤ n → s.entering = false →
      s.waking = false → s.safe = false → s.sleepNow < n →
      ∀ l, l = (sleepDrops n).filter (fun d => s.domain d != 0) →
      (∀ x, s.firstHeld l (heldVoters n) = some x →
        exec (.sleepReq p v) s = .next (s.after ((s.refusePower x.1 n x.2).written p A.PWR_SLEEP_REQ v))) ∧
      (s.firstHeld l (heldVoters n) = none → ∀ u, u = (s.sleepRequest n).2 →
        exec (.sleepReq p v) s = .next (s.after (u.written p A.PWR_SLEEP_REQ v)) ∧ u.entering = true ∧
          u.get F.PWR_SLEEP_STAT_TARGET = n ∧ u.mode.now = (if n = 3 then .transit else .standby))) ∧
    (∀ (p : HostPort) (v : Word), s.hostReady p = true → bitsAt v.toNat 0 2 = 0 → s.waking = false → s.entering = false →
      s.sleepNow = 0 → exec (.wakeRequest p v) s = .next (s.after (s.written p A.PWR_SLEEP_REQ v))) ∧
    (∀ (p : HostPort) (v : Word), s.hostReady p = true → bitsAt v.toNat 0 2 = 0 → s.waking = false → s.entering = false →
      s.sleepNow = 1 ∨ s.sleepNow = 2 → s.onVbat = false → s.pwr.rstLow = false → ∀ u, u = s.wakeNow 1 →
      exec (.wakeRequest p v) s = .next (s.after (u.written p A.PWR_SLEEP_REQ v)) ∧ u.sleepNow = 0 ∧ u.waking = true ∧
        u.get F.PWR_SLEEP_STAT_LAST_WAKE = 1 ∧ u.pwr.wakeHold = some s.tclk) ∧
    (s.entering = true → ∀ n, n = s.get F.PWR_SLEEP_STAT_TARGET → (sleepDrops n).all (fun d => s.domain d == 0) = true →
      s.domain 1 ≠ 1 → s.pwr.wakeLatched = none → ∀ u, u = s.sleepEntryDone →
      exec .sleepEntryDone s = .next (s.after u) ∧ u.entering = false ∧ u.sleepNow = n ∧
        (n ≠ 3 → Ev.PWR_SLEEP ∈ u.raised ∧ s.powerKept u)) ∧
    (∀ k, k < 4 → ∀ u, u = s.pinArmed k →
      exec (.wakePinArmed k) s = .next (s.after u) ∧ bitOf (u.get F.PWR_WAKE_STAT_ARMED) k = true ∧
        s.wordsKept u [A.PWR_WAKE_STAT] ∧ s.powerKept u) ∧
    (∀ k, k < 4 → bitOf (s.get F.PWR_WAKE_STAT_ARMED) k = true → s.sleepNow = 0 → s.entering = false → ∀ u, u = s.pinActivated k →
      exec (.wakePin k) s = .next (s.after u) ∧ bitOf (u.get F.PWR_WAKE_STAT_ARMED) k = false ∧
        bitOf (u.get F.PWR_WAKE_STAT_SEEN) k = true ∧ Ev.WAKE_PIN ∈ u.raised ∧ s.wordsKept u [A.PWR_WAKE_STAT] ∧
        s.powerKept u) ∧
    (s.bit F.PWR_WAKE_CFG_AT_EN = true → s.tclk / 65536 = s.multi A.PWR_WAKE_AT_HI 2 % 2 ^ 48 →
      exec .wakeAt s = .next (s.after ((s.put F.PWR_WAKE_CFG_AT_EN 0).wakeCause 7))) ∧
    (s.waking = true → s.domain 7 = 2 → s.pwr.warmAfterWake = false →
      exec .wakeDone s = .next (s.after (((s.put F.PWR_SLEEP_STAT_WAKING 0).put F.PWR_STAT_SEQ 1).raise Ev.PWR_WAKE))) ∧
    (∀ h, s.pwr.wakeHold = some h →
      (h + s.val A.PWR_WAKE_HOLD * 65536 ≤ s.tclk →
        exec .wakeHoldExpired s = .next (s.after ({ s with pwr := { s.pwr with wakeHold := none } } : State))) ∧
      (s.tclk < h + s.val A.PWR_WAKE_HOLD * 65536 → exec .wakeHoldExpired s = .next (s.after s)))

/-- With AON started: HANDOVER outside S3 and off the cell takes every domain down and makes the mode Transit; from a
cell of 2.0 V or more it sets ON_VBAT and counts itself, from a lower one AON loses its supply with the start cause
stored; VMAIN_LOSS_IN_S3 puts AON on the cell and counts; VMAIN_RETURN in S3 with nothing waiting takes AON off the
cell. VIO_BANK_PRESENT within a mode's limits records the bank, samples MADDR (VIO_H) and restarts OUT4 to OUT11
(VIO_O); VIO_BANK_ABSENT without a board job forgets the bank, stops OUT4 to OUT11 (VIO_O) and changes nothing else.
From 19_sleep_wake_cell.md: Hand-over to the cell, R638, R644, R645, R646, R647, R786, R791, R807, R812. -/
def Obligations.SuppliesComeAndGo : Prop :=
  ∀ s : State,
    (s.pwr.started = true → s.sleepNow ≠ 3 → s.onVbat = false → ∀ v b,
      (2000 ≤ v → ∀ u, u = s.handover v b →
        exec (.handover v b) s = .next (s.after u) ∧ (∀ d, 1 ≤ d → d < 8 → u.domain d = 0) ∧ u.sleepNow = 3 ∧
        u.onVbat = true ∧ u.mode.now = .transit ∧ u.mode.cause = 10 ∧ s.counted u (wordFld A.PWR_HANDOVERS) ∧
        u.entering = false ∧ u.waking = false ∧ u.ldg.slots = s.ldg.slots ∧ u.net.nts.keys = s.net.nts.keys) ∧
      (v < 2000 → ∀ u, u = s.handover v b →
        exec (.handover v b) s = .next (s.after u) ∧ (∀ d, 1 ≤ d → d < 8 → u.domain d = 0) ∧ u.pwr.started = false ∧
        u.pwr.flag = some (if b then 2 else 1) ∧ u.ldg.slots = s.ldg.slots ∧ u.net.nts.keys = s.net.nts.keys)) ∧
    (s.pwr.started = true → s.sleepNow = 3 → s.onVbat = false → s.pwr.vmainLow = false → ∀ u, u = s.vmainLoss →
      exec .vmainLossInS3 s = .next (s.after u) ∧ u.onVbat = true ∧ u.pwr.vmainLow = true ∧
        s.counted u (wordFld A.PWR_HANDOVERS) ∧ s.wordsKept u [A.PWR_HANDOVERS, A.PWR_SLEEP_STAT, A.PWR_TCLK_STAT] ∧
        s.powerKept u) ∧
    (s.pwr.started = true → s.sleepNow = 3 → s.pwr.vmainLow = true → s.pwr.coldDue = false → s.pwr.wakeLatched = none →
      s.bit F.PWR_WAKE_CFG_VMAIN_RET = false → ∀ m,
      exec (.vmainReturn m) s = .next (s.after (({ s with pwr := { s.pwr with vmainLow := false } } : State).setVbat false))) ∧
    (∀ mv m, (1710 ≤ mv ∧ mv ≤ 1890) ∨ (3135 ≤ mv ∧ mv ≤ 3465) →
      exec (.vioBankPresent true mv m) s = .next (s.after (({ s with pwr := { s.pwr with vioH := some mv } } : State).sampleMaddr
        (m % 4)))) ∧
    (∀ mv m, (1710 ≤ mv ∧ mv ≤ 1890) ∨ (2375 ≤ mv ∧ mv ≤ 2625) ∨ (3135 ≤ mv ∧ mv ≤ 3465) →
      ∀ t, t = ({ s with pwr := { s.pwr with vioO := some mv } } : State) →
      (s.pwr.vioO = none → exec (.vioBankPresent false mv m) s = .next (s.after (t.padsStart bankOutputs))) ∧
      (s.pwr.vioO.isSome = true → exec (.vioBankPresent false mv m) s = .next (s.after t))) ∧
    (∀ m, exec (.vioBankPresent true 2500 m) s = .next (s.after s)) ∧
    (s.hif.job = none → exec (.vioBankAbsent true) s = .next (s.after ({ s with pwr := { s.pwr with vioH := none } } : State))) ∧
    exec (.vioBankAbsent false) s =
      .next (s.after (({ s with pwr := { s.pwr with vioO := none } } : State).padsStop bankOutputs))

/-- For a port that may write the Face's words, with d the 64-bit delta of the write and the held lower word: while
SRV owns F0 the write is discarded as OWNER, with the port's hold emptied. Otherwise a step within STEP_LIMIT that
makes no Face negative leaves every Face as it reads until the next tick boundary and moves the Face by d at every
instant from it on, sets its SET bit and nothing of the other Face; one that would make a Face negative moves none and
raises PARAM_REJECT; one beyond the limit moves no Face, sets STEP_REFUSED and records d; a rate change within
RATE_STEP_LIMIT gives the Face its rate from the next boundary on and leaves it there where it was; a larger one
changes no Face, sets RATE_REFUSED and records the change. MULTIWORD_HI_WRITE of the same words acts the same. From
01_tally_and_faces.md: Steps, rate steps and their limits, R16, R26, R28, R29, R30, R32, R33, R35, R36, R37, R38. -/
def Obligations.FacesMoveByStepsAndTurnByRates : Prop :=
  ∀ (s : State) (p : HostPort) (f : MainFace) (v : Word),
    (s.mayWrite p (stepHi f) = true → f = .f0 ∧ s.srvOwnsF0 = true →
      exec (.hostStep p f v) s = .next (s.after ((s.dropHolds p [stepHi f + 1]).turnedAway p (stepHi f) v .owner)) ∧
      exec (.rateWrite p f v) s = .next (s.after ((s.dropHolds p [rateHi f + 1]).turnedAway p (rateHi f) v .owner)) ∧
      exec (.multiwordHiWrite p (stepHi f) v) s =
        .next (s.after ((s.dropHolds p [stepHi f + 1]).turnedAway p (stepHi f) v .owner))) ∧
    (s.mayWrite p (stepHi f) = true → ¬ (f = .f0 ∧ s.srvOwnsF0 = true) →
      ∀ d, d = signedOf 64 (v.toNat * 2 ^ 32 + ((s.heldWord p (stepHi f + 1)).getD 0).toNat) →
      (|d| ≤ s.stepLimit → s.stepFits f d = false →
        exec (.hostStep p f v) s =
          .next (s.after (((s.dropHolds p [stepHi f + 1]).raise Ev.PARAM_REJECT).written p (stepHi f) v))) ∧
      (|d| ≤ s.stepLimit → s.stepFits f d = true → ∀ u, u = (s.dropHolds p [stepHi f + 1]).moveFace f .host d →
        exec (.hostStep p f v) s = .next (s.after (u.written p (stepHi f) v)) ∧
        exec (.multiwordHiWrite p (stepHi f) v) s = .next (s.after (u.written p (stepHi f) v)) ∧
        (∀ t : Int, (u.face f).at_ t = (s.face f).at_ t + d) ∧ (u.face f).rate = (s.face f).rate ∧ u.bit (setFld f) = true ∧
        (∀ g : Face, ∀ t : Int, s.nowSub ≤ t → t < s.nextSub → u.pips g t = s.pips g t) ∧
        (∀ t : Int, s.nextSub ≤ t → u.pips (MainFace.face f) t = (s.face f).at_ t + d) ∧
        (∀ g : MainFace, g ≠ f → u.face g = s.face g) ∧
        (f = .f0 → s.facesMoving = false → u.val A.STR_F0_TRIM_SRC = 0) ∧
        s.wordsKept u [A.STR_STAT, A.STR_F0_TRIM_SRC] ∧
        u = { s with regs := u.regs, str := u.str, srv := u.srv, obs := u.obs, hif := u.hif }) ∧
      (s.stepLimit < |d| → ∀ u, u = (s.dropHolds p [stepHi f + 1]).refuseChange f .host false d →
        exec (.hostStep p f v) s = .next (s.after (u.written p (stepHi f) v)) ∧ u.str = s.str ∧
        u.bit F.STR_STAT_STEP_REFUSED = true ∧ Ev.STEP_REFUSED ∈ u.raised ∧
        u.multi A.STR_LAST_REFUSED_HI 3 = codeOf 96 d ∧ u.val A.STR_LAST_REFUSED_INFO = faceBit f ∧
        u.ldg.slots = s.ldg.slots)) ∧
    (s.mayWrite p (rateHi f) = true → ¬ (f = .f0 ∧ s.srvOwnsF0 = true) →
      ∀ r, r = signedOf 48 (v.toNat % 65536 * 2 ^ 32 +
        ((s.heldWord p (rateHi f + 1)).getD (wordOf (codeOf 48 (s.face f).rate))).toNat) →
      (|r - (s.face f).rate| ≤ s.rateLimit → ∀ u, u = (s.dropHolds p [rateHi f + 1]).setRate f .host r →
        exec (.rateWrite p f v) s = .next (s.after (u.written p (rateHi f) v)) ∧
        exec (.multiwordHiWrite p (rateHi f) v) s = .next (s.after (u.written p (rateHi f) v)) ∧
        (u.face f).rate = r ∧ (u.face f).at_ s.nextSub = (s.face f).at_ s.nextSub ∧
        (∀ g : Face, ∀ t : Int, s.nowSub ≤ t → t < s.nextSub → u.pips g t = s.pips g t) ∧
        (∀ g : MainFace, g ≠ f → u.face g = s.face g) ∧
        (f = .f0 → s.facesMoving = false → u.val A.STR_F0_TRIM_SRC = 0) ∧
        s.wordsKept u [A.STR_F0_TRIM_SRC] ∧
        u = { s with regs := u.regs, str := u.str, obs := u.obs, hif := u.hif }) ∧
      (s.rateLimit < |r - (s.face f).rate| → ∀ u, u = (s.dropHolds p [rateHi f + 1]).refuseChange f .host true
          (r - (s.face f).rate) →
        exec (.rateWrite p f v) s = .next (s.after (u.written p (rateHi f) v)) ∧ u.str = s.str ∧
        u.bit F.STR_STAT_RATE_REFUSED = true ∧ Ev.RATE_REFUSED ∈ u.raised ∧
        u.multi A.STR_LAST_REFUSED_HI 3 = codeOf 96 (r - (s.face f).rate) ∧
        u.val A.STR_LAST_REFUSED_INFO = faceBit f + 8 ∧ u.ldg.slots = s.ldg.slots))

/-- For a port that may write the word, with the bank not armed by the other port: ARM with the bank's code arms it
for that port and, in STR, latches the held delta with its Face; with another code it disarms the bank and raises
ARM_MISMATCH. ARM for a bank the other port armed is discarded as UNARMED. COMMIT with the inverted code while armed
moves the Face by the latched delta from the next tick boundary on, raises STEP_COMMITTED and disarms; with another
code it moves nothing and raises ARM_MISMATCH; unarmed it is discarded with KIND UNARMED and no event.
PEND_DELTA_WRITE while not armed holds its delta, and while armed is discarded. ARM_EXPIRED disarms; ARM_CODE_WRITE of
a non-zero code stores it and disarms, of 0 is discarded; BANK_LOCK_WRITE sets the lock bits written as 1 and clears
none. From 01_tally_and_faces.md: Arm-then-commit, R39, R40, R41, R42, R43, R44, R710, R711, R712. -/
def Obligations.ArmingGatesTheCommit : Prop :=
  ∀ (s : State) (p : HostPort) (b : ArmBank) (v : Word),
    (s.mayWrite p (armWord b) = true → s.armedBy b = some p.other →
      exec (.armBank p b v) s = .next (s.after (s.turnedAway p (armWord b) v .unarmed))) ∧
    (s.mayWrite p (armWord b) = true → s.armedBy b ≠ some p.other → ∀ u, u = (s.armWrite p b (v.toNat % 65536)).state →
      exec (.armBank p b v) s = .next (s.after (u.written p (armWord b) v)) ∧
      (v.toNat % 65536 = s.val b.codeWord % 65536 → u.armedBy b = some p ∧ (b = .str → u.str.latched =
          (if s.str.held then some (if s.bit F.STR_PEND_CTL_FACE then MainFace.f3 else MainFace.f0,
            signedOf 96 (s.multi A.STR_PEND_DELTA_HI 3)) else none)) ∧
        u.regs = s.regs ∧ u = { s with arms := u.arms, str := u.str }) ∧
      (v.toNat % 65536 ≠ s.val b.codeWord % 65536 → u.armedBy b = none ∧ Ev.ARM_MISMATCH ∈ u.raised ∧
        (b = .str → u.str.held = false ∧ u.str.latched = none) ∧ u.str.f0 = s.str.f0 ∧ u.str.f3 = s.str.f3 ∧
        u.ldg.slots = s.ldg.slots)) ∧
    (s.mayWrite p A.STR_COMMIT = true → s.armedBy .str ≠ some p.other →
      (v.toNat % 65536 = 65535 - s.val A.STR_ARM_CODE % 65536 →
        (s.armedBy .str = none →
          exec (.commitDelta p v) s = .next (s.after (s.turnedAway p A.STR_COMMIT v .lateCommit)) ∧
          (s.turnedAway p A.STR_COMMIT v .lateCommit).raised = s.raised) ∧
        (s.armedBy .str = some p → ∀ x, s.str.latched = some x → s.stepFits x.1 x.2 = true →
          ∀ u, u = (s.commitWrite p (v.toNat % 65536)).state →
          exec (.commitDelta p v) s = .next (s.after (u.written p A.STR_COMMIT v)) ∧
            (∀ t : Int, (u.face x.1).at_ t = (s.face x.1).at_ t + x.2) ∧ (∀ g : MainFace, g ≠ x.1 → u.face g = s.face g) ∧
            (∀ g : Face, ∀ t : Int, s.nowSub ≤ t → t < s.nextSub → u.pips g t = s.pips g t) ∧
            Ev.STEP_COMMITTED ∈ u.raised ∧ u.armedBy .str = none ∧ u.str.held = false ∧ u.str.latched = none ∧
            u.multi A.STR_PEND_DELTA_HI 3 = 0 ∧ u.ldg.slots = s.ldg.slots)) ∧
      (v.toNat % 65536 ≠ 65535 - s.val A.STR_ARM_CODE % 65536 → ∀ u, u = s.armMismatch .str true (v.toNat % 65536) →
        exec (.commitDelta p v) s = .next (s.after (u.written p A.STR_COMMIT v)) ∧ u.armedBy .str = none ∧
          u.str.f0 = s.str.f0 ∧ u.str.f3 = s.str.f3 ∧ Ev.ARM_MISMATCH ∈ u.raised)) ∧
    (s.mayWrite p A.STR_PEND_DELTA_HI = true → (s.armedBy .str).isSome = true →
      exec (.pendDeltaWrite p v) s = .next (s.after
        ((s.dropHolds p [A.STR_PEND_DELTA_MID, A.STR_PEND_DELTA_LO]).turnedAway p A.STR_PEND_DELTA_HI v .range))) ∧
    (s.mayWrite p A.STR_PEND_DELTA_HI = true → s.armedBy .str = none → ∀ u, u = (s.pendWrite p v.toNat).state →
      exec (.pendDeltaWrite p v) s = .next (s.after (u.written p A.STR_PEND_DELTA_HI v)) ∧ u.str.held = true ∧
        u.val A.STR_PEND_DELTA_HI = v.toNat ∧
        s.wordsKept u [A.STR_PEND_DELTA_HI, A.STR_PEND_DELTA_MID, A.STR_PEND_DELTA_LO] ∧
        u = { s with regs := u.regs, str := u.str, hif := u.hif }) ∧
    ((s.arming b).isSome = true → ∀ u, u = s.armExpired b → exec (.armExpired b) s = .next (s.after u) ∧ u.armedBy b = none ∧
      Ev.ARM_EXPIRED ∈ u.raised ∧ (b = .str → u.str.held = false ∧ u.str.latched = none) ∧
      u = { s with regs := u.regs, raised := u.raised, arms := u.arms, str := u.str }) ∧
    (s.arming b = none → exec (.armExpired b) s = .next (s.after s)) ∧
    (s.mayWrite p b.codeWord = true → v.toNat % 65536 = 0 →
      exec (.armCodeWrite p b v) s = .next (s.after (s.turnedAway p b.codeWord v .range))) ∧
    (s.mayWrite p b.codeWord = true → v.toNat % 65536 ≠ 0 → ∀ u, u = (s.setVal b.codeWord (v.toNat % 65536)).disarm b →
      exec (.armCodeWrite p b v) s = .next (s.after (u.written p b.codeWord v)) ∧ u.armedBy b = none ∧
        u.val b.codeWord = v.toNat % 65536 ∧ s.wordsKept u [b.codeWord]) ∧
    (s.mayWrite p A.HIF_BANK_LOCK = true → ∀ u, u = s.setVal A.HIF_BANK_LOCK (s.val A.HIF_BANK_LOCK |||
        (v.toNat &&& (2 ^ 3 + 2 ^ 4 + 2 ^ 9 + 2 ^ 19))) →
      exec (.bankLockWrite p v) s = .next (s.after (u.written p A.HIF_BANK_LOCK v)) ∧
        (∀ k, s.locked k = true → u.locked k = true))

/-- For a port that may write LEAP_CTL: LEAP_SCHEDULE of a leap that meets R46 outside a smear makes it pending and
changes no Face; one that does not is discarded as RANGE. LEAP_CANCEL outside a smear leaves none pending.
LEAP_APPLIED of a pending leap whose second F0 has reached moves UTC_OFFSET by one, clears the leap, sets LEAP_DONE
and raises it, and leaves F0 and F3 (the model's choice, log entry 86: of a leap that would make F1 or F2 negative it
says nothing). SMEAR_WINDOW_OPEN and SMEAR_WINDOW_CLOSE set IN_SMEAR to whether F0 stands inside a window. An armed
UTC_OFFSET write with no leap pending that makes neither F1 nor F2 negative stores its value, moves no Face before the
next tick boundary and consumes the arming; an unarmed one is discarded. From 01_tally_and_faces.md: Leap second on F1
and smear on F2, R46, R47, R48, R49, R50. -/
def Obligations.LeapsSmearAndOffset : Prop :=
  ∀ (s : State) (p : HostPort) (v : Word),
    (s.mayWrite p A.STR_LEAP_CTL = true → s.bit F.STR_STAT_IN_SMEAR = false → ∀ n, n = bitsAt v.toNat 0 2 →
      (n ≠ 3 → n ≠ 0 → n ≠ s.leap → s.leapOk n (bitOf v.toNat 4) = false →
        exec (.leapSchedule p v) s = .next (s.after (s.turnedAway p A.STR_LEAP_CTL v .range))) ∧
      (n ≠ 3 → (n ≠ 0 → n ≠ s.leap → s.leapOk n (bitOf v.toNat 4) = true) → ∀ u, u = (s.leapCtlWrite v.toNat).state →
        exec (.leapSchedule p v) s = .next (s.after (u.written p A.STR_LEAP_CTL v)) ∧
        exec (.leapCancel p v) s = .next (s.after (u.written p A.STR_LEAP_CTL v)) ∧ u.leap = n ∧
        u.bit F.STR_LEAP_CTL_SMEAR_EN = bitOf v.toNat 4 ∧ u.str.f0 = s.str.f0 ∧ u.str.f3 = s.str.f3 ∧
        s.wordsKept u [A.STR_LEAP_CTL, A.STR_STAT] ∧ u = { s with regs := u.regs, str := u.str })) ∧
    (s.up .time = true → s.leap ≠ 0 → (s.leapAt : Int) * pipsPerSec ≤ s.pips .f0 s.nowSub →
      s.facesFit (s.faces.withUtc (signedOf 16 (codeOf 16 (s.utcOffset + leapSign s.leap))) true) [.f1, .f2] = true →
      ∀ u, u = s.leapApply →
      exec .leapApplied s = .next (s.after u) ∧ u.leap = 0 ∧ u.bit F.STR_LEAP_CTL_LEAP_DONE = true ∧
        u.val A.STR_UTC_OFFSET = codeOf 16 (s.utcOffset + leapSign s.leap) ∧ Ev.LEAP_DONE ∈ u.raised ∧
        u.str.f0 = s.str.f0 ∧ u.str.f3 = s.str.f3 ∧
        s.keptBut u (fun a => a == A.STR_UTC_OFFSET || a == A.STR_LEAP_CTL || a / 256 == 0x16) ∧
        u = { s with regs := u.regs, raised := u.raised, obs := u.obs, ldg := u.ldg, str := u.str }) ∧
    (s.up .time = true → ∀ u, u = s.smearUpdate →
      exec .smearWindowOpen s = .next (s.after u) ∧ exec .smearWindowClose s = .next (s.after u) ∧
        (u.bit F.STR_STAT_IN_SMEAR = s.str.smears.any (fun m => decide (m.opens ≤ s.pips .f0 s.actSub) &&
          decide (s.pips .f0 s.actSub < m.closes))) ∧ u.str.f0 = s.str.f0 ∧ u.str.f3 = s.str.f3 ∧
        s.wordsKept u [A.STR_STAT] ∧ u = { s with regs := u.regs, str := u.str }) ∧
    (s.mayWrite p A.STR_UTC_OFFSET = true → s.armedFor p .str = false →
      exec (.utcOffsetWrite p v) s = .next (s.after (s.turnedAway p A.STR_UTC_OFFSET v .unarmed))) ∧
    (s.mayWrite p A.STR_UTC_OFFSET = true → s.armedFor p .str = true → s.leap = 0 →
      s.facesFit (s.faces.withUtc (signedOf 16 v.toNat) false) [.f1, .f2] = true →
      ∀ u, u = (s.utcWrite p v.toNat).state →
      exec (.utcOffsetWrite p v) s = .next (s.after (u.written p A.STR_UTC_OFFSET v)) ∧
        u.val A.STR_UTC_OFFSET = v.toNat % 65536 ∧ u.armedBy .str = none ∧ u.str.f0 = s.str.f0 ∧ u.str.f3 = s.str.f3 ∧
        (∀ g : Face, ∀ t : Int, s.nowSub ≤ t → t < s.nextSub → u.pips g t = s.pips g t) ∧
        s.keptBut u (fun a => a == A.STR_UTC_OFFSET || a / 256 == 0x16))

/-- With OVEN up, OVEN_SAMPLE records the measured temperature (the mean, or the higher thermistor while they
disagree), its deviation and, while the heater runs or ramps down, its drive within HEAT_ILIM; it leaves OVEN_ON equal
to what the loop wants, OVEN_FAULT equal to the code of the standing faults, raising OVEN_FAULT when it changes, and
T_INBAND released while the thermistors disagree or OVEN_EN is 0; WARM rises only with T_INBAND and FREQ_SETTLED
together, raising WARM_SET, and falls only as T_INBAND is released, raising WARM_LOST. SLOW_WARM_TIMEOUT with OVEN_EN
and without WARM marks the slow warm-up. HEATER_RAMP_DONE ends a ramp up, and ends a ramp down with the drive at 0 and
the latched enable taken, so that the loop heats again where it wants to. OVEN_EN_WRITE that leaves OVEN_EN takes the
other fields and leaves the arming; one that moves it needs TB armed for the port and consumes the arming, and is
discarded without it. The mean's rounding is the model's choice (log 88). From 02_oven_and_tick_island.md: The oven
cavity, R57, R58, R59, R61, R62, R64, R65, R86, R88. -/
def Obligations.OvenFollowsItsSamples : Prop :=
  ∀ s : State,
    (s.up .oven = true → ∀ (a b : Int) (vheat drive cmd : Nat) (u : State), u = s.ovenSample a b vheat drive cmd →
      exec (.ovenSample a b vheat drive cmd) s = .next (s.after u) ∧
      u.val A.TB_OVEN_TEMP = codeOf 32 (if u.tb.sensorBad.on then max a b else (a + b) / 2) ∧
      u.val A.TB_OVEN_ERR = codeOf 32 ((if u.tb.sensorBad.on then max a b else (a + b) / 2) - Config.ovenSetpoint) ∧
      u.val A.TB_HEAT_DRIVE =
        (if u.bit F.TB_STAT_OVEN_ON = true ∨ u.tb.ramp = .down then min drive (s.val A.TB_HEAT_ILIM) % 2 ^ 32 else 0) ∧
      u.bit F.TB_STAT_OVEN_ON = u.wantsHeat ∧
      (s.bit F.TB_CTL_OVEN_EN = false ∨ s.tb.sensorBad.on = true ∨ u.tb.sensorBad.on = true →
        u.bit F.TB_STAT_T_INBAND = false ∧ u.tb.inband = {} ∧ u.bit F.TB_STAT_WARM = false) ∧ u.get F.TB_STAT_OVEN_FAULT = u.faultCode ∧
      (u.get F.TB_STAT_OVEN_FAULT = s.get F.TB_STAT_OVEN_FAULT ∨ Ev.OVEN_FAULT ∈ u.raised) ∧
      (s.bit F.TB_STAT_WARM = true ∨ u.bit F.TB_STAT_WARM = false ∨
        (u.bit F.TB_STAT_T_INBAND = true ∧ u.bit F.TB_STAT_FREQ_SETTLED = true ∧ Ev.WARM_SET ∈ u.raised)) ∧
      (s.bit F.TB_STAT_WARM = false ∨ u.bit F.TB_STAT_WARM = true ∨
        (u.bit F.TB_STAT_T_INBAND = false ∧ Ev.WARM_LOST ∈ u.raised)) ∧
      s.banksKept u [3, 22] ∧ u.bit F.TB_STAT_PLL_LOCK = s.bit F.TB_STAT_PLL_LOCK ∧ u.ldg.slots = s.ldg.slots ∧
      u = { s with regs := u.regs, raised := u.raised, ldg := u.ldg, tb := u.tb }) ∧
    (s.up .oven = true → s.bit F.TB_CTL_OVEN_EN = true → s.bit F.TB_STAT_WARM = false → ∀ u, u = s.slowWarm →
      exec .slowWarmTimeout s = .next (s.after u) ∧ u.tb.slow = true ∧ u.get F.TB_STAT_OVEN_FAULT = u.faultCode ∧
        s.keptBut u (fun a => a == A.TB_STAT || a / 256 == 22)) ∧
    (s.up .oven = false ∨ s.bit F.TB_CTL_OVEN_EN = false ∨ s.bit F.TB_STAT_WARM = true →
      exec .slowWarmTimeout s = .next (s.after s)) ∧
    (s.up .oven = true → s.tb.ramp ≠ .down →
      exec .heaterRampDone s = .next (s.after { s with tb := { s.tb with ramp := .none } })) ∧
    (s.up .oven = true → s.tb.ramp = .down → s.bit F.TB_STAT_OVEN_ON = false → ∀ u, u = s.rampDone →
      exec .heaterRampDone s = .next (s.after u) ∧ u.tb.ramp ≠ .down ∧ u.ovenDraining = false ∧
        u.val A.TB_HEAT_DRIVE = 0 ∧ u.bit F.TB_STAT_OVEN_ON = u.wantsHeat ∧
        (u.bit F.TB_STAT_OVEN_ON = true → u.tb.ramp = .up) ∧ s.wordsKept u [A.TB_STAT, A.TB_HEAT_DRIVE] ∧
        u = { s with regs := u.regs, tb := u.tb }) ∧
    (∀ (p : HostPort) (v : Word), s.hostReady p = true → s.takesWrites .oven = true → s.takesWrites .time = true →
      (bitOf v.toNat 0 ≠ s.bit F.TB_CTL_OVEN_EN → s.armedFor p .tb = false →
        exec (.ovenEnWrite p v) s = .next (s.after (s.turnedAway p A.TB_CTL v .unarmed))) ∧
      (bitOf v.toNat 0 = s.bit F.TB_CTL_OVEN_EN → bitsAt v.toNat 4 4 ≤ 12 →
        ∀ u, u = (s.tbCtlWrite p true true v.toNat).state →
        exec (.ovenEnWrite p v) s = .next (s.after (u.written p A.TB_CTL v)) ∧
          u.bit F.TB_CTL_OVEN_EN = bitOf v.toNat 0 ∧ u.bit F.TB_CTL_SETTLE_REF = bitOf v.toNat 1 ∧
          u.bit F.TB_CTL_TIM_REF_EN = bitOf v.toNat 2 ∧ u.get F.TB_CTL_TIM_REF_SRC = bitsAt v.toNat 4 4 ∧
          s.wordsKept u [A.TB_CTL] ∧ u = { s with regs := u.regs }) ∧
      (bitOf v.toNat 0 = s.bit F.TB_CTL_OVEN_EN → 12 < bitsAt v.toNat 4 4 →
        ∀ u, u = (s.tbCtlWrite p true true v.toNat).state →
        exec (.ovenEnWrite p v) s = .next (s.after (u.turnedAway p A.TB_CTL v .range)) ∧
          u.get F.TB_CTL_TIM_REF_SRC = s.get F.TB_CTL_TIM_REF_SRC ∧ u.bit F.TB_CTL_SETTLE_REF = bitOf v.toNat 1 ∧
          u.bit F.TB_CTL_TIM_REF_EN = bitOf v.toNat 2 ∧ s.wordsKept u [A.TB_CTL]) ∧
      (bitOf v.toNat 0 ≠ s.bit F.TB_CTL_OVEN_EN → s.armedFor p .tb = true → bitsAt v.toNat 4 4 ≤ 12 →
        ∀ u, u = (s.tbCtlWrite p true true v.toNat).state →
        exec (.ovenEnWrite p v) s = .next (s.after (u.written p A.TB_CTL v)) ∧ u.armedBy .tb = none ∧
          u.bit F.TB_CTL_OVEN_EN = bitOf v.toNat 0 ∧ u.bit F.TB_CTL_SETTLE_REF = bitOf v.toNat 1 ∧
          u.bit F.TB_CTL_TIM_REF_EN = bitOf v.toNat 2 ∧ u.get F.TB_CTL_TIM_REF_SRC = bitsAt v.toNat 4 4 ∧
          (bitOf v.toNat 0 = false → u.bit F.TB_STAT_WARM = false ∧ u.bit F.TB_STAT_OVEN_ON = false)))

/-- With TIME not OFF, the first PLL_LOCKED starts the Tally at 0 with TALLY_RUN; a later one leaves the Tally.
TICK_UNLOCK while locked clears PLL_LOCK and, with the Tally running, sets UNLOCK_SEEN and raises TICK_UNLOCK, and
keeps the Tally. X32_WINDOW_END gives the first verdict of R78 that applies: TICK_SLIP when DIV found slips,
TICK_SUSPECT or X32_SUSPECT when X32 stands, TICK_REF_DISAGREE when only REF stands, with its sticky bit, and no event
of these otherwise. REF_GATE_END records its deviation, samples the REF qualifier and gives the verdict of X32 and REF
as they then stand (a verdict at the gate's end is the model's reading, log 89). A DWELL write stores a sound
descriptor of three words and restarts its runs, or is discarded as RANGE. From 02_oven_and_tick_island.md: The Tick
PLL and the Tally, R63, R70, R72, R73, R74, R75, R78, R830. -/
def Obligations.TickIsLockedAndChecked : Prop :=
  ∀ s : State,
    (s.dom .time ≠ 0 → s.bit F.TB_STAT_PLL_LOCK = false → ∀ u, u = s.lockRises →
      exec .pllLocked s = .next (s.after u) ∧ u.bit F.TB_STAT_PLL_LOCK = true ∧ u.tallyRun = true ∧
        u.tally = (if s.tallyRun then s.tally else 0) ∧ u.str = s.str ∧ u.ldg = s.ldg) ∧
    (s.up .time = true → s.bit F.TB_STAT_PLL_LOCK = true → ∀ u, u = s.pllUnlock.noTick →
      exec .tickUnlock s = .next (s.after u) ∧ u.bit F.TB_STAT_PLL_LOCK = false ∧ u.tally = s.tally ∧
        (s.tallyRun = true → u.bit F.TB_STAT_UNLOCK_SEEN = true ∧ Ev.TICK_UNLOCK ∈ u.raised)) ∧
    (∀ (ticks : Nat) (done : Bool) (slips : Nat), s.up .time = true → s.tallyRun = true →
      ∀ u, u = s.x32Window ticks done slips → ∀ v, v = s.windowVerdict ticks done slips →
      ∀ w, w = (if done && v.1.crystalSound then u.x32Learn ticks else u) →
      exec (.x32WindowEnd ticks done slips) s = .next (s.after w) ∧
      (0 < slips → Ev.TICK_SLIP ∈ w.raised ∧ w.bit F.TB_STAT_SLIP_SEEN = true) ∧
      (slips = 0 → w.tb.x32.on = true ∨ done = false → w.bit F.TB_STAT_SUSPECT_SEEN = true ∧
        (if s.refActive = true ∧ s.tb.ref.on = false then Ev.X32_SUSPECT ∈ w.raised else Ev.TICK_SUSPECT ∈ w.raised)) ∧
      (slips = 0 → w.tb.x32.on = false → done = true → s.refActive = true → s.tb.ref.on = true →
        Ev.TICK_REF_DISAGREE ∈ w.raised ∧ w.bit F.TB_STAT_REF_SEEN = true) ∧
      (slips = 0 → w.tb.x32.on = false → done = true → ¬ (s.refActive = true ∧ s.tb.ref.on = true) →
        (Ev.TICK_SLIP ∈ w.raised ↔ Ev.TICK_SLIP ∈ s.raised) ∧ (Ev.TICK_SUSPECT ∈ w.raised ↔ Ev.TICK_SUSPECT ∈ s.raised) ∧
        w.tb = { s.tb with x32 := v.2 }) ∧
      w.val A.TB_TIM_X32_TICKS = (if done then ticks else 0) % 2 ^ 32 ∧ w.tally = s.tally ∧ w.str = s.str) ∧
    (∀ dev : Int, s.up .time = true → s.refActive = true → ∀ u, u = s.refGate dev →
      ∀ q, q = Qual.sample .upper (s.descriptor A.TB_TIM_REF_ASSERT) |dev| s.tb.ref →
      exec (.refGateEnd dev) s = .next (s.after u) ∧ u.val A.TB_TIM_REF_DEV = codeOf 32 dev ∧
        u.tb = { s.tb with ref := q, gates := (dev :: s.tb.gates).take 2 } ∧
        (s.tb.x32.on = true → u.bit F.TB_STAT_SUSPECT_SEEN = true ∧
          (if q.on then Ev.TICK_SUSPECT ∈ u.raised else Ev.X32_SUSPECT ∈ u.raised)) ∧
        (s.tb.x32.on = false → q.on = true → u.bit F.TB_STAT_REF_SEEN = true ∧ Ev.TICK_REF_DISAGREE ∈ u.raised) ∧
        s.keptBut u (fun a => a == A.TB_TIM_REF_DEV || a == A.TB_STAT || a / 256 == 0x16) ∧
        u.tally = s.tally ∧ u.str = s.str) ∧
    (∀ (p : HostPort) (a : Nat) (v : Word), s.mayWrite p a = true →
      (rowOf a).writable ≠ 0 → ∀ d, descriptorAt a = some d → a = d.1 + 2 →
      ∀ up, up = (s.heldWord p d.1).getD (s.rd d.1) → ∀ down, down = (s.heldWord p (d.1 + 1)).getD (s.rd (d.1 + 1)) →
      ((Descriptor.ofWords up down v).ok d.2 = true →
        ∀ u, u = ((((s.dropHolds p [d.1, d.1 + 1]).wr d.1 up).wr (d.1 + 1) down).wr (d.1 + 2) v).resetRun d.1 →
        exec (.thresholdDescriptorWrite p a v) s = .next (s.after (u.written p a v)) ∧ u.rd d.1 = up ∧
          u.rd (d.1 + 1) = down ∧ u.rd (d.1 + 2) = v ∧ s.wordsKept u [d.1, d.1 + 1, d.1 + 2]) ∧
      ((Descriptor.ofWords up down v).ok d.2 = false →
        exec (.thresholdDescriptorWrite p a v) s = .next (s.after ((s.dropHolds p [d.1, d.1 + 1]).turnedAway p a v .range))))

/-- With TIME up and edges of that polarity reaching channel n: with no change of its settings under way, an edge 6.4
ns or more after the last one taken, or the first, begins a conversion fixed by its bin, and one 1.6 ns or more after
it begins a coarse conversion; one closer, one of a pulse or rate beyond the prescaler, and every one during a change
of settings is lost: LOST saturates one up, no conversion begins, and the first loss of a run sets RANGE_SEEN and
raises VC_RANGE. STAMP_COMPOSE ends the oldest conversion: its stamp is the Tally at capture plus the bin's end, less
the vernier's fine count (16 where the oscillators did not meet), less the path delays; EDGES counts one, IDLE clears,
and a vernier that met no coincidence is reported. From 03_vernier_capture.md: From edge to stamp, R89, R90, R92, R93,
R94, R96, R99, R104, R105. -/
def Obligations.EdgesBecomeStamps : Prop :=
  ∀ (s : State) (n : Nat), s.up .time = true → n < 8 →
    (∀ (sub k : Nat) (falling short : Bool), s.takesEdges n = true → s.passes n falling = true →
      ∀ u, u = s.refEdge n sub k falling short →
        exec (.refEdge n sub k falling short) s = .next (s.after u) ∧ u.bit (F.VC_Vn_STAT_LEVEL n) = !falling ∧
        (∀ late, late = (match (s.chan n).prevEdge with
            | none => false
            | some e => decide (s.nowSub + (sub % 65536 : Nat) - e < 524288)) →
          (s.chan n).changing = false → short = false → (∀ e, (s.chan n).prevEdge = some e → 131072 ≤ s.nowSub + (sub % 65536 : Nat) - e) →
          (u.chan n).conv.length = (s.chan n).conv.length + 1 ∧ (u.chan n).prevEdge = some (s.nowSub + (sub % 65536 : Nat)) ∧
          (u.chan n).conv.getLast? = some
            { tally := s.tally, falling := falling, coarse := late
              suspect := !s.bit F.TB_STAT_PLL_LOCK || !s.bit (F.VC_Vn_STAT_TABLE_VALID n)
              edgeEnd := s.binEdge n (k % 32 + 1), width := s.binWidth n (k % 32), sq := s.val (A.VCAL_Vn_SQ n)
              delays := s.pathDelay n + s.ival (A.VC_Vn_DELAY_OFS n), prescaled := s.get (F.VC_Vn_CTL_PRESC n) != 0 } ∧
          s.wordsKept u [A.VC_Vn_STAT n]) ∧
        (short = true → (u.chan n).conv = (s.chan n).conv ∧ (u.chan n).prevEdge = (s.chan n).prevEdge ∧
          u.val (A.VC_Vn_LOST n) = min (2 ^ 32 - 1) (s.val (A.VC_Vn_LOST n) + 1) ∧
          s.wordsKept u [A.VC_Vn_STAT n, A.VC_Vn_LOST n]) ∧
        (short = true → (s.chan n).ranges.any (fun r => r.running && r.cause == 1) = false →
          u.bit (F.VC_Vn_STAT_RANGE_SEEN n) = true ∧ Ev.VC_RANGE ∈ u.raised) ∧
        (short = false → ((s.chan n).changing = true ∨
            ∃ e, (s.chan n).prevEdge = some e ∧ s.nowSub + (sub % 65536 : Nat) - e < 131072) →
          (u.chan n).conv = (s.chan n).conv ∧ (u.chan n).prevEdge = (s.chan n).prevEdge ∧
          u.val (A.VC_Vn_LOST n) = min (2 ^ 32 - 1) (s.val (A.VC_Vn_LOST n) + 1) ∧
          ((s.chan n).ranges.any (fun r => r.running && r.cause == 0) = false →
            u.bit (F.VC_Vn_STAT_RANGE_SEEN n) = true ∧ Ev.VC_RANGE ∈ u.raised)) ∧
        u = { s with regs := u.regs, raised := u.raised, vc := u.vc, refm := u.refm }) ∧
    (∀ (cnt : Nat) (met : Bool), (s.chan n).conv = [] → exec (.stampCompose n cnt met) s = .next (s.after s)) ∧
    (∀ (cnt : Nat) (met : Bool), ∀ v, (s.chan n).conv.head? = some v →
      ∀ st, st = v.stamp cnt met → ∀ u, u = (s.setChan n { s.chan n with conv := (s.chan n).conv.tail }).stamped n v st
        (!met && !v.coarse) →
        exec (.stampCompose n cnt met) s = .next (s.after ((u.tap n st).flushLater n)) ∧
        st.t = (v.tally : Int) * 65536 + v.edgeEnd -
          (if v.coarse then v.width / 2 else ((if met then min 16 cnt else 16) * v.sq + 255) / 256 : Nat) - v.delays ∧ st.late = v.coarse ∧
        u.val (A.VC_Vn_EDGES n) = (s.val (A.VC_Vn_EDGES n) + 1) % 2 ^ 32 ∧
        u.multi (A.VC_Vn_LAST_HI n) 2 = (stampEntry st v.prescaled).toNat ∧ u.bit (F.VC_Vn_STAT_IDLE n) = false ∧
        (met = false → v.coarse = false → Ev.VC_VERN_OVR ∈ u.raised ∧ st.suspect = true) ∧
        (v.coarse = true → u.bit (F.VC_Vn_STAT_LATE_SEEN n) = true) ∧ (u.chan n).conv = (s.chan n).conv.tail ∧
        (s.bit (F.VC_Vn_CTL_QEN n) = false → (u.chan n).queue = (s.chan n).queue))

/-- With TIME up: VQ_FLUSH with 1 empties the queue and changes no register, and with another value changes nothing;
VC_MARK of a host tag, unless conversions of earlier edges are in progress, puts a MARKER entry with the present tick
behind every entry of the queue, and otherwise waits for them; VQ_RATE_WINDOW_END at a window's end restarts every
channel's count; a VC_CTL_WRITE of Vn_CTL with no run in progress takes each field in range and leaves the others, its
EN starting the channel or beginning its stop, at once or, with a conversion in progress, when that ends; one of
Vn_DELAY_OFS likewise; during a run both are held; a write that may not loop the channel is discarded; VC_DRAIN_DONE
of a stopped channel with no conversion left ends it; VC_IDLE of an active channel with a limit sets IDLE;
MEASURE_GATE_END of a unit that computes shows its count, its sum and the unpaired edges, and starts afresh. From
03_vernier_capture.md: Range, rate and the queue, R97, R98, R100, R103, R104, R108, R109, R112, R113, R114. -/
def Obligations.QueuesMarkersAndChannels : Prop :=
  ∀ (s : State) (n : Nat), s.up .time = true → n < 8 →
    (∀ p : HostPort, s.mayWrite p (A.VQ_Vn_FLUSH n) = true → ∀ u, u = s.vqFlush n →
      exec (.vqFlush p n 1) s = .next (s.still (u.written p (A.VQ_Vn_FLUSH n) 1)) ∧ (u.chan n).queue = [] ∧
        (∀ m, m < 8 → m ≠ n → u.chan m = s.chan m) ∧ s.wordsKept u [] ∧
        u = { s with raised := u.raised, vc := u.vc }) ∧
    (∀ (p : HostPort) (v : Word), s.mayWrite p (A.VQ_Vn_FLUSH n) = true → v ≠ 1 →
      exec (.vqFlush p n v) s = .next (s.still (s.written p (A.VQ_Vn_FLUSH n) v))) ∧
    (∀ (p : HostPort) (v : Word), s.mayWrite p (A.VC_Vn_MARK n) = true →
      (0xFF00 ≤ v.toNat → exec (.vcMark p n v) s = .next (s.still (s.turnedAway p (A.VC_Vn_MARK n) v .range))) ∧
      (v.toNat < 0xFF00 → s.bit (F.VC_Vn_CTL_QEN n) = true → (s.chan n).later = [] → (s.chan n).markerNext s.tally = true →
        (s.chan n).ranges.any (fun r => decide (0 < r.edges)) = false → (s.chan n).queue.length ≤ 4094 →
        ∀ u, u = s.vqPush n (vqEntry 1 0 s.tally v.toNat) →
        exec (.vcMark p n v) s = .next (s.still (u.written p (A.VC_Vn_MARK n) v)) ∧
          (u.chan n).queue = (s.chan n).queue ++ [vqEntry 1 0 s.tally v.toNat] ∧ s.wordsKept u []) ∧
      (v.toNat < 0xFF00 → (s.chan n).later ≠ [] ∨ (s.chan n).markerNext s.tally = false →
        ∀ u, u = s.setChan n { s.chan n with later := (s.chan n).later ++ [.mark s.tally v.toNat] } →
        exec (.vcMark p n v) s = .next (s.still (u.written p (A.VC_Vn_MARK n) v)))) ∧
    (s.tallyRun = true → s.tally % 1250000 = 0 → ∀ u, u = s.rateWindowEnd →
      exec .vqRateWindowEnd s = .next (s.still u) ∧ (u.chan n).windowCount = 0 ∧ (u.chan n).queue = (s.chan n).queue ∧
        u = { s with vc := u.vc }) ∧
    (s.tallyRun = false ∨ s.tally % 1250000 ≠ 0 → exec .vqRateWindowEnd s = .next (s.still s)) ∧
    (∀ (p : HostPort) (v : Word), s.mayWrite p (A.VC_Vn_CTL n) = true → bitOf v.toNat 15 = true → s.mayLoop n = false →
      exec (.vcCtlWrite p (A.VC_Vn_CTL n) v) s = .next (s.after (s.turnedAway p (A.VC_Vn_CTL n) v .range))) ∧
    (∀ (p : HostPort) (v : Word), s.mayWrite p (A.VC_Vn_CTL n) = true → (bitOf v.toNat 15 = true → s.mayLoop n = true) →
      ∀ w, w = vcCtlFit (s.val (A.VC_Vn_CTL n)) v.toNat → (vcCtlOk v.toNat = true → w = v.toNat % 2 ^ 20) ∧
      (∀ t : State, ∀ told, told = (if vcCtlOk v.toNat then t.written p (A.VC_Vn_CTL n) v
          else t.turnedAway p (A.VC_Vn_CTL n) v .range) →
        ((s.calib n).run = none → (s.chan n).later = [] → (s.chan n).conv = [] → t = s.applyVcCtl n w →
          exec (.vcCtlWrite p (A.VC_Vn_CTL n) v) s = .next (s.after told) ∧
            t.val (A.VC_Vn_CTL n) = w ∧ t.bit (F.VC_Vn_STAT_LOOPED n) = bitOf w 15 ∧
            (s.bit (F.VC_Vn_CTL_EN n) = false → bitOf w 0 = true → (s.chan n).stopping = false →
              t.bit (F.VC_Vn_STAT_ACTIVE n) = true) ∧
            (s.bit (F.VC_Vn_CTL_EN n) = true → bitOf w 0 = false → (s.chan n).stopping = false →
              (t.chan n).stopping = true) ∧
            (∀ m, m < 8 → m ≠ n → t.chan m = s.chan m)) ∧
        ((s.calib n).run = none → (s.chan n).conv ≠ [] → t = s.writeVcCtl n w →
          exec (.vcCtlWrite p (A.VC_Vn_CTL n) v) s = .next (s.after told) ∧
            (t.chan n).later = (s.chan n).later ++ [.write 0 (wordOf w)] ∧ s.wordsKept t [A.VC_Vn_STAT n] ∧
            t = { s with regs := t.regs, vc := t.vc }) ∧
        ((s.calib n).run.isSome = true → bitOf w 0 = true →
          t = s.setCalib n { s.calib n with heldWords := (s.calib n).heldWords ++ [(0, wordOf w)] } →
          exec (.vcCtlWrite p (A.VC_Vn_CTL n) v) s = .next (s.after told)))) ∧
    (∀ (p : HostPort) (v : Word), s.mayWrite p (A.VC_Vn_DELAY_OFS n) = true →
      ((s.calib n).run = none → (s.chan n).later = [] → (s.chan n).conv = [] → ∀ u, u = s.applyDelay n v.toNat →
        exec (.vcCtlWrite p (A.VC_Vn_DELAY_OFS n) v) s = .next (s.after (u.written p (A.VC_Vn_DELAY_OFS n) v)) ∧
          u.rd (A.VC_Vn_DELAY_OFS n) = v ∧ (∀ m, m < 8 → m ≠ n → u.chan m = s.chan m)) ∧
      ((s.calib n).run.isSome = true → ∀ u, u = s.delayWrite n v.toNat →
        exec (.vcCtlWrite p (A.VC_Vn_DELAY_OFS n) v) s = .next (s.after (u.written p (A.VC_Vn_DELAY_OFS n) v)) ∧
          (u.calib n).heldWords = (s.calib n).heldWords ++ [(2, v)] ∧ u = { s with cal := u.cal })) ∧
    ((s.chan n).stopping = true → (s.chan n).conv = [] → ∀ u, u = s.vcDrained n →
      exec (.vcDrainDone n) s = .next (s.after u) ∧ (u.chan n).stopping = false ∧
        u.bit (F.VC_Vn_STAT_ACTIVE n) = s.bit (F.VC_Vn_STAT_DRAINING n) ∧ (u.chan n).prevEdge = none) ∧
    ((s.chan n).stopping = false ∨ (s.chan n).conv ≠ [] → exec (.vcDrainDone n) s = .next (s.after s)) ∧
    (s.bit (F.VC_Vn_STAT_ACTIVE n) = true → s.val (A.VC_Vn_IDLE_LIMIT n) ≠ 0 → s.bit (F.VC_Vn_STAT_IDLE n) = false →
      ∀ u, u = s.vcIdle n → exec (.vcIdle n) s = .next (s.after u) ∧ u.bit (F.VC_Vn_STAT_IDLE n) = true ∧
        u.bit (F.VC_Vn_STAT_IDLE_SEEN n) = true ∧ Ev.VC_IDLE ∈ u.raised ∧ s.wordsKept u [A.VC_Vn_STAT n] ∧
        u = { s with regs := u.regs, raised := u.raised }) ∧
    (n < 4 → s.measuring n = true → ∀ f, f = s.get (F.VC_Mm_CTL_FUNC n) → ∀ u, u = s.measureGate n →
      exec (.measureGateEnd n) s = .next (s.still u) ∧ u.unit n = {} ∧ u.bit (F.VC_Mm_STAT_GATE_DONE n) = true ∧
        u.val (A.VC_Mm_COUNT n) = (s.unit n).count f % 2 ^ 32 ∧
        u.multi (A.VC_Mm_SUM_HI n) 2 = codeOf 64 ((s.unit n).pairing f).samples.sum ∧
        u.val (A.VC_Mm_UNPAIRED n) = ((s.unit n).pairing f).unpaired % 2 ^ 32 ∧
        (∀ m, m < 4 → m ≠ n → u.unit m = s.unit m) ∧ s.banksKept u [5] ∧
        u = { s with regs := u.regs, draws := u.draws, meas := u.meas })

/-- With TIME up: CAL_RUN and CAL_TRIM_ONLY, with no conversion in progress, start their run in Calibrate or Rise or
on a channel not in use, and with a run in progress start none; CAL_DISCARD leaves the nominal widths, the nominal S_q
and no valid table; behind a conversion in progress the three wait for it. CAL_AUTO_START starts the planned run where
R134 lets it, on a channel in use only within 1 ms after a stamped edge. During a full run without widths:
CAL_NO_EDGES_TIMEOUT, CAL_BIN_SATURATED and a failed uniformity test end it with their reasons; hits that pass give
the widths of R121. TRIM_MEASUREMENT_DONE within 512 below the top of the widest bin ends the run with its S_q,
DONE_SEEN and CAL_DONE. CAL_DUE makes a stored table older than MAX_AGE; CAL_DRIFT_SAMPLE qualifies the die
temperature's drift; TRIM_PERIOD_DUE marks each enabled channel. From 04_interpolator_calibration.md: Run sequence and
result, R66, R117, R118, R119, R120, R121, R124, R126, R128, R135, R138. -/
def Obligations.CalibrationRuns : Prop :=
  ∀ (s : State) (n : Nat), s.up .time = true → n < 8 →
    (∀ (p : HostPort) (v : Word), s.mayWrite p (A.VCAL_Vn_CAL_CTL n) = true → (s.calib n).run = none → (s.chan n).conv ≠ [] →
      ∀ u, u = s.setChan n { s.chan n with later := (s.chan n).later ++ [.write 0x40 v] } →
      exec (.calRun p n v) s = .next (s.after (u.written p (A.VCAL_Vn_CAL_CTL n) v)) ∧
      exec (.calTrimOnly p n v) s = .next (s.after (u.written p (A.VCAL_Vn_CAL_CTL n) v)) ∧
      exec (.calDiscard p n v) s = .next (s.after (u.written p (A.VCAL_Vn_CAL_CTL n) v))) ∧
    (∀ (p : HostPort) (v : Word), s.mayWrite p (A.VCAL_Vn_CAL_CTL n) = true →
      (s.calib n).run.isSome = true ∨ ((s.chan n).later = [] ∧ (s.chan n).conv = []) → ∀ u, u = s.calCtlWrite n v.toNat →
      exec (.calRun p n v) s = .next (s.after (u.written p (A.VCAL_Vn_CAL_CTL n) v)) ∧
      exec (.calTrimOnly p n v) s = .next (s.after (u.written p (A.VCAL_Vn_CAL_CTL n) v)) ∧
      exec (.calDiscard p n v) s = .next (s.after (u.written p (A.VCAL_Vn_CAL_CTL n) v)) ∧
      (bitOf v.toNat 0 = true → bitOf v.toNat 2 = false → s.runPlace n = .now → s.bit F.TB_STAT_PLL_LOCK = true →
        (s.calib n).run = none → (u.calib n).run = some { full := true, held := true }) ∧
      (bitOf v.toNat 0 = false → bitOf v.toNat 1 = true → bitOf v.toNat 2 = false → s.runPlace n = .now →
        s.bit F.TB_STAT_PLL_LOCK = true → (s.calib n).run = none →
        (u.calib n).run = some { full := false, held := true }) ∧
      (bitOf v.toNat 2 = false → (s.calib n).run.isSome = true → (u.calib n).run = (s.calib n).run) ∧
      (bitOf v.toNat 0 = false → bitOf v.toNat 1 = false → bitOf v.toNat 2 = true →
        (u.calib n).run = none ∧ (u.calib n).stored = false ∧ u.bit (F.VC_Vn_STAT_TABLE_VALID n) = false ∧
        u.val (A.VCAL_Vn_SQ n) = 32768 ∧ (∀ k, k < 32 → u.binWidth n k = 2048))) ∧
    (∀ u, u = s.autoRun n → exec (.calAutoStart n) s = .next (s.after u) ∧
      ((s.calib n).run.isSome = true ∨ s.plannedRun n = none → u = s) ∧
      ((s.calib n).run = none → ∀ full, s.plannedRun n = some full → s.bit F.TB_STAT_PLL_LOCK = true →
        s.autoPlace n full = .now ∨ (s.autoPlace n full = .atEdge ∧ s.justStamped n = true) →
        (u.calib n).run = some { full := full, held := decide (s.autoPlace n full = .now) }) ∧
      ((s.calib n).run = none → ∀ full, s.plannedRun n = some full → s.autoPlace n full = .atEdge →
        s.justStamped n = false → u = s) ∧
      ((s.calib n).run = none → ∀ full, s.plannedRun n = some full → s.autoPlace n full = .deferred →
        u.bit (F.VCAL_Vn_CAL_STAT_DEFERRED n) = true ∧ s.wordsKept u [A.VCAL_Vn_CAL_STAT n] ∧
        u = { s with regs := u.regs })) ∧
    (∀ r, (s.calib n).run = some r → r.full = true → r.widths = none →
      (∀ u, u = s.abortRun n 1 0 0 0 → exec (.calNoEdgesTimeout n) s = .next (s.after u) ∧ (u.calib n).run = none ∧
        u.val (A.VCAL_Vn_RESULT n) = 1 ∧ u.bit (F.VCAL_Vn_CAL_STAT_ABORT_SEEN n) = true ∧ Ev.CAL_ABORT ∈ u.raised) ∧
      (∀ bin, bin < 32 → ∀ u, u = s.abortRun n 2 0 bin 0 → exec (.calBinSaturated n bin) s = .next (s.after u) ∧
        (u.calib n).run = none ∧ u.val (A.VCAL_Vn_RESULT n) = 2 + bin * 256) ∧
      (∀ qs : List (List Nat), ∀ cs, cs = totalCounts qs → ∀ u, u = s.hitsCollected n qs →
        exec (.calHitsCollected n qs) s = .next (s.after u) ∧ (cs.sum ≠ s.calHits → u = s) ∧
        (cs.sum = s.calHits → (u.calib n).run = (if uniformFail qs = none ∧ coverFail (calWidths s.calHits cs) = none then
          some ({ r with widths := some (calWidths s.calHits cs) } : CalRun) else none)))) ∧
    (∀ r, (s.calib n).run = some r → r.full = false ∨ r.widths.isSome = true → ∀ slow fast : Nat,
      ∀ top : Int, top = 16 * (s.widest n r : Int) → ∀ u, u = s.trimMeasured n slow fast →
      exec (.trimMeasurementDone n slow fast) s = .next (s.after u) ∧
      (top - 512 ≤ measuredSq slow fast ∧ measuredSq slow fast ≤ top → (u.calib n).run = none ∧
        u.val (A.VCAL_Vn_RESULT n) = 0 ∧ u.bit (F.VCAL_Vn_CAL_STAT_DONE_SEEN n) = true ∧ Ev.CAL_DONE ∈ u.raised ∧
        (u.calib n).stored = true ∧ u.val (A.VCAL_Vn_SQ n) = (measuredSq slow fast).toNat % 2 ^ 32) ∧
      (¬ (top - 512 ≤ measuredSq slow fast ∧ measuredSq slow fast ≤ top) → 7 ≤ r.measured →
        (u.calib n).run = none ∧ u.val (A.VCAL_Vn_RESULT n) = 5)) ∧
    ((s.calib n).stored = true → s.val A.VCAL_MAX_AGE ≠ 0 → ∀ u, u = s.calDue n → exec (.calDue n) s = .next (s.after u) ∧
      u.due n = true ∧ s.wordsKept u [A.VCAL_Vn_TAB_HOURS n] ∧ u = { s with regs := u.regs, cal := u.cal }) ∧
    (∀ u, u = s.driftSample n → exec (.calDriftSample n) s = .next (s.after u) ∧
      (u.calib n).drift = Qual.sample .upper (s.descriptor A.VCAL_DRIFT_ASSERT)
        |s.dieTemp - s.ival (A.VCAL_Vn_TAB_TEMP n)| (s.calib n).drift ∧
      u.bit (F.VCAL_Vn_CAL_STAT_DUE_TEMP n) = (u.calib n).drift.on ∧
      s.wordsKept u [A.VCAL_Vn_TAB_HOURS n, A.VCAL_Vn_CAL_STAT n] ∧ u = { s with regs := u.regs, cal := u.cal }) ∧
    (s.val A.VCAL_TRIM_PERIOD ≠ 0 → ∀ u, u = s.trimDue → exec .trimPeriodDue s = .next (s.after u) ∧
      (s.bit (F.VC_Vn_CTL_EN n) = true → (u.calib n).trimDue = true) ∧ u = { s with cal := u.cal })

/-- With TIME up and t one of the eight TSUs: DLL_LOCKED while the PLL is locked makes it LOCKED with REASON 0;
DLL_UNLOCK of a locked one clears LOCKED, sets LOST_SEEN and raises DLL_UNLOCK, and leaves every other DLL; a DLL_CMD
write clears the lock of each TSU named whose port has no link, and refuses each other with reason 7. From
04_interpolator_calibration.md: Locking the port delay lines, R129, R131, R132. -/
def Obligations.DllsLockAndLose : Prop :=
  ∀ (s : State) (t : Nat), s.up .time = true → t < 8 →
    (s.bit F.TB_STAT_PLL_LOCK = true → s.bit (F.VCAL_DLL_LOCKED t) = false → ∀ u, u = s.dllLocked t →
      exec (.dllLocked t) s = .next (s.after u) ∧ u.bit (F.VCAL_DLL_LOCKED t) = true ∧ u.get (F.VCAL_DLL_REASON t) = 0 ∧
        u.draws = s.draws + 1 ∧ s.wordsKept u [A.VCAL_DLL t] ∧ u = { s with regs := u.regs, draws := u.draws }) ∧
    (s.bit F.TB_STAT_PLL_LOCK = false ∨ s.bit (F.VCAL_DLL_LOCKED t) = true →
      exec (.dllLocked t) s = .next (s.after s)) ∧
    (s.bit (F.VCAL_DLL_LOCKED t) = true → ∀ u, u = s.dllLose t →
      exec (.dllUnlock t) s = .next (s.after u) ∧ u.bit (F.VCAL_DLL_LOCKED t) = false ∧
        u.bit (F.VCAL_DLL_LOST_SEEN t) = true ∧ Ev.DLL_UNLOCK ∈ u.raised ∧ s.wordsKept u [A.VCAL_DLL t] ∧
        u = { s with regs := u.regs, raised := u.raised }) ∧
    (s.bit (F.VCAL_DLL_LOCKED t) = false → exec (.dllUnlock t) s = .next (s.after s)) ∧
    (∀ (p : HostPort) (v : Word), s.mayWrite p A.VCAL_DLL_CMD = true → ∀ u, u = s.dllCmd v.toNat →
      exec (.dllReacquire p v) s = .next (s.after (u.written p A.VCAL_DLL_CMD v)) ∧
      (bitOf v.toNat t = false → u.val (A.VCAL_DLL t) = s.val (A.VCAL_DLL t)) ∧
      (bitOf v.toNat t = true → s.bit (F.MAC_STAT_LINK_UP (t / 2)) = false → u.bit (F.VCAL_DLL_LOCKED t) = false) ∧
      (bitOf v.toNat t = true → s.bit (F.MAC_STAT_LINK_UP (t / 2)) = true →
        u.get (F.VCAL_DLL_REASON t) = 7 ∧ u.bit (F.VCAL_DLL_LOCKED t) = s.bit (F.VCAL_DLL_LOCKED t)) ∧
      s.wordsKept u ((List.range 8).map A.VCAL_DLL) ∧ u = { s with regs := u.regs, raised := u.raised })

/-- With TIME up: REF_LOS of an armed PIN slot and NET_SYNC_TIMEOUT of an armed NET slot (8 to 11) send it to
ACQUIRING, set LOS_SEEN, raise REF_LOS, end its wait-to-restore and, if it was QUALIFIED, count a fault; of a slot not
armed they change nothing. ESMC_TIMEOUT gives SYNCE_QL 15; INTEG_VERDICT_TIMEOUT gives verdict UNKNOWN; WTR_EXPIRED
ends a running wait-to-restore. A sentence on a disabled UART, or without the bank of its pin, changes nothing; on an
enabled one a broken sentence counts ERR, an unknown type or an ill-formed $PMQST IGNORED, and either changes no other
word; a $PMQST in range becomes the UART's fresh statement. With REVERT, WTR_EXPIRED of an eligible slot on a higher
rung than the selected one switches to it. NMEA_VERDICT_EXPIRED drops the verdict of its kind and changes no register.
From 05_references_and_quality.md: Slots, R148, R149, R150, R153, R155, R156, R157, R161, R163, R166. -/
def Obligations.SlotsLoseAndRestore : Prop :=
  ∀ s : State, s.up .time = true →
    (∀ n, n < 12 → ∀ u, u = s.lossOfSignal n →
      (s.bit (F.REFM_Sn_CTL_EN n) = true → (s.slot n).losArmed = true →
        (n < 8 → exec (.refLos n) s = .next (s.after u)) ∧ (8 ≤ n → exec (.netSyncTimeout n) s = .next (s.after u)) ∧
        u.slotState n = 1 ∧ u.bit (F.REFM_Sn_STAT_LOS_SEEN n) = true ∧ u.bit (F.REFM_Sn_STAT_WTR_RUN n) = false ∧
        Ev.REF_LOS ∈ u.raised ∧ (u.slot n).losArmed = false ∧
        u.val (A.REFM_Sn_FAULTS n) = (if s.slotState n = 2 then (s.val (A.REFM_Sn_FAULTS n) + 1) % 2 ^ 32
          else s.val (A.REFM_Sn_FAULTS n)) ∧
        (∀ m, m < 12 → m ≠ n → u.slot m = s.slot m) ∧ s.wordsKept u [A.REFM_Sn_STAT n, A.REFM_Sn_FAULTS n] ∧
        u = { s with regs := u.regs, raised := u.raised, refm := u.refm }) ∧
      (s.bit (F.REFM_Sn_CTL_EN n) = false ∨ (s.slot n).losArmed = false →
        (n < 8 → exec (.refLos n) s = .next (s.after s)) ∧ (8 ≤ n → exec (.netSyncTimeout n) s = .next (s.after s)))) ∧
    (∀ n, 8 ≤ n → n ≤ 11 → exec (.esmcTimeout n) s = .next (s.after (s.put (F.REFM_Sn_IQ_SYNCE_QL n) 15))) ∧
    (∀ n, n < 12 → ∀ u, u = s.setSlot n { s.slot n with job := 3 } → exec (.integVerdictTimeout n) s = .next (s.after u) ∧
      (s.bit (F.REFM_Sn_CTL_INTEG_EN n) = true → u.integOf n = 3)) ∧
    (∀ n, n < 12 → s.bit (F.REFM_Sn_STAT_WTR_RUN n) = true →
      exec (.wtrExpired n) s = .next (s.after (s.put (F.REFM_Sn_STAT_WTR_RUN n) 0))) ∧
    (∀ n, n < 12 → s.bit (F.REFM_Sn_STAT_WTR_RUN n) = false → (s.bit F.REFM_CTL_REVERT = false ∨ s.eligible n = false) →
      exec (.wtrExpired n) s = .next (s.after s)) ∧
    (∀ n, n < 12 → s.bit (F.REFM_Sn_STAT_WTR_RUN n) = false → s.bit F.REFM_CTL_REVERT = true → s.eligible n = true →
      s.selSlot ∈ s.ladder → s.selSlot < 12 → s.ladder.idxOf n < s.ladder.idxOf s.selSlot →
      s.get F.REFM_SEL_NOW_PENDING ≠ n → exec (.wtrExpired n) s = .next (s.after (s.switchTo n false))) ∧
    (∀ (g : Nat) (line : List Nat), g < 2 →
      (s.bit (F.REFM_GRXg_CTL_EN g) = false ∨ s.pwr.vioH = none → exec (.nmeaSentence g line) s = .next (s.after s)) ∧
      (s.bit (F.REFM_GRXg_CTL_EN g) = true → s.pwr.vioH.isSome = true → nmeaFields line (s.bit (F.REFM_GRXg_CTL_REQ_CSUM g)) = none →
        exec (.nmeaSentence g line) s = .next (s.after (s.count (wordFld (A.REFM_GRXg_ERR g)) 1))) ∧
      (s.bit (F.REFM_GRXg_CTL_EN g) = true → s.pwr.vioH.isSome = true → ∀ fs, nmeaFields line (s.bit (F.REFM_GRXg_CTL_REQ_CSUM g)) = some fs →
        fs.getD 0 [] ≠ [80, 77, 81, 83, 84] → knownType (fs.getD 0 []) = false →
        exec (.nmeaSentence g line) s = .next (s.after (s.count (wordFld (A.REFM_GRXg_IGNORED g)) 1))) ∧
      (s.bit (F.REFM_GRXg_CTL_EN g) = true → s.pwr.vioH.isSome = true → ∀ fs, nmeaFields line (s.bit (F.REFM_GRXg_CTL_REQ_CSUM g)) = some fs →
        fs.getD 0 [] ≠ [80, 77, 81, 83, 84] → knownType (fs.getD 0 []) = true → ∀ u, u = s.nmea g line →
        exec (.nmeaSentence g line) s = .next (s.after u) ∧
          u.val (A.REFM_GRXg_GOOD g) = (s.val (A.REFM_GRXg_GOOD g) + 1) % 2 ^ 32 ∧ s.banksKept u [8] ∧
          u = { s with regs := u.regs, refm := u.refm }) ∧
      (s.bit (F.REFM_GRXg_CTL_EN g) = true → s.pwr.vioH.isSome = true → ∀ fs, nmeaFields line (s.bit (F.REFM_GRXg_CTL_REQ_CSUM g)) = some fs →
        fs.getD 0 [] = [80, 77, 81, 83, 84] →
        (pmqst fs = none →
          exec (.nmeaSentence g line) s = .next (s.after (s.count (wordFld (A.REFM_GRXg_IGNORED g)) 1))) ∧
        (∀ x, pmqst fs = some x → ∀ u, u = s.nmea g line → exec (.nmeaSentence g line) s = .next (s.after u) ∧
          (u.refm.uarts.getD g {}).pmqst = some x ∧
          u.val (A.REFM_GRXg_GOOD g) = (s.val (A.REFM_GRXg_GOOD g) + 1) % 2 ^ 32 ∧
          s.wordsKept u [A.REFM_GRXg_GOOD g] ∧ u = { s with regs := u.regs, refm := u.refm })) ∧
      (∀ k, ∀ u, u = s.setUart g ((s.refm.uarts.getD g {}).expire k) →
        exec (.nmeaVerdictExpired g k) s = .next (s.after u) ∧ u.regs = s.regs ∧ u = { s with refm := u.refm }))

/-- A switch to slot n with offset d: with SW_POL and F0 set it selects n, keeps F0 and stores d in ABS_OFS; without,
and with d within STEP_LIMIT, it moves F0 by d, selects n with ABS_OFS 0; with d beyond the limit it is held: PENDING
is n, HELD and HELD_SEEN are set, SWITCH_HELD is raised and F0 stays. For a port that may write REFM: SEL_REQ 15
selects none, 14 scans the ladder, a usable slot is switched to, one that only a calibration run withholds is switched
to when that run ends, any other is refused with SEL_REFUSED and the selection stands, and 12, 13 and above 15 are
discarded as RANGE. ABS_CLEAR of the selected slot within the limit moves F0 by ABS_OFS and clears it; of any other it
is discarded. From 05_references_and_quality.md: Switching, R164, R167, R168, R169, R171, R173. -/
def Obligations.SelectionsSwitch : Prop :=
  ∀ s : State,
    (∀ (n : Nat) (manual : Bool), n < 12 → 8 ≤ n ∨ s.slotKind n ≠ 2 → ∀ d, d = s.deltaOf n → ∀ u, u = s.switchTo n manual →
      (s.bit (F.REFM_Sn_CTL_SW_POL n) = true → s.bit F.STR_STAT_F0_SET = true →
        u.selSlot = n ∧ u.multi (A.REFM_Sn_ABS_OFS_HI n) 3 = codeOf 96 d ∧ u.bit F.REFM_SEL_NOW_ABSORBING = true ∧
        u.str.f0 = s.str.f0 ∧ (s.selSlot ≠ n → Ev.SEL_CHANGE ∈ u.raised)) ∧
      (s.bit (F.REFM_Sn_CTL_SW_POL n) = false ∨ s.bit F.STR_STAT_F0_SET = false →
        (|d| ≤ s.stepLimit → s.stepFits .f0 d = true → u.selSlot = n ∧ u.multi (A.REFM_Sn_ABS_OFS_HI n) 3 = 0 ∧
          u.bit F.REFM_SEL_NOW_ABSORBING = false ∧ (∀ t : Int, u.str.f0.at_ t = s.str.f0.at_ t + d) ∧
          u.str.f3 = s.str.f3 ∧ (s.selSlot ≠ n → Ev.SEL_CHANGE ∈ u.raised)) ∧
        (s.stepLimit < |d| → u.get F.REFM_SEL_NOW_PENDING = n ∧ u.bit F.REFM_SEL_NOW_HELD = true ∧
          u.bit F.REFM_STAT_HELD_SEEN = true ∧ u.bit (F.REFM_Sn_STAT_SWITCH_REFUSED_SEEN n) = true ∧
          Ev.SWITCH_HELD ∈ u.raised ∧ Ev.STEP_REFUSED ∈ u.raised))) ∧
    (∀ (p : HostPort) (v : Word), s.mayWrite p A.REFM_SEL_REQ = true →
      (v.toNat = 12 ∨ v.toNat = 13 ∨ 15 < v.toNat →
        exec (.selReq p v) s = .next (s.after (s.turnedAway p A.REFM_SEL_REQ v .range))) ∧
      ∀ s0, s0 = ({ s.abandonHeld with refm := { s.abandonHeld.refm with waiting := none } } : State) →
      (v.toNat = 15 → ∀ u, u = (s0.put F.REFM_SEL_NOW_MANUAL 0).setSel 15 →
        exec (.selReq p v) s = .next (s.after (u.written p A.REFM_SEL_REQ v)) ∧ u.selSlot = 15 ∧
          u.get F.REFM_SEL_NOW_PENDING = 15) ∧
      (v.toNat = 14 → ∀ u, u = (s0.put F.REFM_SEL_NOW_MANUAL 0).scan 15 →
        exec (.selReq p v) s = .next (s.after (u.written p A.REFM_SEL_REQ v)) ∧
          (s.ladder.find? (fun n => n != 15 && s.worthy n) = none → u.selSlot = 15)) ∧
      (v.toNat < 12 → s0.usable v.toNat = true →
        exec (.selReq p v) s = .next (s.after ((s0.switchTo v.toNat true).written p A.REFM_SEL_REQ v))) ∧
      (v.toNat < 12 → s0.usable v.toNat = false → s0.serviceable v.toNat = true →
        exec (.selReq p v) s = .next (s.after
          (({ s0 with refm := { s0.refm with waiting := some v.toNat } } : State).written p A.REFM_SEL_REQ v))) ∧
      (v.toNat < 12 → s0.serviceable v.toNat = false → ∀ u, u = s0.refuseSelection →
        exec (.selReq p v) s = .next (s.after (u.written p A.REFM_SEL_REQ v)) ∧ u.selSlot = s.selSlot ∧
          u.bit F.REFM_STAT_SEL_REFUSED_SEEN = true ∧ Ev.SEL_REFUSED ∈ u.raised ∧ u.str = s.str)) ∧
    (∀ (p : HostPort) (v : Word), s.mayWrite p A.REFM_ABS_CLEAR = true →
      (v.toNat ≠ s.selSlot ∨ 12 ≤ v.toNat →
        exec (.absClear p v) s = .next (s.after (s.turnedAway p A.REFM_ABS_CLEAR v .range))) ∧
      (v.toNat = s.selSlot → v.toNat < 12 → ∀ d, d = s.absOfs v.toNat → |d| ≤ s.stepLimit →
        s.stepFits .f0 d = true → ∀ u, u = (s.absClear v.toNat).state →
        exec (.absClear p v) s = .next (s.after (u.written p A.REFM_ABS_CLEAR v)) ∧ u.absOfs v.toNat = 0 ∧
          u.bit F.REFM_SEL_NOW_ABSORBING = false ∧ (∀ t : Int, u.str.f0.at_ t = s.str.f0.at_ t + d) ∧
          u.selSlot = s.selSlot))

/-- With TIME up: an ANT_CTL write stores its fields, and with SLOT out of range the other fields, as RANGE. EN rising
starts a ramp (or NO_VHEAT, or THERMAL), but completes a discharge first and stays LATCHED without CLR; CLR under EN
starts one from WAIT and LATCHED; EN falling drains from RAMP and ON and otherwise goes OFF, LATCHED without CLR
apart; CLR clears FAILS and ANT_FAULT. ANT_RAMP_DONE takes RAMP to ON; ANT_RAMP_LIMIT_FAIL in RAMP and ANT_SHORT_TRIP
in ON count a failure, set ANT_FAULT, raise it, and wait 2^(k-1) s or latch at the eighth; ANT_RETRY in WAIT starts
again; ANT_DISCHARGE_DONE in DRAINING starts or goes OFF; ANT_COUNT_RESET in ON clears the count; in any other state
each changes nothing. Temperature and current samples qualify; an assertion opens the switch, a release in THERMAL
starts a ramp; the eighth low current in ON raises ANT_OPEN. That a switch that is on or ramps stays so under CLR is
the model's choice (log 96). From 05_references_and_quality.md: The antenna feed, R175, R176, R177, R178, R179, R180,
R185. -/
def Obligations.AntennaFeedStates : Prop :=
  ∀ s : State, s.up .time = true →
    (∀ (p : HostPort) (v : Word), s.mayWrite p A.REFM_ANT_CTL = true → ∀ u, u = (s.antCtlWrite v.toNat).state →
      (7 < bitsAt v.toNat 4 4 → exec (.antCtlWrite p v) s = .next (s.after (u.turnedAway p A.REFM_ANT_CTL v .range)) ∧
        exec (.antClr p v) s = .next (s.after (u.turnedAway p A.REFM_ANT_CTL v .range)) ∧
        u.get F.REFM_ANT_CTL_SLOT = s.get F.REFM_ANT_CTL_SLOT ∧ u.bit F.REFM_ANT_CTL_EN = bitOf v.toNat 0) ∧
      (bitsAt v.toNat 4 4 ≤ 7 →
        exec (.antCtlWrite p v) s = .next (s.after (u.written p A.REFM_ANT_CTL v)) ∧
        exec (.antClr p v) s = .next (s.after (u.written p A.REFM_ANT_CTL v)) ∧
        u.val A.REFM_ANT_CTL = bitsAt v.toNat 0 2 + bitsAt v.toNat 4 4 * 16) ∧
      (bitOf v.toNat 2 = true → u.get F.REFM_ANT_STAT_FAILS = 0 ∧ u.bit F.REFM_ANT_STAT_ANT_FAULT = false ∧
        u.refm.antLogged = false) ∧
      (s.bit F.REFM_ANT_CTL_EN = false → bitOf v.toNat 0 = true →
        u.ant = (if s.ant = 5 ∨ (s.ant = 4 ∧ bitOf v.toNat 2 = false) then s.ant
          else if s.get F.TB_STAT_OVEN_FAULT = 1 then 7 else if s.refm.antTemp.on then 6 else 1)) ∧
      (s.bit F.REFM_ANT_CTL_EN = true → bitOf v.toNat 0 = true →
        u.ant = (if bitOf v.toNat 2 = true ∧ (s.ant = 3 ∨ s.ant = 4) then
          (if s.get F.TB_STAT_OVEN_FAULT = 1 then 7 else if s.refm.antTemp.on then 6 else 1) else s.ant)) ∧
      (bitOf v.toNat 0 = false → u.ant = (if s.ant = 1 ∨ s.ant = 2 ∨ s.ant = 5 then 5
        else if s.ant = 4 ∧ bitOf v.toNat 2 = false then 4 else 0)) ∧
      s.wordsKept u [A.REFM_ANT_CTL, A.REFM_ANT_STAT] ∧ u = { s with regs := u.regs, refm := u.refm }) ∧
    exec .antRampDone s = .next (s.after (if s.ant = 1 then s.setAnt 2 else s)) ∧
    exec .antRampLimitFail s = .next (s.after (if s.ant = 1 then s.antFail else s)) ∧
    exec .antShortTrip s = .next (s.after (if s.ant = 2 then s.antFail else s)) ∧
    (∀ k, k = s.get F.REFM_ANT_STAT_FAILS + 1 → k ≤ 8 → ∀ u, u = s.antFail →
      u.get F.REFM_ANT_STAT_FAILS = k ∧ u.bit F.REFM_ANT_STAT_ANT_FAULT = true ∧ Ev.ANT_FAULT ∈ u.raised ∧
        u.ant = (if k = 8 then 4 else 3) ∧ (k < 8 → u.antWaitSecs = 2 ^ (k - 1)) ∧
        u.ldg.slots = s.ldg.slots ∧ u.str = s.str) ∧
    exec .antRetry s = .next (s.after (if s.ant = 3 then s.antStart else s)) ∧
    exec .antDischargeDone s = .next (s.after (if s.ant = 5 then (if s.bit F.REFM_ANT_CTL_EN then s.antStart else s.setAnt 0)
      else s)) ∧
    exec .antCountReset s = .next (s.after (if s.ant = 2 then
      (s.put F.REFM_ANT_STAT_FAILS 0).put F.REFM_ANT_STAT_ANT_FAULT 0 else s)) ∧
    (∀ t : Int, ∀ u, u = s.antTempSample t → exec (.antTempSample t) s = .next (s.after u) ∧
      u.refm.antTemp = Qual.sample .upper (s.descriptor A.REFM_ANT_TEMP_ASSERT) t s.refm.antTemp ∧
      (s.refm.antTemp.on = false → u.refm.antTemp.on = true → Ev.ANT_THERMAL ∈ u.raised ∧
        u.ant = (if s.ant = 1 ∨ s.ant = 2 ∨ s.ant = 3 then 6 else s.ant)) ∧
      (s.refm.antTemp.on = true → u.refm.antTemp.on = false → u.raised = s.raised ∧
        u.ant = (if s.ant = 6 then (if s.get F.TB_STAT_OVEN_FAULT = 1 then 7 else 1) else s.ant)) ∧
      s.wordsKept u [A.REFM_ANT_STAT] ∧ u = { s with regs := u.regs, raised := u.raised, refm := u.refm }) ∧
    (∀ i : Nat, ∀ u, u = s.antCurrentSample i → exec (.antCurrentSample i) s = .next (s.after u) ∧
      u.val A.REFM_ANT_IMA = i % 2 ^ 32 ∧
      (s.ant = 2 → i < 20 → s.refm.lowRun = 7 → Ev.ANT_OPEN ∈ u.raised ∧ u.bit F.REFM_ANT_STAT_OPEN_SEEN = true) ∧
      (20 ≤ i ∨ s.ant ≠ 2 → u.refm.lowRun = 0 ∧ u.raised = s.raised) ∧
      s.wordsKept u [A.REFM_ANT_IMA, A.REFM_ANT_STAT] ∧ u = { s with regs := u.regs, raised := u.raised, refm := u.refm })

/-- With TIME up: SRV_UPDATE in ACQUIRE or LOCKED of a phase slot with measurements takes their mean e, adds omega
squared e over f_u to the integrator and keeps none of them, and moves F0's rate by at most RATE_STEP_LIMIT and its
phase by nothing, but for the one step that ACQ_STEP allows; of a FREQ slot with errors it integrates their mean; with
none, or in another state, it changes nothing. HO_RATE_UPDATE in HOLDOVER counts a second and shows HO_ERR;
HO_LIMIT_REACHED after HO_LIMIT seconds with cause LOSS freezes the servo, and before them changes nothing.
DRIFT_RECORD on a 600 s boundary with F0 set stores one 16-byte record at NEXT, moves NEXT on, opens the next interval
and offers its predictor job; elsewhere it changes nothing. PRED_DECAY_START past the end of a prediction's interval
raises PRED_STALE. For a port that may write SRV: REACQUIRE (1) in a jump switches again into the selected slot,
RESUME (2) in a held exit leaves holdover, and otherwise each is discarded; an armed HIST_CLEAR of 1 empties the
history. From 06_servo_and_holdover.md: The loop, R187, R188, R189, R190, R191, R195, R198, R199, R204, R209. -/
def Obligations.ServoSteersAndHolds : Prop :=
  ∀ s : State, s.up .time = true →
    (s.srvState = 1 ∨ s.srvState = 2 → s.freqLoop = false → s.srv.meas ≠ [] →
      ∀ e : Rat, e = (s.srv.meas.map (fun x => (x : Rat))).sum / (s.srv.meas.length : Rat) → ∀ u, u = s.phaseUpdate e →
      exec .srvUpdate s = .next (s.after u) ∧ u.srv.meas = [] ∧ |u.str.f0.rate - s.str.f0.rate| ≤ s.rateLimit ∧
      (s.srv.fresh = false ∨ s.bit F.SRV_CTL_ACQ_STEP = false ∨ |roundRat e| ≤ s.ival A.SRV_LOCK_ASSERT →
        u.srv.i = s.srv.i + (twoPi * s.bandwidth) * (twoPi * s.bandwidth) * (e / 65536000000000) / s.updateRate ∧
        u.str.f0.at_ s.nextSub = s.str.f0.at_ s.nextSub) ∧
      (s.srv.fresh = true → s.bit F.SRV_CTL_ACQ_STEP = true → s.ival A.SRV_LOCK_ASSERT < |roundRat e| →
        |roundRat e| ≤ s.stepLimit → s.stepFits .f0 (roundRat e) = true →
        u.str.f0.at_ s.nextSub = s.str.f0.at_ s.nextSub + roundRat e ∧ u.srv.i = s.srv.i) ∧
      u.str.f3 = s.str.f3 ∧ u.selSlot = s.selSlot) ∧
    (s.srvState = 1 ∨ s.srvState = 2 → s.freqLoop = true → s.srv.freqs ≠ [] →
      ∀ e : Rat, e = s.srv.freqs.sum / (s.srv.freqs.length : Rat) → ∀ u, u = s.freqUpdate e →
      exec .srvUpdate s = .next (s.after u) ∧ u.srv.i = s.srv.i + e * min 1 (twoPi * s.bandwidth / s.updateRate) ∧
      u.srv.freqs = [] ∧ u.str.f0.at_ s.nextSub = s.str.f0.at_ s.nextSub ∧
      |u.str.f0.rate - s.str.f0.rate| ≤ s.rateLimit) ∧
    ((s.srvState ≠ 1 ∧ s.srvState ≠ 2) ∨ (s.freqLoop = true ∧ s.srv.freqs = []) ∨ (s.freqLoop = false ∧ s.srv.meas = []) →
      exec .srvUpdate s = .next (s.after s)) ∧
    (s.srvState = 3 → ∀ u, u = s.holdoverTick → exec .hoRateUpdate s = .next (s.after u) ∧
      u.val A.SRV_HO_TIME = (s.val A.SRV_HO_TIME + 1) % 2 ^ 32 ∧
      u.val A.SRV_HO_ERR = min (s.holdoverError (s.val A.SRV_HO_TIME + 1)) (2 ^ 32 - 1) ∧
      u.srv.lossSecs = (if s.srvJump then s.srv.lossSecs else s.srv.lossSecs + 1) ∧
      |u.str.f0.rate - s.str.f0.rate| ≤ s.rateLimit ∧ u.srvState = 3) ∧
    (s.srvState ≠ 3 → exec .hoRateUpdate s = .next (s.after s)) ∧
    (s.srvState = 3 → s.srvJump = false → s.val A.SRV_HO_LIMIT ≠ 0 → s.val A.SRV_HO_LIMIT ≤ s.srv.lossSecs →
      ∀ u, u = s.holdoverLimit → exec .hoLimitReached s = .next (s.after u) ∧ u.srvState = 4 ∧ Ev.HO_EXIT ∈ u.raised ∧
        u.str = s.str) ∧
    (s.srvState ≠ 3 ∨ s.srvJump = true ∨ s.val A.SRV_HO_LIMIT = 0 ∨ s.srv.lossSecs < s.val A.SRV_HO_LIMIT →
      exec .hoLimitReached s = .next (s.after s)) ∧
    (s.recordDue = false → exec .driftRecord s = .next (s.after s)) ∧
    (s.recordDue = true → ∀ u, u = s.driftRecord →
      exec .driftRecord s = .next (s.after u.offerPred) ∧
      u.get F.SRV_HIST_HEAD_NEXT = (s.get F.SRV_HIST_HEAD_NEXT + 1) % 4096 ∧
      u.get F.SRV_HIST_HEAD_COUNT = min 4096 (s.get F.SRV_HIST_HEAD_COUNT + 1) ∧
      ((lookupKey (s.get F.SRV_HIST_HEAD_NEXT) u.srv.hist).getD []).length = 16 ∧
      ((lookupKey (s.get F.SRV_HIST_HEAD_NEXT) u.srv.hist).getD []).take 4 = beBytes 4 s.f0Sec ∧
      u.srv.predFor = some (s.f0Sec + 600) ∧ u.srv.lastRec = some s.f0Sec ∧
      s.banksKept u [9] ∧ u = { s with regs := u.regs, raised := u.raised, srv := u.srv }) ∧
    (∀ e, s.srv.predEnd = some e → s.srv.decaying = false → s.predOk = true → e ≤ s.f0Sec → ∀ u, u = s.predDecay →
      exec .predDecayStart s = .next (s.after u) ∧ u.srv.decaying = true ∧ u.bit F.SRV_STAT_STALE_SEEN = true ∧
        Ev.PRED_STALE ∈ u.raised ∧ s.wordsKept u [A.SRV_STAT]) ∧
    (s.srv.predEnd = none ∨ s.srv.decaying = true ∨ s.predOk = false ∨ (∃ e, s.srv.predEnd = some e ∧ s.f0Sec < e) →
      exec .predDecayStart s = .next (s.after s)) ∧
    (∀ (p : HostPort) (v : Word), s.mayWrite p A.SRV_CMD = true →
      (s.srvJump = true → s.selSlot < 12 → exec (.reacquire p 1) s = .next (s.after
        ((s.switchTo s.selSlot (s.bit F.REFM_SEL_NOW_MANUAL)).written p A.SRV_CMD 1))) ∧
      (s.srvJump = false → exec (.reacquire p 1) s = .next (s.after (s.turnedAway p A.SRV_CMD 1 .range))) ∧
      (s.srvState = 3 → s.srvJump = false → s.bit F.SRV_CTL_HO_EXIT = true → s.selSlot ≠ 15 → ∀ u, u = s.leaveHoldover →
        exec (.resumeServo p 2) s = .next (s.after (u.written p A.SRV_CMD 2)) ∧ u.srvState = 1 ∧ Ev.HO_EXIT ∈ u.raised) ∧
      (s.srvState ≠ 3 → exec (.resumeServo p 2) s = .next (s.after (s.turnedAway p A.SRV_CMD 2 .range))) ∧
      (s.armedFor p .srv = true → ∀ u, u = (s.histClear p 1).state →
        exec (.histClear p 1) s = .next (s.after (u.written p A.SRV_HIST_CLEAR 1)) ∧ u.srv.hist = [] ∧
          u.val A.SRV_HIST_HEAD = 0 ∧ u.val A.SRV_EST_COUNT = 0 ∧ u.armedBy .srv = none) ∧
      (s.armedFor p .srv = false →
        exec (.histClear p v) s = .next (s.after (s.turnedAway p A.SRV_HIST_CLEAR v .unarmed))))

/-- With TIME up and the Tally running: OUTPUT_EDGE of the falling edge due ends the high time; of the rising edge due
in this tick it begins one with that edge, unless the pad shows none (squelched with the edge not committed, or its
driver down), or it falls in a high time or less than MIN_HL after the last falling edge (it is skipped, counted and
reported); a one-shot fires, or on a pad that shows none is missed; with no edge due it changes nothing. A squelched
output that has no high time left is driven low. SQUELCH_HOLD_TIMEOUT of a squelched or stopping output ends its high
time. OUTPUT_DRAIN_DONE of a stopping output that is low and has no committed edge stops it. An OUTn_CTL write that
changes a locked field, or with EN that R254 bars, or with FOLLOW_INPUT that R239 bars, is discarded; another is
stored, a field out of range keeping its code, and starts or stops the output. ONESHOT_ARM stores AT and arms, or, too
late, is missed. From 07_pacer_outputs.md: Edges, R227, R228, R229, R230, R233, R245, R246, R247, R248, R253, R254. -/
def Obligations.OutputsLaunchTheirEdges : Prop :=
  ∀ (s : State) (n : Nat), s.up .time = true → n < 12 →
    (s.tallyRun = true →
      (s.fallsFirst n = false → (∀ e, s.nextRise n = some e → e.at_ / 65536 ≠ s.tally) →
        exec (.outputEdge n) s = .next (s.after s)) ∧
      (∀ e, (s.out n).high = some e → s.fallsFirst n = true →
        (s.tally < s.fallAt n e / 65536 → exec (.outputEdge n) s = .next (s.after s)) ∧
        (s.fallAt n e / 65536 ≤ s.tally → ∀ u, u = s.outputEdge n →
          exec (.outputEdge n) s = .next (s.after u) ∧ (u.out n).high = none ∧
            (u.out n).lastFall = some (max (s.fallAt n e) s.nowSub) ∧ u = { s with pcr := u.pcr } ∧
            (∀ m, m < 12 → m ≠ n → u.out m = s.out m))) ∧
      (∀ e, s.fallsFirst n = false → s.nextRise n = some e → e.at_ / 65536 = s.tally →
        ∀ unseen, unseen = (!s.padUp n || ((s.out n).plan.all (fun x => decide (x.at_ < s.nowSub)) && s.squelched n)) →
        ∀ u, u = s.outputEdge n → exec (.outputEdge n) s = .next (s.after u) ∧
        (unseen = true → (u.out n).high = (s.out n).high ∧ (u.out n).started = (s.out n).started ∧
          (s.outKind n = 2 → u.get (F.PCR_OUTn_STAT_ONESHOT_STATE n) = 3 ∧ Ev.OUT_MISSED ∈ u.raised)) ∧
        (unseen = false → s.outKind n ≠ 2 → s.tight n e.at_ = false →
          (u.out n).high = some e ∧ (u.out n).started = true ∧ u.regs = s.regs) ∧
        (unseen = false → s.outKind n = 2 → s.tight n e.at_ = false → (s.out n).plan = [] → (s.out n).gate = none →
          (u.out n).high = some e ∧ u.get (F.PCR_OUTn_STAT_ONESHOT_STATE n) = 2) ∧
        (unseen = false → s.outKind n ≠ 2 → s.tight n e.at_ = true →
          (u.out n).high = (s.out n).high ∧ (u.out n).skipped = ((s.out n).skipped + 1) % 2 ^ 32 ∧
          u.bit (F.PCR_OUTn_STAT_SKIP_SEEN n) = true ∧ Ev.OUT_SKIP ∈ u.raised) ∧
        (∀ m, m < 12 → m ≠ n → u.out m = s.out m) ∧ s.wordsKept u [A.PCR_OUTn_STAT n] ∧
        u = { s with regs := u.regs, raised := u.raised, pcr := u.pcr })) ∧
    (s.padUp n = true → s.squelched n = true → (s.out n).high = none → s.pad n = .driven false) ∧
    (∀ e, (s.out n).high = some e → (s.squelched n || (s.out n).stopping) = true → ∀ u, u = s.squelchHold n →
      exec (.squelchHoldTimeout n) s = .next (s.after u) ∧ (u.out n).high = none ∧
        (u.out n).lastFall = some s.nowSub ∧ u = { s with pcr := u.pcr }) ∧
    ((s.squelched n || (s.out n).stopping) = false ∨ (s.out n).high = none →
      exec (.squelchHoldTimeout n) s = .next (s.after s)) ∧
    ((s.out n).stopping = true → (s.out n).high = none → s.nextRise n = none → ∀ u, u = s.outDrained n →
      exec (.outputDrainDone n) s = .next (s.after u) ∧ (u.out n).stopping = false ∧
        (u.out n).running = s.bit (F.PCR_OUTn_STAT_DRAINING n) ∧ s.wordsKept u [A.PCR_OUTn_STAT n] ∧
        u = { s with regs := u.regs, pcr := u.pcr }) ∧
    ((s.out n).stopping = false ∨ (s.out n).high.isSome = true ∨ (s.nextRise n).isSome = true →
      exec (.outputDrainDone n) s = .next (s.after s)) ∧
    (∀ (p : HostPort) (v : Word), s.mayWrite p (A.PCR_OUTn_CTL n) = true → ∀ x, x = s.outCtlWrite n v.toNat →
      ∀ w, w = fitted (s.val (A.PCR_OUTn_CTL n)) v.toNat (outCtlFields n (s.val (A.PCR_OUTn_CTL n)) v.toNat) →
      ∀ barred, barred = (((s.bit (F.PCR_OUTn_CTL_EN n) || s.bit (F.PCR_OUTn_STAT_DRAINING n)) &&
          decide (lockedBits w ≠ lockedBits (s.val (A.PCR_OUTn_CTL n)))) || (bitOf w 0 && !s.mayEnable n w) ||
        (bitsAt w 5 2 == 1 && !s.followFits (bitsAt w 8 4) (if bitsAt w 1 2 = 3 then framePeriod (bitsAt w 12 4)
          else (s.val (A.PCR_OUTn_PERIOD_NUM n), max 1 (s.val (A.PCR_OUTn_PERIOD_DEN n)))))) →
      (barred = true →
        exec (.outputCtlWrite p n v) s = .next (s.after (s.turnedAway p (A.PCR_OUTn_CTL n) v .range))) ∧
      (barred = false → allFit (outCtlFields n (s.val (A.PCR_OUTn_CTL n)) v.toNat) = true →
        exec (.outputCtlWrite p n v) s = .next (s.after (x.state.written p (A.PCR_OUTn_CTL n) v))) ∧
      (barred = false → allFit (outCtlFields n (s.val (A.PCR_OUTn_CTL n)) v.toNat) = false →
        exec (.outputCtlWrite p n v) s = .next (s.after (x.state.turnedAway p (A.PCR_OUTn_CTL n) v .range))) ∧
      (barred = false → x.state.val (A.PCR_OUTn_CTL n) = bitsAt w 0 19 + bitsAt w 20 2 * 2 ^ 20 ∧
        (s.bit (F.PCR_OUTn_CTL_EN n) = false → bitOf w 0 = true → (s.out n).stopping = false →
          (x.state.out n).running = true) ∧
        (s.bit (F.PCR_OUTn_CTL_EN n) = true → bitOf w 0 = false → (x.state.out n).stopping = true) ∧
        s.wordsKept x.state [A.PCR_OUTn_CTL n, A.PCR_OUTn_STAT n])) ∧
    (∀ (p : HostPort) (v : Word), s.mayWrite p (A.PCR_OUTn_AT_SEC_HI n) = true → ∀ u, u = (s.shotArm p n v.toNat).state →
      exec (.oneshotArm p n v) s = .next (s.after (u.written p (A.PCR_OUTn_AT_SEC_HI n) v)) ∧
      u.val (A.PCR_OUTn_AT_SEC_HI n) = v.toNat ∧
      u.get (F.PCR_OUTn_STAT_ONESHOT_STATE n) = (if 10 * (u.shotAt n - s.outTime n s.nowSub) ≤ 33554432 then 3 else 1) ∧
      (10 * (u.shotAt n - s.outTime n s.nowSub) ≤ 33554432 → Ev.OUT_MISSED ∈ u.raised) ∧
      s.wordsKept u [A.PCR_OUTn_AT_SEC_HI n, A.PCR_OUTn_AT_SEC_LO n, A.PCR_OUTn_AT_NS n, A.PCR_OUTn_AT_PIP n,
        A.PCR_OUTn_STAT n])

/-- With TIME up, for a port that may write PCR and v naming output n: ALIGN sets the output's offset to its target at
once, ends any slew and raises OUT_ALIGN_DONE; SLEW_ALIGN away from the target begins a slew and moves nothing yet;
SLEW_STOP ends a slew where it stands; DISARM makes the one-shot IDLE; an output 12 or more, or another OP, is
discarded as RANGE. SLEW_DONE of a slew at its target ends it and raises OUT_ALIGN_DONE, and of one that is not
changes nothing. VER_CTL_WRITE with EN = 1 that does not fit its loopback channel is discarded; another is stored,
with the OUT held where the word's is above 11 (then it is recorded as discarded for that field), and restarts the
gate. VER_GATE_END while verifying counts its stamps and raises OUT_VERIFY_FAIL when the mean is beyond VER_LIMIT.
From 07_pacer_outputs.md: Alignment policies, R228, R240, R241, R249, R250, R251. -/
def Obligations.OutputsAlignAndVerify : Prop :=
  ∀ (s : State) (n : Nat), s.up .time = true → n < 12 →
    (∀ p : HostPort, s.mayWrite p A.PCR_CMD = true →
      (∀ u, u = (s.put (F.PCR_OUTn_STAT_SLEWING n) 0).align n → ∀ v : Word, v = BitVec.ofNat 32 (n + 16) →
        exec (.alignOutput p v) s = .next (s.after (u.written p A.PCR_CMD v)) ∧ (u.out n).ofs = s.alignTarget n ∧
          (u.out n).slew = none ∧ Ev.OUT_ALIGN_DONE ∈ u.raised ∧ (∀ m, m < 12 → m ≠ n → u.out m = s.out m) ∧
          s.wordsKept u [A.PCR_OUTn_STAT n] ∧ u = { s with regs := u.regs, raised := u.raised, pcr := u.pcr }) ∧
      (s.outOfs n ≠ s.alignTarget n → ∀ u, u = s.slewAlign n → ∀ v : Word, v = BitVec.ofNat 32 (n + 32) →
        exec (.slewAlign p v) s = .next (s.after (u.written p A.PCR_CMD v)) ∧ (u.out n).ofs = s.outOfs n ∧
          (u.out n).slew = some (s.nowSub, s.alignTarget n) ∧ u.outOfs n = s.outOfs n ∧ u.bit (F.PCR_OUTn_STAT_SLEWING n) = true ∧
          s.wordsKept u [A.PCR_OUTn_STAT n] ∧ u = { s with regs := u.regs, pcr := u.pcr }) ∧
      (s.outOfs n = s.alignTarget n → ∀ v : Word, v = BitVec.ofNat 32 (n + 32) →
        exec (.slewAlign p v) s = .next (s.after (((s.put (F.PCR_OUTn_STAT_SLEWING n) 0).align n).written p A.PCR_CMD v))) ∧
      (∀ u, u = s.slewStop n → ∀ v : Word, v = BitVec.ofNat 32 (n + 48) →
        exec (.slewStop p v) s = .next (s.after (u.written p A.PCR_CMD v)) ∧ (u.out n).slew = none ∧
          ((s.out n).slew.isSome = true → (u.out n).ofs = s.outOfs n) ∧ ((s.out n).slew = none → u = s)) ∧
      (∀ v : Word, v = BitVec.ofNat 32 (n + 64) → exec (.disarm p v) s = .next (s.after
        ((s.put (F.PCR_OUTn_STAT_ONESHOT_STATE n) 0).written p A.PCR_CMD v))) ∧
      (∀ v : Word, 12 ≤ bitsAt v.toNat 0 4 ∨ bitsAt v.toNat 4 4 = 0 ∨ 5 ≤ bitsAt v.toNat 4 4 →
        exec (.alignOutput p v) s = .next (s.after (s.turnedAway p A.PCR_CMD v .range)))) ∧
    (∀ g, (s.out n).slew = some g → s.outOfs n = s.alignTarget n → ∀ u, u = s.slewDone n →
      exec (.slewDone n) s = .next (s.after u) ∧ (u.out n).slew = none ∧ (u.out n).ofs = s.alignTarget n ∧
        u.bit (F.PCR_OUTn_STAT_SLEWING n) = false ∧ Ev.OUT_ALIGN_DONE ∈ u.raised ∧ s.wordsKept u [A.PCR_OUTn_STAT n]) ∧
    ((s.out n).slew = none ∨ s.outOfs n ≠ s.alignTarget n → exec (.slewDone n) s = .next (s.after s)) ∧
    (∀ (p : HostPort) (v : Word), s.mayWrite p A.PCR_VER_CTL = true →
      ∀ out ch, ch = bitsAt v.toNat 8 3 →
      out = (if bitsAt v.toNat 4 4 < 12 then bitsAt v.toNat 4 4 else s.get F.PCR_VER_CTL_OUT) →
      ∀ fits, fits = (s.bit (F.VC_Vn_CTL_EN ch) && s.bit (F.VC_Vn_CTL_SRC ch) && s.get (F.VC_Vn_CTL_LOOP_OUT ch) == out) →
      (bitOf v.toNat 0 = true ∧ fits = false →
        exec (.verCtlWrite p v) s = .next (s.after (s.turnedAway p A.PCR_VER_CTL v .range))) ∧
      (bitOf v.toNat 0 = false ∨ fits = true → ∀ u, u = (s.verCtlWrite v.toNat).state →
        exec (.verCtlWrite p v) s = .next (s.after (if bitsAt v.toNat 4 4 < 12 then u.written p A.PCR_VER_CTL v
          else u.turnedAway p A.PCR_VER_CTL v .range)) ∧
        u.bit F.PCR_VER_CTL_EN = bitOf v.toNat 0 ∧ u.get F.PCR_VER_CTL_OUT = out ∧
        u.get F.PCR_VER_CTL_CH = ch ∧ u.pcr.errors = [] ∧ s.wordsKept u [A.PCR_VER_CTL])) ∧
    (s.verifying = false → exec .verGateEnd s = .next (s.after s)) ∧
    (s.verifying = true → ∀ u, u = s.verGate → exec .verGateEnd s = .next (s.after u) ∧ u.pcr.errors = [] ∧
      u.val A.PCR_VER_COUNT = s.pcr.errors.length % 2 ^ 32 ∧
      (s.pcr.errors ≠ [] → ∀ m : Int, m = centiPs ((s.pcr.errors.sum : Rat) / (s.pcr.errors.length : Rat)) →
        u.val A.PCR_VER_MEAN = codeOf 32 m ∧ ((s.val A.PCR_VER_LIMIT : Int) * 100 < |m| →
          u.bit F.PCR_VER_STAT_FAIL_SEEN = true ∧ Ev.OUT_VERIFY_FAIL ∈ u.raised) ∧
        (|m| ≤ (s.val A.PCR_VER_LIMIT : Int) * 100 → u.raised = s.raised ∧ u.mode = s.mode)))

/-- With NET up, for port p. PCS_SAMPLE of a port that is off or draining changes nothing. With no calibration
running: a sample in which a condition of R264 fails clears LINK_UP, and if it was 1 counts LINK_DOWN, raises
LINK_DOWN and leaves no slotted frame; a good one adds to the run and sets LINK_UP, with TS_SETTLING and the event
LINK_UP, once LINK_QUAL ms are over. HOLD_WINDOW_EXPIRED of an open window ends HOLDING and drops the unslotted frames
held. A MACn.CTL write that changes SPEED, FEC or AN37 while the port runs, or enables a port R262 bars, is discarded
whole, a SPEED of 3 keeps the old SPEED; another is stored, and clearing EN drops the link and sets DRAINING.
PORT_DRAIN_DONE ends DRAINING once the receive buffer is empty. IFe_CTL is stored with its address words or discarded.
Other ports keep their frames and pause. From 08_ports_and_mac.md: Link state, R15, R261, R262, R264, R265, R274,
R293, R295, R298, R299, R300. -/
def Obligations.PortsComeUpAndGo : Prop :=
  ∀ (s : State) (p : Nat), s.up .net = true → p < 4 →
    (∀ (x : Pcs) (code corr uncorr : Nat), ∀ u, u = s.pcsSample p x code corr uncorr →
      exec (.pcsSample p x.lock x.hiBer x.remoteFault x.anDone x.fullDuplex x.fecLock code corr uncorr) s =
        .next (s.after u) ∧
      (s.portOn p = false ∨ s.portDraining p = true → u = s) ∧
      (∀ q, q < 4 → q ≠ p → u.eth q = s.eth q) ∧
      s.banksKept u [0x0B + p, 0x08, 0x11] ∧
      (s.portOn p = true → s.portDraining p = false → s.bit (F.MAC_TS_STAT_CAL_BUSY p) = false →
        ∀ good : Bool, good = (x.lock && !x.hiBer && !x.remoteFault &&
            (x.anDone && x.fullDuplex || !s.bit (F.MAC_CTL_AN37 p)) && (x.fecLock || !s.bit (F.MAC_CTL_FEC p))) →
        u.val (A.MAC_CNT_i p 23) = (s.val (A.MAC_CNT_i p 23) + code) % 2 ^ 32 ∧
        u.bit (F.MAC_STAT_PCS_LOCK p) = x.lock ∧ u.bit (F.MAC_STAT_AN_DONE p) = (x.anDone && s.bit (F.MAC_CTL_AN37 p)) ∧
        (good = false → u.linkUp p = false ∧ (u.eth p).good = 0 ∧
          (s.linkUp p = true → u.val (A.MAC_CNT_i p 46) = (s.val (A.MAC_CNT_i p 46) + 1) % 2 ^ 32 ∧
            u.bit (F.MAC_STAT_DOWN_SEEN p) = true ∧ Ev.LINK_DOWN ∈ u.raised ∧ (u.eth p).committed = [] ∧
            (u.eth p).wire = [] ∧ (u.eth p).relays = [] ∧ (u.eth p).pauseOut = none ∧
            u.bit (F.MAC_STAT_PAUSED p) = false ∧ u.bit (F.MAC_STAT_XOFF p) = false ∧
            (s.val (A.MAC_HOLD_WINDOW p) = 0 → (s.eth p).holdOpen = false → (u.eth p).plain = []) ∧
            (s.val (A.MAC_HOLD_WINDOW p) ≠ 0 → u.bit (F.MAC_STAT_HOLDING p) = true ∧ (u.eth p).holdOpen = true)) ∧
          (s.linkUp p = false → u.val (A.MAC_CNT_i p 46) = s.val (A.MAC_CNT_i p 46))) ∧
        (good = true → (u.eth p).good = (s.eth p).good + 1 ∧
          (s.linkUp p = true → u.linkUp p = true) ∧
          (s.linkUp p = false → u.linkUp p = decide (s.val (A.MAC_LINK_QUAL p) * 100 ≤ (s.eth p).good)) ∧
          (s.linkUp p = false → s.val (A.MAC_LINK_QUAL p) * 100 ≤ (s.eth p).good →
            Ev.LINK_UP ∈ u.raised ∧ u.settling p = true ∧ u.bit (F.MAC_STAT_HOLDING p) = false ∧
            (u.eth p).plain = (s.eth p).plain)))) ∧
    ((s.eth p).holdOpen = true → ∀ u, u = s.holdExpired p → exec (.holdWindowExpired p) s = .next (s.after u) ∧
      (u.eth p).holdOpen = false ∧ u.bit (F.MAC_STAT_HOLDING p) = false ∧
      (s.bit (F.MAC_STAT_HOLDING p) = true → (u.eth p).plain = [] ∧
        u.val (A.MAC_CNT_i p 44) = (s.val (A.MAC_CNT_i p 44) + (s.eth p).plain.length) % 2 ^ 32) ∧
      (s.bit (F.MAC_STAT_HOLDING p) = false → u.regs = s.regs ∧ (u.eth p).plain = (s.eth p).plain) ∧
      s.banksKept u [0x0B + p] ∧ (∀ q, q < 4 → q ≠ p → u.eth q = s.eth q)) ∧
    ((s.eth p).holdOpen = false → exec (.holdWindowExpired p) s = .next (s.after s)) ∧
    (∀ (h : HostPort) (v : Word), s.mayWrite h (A.MAC_CTL p) = true → ∀ x : Nat,
      x = (if bitsAt v.toNat 1 2 = 3 then withBits v.toNat 1 2 (bitsAt (s.val (A.MAC_CTL p)) 1 2) else v.toNat) % 128 →
      ∀ bad : Bool,
      bad = (((s.portOn p || s.portDraining p) && decide (bitsAt x 1 4 ≠ bitsAt (s.val (A.MAC_CTL p)) 1 4)) ||
        (bitOf x 0 && !s.portMayRun p x)) →
      (bad = true → exec (.portCtlWrite h p v) s = .next (s.after (s.turnedAway h (A.MAC_CTL p) v .range))) ∧
      (bad = false → ∀ u, u = (s.macCtlWrite p v.toNat).state →
        exec (.portCtlWrite h p v) s = .next (s.after
          (if bitsAt v.toNat 1 2 = 3 then u.turnedAway h (A.MAC_CTL p) v .range else u.written h (A.MAC_CTL p) v)) ∧
        u.val (A.MAC_CTL p) = x ∧ (∀ q, q < 4 → q ≠ p → u.eth q = s.eth q) ∧
        (s.portOn p = true → bitOf x 0 = false → u.linkUp p = false ∧ u.portDraining p = true ∧
          (u.eth p).committed = [] ∧ (u.eth p).wire = [] ∧ (u.eth p).plain = [] ∧ (u.eth p).rx = (s.eth p).rx ∧
          u.val (A.MAC_CNT_i p 46) = s.val (A.MAC_CNT_i p 46) ∧ s.banksKept u [0x0B + p, 0x11]) ∧
        (s.portOn p = false → bitOf x 0 = true → s.portDraining p = false →
          u.bit (F.VCAL_DLL_LOCKED (2 * p)) = false ∧ u.bit (F.VCAL_DLL_LOCKED (2 * p + 1)) = false ∧ (u.eth p).good = 0) ∧
        (s.portOn p = bitOf x 0 ∨ s.portOn p = false ∧ s.portDraining p = true →
          s.wordsKept u [A.MAC_CTL p] ∧ u = { s with regs := u.regs }))) ∧
    (s.portDraining p = true → (s.eth p).rx = [] → ∀ u, u = s.portDrained p →
      exec (.portDrainDone p) s = .next (s.after u) ∧
      u.portDraining p = false ∧ (s.portOn p = false → s.wordsKept u [A.MAC_STAT p] ∧ u = { s with regs := u.regs }) ∧
      (s.portOn p = true → s.dom .net = 2 → (u.eth p).good = 0 ∧ u.bit (F.VCAL_DLL_LOCKED (2 * p)) = false)) ∧
    (s.portDraining p = false ∨ (s.eth p).rx ≠ [] → exec (.portDrainDone p) s = .next (s.after s)) ∧
    (∀ (h : HostPort) (e : Nat) (v : Word), e < 8 → s.mayWrite h (A.MAC_IFe_CTL p e) = true →
      ∀ x, x = s.ifCtlWrite h p e v.toNat →
      (x.rej = none → exec (.ifCtlWrite h p e v) s = .next (s.after (x.state.written h (A.MAC_IFe_CTL p e) v)) ∧
        x.state.val (A.MAC_IFe_CTL p e) = bitsAt v.toNat 0 7 + bitsAt v.toNat 16 12 * 65536 ∧
        (∀ a, a ∈ entryWords p e → x.state.rd a = (s.heldWord h a).getD (s.rd a) ∧ x.state.heldWord h a = none) ∧
        (bitOf v.toNat 1 = true → bitsAt v.toNat 16 12 ≠ 0 ∧ bitsAt v.toNat 16 12 ≠ 4095) ∧
        s.wordsKept x.state (A.MAC_IFe_CTL p e :: entryWords p e)) ∧
      (x.rej ≠ none → exec (.ifCtlWrite h p e v) s =
        .next (s.after (x.state.turnedAway h (A.MAC_IFe_CTL p e) v .range)) ∧ x.state.regs = s.regs))

/-- With NET up, for port p. RX_FRAME on a port that is off or draining changes nothing; otherwise the frame counts in
the counter of the first row of R269 that holds, its FCS judged by the CRC-32 over its other bytes, and a frame of row
11 joins the receive buffer with its entry and stamp; a PAUSE starts, lengthens or ends the received pause, and no
frame stays committed whose start the pause covers. RX_PAUSE_END ends the pause once its time is over, and a tick of a
pause counts the microsecond it completes. With the link up RXB_LEVEL_SAMPLE sets XOFF from the level: an XOFF that
asserts with TX_PAUSE = 1 makes a PAUSE wait, with XOFF_SEEN and RXB_XOFF, and one that releases a PAUSE of time 0;
PAUSE_REPEAT makes it wait again; PAUSE_FRAME_SEND puts it on the wire in a gap of 84 byte times. TX_FRAME_DONE takes
the frame on the wire, or the first unslotted frame, counts it by kind and leaves it with its FCS. A snapshot copies
all 192 counters, less what its own tick counted, with the Tally and the era, or with HOLD is missed; SNAP_TRIG places
it at the next tick, SNAP_PERIODIC falls only at a multiple of the period. From 08_ports_and_mac.md: Counters,
08_ports_and_mac.md: Snapshot, R267, R268, R269, R276, R277, R278, R280, R284, R286, R290. -/
def Obligations.FramesAreCountedAndPaused : Prop :=
  ∀ (s : State) (p : Nat), s.up .net = true → p < 4 →
    (∀ (raw : List Byte) (k ago : Nat), ∀ u, u = s.rxFrame p raw k ago →
      exec (.rxFrame p raw k ago) s = .next (s.after (u.pauseMisses p)) ∧
      (u.bit (F.MAC_STAT_PAUSED p) = false → u.pauseMisses p = u) ∧
      (u.bit (F.MAC_STAT_PAUSED p) = true → ∀ f, f ∈ ((u.pauseMisses p).eth p).committed →
        f ∈ (u.eth p).committed ∧ u.pausedAt p (u.startAt p f.slot f.board) = false) ∧
      (s.portOn p = false ∨ s.portDraining p = true → u = s) ∧
      (s.portOn p = true → s.portDraining p = false → ∀ f, f = raw.take (raw.length - 4) → ∀ ok : Bool,
        ok = (decide (4 ≤ raw.length) && raw.drop (raw.length - 4) == fcs f) → ∀ row : Nat, row =
          (if raw.length < 64 then (if ok then 16 else 17)
          else if s.val (A.MAC_MAX_LEN p) < raw.length then (if ok then 18 else 19)
          else if ok = false then 15
          else if frameType f = etherPause then (if natAt f (typeAt f + 2) 2 = 1 then 13 else 14)
          else if s.accepts p (frameDst f) = false then 21
          else if (s.entryOf p f).isNone then 22
          else if 4096 < s.rxLevel p + (raw.length + 63) / 64 + 1 then 20 else 0) →
        u.val (A.MAC_CNT_i p row) = (s.val (A.MAC_CNT_i p row) + 1) % 2 ^ 32 ∧
        (∀ r, r ∈ [0, 13, 14, 15, 16, 17, 18, 19, 20, 21, 22] → r ≠ row → u.val (A.MAC_CNT_i p r) = s.val (A.MAC_CNT_i p r)) ∧
        (row ≠ 0 → (u.eth p).rx = (s.eth p).rx) ∧
        (row = 0 → ∀ e, s.entryOf p f = some e →
          (u.eth p).rx = (s.eth p).rx ++ [{ bytes := f, entry := e, trx := s.rxStamp p k ago }]) ∧
        (row = 13 → frameTag f = none → frameDst f = s.macAddr p ∨ frameDst f = beBytes 6 0x0180C2000001 →
          u.bit (F.MAC_STAT_PAUSE_RX_SEEN p) = true ∧
          (s.bit (F.MAC_CTL_RX_PAUSE p) = true → 0 < natAt f 16 2 → u.bit (F.MAC_STAT_PAUSED p) = true ∧
            ∃ began, (u.eth p).paused = some (began, s.nowSub + s.quanta p (natAt f 16 2)) ∧
              (s.bit (F.MAC_STAT_PAUSED p) = false → began = s.nowSub)) ∧
          (s.bit (F.MAC_CTL_RX_PAUSE p) = true → natAt f 16 2 = 0 → u.bit (F.MAC_STAT_PAUSED p) = false) ∧
          (s.bit (F.MAC_CTL_RX_PAUSE p) = false → (u.eth p).paused = (s.eth p).paused ∧
            u.bit (F.MAC_STAT_PAUSED p) = s.bit (F.MAC_STAT_PAUSED p))))) ∧
    (∀ a b, (s.eth p).paused = some (a, b) → ∀ u, u = s.pauseRunsOut p → exec (.rxPauseEnd p) s = .next (s.after u) ∧
      (b < s.nextSub → u.bit (F.MAC_STAT_PAUSED p) = false ∧ s.wordsKept u [A.MAC_STAT p]) ∧
      (s.nextSub ≤ b → u = s)) ∧
    ((s.eth p).paused = none → exec (.rxPauseEnd p) s = .next (s.after s)) ∧
    (s.pending = [] → ∀ t, step s = .next t → t.val (A.MAC_CNT_i p 47) = (s.val (A.MAC_CNT_i p 47) +
      (if s.bit (F.MAC_STAT_PAUSED p) = true ∧ s.tallyRun = true then
        (s.pauseMicros p s.nextSub - s.pauseMicros p s.nowSub).toNat else 0)) % 2 ^ 32) ∧
    (s.linkUp p = false → exec (.rxbLevelSample p) s = .next (s.after s)) ∧
    (s.linkUp p = true → ∀ u, u = s.xoffSample p → exec (.rxbLevelSample p) s = .next (s.after u) ∧
      u.bit (F.MAC_STAT_XOFF p) = (if (s.eth p).xoff.on then decide (s.get (F.MAC_RXB_WM_LOW p) ≤ s.rxLevel p)
        else decide (s.get (F.MAC_RXB_WM_HIGH p) < s.rxLevel p)) ∧
      ((s.eth p).xoff.on = false → u.bit (F.MAC_STAT_XOFF p) = true → s.bit (F.MAC_CTL_TX_PAUSE p) = true →
        (u.eth p).pauseOut = some (s.val (A.MAC_PAUSE_QUANTA p), s.nowSub) ∧ Ev.RXB_XOFF ∈ u.raised ∧
          u.bit (F.MAC_STAT_XOFF_SEEN p) = true) ∧
      ((s.eth p).xoff.on = true → u.bit (F.MAC_STAT_XOFF p) = false → (u.eth p).pauseOut = some (0, s.nowSub)) ∧
      (u.bit (F.MAC_STAT_XOFF p) = (s.eth p).xoff.on ∨
          (s.bit (F.MAC_CTL_TX_PAUSE p) = false ∧ (s.eth p).xoff.on = false) →
        (u.eth p).pauseOut = (s.eth p).pauseOut ∧ u.raised = s.raised) ∧
      s.wordsKept u [A.MAC_STAT p] ∧ (∀ q, q < 4 → q ≠ p → u.eth q = s.eth q)) ∧
    (s.bit (F.MAC_STAT_XOFF p) = true → s.bit (F.MAC_CTL_TX_PAUSE p) = true → s.linkUp p = true →
      exec (.pauseRepeat p) s = .next (s.after (s.setEth p
        { s.eth p with pauseOut := some (s.val (A.MAC_PAUSE_QUANTA p), s.nowSub) }))) ∧
    (s.bit (F.MAC_STAT_XOFF p) = false ∨ s.bit (F.MAC_CTL_TX_PAUSE p) = false ∨ s.linkUp p = false →
      exec (.pauseRepeat p) s = .next (s.after s)) ∧
    (∀ k, (s.eth p).pauseOut = some k → s.linkUp p = true → s.pauseGap p = true → ∃ slot,
      exec (.pauseFrameSend p) s = .next (s.after (s.setEth p { s.eth p with
        pauseOut := none
        wire := (s.eth p).wire ++ [{ kind := .pause, bytes := pauseFrame (s.macAddr p) k.1, slot := slot }] }))) ∧
    ((s.eth p).pauseOut = none ∨ s.linkUp p = false ∨ s.pauseGap p = false →
      exec (.pauseFrameSend p) s = .next (s.after s)) ∧
    (∀ f : Option TxFrame, f = (match (s.eth p).wire, (s.eth p).plain with
        | g :: _, _ => some g
        | [], x :: _ => if s.plainFits p (wireLength x.bytes) then some { kind := .unslotted, bytes := x.bytes } else none
        | [], [] => none) → ∀ u, u = s.txDone p → exec (.txFrameDone p) s = .next (s.after u) ∧
      (f = none → u = s) ∧
      (∀ g, f = some g → (u.eth p).wire = (s.eth p).wire.tail ∧ (u.eth p).sent = g.bytes ++ fcs g.bytes ∧
        (u.eth p).plain = (if (s.eth p).wire = [] then (s.eth p).plain.tail else (s.eth p).plain) ∧
        u.val (A.MAC_CNT_i p 26) = (s.val (A.MAC_CNT_i p 26) + 1) % 2 ^ 32 ∧
        u.val (A.MAC_CNT_i p 27) = (s.val (A.MAC_CNT_i p 27) + wireLength g.bytes) % 2 ^ 32 ∧
        (∀ i, 39 ≤ i → i < 43 → u.val (A.MAC_CNT_i p i) = (if i = (match g.kind with
          | .pause => 39 | .slotted => 40 | .unslotted => 41 | .relay => 42)
          then (s.val (A.MAC_CNT_i p i) + 1) % 2 ^ 32 else s.val (A.MAC_CNT_i p i))) ∧
        s.banksKept u [0x0B + p] ∧ (∀ q, q < 4 → q ≠ p → u.eth q = s.eth q))) ∧
    (∀ u, u = s.snapshot →
      (s.bit F.SNAP_CTL_HOLD = true → Ev.SNAP_MISSED ∈ u.raised ∧ u.bit F.SNAP_STAT_MISSED_SEEN = true ∧
        s.wordsKept u [A.SNAP_MISSED, A.SNAP_STAT]) ∧
      (s.bit F.SNAP_CTL_HOLD = false → Ev.SNAP_DONE ∈ u.raised ∧ u.bit F.SNAP_STAT_FRESH = true ∧
        (∀ q, q < 4 → ∀ i, i < 48 →
          (u.val (A.SNAP_Pp_CNT_i (q * 48 + i)) + s.countedNow q i) % 2 ^ 32 = s.val (A.MAC_CNT_i q i)) ∧
        u.multi A.SNAP_TALLY_HI 2 = s.tally % 2 ^ 64 ∧ u.val A.SNAP_ERA = s.era % 2 ^ 32 ∧ s.banksKept u [0x0F]) ∧
      (s.bit F.SNAP_CTL_PERIOD_EN = true → s.tally % (s.val A.SNAP_PERIOD * 1250000) = 0 →
        s.net.snapLast ≠ some s.tally → exec .snapPeriodic s = .next (s.after u))) ∧
    (s.bit F.SNAP_CTL_PERIOD_EN = false ∨ s.tally % (s.val A.SNAP_PERIOD * 1250000) ≠ 0 ∨
        s.net.snapLast = some s.tally →
      exec .snapPeriodic s = .next (s.after s)) ∧
    (∀ (h : HostPort) (v : Word), s.mayWrite h A.SNAP_CTL = true → ∀ t, t = s.setVal A.SNAP_CTL (bitsAt v.toNat 1 2 * 2) →
      ∀ w, w = (if bitOf v.toNat 1 then t.setBit F.SNAP_STAT_FRESH false else t) →
      exec (.snapTrig h v) s = .next (s.after
        ((if bitOf v.toNat 0 then { w with net := { w.net with snapDue := true } } else w).written h A.SNAP_CTL v))) ∧
    (s.pending = [] → s.net.snapDue = true → s.bit F.SNAP_CTL_HOLD = false → ∃ t, step s = .next t ∧
      t.net.snapDue = false ∧ t.bit F.SNAP_STAT_FRESH = true ∧ t.multi A.SNAP_TALLY_HI 2 = t.tally % 2 ^ 64)

/-- With NET up, for port p. LAT_CAL RUN starts a run, or with the link up, no lock or EN = 0 ends with its reason;
DISCARD erases the mode's calibration. LAT_CAL_DONE of a run whose spread is at most 8,192 subticks stores TX_ADJ =
floor(delta/2) and RX_ADJ = delta - TX_ADJ; with more, and at LAT_CAL_NO_LOOP, it aborts and keeps them. On entering
Calibrate an enabled port without link owes a run, which starts while it has both its DLLs locked. TS_SETTLE_MEASURE
counts agreeing measurements, and the 16th stores them and ends TS_SETTLING. TS_SETTLE_SLOW drops the link.
MARGIN_WINDOW_END sets MARGIN_NOW by R323. SLOT_COMMIT commits the port's earliest slotted frame when it is staged,
not stale and not paused, with the metadata applied last (R406) and, in an Announce, what a leap since READ left
(R381), unless these need another slot; a relayed copy likewise. SLOTTED_FRAME_LAUNCH moves the first committed frame
to the wire from the tick of its frontier instant on, unless a pause covers its start, and counts a stamp further from
that instant than TX_DEV_LIMIT. From 09_wire_stamps_and_launch.md: Latency calibration, 09_wire_stamps_and_launch.md:
Scheduled launch, R308, R312, R314, R315, R316, R317, R318, R324, R330, R406. -/
def Obligations.LatencyAndLaunch : Prop :=
  ∀ (s : State) (p : Nat), s.up .net = true → p < 4 →
    (∀ (h : HostPort) (v : Word), s.mayWrite h (A.MAC_LAT_CAL p) = true →
      (bitOf v.toNat 1 = false → bitOf v.toNat 0 = true → ∀ u, u = s.latRun p →
        exec (.latCalRun h p v) s = .next (s.after (u.written h (A.MAC_LAT_CAL p) v)) ∧
        (s.bit (F.MAC_TS_STAT_CAL_BUSY p) = true → u = s) ∧
        (s.bit (F.MAC_TS_STAT_CAL_BUSY p) = false →
          (s.linkUp p = false → s.tsuLocked p = true → s.portOn p = true →
            u.bit (F.MAC_TS_STAT_CAL_BUSY p) = true ∧ s.wordsKept u [A.MAC_TS_STAT p] ∧ u = { s with regs := u.regs }) ∧
          (s.linkUp p = true ∨ s.tsuLocked p = false ∨ s.portOn p = false →
            u.val (A.MAC_LAT_RESULT p) = (if s.linkUp p then 7 else if s.tsuLocked p = false then 4 else 6) + s.latMode p * 16 ∧
            Ev.LAT_CAL_ABORT ∈ u.raised ∧ u.bit (F.MAC_TS_STAT_CAL_ABORT_SEEN p) = true ∧
            u.bit (F.MAC_TS_STAT_CAL_BUSY p) = false ∧ s.wordsKept u [A.MAC_LAT_RESULT p, A.MAC_TS_STAT p] ∧ u.net = s.net))) ∧
      (bitOf v.toNat 1 = true → bitOf v.toNat 0 = false → ∀ u, u = s.latDiscard p →
        exec (.latCalDiscard h p v) s = .next (s.after (u.written h (A.MAC_LAT_CAL p) v)) ∧
        lookupKey (p * 4 + s.latMode p) u.net.lat = none ∧ u.regs = s.regs ∧
        (∀ k, k ≠ p * 4 + s.latMode p → lookupKey k u.net.lat = lookupKey k s.net.lat))) ∧
    (s.bit (F.MAC_TS_STAT_CAL_BUSY p) = true →
      (∀ (mean : Int) (spread : Nat), ∀ u, u = s.latDone p mean spread →
        exec (.latCalDone p mean spread) s = .next (s.after u) ∧ u.bit (F.MAC_TS_STAT_CAL_BUSY p) = false ∧
        s.wordsKept u [A.MAC_LAT_RESULT p, A.MAC_TS_STAT p] ∧
        (spread ≤ 8192 → ∀ m, m = s.latMode p → ∀ d, d = mean - (Config.latFac p m true + Config.latFac p m false + Config.loopFac p m) →
          lookupKey (p * 4 + m) u.net.lat = some { tx := d / 2, rx := d - d / 2 } ∧ Ev.LAT_CAL_DONE ∈ u.raised ∧
          u.val (A.MAC_LAT_RESULT p) % 16 = 0) ∧
        (8192 < spread → u.net.lat = s.net.lat ∧ Ev.LAT_CAL_ABORT ∈ u.raised ∧ u.val (A.MAC_LAT_RESULT p) % 16 = 9)) ∧
      (∀ u, u = s.latAbort p 8 0 → exec (.latCalNoLoop p) s = .next (s.after u) ∧ u.net = s.net ∧
        u.val (A.MAC_LAT_RESULT p) % 16 = 8 ∧ Ev.LAT_CAL_ABORT ∈ u.raised)) ∧
    (s.bit (F.MAC_TS_STAT_CAL_BUSY p) = false → exec (.latCalNoLoop p) s = .next (s.after s) ∧
      (∀ mean spread, exec (.latCalDone p mean spread) s = .next (s.after s))) ∧
    (∀ b : State, b.baseMode ≠ .calibrate → s.baseMode = .calibrate → s.dom .time = 2 → s.portOn p = true →
      s.linkUp p = false → ((b.modeReact s).eth p).latDue = true) ∧
    (∀ b : State, s.baseMode = .calibrate → (s.eth p).latDue = true → s.portOn p = true → s.linkUp p = false →
      s.tsuLocked p = true → ((b.portReact s).eth p).latDue = false ∧
        (b.portReact s).bit (F.MAC_TS_STAT_CAL_BUSY p) = true) ∧
    (∀ ready : Bool, ready = (s.settling p && s.linkUp p && s.tsuLocked p) →
      (∀ rx tx : Int, ∀ u, u = s.settleMeasure p rx tx → exec (.tsSettleMeasure p rx tx) s = .next (s.after u) ∧
        (ready = false → u = s) ∧
        (ready = true → ∀ n : Nat, n = (match (s.eth p).lastVars with
            | some (a, b) => if |rx - a| ≤ 2048 ∧ |tx - b| ≤ 2048 then (s.eth p).agreeing + 1 else 1
            | none => 1) → (u.eth p).agreeing = n ∧ (u.eth p).lastVars = some (rx, tx) ∧
          (n < 16 → u.settling p = true ∧ u.regs = s.regs) ∧
          (16 ≤ n → u.settling p = false ∧ Ev.TS_SETTLED ∈ u.raised ∧ u.rd (A.MAC_RX_VAR p) = BitVec.ofInt 32 rx ∧
            u.rd (A.MAC_TX_VAR p) = BitVec.ofInt 32 tx ∧
            s.wordsKept u [A.MAC_RX_VAR p, A.MAC_TX_VAR p, A.MAC_STAT p]))) ∧
      (∀ u, u = s.settleSlow p → exec (.tsSettleSlow p) s = .next (s.after u) ∧ (ready = false → u = s) ∧
        (ready = true → u.linkUp p = false ∧ Ev.TS_SETTLE_SLOW ∈ u.raised ∧ Ev.LINK_DOWN ∈ u.raised ∧
          u.bit (F.MAC_TS_STAT_SLOW_SEEN p) = true ∧
          u.val (A.MAC_CNT_i p 46) = (s.val (A.MAC_CNT_i p 46) + 1) % 2 ^ 32))) ∧
    (∀ u, u = s.marginWindow p → exec (.marginWindowEnd p) s = .next (s.after u) ∧
      (u.eth p).largestN = none ∧ (u.eth p).missed = false ∧ s.wordsKept u [A.MAC_MARGIN_NOW p] ∧
      ((s.eth p).missed = true → u.val (A.MAC_MARGIN_NOW p) = s.get (F.MAC_MARGIN_MAX p)) ∧
      ((s.eth p).missed = false → (s.eth p).largestN = none → u.regs = s.regs) ∧
      (∀ n, (s.eth p).largestN = some n → (s.eth p).missed = false → ∀ m : Rat,
        m = max (s.get (F.MAC_MARGIN_FLOOR p) : Rat) (min (s.get (F.MAC_MARGIN_MAX p) : Rat) (5 / 4 * ((n : Rat) / 81920) + 200)) →
        u.val (A.MAC_MARGIN_NOW p) % 25 = 0 ∧ m ≤ (u.val (A.MAC_MARGIN_NOW p) : Rat) ∧
          (u.val (A.MAC_MARGIN_NOW p) : Rat) < m + 25)) ∧
    (∀ u, u = s.slotCommit p → exec (.slotCommit p) s = .next (s.after u) ∧
      (s.earliest p = none → u = s) ∧
      (∀ e, s.earliest p = some e → e.2.1 = false → ∀ r, (s.eth p).relays[e.2.2]? = some r →
        s.heldBack p r.slot r.board = false →
        { kind := .relay, bytes := r.bytesAt r.slot, slot := r.slot, board := r.board, origin := .relayed r : TxFrame } ∈
          (u.eth p).committed ∧
        (u.eth p).relays = (s.eth p).relays.eraseIdx e.2.2 ∧ u.regs = s.regs ∧ u.net.pipe = s.net.pipe) ∧
      (∀ e, s.earliest p = some e → e.2.1 = true → ∀ c, s.net.pipe.ctxs[e.2.2]? = some c →
        (c.stage = .staged → s.heldBack c.port c.slot c.board = false → s.stale c = false →
          ∀ d, d = s.freshened c →
          (d.msg.length = c.msg.length →
            { kind := .slotted, bytes := d.out, slot := c.slot, board := c.board, origin := .context d : TxFrame } ∈
              (u.eth c.port).committed ∧
            u.net.pipe.ctxs = s.net.pipe.ctxs.eraseIdx e.2.2) ∧
          (d.msg.length ≠ c.msg.length → u = s.setCtx e.2.2 { d with stage := .read })) ∧
        (c.stage ≠ .staged ∨ s.heldBack c.port c.slot c.board = true ∨ s.stale c = true →
          (u.eth c.port).committed = (s.eth c.port).committed ∧ u.bit (F.MAC_TS_STAT_MISS_SEEN c.port) = true ∧
          (s.portServes c.port = true → 3 ≤ c.misses ∨ (c.duty = .nts ∧ 1 ≤ c.misses) → u.net.pipe.ctxs = s.net.pipe.ctxs.eraseIdx e.2.2 ∧
            Ev.SLOT_MISS_DROP ∈ u.raised)))) ∧
    (∀ (bin : Nat), ∀ u, u = s.slotLaunch p bin → exec (.slottedFrameLaunch p bin) s = .next (s.after u) ∧
      ((s.eth p).committed = [] → u = s) ∧
      (∀ f, (s.eth p).committed.head? = some f → ∀ at_ : Int, at_ = s.frontier p f.slot f.board → ∀ goes : Bool,
        goes = (decide (at_ < s.nextSub) && s.linkUp p && !s.pausedAt p (s.startAt p f.slot f.board)) →
        (goes = false → u = s) ∧
        (goes = true → ∀ dev : Int, dev = |s.nowSub + (bin : Int) * 2048 + 1024 - at_| →
          (u.eth p).committed = (s.eth p).committed.tail ∧ (u.eth p).wire = (s.eth p).wire ++ [f] ∧
          (dev * 800 ≤ (s.val (A.MAC_TX_DEV_LIMIT p) : Int) * 65536 → u.regs = s.regs ∧ u.mode = s.mode) ∧
          ((s.val (A.MAC_TX_DEV_LIMIT p) : Int) * 65536 < dev * 800 →
            Ev.TX_STAMP_DEV ∈ u.raised ∧ u.bit (F.MAC_TS_STAT_DEV_SEEN p) = true ∧
            (s.bit (F.MAC_TS_CTL_DEV_SAFE p) = true → s.mode.now = .follow → u.mode.now = .safeHold) ∧
            (s.bit (F.MAC_TS_CTL_DEV_SAFE p) = false → u.mode = s.mode)))))

/-- With PIPE up. INTAKE takes the first frame of the next port in turn into a new context and draws a token when the
pipeline runs, a context and a token are free; else it changes nothing. SORT, ADMIT and READ take the oldest context
they hold: it goes on (to ADMIT, READ or SEAL) with the other contexts as they were, or it ends, is freed, and exactly
one outcome counter grows by 1. SORT of an NTP class request without a stamp, READ on a port that does not serve,
ADMIT of a Delay_Req on a port that is not MASTER end NO_STAMP, PORT_GONE, PTP_REFUSED. READ grants a slot not before
the margin. SEAL composes a context in one of its eight lanes; LAUNCH stages it. CTX_EXPIRED ends context i EXPIRED
once CTX_TIMEOUT is over, with EXPIRED_SEEN and its event once. With no such context each changes nothing. From
10_request_pipeline.md: Stages and their contracts, R322, R342, R345, R346, R348, R349, R351, R354, R356, R403. -/
def Obligations.RequestsPassTheStages : Prop :=
  ∀ (s : State), s.up .pipe = true →
    (∀ w, w = s.fillBuckets → ∀ u, u = s.intake → exec .intake s = .next (s.after u) ∧
      (w.nextPort = none ∨ s.bit F.PIPE_CTL_EN = false ∨ s.bit F.PIPE_STAT_DRAINING = true ∨ 480 ≤ s.ctxInUse ∨
        w.net.pipe.issue < 1250000000 → u = s) ∧
      (∀ p, s.nextPort = some p → ∀ f, (s.eth p).rx.head? = some f → s.bit F.PIPE_CTL_EN = true →
        s.bit F.PIPE_STAT_DRAINING = false → s.ctxInUse < 480 → 1250000000 ≤ w.net.pipe.issue →
        u.net.pipe.ctxs = s.net.pipe.ctxs ++
          [{ orig := false, port := p, entry := f.entry, trx := f.trx, frame := f.bytes, born := s.nowSub }] ∧
        (u.eth p).rx = (s.eth p).rx.tail ∧ (∀ q, q < 4 → q ≠ p → u.eth q = s.eth q) ∧
        u.net.pipe.issue + 1250000000 = w.net.pipe.issue ∧ u.net.pipe.next = (p + 1) % 4 ∧
        (u.ctxInUse = 480 → u.bit F.PIPE_STAT_CTX_FULL = true) ∧
        s.wordsKept u [A.PIPE_CTX_PEAK, A.PIPE_STAT] ∧ u = { s with regs := u.regs, net := u.net, raised := u.raised })) ∧
    (∀ u, u = s.sortNext → exec .sortCtx s = .next (s.after u) ∧
      (s.findCtx (fun c => c.stage == .sort) = none → u = s) ∧
      (∀ i, s.findCtx (fun c => c.stage == .sort) = some i → ∀ c, s.net.pipe.ctxs[i]? = some c → c.ended = false →
        u.net.pipe.ctxs = s.net.pipe.ctxs.eraseIdx i ∧
            (∃ o, o < 20 ∧ u.val (A.PIPE_OUT_c o) = (s.val (A.PIPE_OUT_c o) + 1) % 2 ^ 32 ∧
              ∀ r, r < 20 → r ≠ o → u.val (A.PIPE_OUT_c r) = s.val (A.PIPE_OUT_c r)) ∨
          u.net.pipe.ctxs.eraseIdx i = s.net.pipe.ctxs.eraseIdx i ∧ u.net.pipe.ctxs.length = s.net.pipe.ctxs.length ∧
            u.net.pipe.ctxs[i]?.map Ctx.stage = some .admission ∧ u.net.pipe.ctxs[i]?.map Ctx.trx = some c.trx ∧
            s.notServing = false ∧ c.trx ≠ none ∧
            u = { s with net := u.net }) ∧
      (∀ i, s.findCtx (fun c => c.stage == .sort) = some i → ∀ c, s.net.pipe.ctxs[i]? = some c → c.ended = false →
        ∀ ip, parseIp c.frame = .ip ip → ip.proto = 17 → ∀ d, ip.udp = some d → d.dport = 123 →
        s.entryHas c.port c.entry ip.dst = true → s.ntpKind d.payload ≠ .none → c.trx = none →
        u.val (A.PIPE_OUT_c 6) = (s.val (A.PIPE_OUT_c 6) + 1) % 2 ^ 32)) ∧
    (∀ u, u = s.admitNext → exec .admitCtx s = .next (s.after u) ∧
      (s.findCtx (fun c => c.stage == .admission) = none → u = s) ∧
      (∀ i, s.findCtx (fun c => c.stage == .admission) = some i → ∀ c, s.net.pipe.ctxs[i]? = some c → c.ended = false →
        (u.net.pipe.ctxs = s.net.pipe.ctxs.eraseIdx i ∧
            (∃ o, o < 20 ∧ u.val (A.PIPE_OUT_c o) = (s.val (A.PIPE_OUT_c o) + 1) % 2 ^ 32 ∧
              ∀ r, r < 20 → r ≠ o → u.val (A.PIPE_OUT_c r) = s.val (A.PIPE_OUT_c r)) ∨
          u.net.pipe.ctxs.eraseIdx i = s.net.pipe.ctxs.eraseIdx i ∧ u.net.pipe.ctxs.length = s.net.pipe.ctxs.length ∧
            u.net.pipe.ctxs[i]?.map Ctx.stage = some .read) ∧
        (c.cls = 2 → natAt c.frame 0 1 % 16 = 1 → s.ptpState c.port ≠ 3 →
          u.val (A.PIPE_OUT_c 12) = (s.val (A.PIPE_OUT_c 12) + 1) % 2 ^ 32) ∧
        (c.cls ≠ 2 → c.trx.isSome = true → s.safe = true → c.cls = 1 ∨ s.bit F.NTP_CTL_SAFE_SILENT = true →
          u.val (A.PIPE_OUT_c 19) = (s.val (A.PIPE_OUT_c 19) + 1) % 2 ^ 32) ∧
        (∀ q, q < 4 → u.eth q = s.eth q))) ∧
    (∀ u, u = s.readNext → exec .readCtx s = .next (s.after u) ∧
      (s.findCtx (fun c => c.stage == .read) = none → u = s) ∧
      (∀ i, s.findCtx (fun c => c.stage == .read) = some i → ∀ c, s.net.pipe.ctxs[i]? = some c → c.ended = false →
        (u.net.pipe.ctxs = s.net.pipe.ctxs.eraseIdx i ∧
            (∃ o, o < 20 ∧ u.val (A.PIPE_OUT_c o) = (s.val (A.PIPE_OUT_c o) + 1) % 2 ^ 32 ∧
              ∀ r, r < 20 → r ≠ o → u.val (A.PIPE_OUT_c r) = s.val (A.PIPE_OUT_c r)) ∨
          u.net.pipe.ctxs.eraseIdx i = s.net.pipe.ctxs.eraseIdx i ∧ u.net.pipe.ctxs.length = s.net.pipe.ctxs.length ∧
            u.net.pipe.ctxs[i]?.map Ctx.stage = some .seal ∧ u.net.pipe.ctxs[i]?.map Ctx.granted = some s.nowSub ∧
            u.net.pipe.ctxs[i]?.all (fun d => decide (s.nowSub + (s.margin c.port : Int) * 81920 ≤ d.slot)) = true) ∧
        (s.portServes c.port = false → u.val (A.PIPE_OUT_c 16) = (s.val (A.PIPE_OUT_c 16) + 1) % 2 ^ 32 ∧
          u.val (A.MAC_CNT_i c.port 45) = (s.val (A.MAC_CNT_i c.port 45) + 1) % 2 ^ 32))) ∧
    (∀ i c, s.net.pipe.ctxs[i]? = some c → c.ended = false →
      (∀ u, u = s.sealAt i → exec (.sealCtx i) s = .next (s.after u) ∧
        (c.stage ≠ .seal ∨ s.inLane i = false → u = s) ∧
        (c.stage = .seal → s.inLane i = true → c.duty ≠ .nts → u = s.setCtx i { c with out := s.frameFor c c.stamped, stage := .launch }) ∧
        (c.stage = .seal → s.inLane i = true → c.duty = .nts → c.key = none → u.net.pipe.ctxs = s.net.pipe.ctxs.eraseIdx i ∧
          u.val (A.PIPE_OUT_c 17) = (s.val (A.PIPE_OUT_c 17) + 1) % 2 ^ 32)) ∧
      (∀ u, u = s.launchAt i → exec (.launchCtx i) s = .next (s.after u) ∧
        (c.stage ≠ .launch → u = s) ∧
        (c.stage = .launch → s.portServes c.port = false → u.net.pipe.ctxs = s.net.pipe.ctxs.eraseIdx i ∧
          u.val (A.PIPE_OUT_c 16) = (s.val (A.PIPE_OUT_c 16) + 1) % 2 ^ 32) ∧
        (c.stage = .launch → s.portServes c.port = true → u.net.pipe.ctxs[i]? = some { c with stage := .staged } ∧
          u.net.pipe.ctxs.eraseIdx i = s.net.pipe.ctxs.eraseIdx i ∧ u = { s with net := u.net })) ∧
      ((s.val A.PIPE_CTX_TIMEOUT : Int) * 1250 * 65536 ≤ s.nowSub - c.born →
        ∀ u, u = s.ctxExpired i → exec (.ctxExpired i) s = .next (s.after u) ∧
        u.net.pipe.ctxs = s.net.pipe.ctxs.eraseIdx i ∧
        u.val (A.PIPE_OUT_c 18) = (s.val (A.PIPE_OUT_c 18) + 1) % 2 ^ 32 ∧ u.bit F.PIPE_STAT_EXPIRED_SEEN = true ∧
        (s.bit F.PIPE_STAT_EXPIRED_SEEN = false → Ev.PIPE_EXPIRED ∈ u.raised) ∧
        s.wordsKept u [A.PIPE_OUT_c 18, A.PIPE_STAT] ∧ (∀ q, q < 4 → u.eth q = s.eth q)) ∧
      (s.nowSub - c.born < (s.val A.PIPE_CTX_TIMEOUT : Int) * 1250 * 65536 → exec (.ctxExpired i) s = .next (s.after s))) ∧
    (∀ i, s.net.pipe.ctxs.length ≤ i → exec (.sealCtx i) s = .next (s.after s) ∧
      exec (.launchCtx i) s = .next (s.after s) ∧ exec (.ctxExpired i) s = .next (s.after s))

/-- For a port that may write PIPE words, with PIPE up: PIPE_CTL_WRITE stores the word, and DRAINING is set exactly
when EN goes from 1 to 0; contexts stay. PIPE_DRAIN_DONE ends DRAINING when every context has ended, and changes
nothing while one has not. HK_ANNOUNCE queues announcements as unslotted frames on ports whose link is up and touches
no context. MBX_FLUSH with 1 empties the mailbox, with another value leaves it; nothing else changes. From
10_request_pipeline.md: The housekeeping responder, R360, R364, R365, R366, R367. -/
def Obligations.PipelineIsControlledAndDrained : Prop :=
  ∀ (s : State), s.up .pipe = true →
    (∀ (p : HostPort) (v : Word),
      (s.mayWrite p A.PIPE_CTL = true → ∀ u, u = s.pipeCtlWrite v.toNat →
        exec (.pipeCtlWrite p v) s = .next (s.after (u.written p A.PIPE_CTL v)) ∧
        u.bit F.PIPE_CTL_EN = bitOf v.toNat 0 ∧
        (s.bit F.PIPE_CTL_EN = true → bitOf v.toNat 0 = false → u.bit F.PIPE_STAT_DRAINING = true) ∧
        (s.bit F.PIPE_CTL_EN = false ∨ bitOf v.toNat 0 = true → u.rd A.PIPE_STAT = s.rd A.PIPE_STAT) ∧
        s.wordsKept u [A.PIPE_CTL, A.PIPE_STAT] ∧ u = { s with regs := u.regs }) ∧
      (s.mayWrite p A.PIPE_HK_ANNOUNCE = true → ∀ u, u = s.hkAnnounce v.toNat →
        exec (.hkAnnounce p v) s = .next (s.after (u.written p A.PIPE_HK_ANNOUNCE v)) ∧
        u.net.pipe = s.net.pipe ∧
        (∀ q, q < 4 → bitOf v.toNat q = false ∨ s.linkUp q = false → u.eth q = s.eth q) ∧
        (∀ q, q < 4 → bitOf v.toNat q = true → s.linkUp q = true → s.portOn q = true →
          (u.eth q).plain.take (s.eth q).plain.length = (s.eth q).plain ∧
          (u.eth q).plain.map PlainFrame.bytes = (s.eth q).plain.map PlainFrame.bytes ++
            (List.range 8).flatMap (s.announceEntry q)) ∧
        s.banksKept u [0x0B, 0x0C, 0x0D, 0x0E]) ∧
      (s.mayWrite p A.PIPE_MBX_FLUSH = true →
        (v.toNat = 1 → exec (.mbxFlush p v) s =
          .next (s.still ((s.setPipe { s.net.pipe with mailbox := [] }).written p A.PIPE_MBX_FLUSH v))) ∧
        (v.toNat ≠ 1 → exec (.mbxFlush p v) s = .next (s.still (s.written p A.PIPE_MBX_FLUSH v))))) ∧
    (s.net.pipe.ctxs.all (fun c => c.ended) = true → s.dom .pipe = 2 →
      exec .pipeDrainDone s = .next (s.after (s.put F.PIPE_STAT_DRAINING 0))) ∧
    (s.net.pipe.ctxs.all (fun c => c.ended) = false ∨ s.dom .pipe ≠ 2 → exec .pipeDrainDone s = .next (s.after s))

/-- With PIPE up, for port p. PTP_ANNOUNCE_TX and PTP_SYNC_TX for the group change nothing unless the port is MASTER
with MCAST_EN = 1 and 2^LOG_ANN s or 2^LOG_SYNC s have passed since the last boundary of that period; the boundary
then moves on, and the message is sent where the mode permits it (serving; STR F0_SET and no Safe Hold for Sync). For
a grant they send when it has not lapsed and its period has passed. PTP_DELAY_REQ_TX sends on a tracking port with an
Erbest once the drawn interval has passed, and draws the next; UC_REQUEST_TX asks for the message types that are due;
SM_MANAGEMENT_TX sends once per 2^LOG_ANN s under R407. A message sent takes the next sequenceId of its type modulo
2^16 and, with fewer than 32 originated contexts held, one context at READ that ORIG counts. FOREIGN_MASTER_EXPIRED
drops a record whose time has passed and sets TMO_SEEN; PRE_MASTER_DONE makes a port MASTER that has been PRE_MASTER
for its time; UC_GRANT_LAPSE removes a grant whose duration has ended; each does nothing before; SM_COMMIT with 1
applies the first LEN bytes of SM_DATA. From 11_ptp_service.md: The clock and its ports, Measuring a master, R353,
R374, R377, R378, R379, R385, R388, R389, R399, R400, R406, R407. -/
def Obligations.PtpMessagesAreSent : Prop :=
  ∀ (s : State) (p : Nat), s.up .pipe = true → p < 4 →
    ((∀ u, u = s.announceTx p none → exec (.ptpAnnounceTx p none) s = .next (s.after u) ∧
        ∀ due : Bool, due = (decide (s.ptpState p = 3) && s.bit (F.PTP_Pp_CTL_MCAST_EN p) &&
            periodDue (s.ptp p).annAt (s.logAnn p) s.tally) →
          (due = false → u = s) ∧
          (due = true → (u.ptp p).annAt = some (periodAt (s.ptp p).annAt (s.logAnn p) s.tally)) ∧
          (due = true → s.mayAnnounce p = false → u.regs = s.regs ∧ u.net.pipe = s.net.pipe ∧ u = { s with net := u.net }) ∧
          (due = true → s.mayAnnounce p = true → s.messageSent u p 11 .announce ∧ u.grd = s.grd)) ∧
      (∀ u, u = s.syncTx p none → exec (.ptpSyncTx p none) s = .next (s.after u) ∧
        ∀ due : Bool, due = (decide (s.ptpState p = 3) && s.bit (F.PTP_Pp_CTL_MCAST_EN p) &&
            periodDue (s.ptp p).syncAt (s.logSync p) s.tally) →
          (due = false → u = s) ∧
          (due = true → (u.ptp p).syncAt = some (periodAt (s.ptp p).syncAt (s.logSync p) s.tally)) ∧
          (due = true → s.maySync p = false → u.regs = s.regs ∧ u.net.pipe = s.net.pipe ∧ u = { s with net := u.net }) ∧
          (due = true → s.maySync p = true → s.messageSent u p 0 .sync ∧ u.grd = s.grd)) ∧
      (∀ u, u = s.delayReqTx p → exec (.ptpDelayReqTx p) s = .next (s.after u) ∧
        (s.tracking p = false ∨ s.erbest p = none ∨ s.tally < (s.ptp p).dreqAt → u = s) ∧
        (s.tracking p = true → (s.erbest p).isSome = true → (s.ptp p).dreqAt ≤ s.tally →
          s.messageSent u p 1 .delayReq ∧ s.tally ≤ (u.ptp p).dreqAt ∧
          (u.ptp p).dreqAt ≤ s.tally + periodTicks (s.dreqLog p + 1) ∧
          (s.rngOk = true → u.grd = { s.grd with draws := s.grd.draws + 1 }) ∧
          (s.rngOk = false → u.grd = s.grd ∧ (u.ptp p).dreqAt = s.tally + periodTicks (s.dreqLog p)))) ∧
      (∀ u, u = s.unicastRequest p → exec (.ucRequestTx p) s = .next (s.after u) ∧
        ∀ asks : Bool, asks = (s.bit (F.PTP_Pp_CTL_EN p) && s.bit (F.PTP_Pp_CTL_UC_REQ p) &&
            decide (s.get (F.PTP_Pp_CTL_ROLE p) ≠ 1) && [11, 0, 9].any (fun t => s.askDue p t)) →
          (asks = false → u = s) ∧
          (asks = true → s.messageSent u p 12 .signaling ∧ u.grd = s.grd ∧
            ∀ t, t ∈ [11, 0, 9] → s.askDue p t = true →
              (lookupKey t (u.ptp p).asks).map (fun a => a.asked) = some s.tally)) ∧
      (∀ u, u = s.metaTx p → exec (.smManagementTx p) s = .next (s.after u) ∧
        ∀ on : Bool, on = (s.metaOn && !s.bit F.PTP_CTL_SM_CARRIER && decide (s.ptpState p = 3) && !s.notServing &&
            periodDue (s.ptp p).metaAt (s.logAnn p) s.tally) →
          (on = false → u = s) ∧ (on = true → s.messageSent u p 13 .management ∧ u.grd = s.grd))) ∧
    (∀ i, (∀ g, s.net.ptp.grants[i]? = some g →
        (∀ u, u = s.announceTx p (some i) → exec (.ptpAnnounceTx p (some i)) s = .next (s.after u) ∧
          ∀ due : Bool, due = (decide (g.port = p) && decide (g.kind = 11) && decide (s.tally < g.ends) &&
              periodDue (some g.last) g.log s.tally) →
          (due = false → u = s) ∧
          (due = true → ∀ n : Nat, n = (if s.mayAnnounce p then (g.seq + 1) % 65536 else g.seq) →
            u.net.ptp.grants[i]? = some { g with seq := n, last := periodAt (some g.last) g.log s.tally } ∧
            u.net.ptp.ports = s.net.ptp.ports ∧ u.net.ptp.grants.eraseIdx i = s.net.ptp.grants.eraseIdx i)) ∧
        (∀ u, u = s.syncTx p (some i) → exec (.ptpSyncTx p (some i)) s = .next (s.after u) ∧
          ∀ due : Bool, due = (decide (g.port = p) && decide (g.kind = 0) && decide (s.tally < g.ends) &&
              periodDue (some g.last) g.log s.tally) →
          (due = false → u = s) ∧
          (due = true → ∀ n : Nat, n = (if s.maySync p then (g.seq + 1) % 65536 else g.seq) →
            u.net.ptp.grants[i]? = some { g with seq := n, last := periodAt (some g.last) g.log s.tally } ∧
            u.net.pipe.ctxs.length ≤ s.net.pipe.ctxs.length + 1)) ∧
        (g.ends ≤ s.tally → exec (.ucGrantLapse i) s =
          .next (s.after (s.setPtp { s.net.ptp with grants := s.net.ptp.grants.eraseIdx i }))) ∧
        (s.tally < g.ends → exec (.ucGrantLapse i) s = .next (s.after s))) ∧
      (s.net.ptp.grants.length ≤ i → exec (.ucGrantLapse i) s = .next (s.after s) ∧
        exec (.ptpAnnounceTx p (some i)) s = .next (s.after s) ∧ exec (.ptpSyncTx p (some i)) s = .next (s.after s))) ∧
    (∀ i f, (s.ptp p).masters[i]? = some f →
      (s.foreignDue p f = true → ∀ u, u = s.foreignExpired p i →
        exec (.foreignMasterExpired p i) s = .next (s.after u) ∧ (u.ptp p).masters = (s.ptp p).masters.eraseIdx i ∧
        u.bit (F.PTP_Pp_STAT_TMO_SEEN p) = true ∧ s.wordsKept u [A.PTP_Pp_STAT p] ∧
        (∀ q, q < 4 → q ≠ p → u.ptp q = s.ptp q)) ∧
      (s.foreignDue p f = false → exec (.foreignMasterExpired p i) s = .next (s.after s))) ∧
    (∀ i, (s.ptp p).masters.length ≤ i → exec (.foreignMasterExpired p i) s = .next (s.after s)) ∧
    (∀ n : Nat, n = (s.announced.steps + 1) * periodTicks (s.logAnn p) →
      (s.ptpState p = 2 → (s.ptp p).preAt + n ≤ s.tally →
        exec (.preMasterDone p) s = .next (s.after (s.put (F.PTP_Pp_STAT_STATE p) 3))) ∧
      (s.ptpState p ≠ 2 ∨ s.tally < (s.ptp p).preAt + n → exec (.preMasterDone p) s = .next (s.after s))) ∧
    (∀ (h : HostPort) (v : Word), s.mayWrite h A.PTP_SM_COMMIT = true →
      (v.toNat = 1 → ∀ u, u = s.metaCommit → exec (.smCommit h v) s = .next (s.after (u.written h A.PTP_SM_COMMIT v)) ∧
        u.net.ptp.metadata = ((List.range 16).flatMap (fun i => bytesOfWord (s.rd (A.PTP_SM_DATA i)))).take
          (s.get F.PTP_SM_CTL_LEN) ∧ u.regs = s.regs ∧ u.net.pipe = s.net.pipe) ∧
      (v.toNat ≠ 1 → exec (.smCommit h v) s = .next (s.after (s.written h A.PTP_SM_COMMIT v))))

/-- With PIPE up, for a port that may write KEY_CMD (the three rows are that one write): with the bank not armed the
write is discarded as UNARMED. Armed: ROTATE that is barred leaves every key and records its reason with
ROT_REFUSED_SEEN and the event; otherwise it begins a rotation into an EMPTY slot and changes no slot yet. RETIRE of a
GRACE slot destroys that key alone; of another, it is refused BAD_SLOT. WIPE_ALL destroys every key and keeps
GEN_NEXT. NTS_ROTATION_SWITCH outside Safe Hold makes the new slot ACTIVE with GEN_NEXT, the old one GRACE, and adds 1
to GEN_NEXT and ROTATIONS; in Safe Hold it is refused. NTS_AUTO_ROTATE begins a rotation where AUTO_ROT = 1 and the
ACTIVE slot's age has reached ROT_PERIOD, its retry so 60 s after a refusal; NTS_ROT_REFUSED is raised at the first
refusal and at a change of reason. NTS_GRACE_END destroys a GRACE slot whose time is 0, with its event. From
12_ntp_and_nts.md: Key slots and generations, R437, R438, R439, R440, R441, R442, R443. -/
def Obligations.KeysRotateRetireAndExpire : Prop :=
  ∀ (s : State), s.up .pipe = true →
    (∀ (p : HostPort) (v : Word), s.mayWrite p A.NTS_KEY_CMD = true →
      ∀ i : Instr, i = .ntsRotate p v ∨ i = .ntsRetire p v ∨ i = .ntsWipeAll p v →
      (s.useArm p .nts = none → exec i s = .next (s.after (s.turnedAway p A.NTS_KEY_CMD v .unarmed))) ∧
      (∀ a, s.useArm p .nts = some a →
        (bitsAt v.toNat 0 4 = 1 → ∀ u, u = a.rotate false →
          exec i s = .next (s.after (u.written p A.NTS_KEY_CMD v)) ∧
          (∀ k, k < 8 → u.keyOf k = s.keyOf k ∧ u.keyState k = s.keyState k ∧ u.keyGen k = s.keyGen k) ∧
          u.val A.NTS_GEN_NEXT = s.val A.NTS_GEN_NEXT ∧
          (∀ r, a.rotationBar = some r → u.val A.NTS_KEY_RESULT = 1 + r * 256 ∧
            u.bit F.NTS_STAT_ROT_REFUSED_SEEN = true ∧ Ev.NTS_ROT_REFUSED ∈ u.raised ∧
            u.net.nts.rotation = s.net.nts.rotation) ∧
          (a.rotationBar = none → u.bit F.NTS_STAT_ROT_BUSY = true ∧
            u.net.nts.rotation.all (fun x => decide (x.1 < 8 ∧ s.keyState x.1 = 0) && !x.2.2) = true ∧
            u.net.nts.rotation.isSome = true)) ∧
        (bitsAt v.toNat 0 4 = 2 → ∀ k, k = bitsAt v.toNat 4 3 → ∀ u, u = a.retire k →
          exec i s = .next (s.after (u.written p A.NTS_KEY_CMD v)) ∧
          (∀ j, j < 8 → j ≠ k → u.keyOf j = s.keyOf j ∧ u.keyState j = s.keyState j ∧ u.keyGen j = s.keyGen j) ∧
          (a.ntsAway = false → s.keyState k = 2 → u.keyOf k = none ∧ u.keyState k = 0 ∧ u.keyGen k = 0 ∧
            u.val A.NTS_KEY_RESULT = 2) ∧
          (a.ntsAway = false → s.keyState k ≠ 2 → u.keyOf k = s.keyOf k ∧ u.val A.NTS_KEY_RESULT = 2 + 3 * 256 ∧
            Ev.NTS_ROT_REFUSED ∈ u.raised) ∧
          (a.ntsAway = true → u.keyOf k = s.keyOf k ∧ u.val A.NTS_KEY_RESULT = 2 + 6 * 256)) ∧
        (bitsAt v.toNat 0 4 = 3 → ∀ u, u = a.wipeAll →
          exec i s = .next (s.after (u.written p A.NTS_KEY_CMD v)) ∧
          u.val A.NTS_GEN_NEXT = s.val A.NTS_GEN_NEXT ∧
          (a.ntsAway = false → (∀ k, k < 8 → u.keyOf k = none ∧ u.keyState k = 0 ∧ u.keyGen k = 0) ∧
            u.val A.NTS_KEY_RESULT = 3 ∧ u.net.nts.rotation = none ∧
            u.net.nts.spi.job = none ∧ u.net.nts.tw.job = none) ∧
          (a.ntsAway = true → u.net.nts = s.net.nts ∧ u.val A.NTS_KEY_RESULT = 3 + 6 * 256)) ∧
        (bitsAt v.toNat 0 4 = 0 ∨ 3 < bitsAt v.toNat 0 4 →
          exec i s = .next (s.after (a.turnedAway p A.NTS_KEY_CMD v .range))))) ∧
    (s.net.nts.rotation = none → exec .ntsRotationSwitch s = .next (s.after s)) ∧
    (∀ x, s.net.nts.rotation = some x → x.1 < 8 → ∀ u, u = s.rotationSwitch →
      exec .ntsRotationSwitch s = .next (s.after u) ∧ u.net.nts.rotation = none ∧ u.bit F.NTS_STAT_ROT_BUSY = false ∧
      (s.safe = true → (∀ k, k < 8 → u.keyOf k = s.keyOf k ∧ u.keyState k = s.keyState k) ∧
        u.val A.NTS_KEY_RESULT = 1 + 2 * 256 ∧ u.val A.NTS_GEN_NEXT = s.val A.NTS_GEN_NEXT) ∧
      (s.safe = false → u.keyOf x.1 = some x.2.1 ∧ u.keyState x.1 = 1 ∧ u.keyGen x.1 = s.val A.NTS_GEN_NEXT ∧
        u.val A.NTS_GEN_NEXT = (s.val A.NTS_GEN_NEXT + 1) % 2 ^ 32 ∧
        u.val A.NTS_ROTATIONS = (s.val A.NTS_ROTATIONS + 1) % 2 ^ 32 ∧ u.val (A.NTS_Kk_SECS x.1) = 0 ∧
        u.val A.NTS_KEY_RESULT = 1 ∧ Ev.NTS_ROTATED ∈ u.raised ∧
        (∀ k, k < 8 → k ≠ x.1 → u.keyOf k = s.keyOf k ∧ u.keyGen k = s.keyGen k ∧
          u.keyState k = (if s.activeSlot = some k then 2 else s.keyState k)))) ∧
    (∀ due : Bool, due = (s.bit F.NTS_CTL_AUTO_ROT &&
        (List.range 8).any (fun k => s.activeSlot == some k && decide (s.val A.NTS_ROT_PERIOD ≤ s.val (A.NTS_Kk_SECS k)))) →
      ∀ later : Bool, later = decide (s.net.nts.triedAt + 60 ≤ s.pwr.tclk / 2 ^ 48) → ∀ u, u = s.rotate true →
      exec .ntsAutoRotate s =
        .next (s.after (if due && (s.net.nts.lastRefusal.isNone || later) then u else s)) ∧
      exec .ntsRotateRetry s = .next (s.after (if due && s.net.nts.lastRefusal.isSome && later then u else s)) ∧
      (∀ j, j < 8 → u.keyOf j = s.keyOf j ∧ u.keyState j = s.keyState j) ∧
      (s.rotationBar = none → u.bit F.NTS_STAT_ROT_BUSY = true ∧ u.net.nts.rotation.isSome = true ∧
        u.net.nts.rotation.all (fun x => decide (x.1 < 8 ∧ s.keyState x.1 = 0) && x.2.2) = true) ∧
      (∀ r, s.rotationBar = some r → u.net.nts.lastRefusal = some r ∧ u.net.nts.triedAt = s.pwr.tclk / 2 ^ 48 ∧
        u.val A.NTS_KEY_RESULT = 1 + r * 256 ∧ u.bit F.NTS_STAT_ROT_REFUSED_SEEN = true ∧
        (s.net.nts.lastRefusal = some r → u.raised = s.raised) ∧
        (s.net.nts.lastRefusal ≠ some r → Ev.NTS_ROT_REFUSED ∈ u.raised))) ∧
    (∀ k, k < 8 → (s.keyState k = 2 → s.val (A.NTS_Kk_SECS k) = 0 → ∀ u, u = s.graceEnd k →
        exec (.ntsGraceEnd k) s = .next (s.after u) ∧
        u.keyOf k = none ∧ u.keyState k = 0 ∧ u.keyGen k = 0 ∧ Ev.NTS_GRACE_END ∈ u.raised ∧
        (∀ j, j < 8 → j ≠ k → u.keyOf j = s.keyOf j ∧ u.keyState j = s.keyState j ∧ u.keyGen j = s.keyGen j)) ∧
      (s.keyState k ≠ 2 ∨ s.val (A.NTS_Kk_SECS k) ≠ 0 → exec (.ntsGraceEnd k) s = .next (s.after s)))

/-- With PIPE up, for a port that may write MINT_CMD: COUNT outside 1 to 8, AEAD other than 15, or a mint of the port
still running discards the write; with no ACTIVE slot, in Safe Hold or with the unit away the mint ends NO_KEY, SAFE
or VOID with the input words cleared; otherwise it is BUSY under the ACTIVE slot (in the tick of a rotation's switch,
the one before it) and its generation, with the C2S and S2C of the input words. MINT_DONE with the bound key in place
gives COUNT cookies of 27 words, clears the input words and adds COUNT to CNT_MINTED; in Safe Hold, or with the key
gone, it ends SAFE or VOID without cookies. The other port's mint is untouched. A cookie made under an ACTIVE or GRACE
slot's key and generation opens to the C2S and S2C sealed in it; a cookie of another generation or of an EMPTY slot
does not open. From 12_ntp_and_nts.md: The cookie, R435, R436, R446, R447, R454. -/
def Obligations.CookiesAreMintedAndOpen : Prop :=
  (∀ (s : State) (p q : HostPort), s.up .pipe = true → q ≠ p →
    (∀ (v : Word), s.mayWrite p A.NTS_MINT_CMD = true → ∀ n, n = bitsAt v.toNat 0 4 →
      (n = 0 ∨ 8 < n ∨ bitsAt v.toNat 16 16 ≠ 15 ∨ (s.mint p).job.isSome = true →
        exec (.mintCmd p v) s = .next (s.after (s.turnedAway p A.NTS_MINT_CMD v .range))) ∧
      (1 ≤ n → n ≤ 8 → bitsAt v.toNat 16 16 = 15 → (s.mint p).job = none → ∀ u, u = (s.mintCmd p v.toNat).state →
        exec (.mintCmd p v) s = .next (s.after (u.written p A.NTS_MINT_CMD v)) ∧
        u.mint q = s.mint q ∧ u.regs = s.regs ∧ ∀ a : Option Nat, a = (match s.net.nts.switched with
          | some (t, old) => if t = s.instant then old else s.activeSlot
          | none => s.activeSlot) →
        (a = none → u.mint p = { state := 3 }) ∧
        (a.isSome = true → s.safe = true → u.mint p = { state := 4 }) ∧
        (a.isSome = true → s.safe = false → s.ntsAway = true → u.mint p = { state := 5 }) ∧
        (∀ k, a = some k → s.safe = false → s.ntsAway = false →
          u.mint p = { s.mint p with out := [], state := 1, slot := k, job := some ⟨k, s.keyGen k, n,
            (s.mint p).c2s.toList.flatMap bytesOfWord, (s.mint p).s2c.toList.flatMap bytesOfWord⟩ }))) ∧
    ((s.mint p).job = none → exec (.mintDone p) s = .next (s.after s)) ∧
    (∀ j, (s.mint p).job = some j → ∀ u, u = s.mintDone p → exec (.mintDone p) s = .next (s.after u) ∧
      u.mint q = s.mint q ∧ (u.mint p).job = none ∧
      (u.mint p).c2s = Vector.replicate 8 0 ∧ (u.mint p).s2c = Vector.replicate 8 0 ∧
      (s.safe = true → u.mint p = { state := 4 } ∧ u.regs = s.regs) ∧
      (s.safe = false → s.keyOf j.slot = none ∨ s.keyGen j.slot ≠ j.gen → u.mint p = { state := 5 } ∧ u.regs = s.regs) ∧
      (s.safe = false → ∀ key, s.keyOf j.slot = some key → s.keyGen j.slot = j.gen →
        (u.mint p).state = 2 ∧ (u.mint p).slot = j.slot ∧
        (j.c2s.length = 32 → j.s2c.length = 32 → (u.mint p).out.length = 27 * j.count) ∧
        (u.mint p).out = wordsOfBytes (s.mintCookies key j.slot j.gen j.c2s j.s2c j.count).1.flatten ∧
        u.val A.NTS_CNT_MINTED = (s.val A.NTS_CNT_MINTED + j.count) % 2 ^ 32 ∧
        u.net.nts.nonces = s.net.nts.nonces + j.count ∧ s.wordsKept u [A.NTS_CNT_MINTED]))) ∧
  (∀ (s : State) (k gen key : Nat) (nonce c2s s2c : List Byte), k < 8 → gen < 2 ^ 32 → nonce.length = 16 →
    c2s.length = 32 → s2c.length = 32 → s.keyOf k = some key →
    (s.keyState k = 1 ∨ s.keyState k = 2 → s.keyGen k = gen →
      s.openCookie (makeCookie key k gen nonce c2s s2c) = some (c2s, s2c)) ∧
    (s.keyGen k ≠ gen ∨ (s.keyState k ≠ 1 ∧ s.keyState k ≠ 2) →
      s.openCookie (makeCookie key k gen nonce c2s s2c) = none))

/-- With PIPE up, for a port that may write ADM words: ADM_FLUSH with 1 empties the flow table and fills the overflow
bucket, with another value leaves both. ADM_LOOKUP with GO answers in LOOKUP_RESULT, LOOKUP_TOKENS and LOOKUP_RATE
whether the address has an entry, which override matches and what its rate is, and changes no flow. OVRo_CTL with LEN
0 or beyond the family's width is discarded; otherwise its six held words and the control word apply together.
ADM_HASH_KEY_DRAW with no key and a healthy random source draws one and empties the table; otherwise it changes
nothing. From 13_flow_admission.md: The flow table, R461, R464, R474, R475. -/
def Obligations.AdmissionIsCommanded : Prop :=
  ∀ (s : State), s.up .pipe = true →
    (∀ (p : HostPort) (v : Word), s.mayWrite p A.ADM_FLUSH = true →
      (v.toNat = 1 → ∀ u, u = s.admFlush → exec (.admFlush p v) s = .next (s.after (u.written p A.ADM_FLUSH v)) ∧
        u.net.adm = { s.net.adm with flows := [], ovfTokens := s.val A.ADM_OVF_DEPTH * 2 ^ 24 } ∧
        u = { s with net := u.net } ∧ u.net = { s.net with adm := u.net.adm }) ∧
      (v.toNat ≠ 1 → exec (.admFlush p v) s = .next (s.after (s.written p A.ADM_FLUSH v)))) ∧
    (∀ (p : HostPort) (v : Word), s.mayWrite p A.ADM_LOOKUP_CTL = true →
      (bitOf v.toNat 0 = false → exec (.admLookup p v) s = .next (s.after
        ((s.setVal A.ADM_LOOKUP_CTL (bitsAt v.toNat 1 1 * 2)).written p A.ADM_LOOKUP_CTL v))) ∧
      (bitOf v.toNat 0 = true → ∀ six : Bool, six = bitOf v.toNat 1 →
        ∀ u, u = (s.setVal A.ADM_LOOKUP_CTL (bitsAt v.toNat 1 1 * 2)).admLookup six →
        ∀ a : Nat, a = (if six then s.multi (A.ADM_LOOKUP_ADDR 0) 4 else s.val (A.ADM_LOOKUP_ADDR 0)) →
        ∀ f : Option Flow, f = s.net.adm.flows.find? (fun f => f.v6 == six && f.key == s.flowKey six a) →
        exec (.admLookup p v) s = .next (s.after (u.written p A.ADM_LOOKUP_CTL v)) ∧
        u.net = s.net ∧ u = { s with regs := u.regs } ∧
        s.wordsKept u [A.ADM_LOOKUP_CTL, A.ADM_LOOKUP_RESULT, A.ADM_LOOKUP_TOKENS, A.ADM_LOOKUP_RATE] ∧
        bitOf (u.val A.ADM_LOOKUP_RESULT) 0 = true ∧ bitOf (u.val A.ADM_LOOKUP_RESULT) 1 = f.isSome ∧
        (∀ o, s.ovrFor six a = some o → o < 16 → bitsAt (u.val A.ADM_LOOKUP_RESULT) 4 4 = o ∧
          bitOf (u.val A.ADM_LOOKUP_RESULT) 3 = true) ∧
        (s.ovrFor six a = none → bitsAt (u.val A.ADM_LOOKUP_RESULT) 4 4 = 15 ∧
          bitOf (u.val A.ADM_LOOKUP_RESULT) 3 = false) ∧
        (f = none → u.val A.ADM_LOOKUP_TOKENS = 0 ∧ u.val A.ADM_LOOKUP_RATE = 0) ∧
        (∀ g, f = some g → u.val A.ADM_LOOKUP_RATE = s.effRate g (s.ovrFor six a) s.tally % 2 ^ 32 ∧
          u.val A.ADM_LOOKUP_TOKENS = (s.refillFlow g (s.ovrFor six a) s.tally).tokens / 65536 % 2 ^ 32))) ∧
    (∀ (p : HostPort) (o : Nat) (v : Word), o < 16 → s.mayWrite p (A.ADM_OVRo_CTL o) = true →
      ∀ len, len = bitsAt v.toNat 8 8 → ∀ u, u = (s.ovrWrite p o v.toNat).state →
      (∀ i, i < 6 → u.heldWord p (A.ADM_OVRo_ADDR o i) = none) ∧
      (len = 0 ∨ (if bitOf v.toNat 1 then 128 else 32) < len → u.regs = s.regs ∧
        exec (.ovrCtlWrite p o v) s = .next (s.after (u.turnedAway p (A.ADM_OVRo_CTL o) v .range))) ∧
      (1 ≤ len → len ≤ (if bitOf v.toNat 1 then 128 else 32) →
        exec (.ovrCtlWrite p o v) s = .next (s.after (u.written p (A.ADM_OVRo_CTL o) v)) ∧
        u.val (A.ADM_OVRo_CTL o) = v.toNat % 16 + len * 256 ∧
        (∀ i, i < 6 → u.rd (A.ADM_OVRo_ADDR o i) =
          (s.heldWord p (A.ADM_OVRo_ADDR o i)).getD (s.rd (A.ADM_OVRo_ADDR o i))) ∧
        s.wordsKept u (A.ADM_OVRo_CTL o :: (List.range 6).map (fun i => A.ADM_OVRo_ADDR o i)))) ∧
    (s.net.adm.key = none → s.rngOk = true → ∀ u, u = s.drawHashKey →
      exec .admHashKeyDraw s = .next (s.after u) ∧ u.net.adm.key = some (s.random).1 ∧ u.net.adm.flows = [] ∧
      u.grd.draws = s.grd.draws + 1 ∧ u.regs = s.regs) ∧
    (s.net.adm.key.isSome = true ∨ s.rngOk = false → exec .admHashKeyDraw s = .next (s.after s))

/-- With ARRAY up, for tile t. Its EN write enables it (STARTING, coefficients gone) or disables it: its running jobs
end, and it is off, or DRAINING while a row write runs. TILE_STARTED ends STARTING once nothing is wanted.
TILE_DRAIN_DONE ends a drain. ROW_WRITE_DONE stores the row with VALID = good, or starts a reset tile. TILE_RECAL_DONE
with 256 accepted converters stores the coefficients, CAL_TEMP and CAL_AGE = 0; a first refusal asks for a retry and a
second fails the tile. TILE_RECAL_RETRY, _DUE and _WAIT_EXPIRED, and TILE_CHECK_DUE, set what is wanted, or change
nothing when their condition fails. TILE_CHECK_DONE counts a pass or a fail; a second fail in a row fails the tile.
Other tiles are untouched by each. A conversion held to R487 is the code given where that lies within its figures, and
within them wherever a code is. From 14_array_tiles.md: Tile states, R487, R492, R496, R498, R500, R501, R503, R505,
R508, R511, R512. -/
def Obligations.TilesStartRecalibrateAndCheck : Prop :=
  ∀ (s : State) (t : Nat), s.up .array = true → isTile t = true →
    (∀ (p : HostPort) (v : Word), s.mayWrite p (tileBase t) = true → ∀ on, on = bitOf v.toNat 0 →
      ∀ u, u = s.tileEnWrite t on → exec (.tileEnWrite p t v) s = .next (s.after (u.written p (tileBase t) v)) ∧
        u.bit (tileEn t) = on ∧
        (s.bit (tileEn t) = on ∨ (s.tile t).draining = true → u.arr = s.arr ∧ s.wordsKept u [tileBase t]) ∧
        (s.bit (tileEn t) = false → on = true → (s.tile t).draining = false → (u.tile t).starting = true ∧
          (u.tile t).coefs = [] ∧ (u.tile t).failed = false ∧
          (∀ q, q < 20 → isTile q = true → q ≠ t → u.tile q = s.tile q)) ∧
        (s.bit (tileEn t) = true → on = false → (s.tile t).draining = false →
          u.arr.running = s.arr.running.filter (fun j => !j.tiles.contains t) ∧ u.loadOn t = none ∧
          ((s.tile t).op = .idle ∨ (s.tile t).op = .recal ∨ (s.tile t).op = .check → s.arr.load = none →
            s.arr.running = [] → u.tile t = (s.tile t).off))) ∧
    (∀ ready : Bool, ready = (decide (s.tileState t = 1) && (s.tile t).starting && decide ((s.tile t).op = .idle) &&
        !(s.tile t).wantRecal && !(s.tile t).retryDue && !((s.tile t).wantCheck && (s.tile t).img.ok)) →
      ∀ u, u = s.tileStarted t → exec (.tileStarted t) s = .next (s.after u) ∧ (ready = false → u = s) ∧
        (ready = true → (u.tile t).starting = false ∧ u.regs = s.regs ∧
          (s.loadOn t = none → (s.tile t).restart = false → (s.tile t).resetting = false → u.tileState t = 2) ∧
          (∀ q, q < 20 → isTile q = true → q ≠ t → u.tile q = s.tile q))) ∧
    ((s.tile t).draining = true → (s.tile t).op = .idle → ∀ u, u = s.tileDrainDone t →
      exec (.tileDrainDone t) s = .next (s.after u) ∧ (u.tile t).draining = false ∧ u.regs = s.regs ∧
      (s.bit (tileEn t) = false → u.tile t = (s.tile t).off) ∧
      (s.bit (tileEn t) = true → s.dom .array = 2 → (u.tile t).starting = true)) ∧
    ((s.tile t).draining = false ∨ (s.tile t).op ≠ .idle → exec (.tileDrainDone t) s = .next (s.after s)) ∧
    (∀ (stuck : Nat) (good : Bool), ∀ u, u = s.rowDone t stuck good →
      exec (.rowWriteDone t stuck good) s = .next (s.after u) ∧
      (∀ q, q < 20 → isTile q = true → q ≠ t → u.tile q = s.tile q) ∧
      (∀ x : Option (Nat × List Byte), x = (match (s.tile t).op with
          | .row r bytes => some (r, bytes)
          | _ => none) → (x = none → u = s) ∧
        (∀ y, x = some y → (s.tile t).resetting = true → (s.tile t).draining = false → (u.tile t).starting = true) ∧
        (∀ y, x = some y → (s.tile t).resetting = false →
          (s.loadOn t).all (fun l => l.rows.tail.all (fun z => z.1 != y.1)) = true →
          lookupKey y.1 (u.tile t).img.rows =
            some { bytes := y.2, valid := good, stuck := if analogTile t then stuck else 0 } ∧
          (analogTile t = true → (u.tile t).stuck = satAdd 65535 (s.tile t).stuck stuck ∨ stuck = 0)))) ∧
    (∀ sums : List (List Nat), ∀ u, u = s.recalDone t sums → exec (.tileRecalDone t sums) s = .next (s.after u) ∧
      ((s.tile t).op ≠ .recal ∨ analogTile t = false → u = s) ∧
      ((s.tile t).op = .recal → analogTile t = true →
        (∀ q, q < 20 → isTile q = true → q ≠ t → u.tile q = s.tile q) ∧
        (sums.length = 256 → (sums.filterMap recalOne).length = 256 → (u.tile t).coefs = sums.filterMap recalOne ∧
          (u.tile t).refusedOnce = false ∧ u.val (A.ARR_Aa_CAL_AGE t) = 0 ∧
          u.ival (A.ARR_Aa_CAL_TEMP t) = s.dieTemp) ∧
        (sums.length ≠ 256 ∨ (sums.filterMap recalOne).length ≠ 256 → (u.tile t).coefs = (s.tile t).coefs ∧
          Ev.TILE_RECAL_FAIL ∈ u.raised ∧ u.bit (tileFlag t 10) = true ∧
          ((s.tile t).refusedOnce = false → (u.tile t).refusedOnce = true ∧ (u.tile t).retryDue = true ∧
            ((u.tile t).failed = true → (s.tile t).failed = true)) ∧
          ((s.tile t).refusedOnce = true → (u.tile t).failed = true ∧ Ev.TILE_FAIL ∈ u.raised ∧
            (u.tile t).op = .idle)))) ∧
    ((s.tile t).retryDue = true → ∀ u, u = s.recalRetry t → exec (.tileRecalRetry t) s = .next (s.after u) ∧
      (u.tile t).retryDue = false ∧ (u.tile t).wantRecal = true ∧ u.regs = s.regs) ∧
    ((s.tile t).retryDue = false → exec (.tileRecalRetry t) s = .next (s.after s)) ∧
    (∀ runs : Bool, runs = (analogTile t && s.tileState t != 0 && decide ((s.tile t).coefs ≠ [])) →
      ∀ u, u = s.recalSecond t → exec (.tileRecalDue t) s = .next (s.after u) ∧ (runs = false → u = s) ∧
        (runs = true → u.val (A.ARR_Aa_CAL_AGE t) = satAdd (2 ^ 32 - 1) (s.val (A.ARR_Aa_CAL_AGE t)) 1 ∧
          s.wordsKept u [A.ARR_Aa_CAL_AGE t] ∧ (u.tile t).coefs = (s.tile t).coefs ∧
          (s.val A.ARR_RECAL_PERIOD ≤ u.val (A.ARR_Aa_CAL_AGE t) → s.bit F.ARR_CTL_RECAL_AUTO = true →
            (s.tile t).retryDue = false → (s.tile t).failed = false → (u.tile t).wantRecal = true) ∧
          (s.bit F.ARR_CTL_RECAL_AUTO = false → (u.tile t).wantRecal = (s.tile t).wantRecal))) ∧
    (s.deferred t = true → exec (.tileRecalWaitExpired t) s = .next (s.after (s.setTile t { s.tile t with hold := true }))) ∧
    (s.deferred t = false → exec (.tileRecalWaitExpired t) s = .next (s.after s)) ∧
    (∀ due : Bool, due = (s.bit F.ARR_CTL_TV_AUTO && s.tileServes t && (s.tile t).img.ok) →
      ∀ u, u = s.checkDue t → exec (.tileCheckDue t) s = .next (s.after u) ∧ (due = false → u = s) ∧
        (due = true → (u.tile t).wantCheck = true ∧ u.regs = s.regs)) ∧
    (∀ (codes : List Nat) (ecc : List (Nat × Bool)), ∀ u, u = s.checkDone t codes ecc →
      exec (.tileCheckDone t codes ecc) s = .next (s.after u) ∧ ((s.tile t).op ≠ .check → u = s) ∧
      ((s.tile t).op = .check → ∀ w, w = s.eccEvents t ecc → ∀ r, r = (w.checkRolls t (w.tile t).img.vectors codes).2 →
        (r = true → u.get (tilePass t) = (s.get (tilePass t) + 1) % 2 ^ 16 ∧ (u.tile t).checkFailed = false ∧
          ((u.tile t).failed = true → (s.tile t).failed = true)) ∧
        (r = false → u.get (tileFailCount t) = (s.get (tileFailCount t) + 1) % 2 ^ 16 ∧ Ev.TILE_TV_FAIL ∈ u.raised ∧
          ((s.tile t).checkFailed = true → (u.tile t).failed = true ∧ Ev.TILE_FAIL ∈ u.raised) ∧
          ((s.tile t).checkFailed = false → (u.tile t).checkFailed = true ∧ ((u.tile t).failed = true → (s.tile t).failed = true))))) ∧
    (∀ (k : Nat × Nat) (rows : List TileRow) (c q : Nat), q < 256 → ∀ fits : Nat → Prop,
      (∀ r, fits r ↔ |10 * (((r : Int) - (k.1 : Int)) * (k.2 : Int)) - 40960 * ((rows.map (fun x => x.level c)).sum : Nat)| ≤
        (convSlack rows : Int)) →
      heldCode k rows c q ≤ 255 ∧ (fits q → heldCode k rows c q = q) ∧
      (∀ r, r ≤ 255 → fits r → fits (heldCode k rows c q)))

/-- With ARRAY up. Mm_CTL that enables a model that R520 bars is discarded; of an enabled model, NSTAGES and BIAS keep
their values; clearing EN ends its queued jobs. ARR.CMD asks a tile for a recalibration or a check, resets it, or is
discarded where the tile cannot. LOAD_CTL GO outside Maintain and Calibrate, during a load, or for a tile that is off
records the reason 1, 2 or 3 and LOAD_ABORT; otherwise it begins a load: IMG_OK is cleared, ROWS_DONE is 0 and queued
jobs of its models end. ABORT ends a load with reason 9. LOAD_DATA without a load changes nothing; with one its four
bytes go to the header, the weights or the test vectors; a bad header, a weight beyond 15 on an analog tile, a missing
row buffer and a wrong CRC abort with reasons 4, 5, 6 and 8; the right CRC with every row written ends DONE with
IMG_OK and LOAD_DONE. A layer image's row write stores its row. From 15_array_jobs_and_models.md: Loading, R510, R511,
R520, R521, R525, R526, R527, R528, R529. -/
def Obligations.ImagesAndModelsAreLoaded : Prop :=
  ∀ (s : State), s.up .array = true →
    (∀ (p : HostPort) (m : Nat) (v : Word), m < 4 → s.mayWrite p (A.ARR_Mm_CTL m) = true →
      ∀ was, was = s.bit (F.ARR_Mm_CTL_EN m) →
      ∀ bad : Bool, bad = (bitOf v.toNat 0 && !was && !s.modelFits m (bitsAt v.toNat 1 2 + 1) (bitOf v.toNat 3)) →
      ∀ kept : Bool, kept = (was && !(bitsAt v.toNat 1 2 == s.get (F.ARR_Mm_CTL_NSTAGES m) &&
        bitOf v.toNat 3 == s.bit (F.ARR_Mm_CTL_BIAS m))) →
      (bad = true → exec (.modelCtlWrite p m v) s = .next (s.after (s.turnedAway p (A.ARR_Mm_CTL m) v .range))) ∧
      (bad = false → ∀ u, u = (s.modelCtl m v.toNat).state →
        exec (.modelCtlWrite p m v) s = .next (s.after (if kept then u.turnedAway p (A.ARR_Mm_CTL m) v .range
          else u.written p (A.ARR_Mm_CTL m) v)) ∧
        u.bit (F.ARR_Mm_CTL_EN m) = bitOf v.toNat 0 ∧ u.arr.running = s.arr.running ∧ u.arr.tiles = s.arr.tiles ∧
        u.get (F.ARR_Mm_CTL_NSTAGES m) = (if was then s.get (F.ARR_Mm_CTL_NSTAGES m) else bitsAt v.toNat 1 2) ∧
        u.bit (F.ARR_Mm_CTL_BIAS m) = (if was then s.bit (F.ARR_Mm_CTL_BIAS m) else bitOf v.toNat 3) ∧
        (was = true → bitOf v.toNat 0 = false → u.arr.queue = s.arr.queue.filter (fun j => j.model != m)) ∧
        (was = false ∨ bitOf v.toNat 0 = true → u.arr = s.arr ∧ s.wordsKept u [A.ARR_Mm_CTL m]))) ∧
    (∀ (p : HostPort) (v : Word), s.mayWrite p A.ARR_CMD = true → ∀ t, t = bitsAt v.toNat 0 5 →
      ∀ i : Instr, i = .arrRecal p v ∨ i = .arrCheck p v ∨ i = .tileReset p v →
      ∀ idle, idle = (s.tileState t == 0 || s.tileState t == 7) → ∀ op, op = bitsAt v.toNat 8 4 →
      (isTile t = false ∨ op = 0 ∨ 3 < op → exec i s = .next (s.after (s.turnedAway p A.ARR_CMD v .range))) ∧
      (isTile t = true → op = 1 →
        (analogTile t = false ∨ idle = true → exec i s = .next (s.after (s.turnedAway p A.ARR_CMD v .range))) ∧
        (analogTile t = true → idle = false → ∀ u, u = (s.setTile t { s.tile t with wantRecal := true }).kick t →
          exec i s = .next (s.after (u.written p A.ARR_CMD v)) ∧ (u.tile t).wantRecal = true)) ∧
      (isTile t = true → op = 2 →
        (idle = true → exec i s = .next (s.after (s.turnedAway p A.ARR_CMD v .range))) ∧
        (idle = false → ∀ u, u = (s.setTile t { s.tile t with wantCheck := (s.tile t).img.ok }).kick t →
          exec i s = .next (s.after (u.written p A.ARR_CMD v)) ∧
          (u.tile t).wantCheck = (s.tile t).img.ok)) ∧
      (isTile t = true → op = 3 → ∀ u, u = s.tileReset t →
        exec i s = .next (s.after (u.written p A.ARR_CMD v)) ∧
        (s.dom .array = 2 → s.bit (tileEn t) = true → (s.tile t).draining = false → u.arr.running =
            s.arr.running.filter (fun j => !j.tiles.contains t) ∧ u.loadOn t = none ∧
          (u.tile t).coefs = [] ∧ ((u.tile t).starting = true ∨ (u.tile t).resetting = true)) ∧
        (s.bit (tileEn t) = false → (s.tile t).draining = false → u = s))) ∧
    (∀ (p : HostPort) (v : Word), s.mayWrite p A.ARR_LOAD_CTL = true → ∀ t, t = bitsAt v.toNat 0 5 →
      ∀ op, op = bitsAt v.toNat 8 2 → ∀ i : Instr, i = .loadGo p v ∨ i = .loadAbort p v →
      (loadTarget t = false ∨ op = 0 ∨ op = 3 →
        exec i s = .next (s.after (s.turnedAway p A.ARR_LOAD_CTL v .range))) ∧
      (loadTarget t = true → op = 1 → ∀ why : Nat,
        why = (if s.mode.now ≠ .maintain ∧ s.mode.now ≠ .calibrate then 1 else if s.arr.load.isSome then 2
          else if isTile t = true ∧ (s.bit (tileEn t) = false ∨ (s.tile t).draining = true ∨ (s.tile t).resetting = true)
          then 3 else 0) → ∀ u, u = s.loadGo t →
        exec i s = .next (s.after (u.written p A.ARR_LOAD_CTL v)) ∧
        u.get F.ARR_LOAD_STAT_REASON = why ∧ u.arr.tiles.size = 16 ∧
        (why ≠ 0 → u.get F.ARR_LOAD_STAT_STATE = 3 ∧ Ev.LOAD_ABORT ∈ u.raised ∧ u.arr = s.arr ∧
          u.bit F.ARR_JOB_STAT_LOAD_ABORT_SEEN = true) ∧
        (why = 0 → u.get F.ARR_LOAD_STAT_STATE = 1 ∧ u.arr.load = some { target := t } ∧ (u.image t).ok = false ∧
          u.get F.ARR_LOAD_STAT_ROWS_DONE = 0 ∧ u.arr.queue = s.arr.queue.filter (fun j => !s.modelUses j.model t) ∧
          (u.image t).rows = (s.image t).rows)) ∧
      (loadTarget t = true → op = 2 →
        (s.arr.load = none → exec i s = .next (s.after (s.written p A.ARR_LOAD_CTL v))) ∧
        (s.arr.load.isSome = true → ∀ u, u = s.abortLoad 9 →
          exec i s = .next (s.after (u.written p A.ARR_LOAD_CTL v)) ∧ u.arr.load = none ∧
          u.get F.ARR_LOAD_STAT_STATE = 3 ∧ u.get F.ARR_LOAD_STAT_REASON = 9 ∧ Ev.LOAD_ABORT ∈ u.raised))) ∧
    (∀ (p : HostPort) (v : Word), s.mayWrite p A.ARRW_LOAD_DATA = true →
      (s.arr.load = none → exec (.loadDataWrite p v) s = .next (s.after (s.written p A.ARRW_LOAD_DATA v))) ∧
      (∀ l, s.arr.load = some l → ∀ u, u = s.loadData v →
        exec (.loadDataWrite p v) s = .next (s.after (u.written p A.ARRW_LOAD_DATA v)) ∧
        (∀ wEnd, wEnd = 64 + rowBytes l.target * imageRows l.target (s.image l.target).mask →
          (l.got < 60 → u.arr.load = some { l with
              got := l.got + 4, head := l.head ++ bytesOfWord v, crc := (bytesOfWord v).foldl crc32Byte l.crc } ∧
            u = { s with arr := u.arr }) ∧
          (l.got = 60 → headerOk l.target (l.head ++ bytesOfWord v) = false → u.arr.load = none ∧
            u.get F.ARR_LOAD_STAT_REASON = 4 ∧ Ev.LOAD_ABORT ∈ u.raised) ∧
          (l.got = 60 → headerOk l.target (l.head ++ bytesOfWord v) = true → u.arr.load.isSome = true ∧
            (loadTarget l.target = true → (u.image l.target).mask = natAt (l.head ++ bytesOfWord v) 8 1) ∧
            (u.image l.target).rows = (s.image l.target).rows) ∧
          (64 ≤ l.got → l.got < wEnd →
            (l.part = [] → l.space = 0 → u.arr.load = none ∧ u.get F.ARR_LOAD_STAT_REASON = 6) ∧
            (l.part ≠ [] ∨ l.space ≠ 0 →
              ∀ beyond, beyond = (signedBytes (bytesOfWord v)).any (fun w => decide (w < -15) || decide (15 < w)) →
              (l.target < 12 → beyond = true → u.arr.load = none ∧ u.get F.ARR_LOAD_STAT_REASON = 5) ∧
              (12 ≤ l.target ∨ beyond = false → (l.part ++ bytesOfWord v).length ≠ rowBytes l.target →
                u.arr.load.map ImageLoad.part = some (l.part ++ bytesOfWord v) ∧ u.arr.tiles = s.arr.tiles) ∧
              (12 ≤ l.target ∨ beyond = false → (l.part ++ bytesOfWord v).length = rowBytes l.target →
                u.arr.load.map ImageLoad.rows = some (l.rows ++
                  [(rowNumber l.target (s.image l.target).mask l.rowsGot, l.part ++ bytesOfWord v)])))) ∧
          (64 ≤ l.got → wEnd ≤ l.got → l.got < wEnd + vectorBytes l.target →
            u.arr.load.map ImageLoad.tail = some (l.tail ++ bytesOfWord v) ∧ u.arr.tiles = s.arr.tiles) ∧
          (64 ≤ l.got → l.got = wEnd + vectorBytes l.target →
            (beNat (bytesOfWord v) ≠ l.crc ^^^ 0xFFFFFFFF → u.arr.load = none ∧ u.get F.ARR_LOAD_STAT_REASON = 8 ∧
              Ev.LOAD_ABORT ∈ u.raised) ∧
            (beNat (bytesOfWord v) = l.crc ^^^ 0xFFFFFFFF → l.rows ≠ [] → u.arr.load.map ImageLoad.crcOk = some true) ∧
            (beNat (bytesOfWord v) = l.crc ^^^ 0xFFFFFFFF → l.rows = [] → l.writing = false → 28 ≤ l.target →
              l.target < 32 → u.arr.load = none ∧ u.get F.ARR_LOAD_STAT_STATE = 2 ∧ Ev.LOAD_DONE ∈ u.raised ∧
              (u.image l.target).ok = true))))) ∧
    (∀ (t stuck : Nat) (good : Bool), 28 ≤ t → t < 32 → ∀ u, u = s.layerRowDone t good →
      exec (.rowWriteDone t stuck good) s = .next (s.after u) ∧ u.arr.tiles = s.arr.tiles ∧
      (∀ l, s.arr.load = some l → l.target ≠ t ∨ l.writing = false ∨ l.rows = [] → u = s) ∧
      (s.arr.load = none → u = s) ∧
      (∀ l, s.arr.load = some l → l.target = t → l.writing = true → ∀ x, l.rows.head? = some x →
        l.rows.tail.all (fun z => z.1 != x.1) = true →
        lookupKey x.1 (u.image t).rows = some { bytes := x.2, valid := good } ∧
        (good = false → u.arr.load = none ∧ u.get F.ARR_LOAD_STAT_REASON = 7)))

/-- An offer (JOB_OFFER, INTEG_JOB_OFFER, ABUSE_BATCH_OFFER, USER_SUBMIT) with ARRAY up, room in its class, its model
enabled and no load on its model joins the queue behind the others; otherwise the job ends VOID and the queue stays as
it was. USER_SUBMIT other than 1, or with a USER job queued or running, is discarded. With ARRAY up, JOB_START takes
the next job whose tiles all allow it: with a failed tile it ends VOID; otherwise it runs on its tiles with its
results; with none ready nothing changes. JOB_DEADLINE ends the queued job k VOID with reason 7 and leaves the others
in order. JOB_COMPLETE of a running model removes its job, counts JOB_DONE, or JOB_VOID with LAST_VOID, and frees its
tiles; with none it changes nothing. From 15_array_jobs_and_models.md: Jobs, R161, R203, R469, R531, R532, R533, R534,
R535, R537. -/
def Obligations.JobsAreOfferedRunAndEnd : Prop :=
  ∀ (s : State),
    (s.up .time = true →
      (∀ n, s.predOpen = false ∨ s.predOk = false → exec (.jobOffer 0 n) s = .next (s.after s)) ∧
      (∀ n, s.predOpen = true → ∀ u, u = s.offerPred → exec (.jobOffer 0 n) s = .next (s.after u) ∧
        (s.predOk = true → s.dom .array = 2 → s.arr.queue.all (fun j => j.cls != 0) = true →
          s.bit (F.ARR_Mm_CTL_EN 0) = true → s.arr.load = none →
          u.arr.queue.dropLast = s.arr.queue ∧ u.arr.queue.getLast?.map ArrJob.cls = some 0 ∧
          u.arr.queue.getLast?.map ArrJob.inputs = some [s.predInputs] ∧ u.regs = s.regs)) ∧
      (∀ n, n < 12 → ∀ u, u = s.offerInteg n → exec (.integJobOffer n) s = .next (s.after u) ∧
        exec (.jobOffer 1 n) s = .next (s.after u) ∧
        (s.integDue n = false → u = s) ∧
        (s.integDue n = true → s.dom .array = 2 → (s.arr.queue.filter (fun j => j.cls == 1)).length < 12 →
          s.bit (F.ARR_Mm_CTL_EN 1) = true → s.arr.load = none →
          u.arr.queue.dropLast = s.arr.queue ∧ u.arr.queue.getLast?.map ArrJob.cls = some 1 ∧
          u.arr.queue.getLast?.map ArrJob.origin = some n ∧ u.regs = s.regs) ∧
        (s.integDue n = true → s.dom .array ≠ 2 ∨ 12 ≤ (s.arr.queue.filter (fun j => j.cls == 1)).length ∨
          s.bit (F.ARR_Mm_CTL_EN 1) = false → u.arr.queue = s.arr.queue ∧ (u.slot n).job = 3))) ∧
    (∀ u, u = s.offerAbuse → exec .abuseBatchOffer s = .next (s.after u) ∧ (∀ n, exec (.jobOffer 2 n) s = .next (s.after u)) ∧
      (s.up .pipe = false ∨ s.bit F.ADM_CTL_EN = false ∨ s.bit F.ADM_CTL_SCORE_EN = false → u = s) ∧
      (s.up .pipe = true → s.bit F.ADM_CTL_EN = true → s.bit F.ADM_CTL_SCORE_EN = true →
        u.arr.sweep = (s.arr.sweep + 32) % 16384 ∧ u.arr.running = s.arr.running ∧
        u.arr.queue.take s.arr.queue.length = s.arr.queue ∧ u.arr.queue.length ≤ s.arr.queue.length + 1 ∧
        (s.net.adm.flows = [] → u = { s with arr := { s.arr with sweep := (s.arr.sweep + 32) % 16384 } }))) ∧
    (∀ (p : HostPort) (v : Word), s.mayWrite p A.ARR_USER_SUBMIT = true →
      (v.toNat ≠ 1 ∨ within (s.get F.ARR_USER_STAT_STATE) 1 2 = true →
        exec (.userSubmit p v) s = .next (s.after (s.turnedAway p A.ARR_USER_SUBMIT v .range))) ∧
      (v.toNat = 1 → within (s.get F.ARR_USER_STAT_STATE) 1 2 = false → ∀ u, u = (s.userSubmit 1).state →
        exec (.userSubmit p v) s = .next (s.after (u.written p A.ARR_USER_SUBMIT v)) ∧
        u.get F.ARR_USER_STAT_TAG = s.get F.ARR_USER_DESC_TAG ∧ u.arr.running = s.arr.running ∧
        (s.dom .array = 2 → s.arr.queue.all (fun j => j.cls != 3) = true →
          s.bit (F.ARR_Mm_CTL_EN (s.get F.ARR_USER_DESC_MODEL)) = true → s.arr.load = none →
          u.get F.ARR_USER_STAT_STATE = 1 ∧ u.arr.queue.dropLast = s.arr.queue ∧
          u.arr.queue.getLast?.map ArrJob.cls = some 3 ∧ s.wordsKept u [A.ARR_USER_STAT]) ∧
        (s.dom .array = 2 → s.arr.queue.all (fun j => j.cls != 3) = true →
          s.bit (F.ARR_Mm_CTL_EN (s.get F.ARR_USER_DESC_MODEL)) = false →
          u.get F.ARR_USER_STAT_STATE = 3 ∧ u.get F.ARR_USER_STAT_REASON = 2 ∧ u.arr.queue = s.arr.queue))) ∧
    (s.up .array = true →
      (∀ cls n, 3 ≤ cls → exec (.jobOffer cls n) s = .next (s.after (s.userSubmit 1).state)) ∧
      (∀ (codes : List Nat) (ecc : List (Nat × Nat × Bool)) (reloads : List (Option Nat)), ∀ u, u = s.jobStart codes ecc reloads →
        exec (.jobStart codes ecc reloads) s = .next (s.after u) ∧
        (s.nextJob = none → u = s) ∧
        (∀ j, s.nextJob = some j → u.arr.queue = dropFirst j.cls s.arr.queue ∧
          ((s.modelTiles j.model).any (fun t => s.tileState t == 7) = true → u.arr.running = s.arr.running ∧
            u.val A.ARR_JOB_VOID = (s.val A.ARR_JOB_VOID + 1) % 2 ^ 32) ∧
          ((s.modelTiles j.model).all (fun t => s.tileState t != 7) = true →
            u.arr.running.dropLast = s.arr.running ∧ u.arr.running.length = s.arr.running.length + 1 ∧
            u.arr.running.getLast?.map ArrJob.cls = some j.cls ∧
            u.arr.running.getLast?.map (fun k => k.results.length) = some j.inputs.length ∧
            u.arr.running.getLast?.map ArrJob.tiles = some (s.modelTiles j.model) ∧
            (∀ t, t < 20 → t ∈ s.modelTiles j.model → (u.tile t).op = .roll)))) ∧
      (∀ k, (∀ j, s.arr.queue[k]? = some j → ∀ u, u = s.jobDeadline k → exec (.jobDeadline k) s = .next (s.after u) ∧
          u.arr.queue = s.arr.queue.eraseIdx k ∧ u.arr.running = s.arr.running ∧
          u.val A.ARR_JOB_VOID = (s.val A.ARR_JOB_VOID + 1) % 2 ^ 32 ∧
          (∃ name, name < 32 ∧ u.val A.ARR_LAST_VOID = (j.cls + j.model * 16 + 7 * 256 + name * 65536) % 2 ^ 32) ∧
          u.multi A.ARR_LAST_DESC_HI 2 = j.descriptor % 2 ^ 64) ∧
        (s.arr.queue.length ≤ k → exec (.jobDeadline k) s = .next (s.after s))) ∧
      (∀ m, (s.arr.running.find? (fun j => j.model == m) = none → exec (.jobComplete m) s = .next (s.after s)) ∧
        (∀ j, s.arr.running.find? (fun j => j.model == m) = some j → ∀ u, u = s.jobComplete m →
          exec (.jobComplete m) s = .next (s.after u) ∧
          u.arr.running = s.arr.running.filter (fun k => k.model != m) ∧ u.arr.queue = s.arr.queue ∧
          (∀ t, isTile t = true → t ∈ j.tiles → (u.tile t).op ≠ .roll) ∧
          (j.spoilt = none → u.val A.ARR_JOB_DONE = (s.val A.ARR_JOB_DONE + 1) % 2 ^ 32 ∧
            u.val A.ARR_JOB_VOID = s.val A.ARR_JOB_VOID) ∧
          (∀ x, j.spoilt = some x → x.1 ≠ 0 →
            u.val A.ARR_LAST_VOID = (j.cls + j.model * 16 + x.1 * 256 + x.2 * 65536) % 2 ^ 32 ∧
            u.val A.ARR_JOB_VOID = (s.val A.ARR_JOB_VOID + 1) % 2 ^ 32 ∧
            u.val A.ARR_JOB_DONE = s.val A.ARR_JOB_DONE))))
end

