-- ==== Sys2Proof/Laws/Regs.lean ====
section
/-! SUPPORT. Laws of the keyed lists and of the register file: what a read finds after a write, and that every write keeps
the canonical form. -/

namespace Sys2Proof.Machine

/-! ### Keyed lists -/

section keyed
variable {α : Type}

@[simp] theorem lookupKey_nil (k : Nat) : lookupKey k ([] : List (Nat × α)) = none := rfl

theorem lookupKey_insertKey (k j : Nat) (a : α) (l : List (Nat × α)) :
    lookupKey j (insertKey k a l) = if j = k then some a else lookupKey j l := by
  induction l with
  | nil =>
    by_cases h : j = k
    · simp [insertKey, lookupKey, h]
    · simp [insertKey, lookupKey, h, Ne.symm h]
  | cons x l ih =>
    obtain ⟨m, b⟩ := x
    by_cases h : j = k
    · subst h
      simp only [insertKey]
      split
      · simp [lookupKey]
      · split
        · simp [lookupKey]
        · next h2 => simp [lookupKey, ih, Ne.symm h2]
    · simp only [insertKey]
      split
      · simp [lookupKey, Ne.symm h]
      · split
        · next h2 => subst h2; simp [lookupKey, Ne.symm h]
        · simp [lookupKey, ih, h]

@[simp] theorem lookupKey_insertKey_self (k : Nat) (a : α) (l : List (Nat × α)) :
    lookupKey k (insertKey k a l) = some a := by simp [lookupKey_insertKey]

theorem lookupKey_insertKey_ne {k j : Nat} (h : j ≠ k) (a : α) (l : List (Nat × α)) :
    lookupKey j (insertKey k a l) = lookupKey j l := by simp [lookupKey_insertKey, h]

theorem lookupKey_eraseKey (k j : Nat) (l : List (Nat × α)) :
    lookupKey j (eraseKey k l) = if j = k then none else lookupKey j l := by
  induction l with
  | nil => simp [eraseKey]
  | cons x l ih =>
    obtain ⟨m, b⟩ := x
    simp only [eraseKey] at ih
    by_cases h : m = k
    · subst h
      by_cases h2 : j = m
      · subst h2; simpa [eraseKey] using ih
      · simp only [eraseKey, List.filter_cons, bne_self_eq_false, Bool.false_eq_true, if_false, ih, lookupKey,
          Ne.symm h2]
    · simp only [eraseKey, List.filter_cons, bne_iff_ne, ne_eq, h, not_false_eq_true, if_true, lookupKey, ih]
      by_cases h2 : m = j
      · subst h2; simp [h]
      · simp [h2]

/-- The keys of a list strictly rise. -/
def Rising (l : List (Nat × α)) : Prop := l.Pairwise (fun x y => x.1 < y.1)

theorem mem_insertKey {k : Nat} {a : α} {l : List (Nat × α)} {x : Nat × α} (h : x ∈ insertKey k a l) :
    x = (k, a) ∨ x ∈ l := by
  induction l with
  | nil => simpa [insertKey] using h
  | cons y l ih =>
    obtain ⟨m, b⟩ := y
    simp only [insertKey] at h
    split at h
    · simpa using h
    · split at h
      · rcases List.mem_cons.1 h with h | h <;> simp [h]
      · rcases List.mem_cons.1 h with h | h
        · simp [h]
        · rcases ih h with h | h <;> simp [h]

theorem rising_insertKey (k : Nat) (a : α) {l : List (Nat × α)} (h : Rising l) : Rising (insertKey k a l) := by
  induction l with
  | nil => simp [insertKey, Rising]
  | cons y l ih =>
    obtain ⟨m, b⟩ := y
    obtain ⟨hm, hl⟩ := List.pairwise_cons.1 h
    simp only [insertKey]
    split
    · next hk =>
      refine List.pairwise_cons.2 ⟨fun x hx => ?_, h⟩
      rcases List.mem_cons.1 hx with rfl | hx
      · exact hk
      · exact lt_trans hk (hm x hx)
    · split
      · next hk => subst hk; exact List.pairwise_cons.2 ⟨hm, hl⟩
      · refine List.pairwise_cons.2 ⟨fun x hx => ?_, ih hl⟩
        rcases mem_insertKey hx with rfl | hx
        · show m < k; omega
        · exact hm x hx

theorem rising_eraseKey (k : Nat) {l : List (Nat × α)} (h : Rising l) : Rising (eraseKey k l) :=
  List.Pairwise.filter _ h

end keyed

/-! ### The register file -/

theorem RegFile.get_set (r : RegFile) (a b : Nat) (v : Word) :
    (r.set a v).get b = if b = a then v else r.get b := by
  unfold RegFile.set RegFile.get
  split
  · next h => by_cases hb : b = a <;> simp [lookupKey_eraseKey, hb, h]
  · by_cases hb : b = a <;> simp [lookupKey_insertKey, hb]

@[simp] theorem RegFile.get_set_self (r : RegFile) (a : Nat) (v : Word) : (r.set a v).get a = v := by
  simp [RegFile.get_set]

theorem RegFile.get_set_ne (r : RegFile) {a b : Nat} (h : b ≠ a) (v : Word) : (r.set a v).get b = r.get b := by
  simp [RegFile.get_set, h]

/-- The canonical form in words: rising addresses, and no word at its reset value. -/
theorem RegFile.wf_iff (r : RegFile) : r.wf = true ↔ Rising r ∧ ∀ x ∈ r, x.2 ≠ resetWord x.1 := by
  induction r with
  | nil => simp [RegFile.wf, Rising]
  | cons x l ih =>
    cases l with
    | nil => simp [RegFile.wf, Rising]
    | cons y l =>
      rw [RegFile.wf, Bool.and_eq_true, Bool.and_eq_true, ih]
      constructor
      · rintro ⟨⟨h1, h2⟩, h3, h4⟩
        have hxy : x.1 < y.1 := of_decide_eq_true h2
        refine ⟨List.pairwise_cons.2 ⟨fun z hz => ?_, h3⟩, fun z hz => ?_⟩
        · rcases List.mem_cons.1 hz with rfl | hz
          · exact hxy
          · exact lt_trans hxy ((List.pairwise_cons.1 h3).1 z hz)
        · rcases List.mem_cons.1 hz with rfl | hz
          · exact bne_iff_ne.1 h1
          · exact h4 z hz
      · rintro ⟨h1, h2⟩
        obtain ⟨h3, h4⟩ := List.pairwise_cons.1 h1
        exact ⟨⟨bne_iff_ne.2 (h2 x (by simp)), decide_eq_true (h3 y (by simp))⟩, h4,
          fun z hz => h2 z (List.mem_cons_of_mem _ hz)⟩

/-- A register write keeps the canonical form. -/
theorem RegFile.wf_set {r : RegFile} (h : r.wf = true) (a : Nat) (v : Word) : (r.set a v).wf = true := by
  rw [RegFile.wf_iff] at h ⊢
  unfold RegFile.set
  split
  · exact ⟨rising_eraseKey a h.1, fun x hx => h.2 x (List.mem_of_mem_filter hx)⟩
  · next hv =>
    refine ⟨rising_insertKey a v h.1, fun x hx => ?_⟩
    rcases mem_insertKey hx with rfl | hx
    · exact hv
    · exact h.2 x hx

/-- Taking pages over from another register file keeps the canonical form. -/
theorem RegFile.wf_overlay {old new : RegFile} (ho : old.wf = true) (hn : new.wf = true) (pages : List Nat) :
    (RegFile.overlay pages old new).wf = true := by
  rw [RegFile.wf_iff] at ho hn ⊢
  unfold RegFile.overlay
  have key : ∀ (l r : RegFile), (∀ x ∈ l, x.2 ≠ resetWord x.1) → (Rising r ∧ ∀ x ∈ r, x.2 ≠ resetWord x.1) →
      (Rising (l.foldl (fun r x => insertKey x.1 x.2 r) r) ∧
        ∀ x ∈ l.foldl (fun r x => insertKey x.1 x.2 r) r, x.2 ≠ resetWord x.1) := by
    intro l
    induction l with
    | nil => intro r _ hr; exact hr
    | cons y l ih =>
      intro r hl hr
      refine ih _ (fun x hx => hl x (List.mem_cons_of_mem _ hx)) ⟨rising_insertKey _ _ hr.1, fun x hx => ?_⟩
      rcases mem_insertKey hx with rfl | hx
      · exact hl y (by simp)
      · exact hr.2 x hx
  exact key _ _ (fun x hx => hn.2 x (List.mem_of_mem_filter hx))
    ⟨List.Pairwise.filter _ ho.1, fun x hx => ho.2 x (List.mem_of_mem_filter hx)⟩

/-! ### Words and fields of the state -/

@[simp] theorem State.rd_wr_self (s : State) (a : Nat) (v : Word) : (s.wr a v).rd a = v := by
  simp [State.rd, State.wr]

theorem State.rd_wr (s : State) (a b : Nat) (v : Word) : (s.wr a v).rd b = if b = a then v else s.rd b := by
  simp [State.rd, State.wr, RegFile.get_set]

theorem State.rd_wr_ne (s : State) {a b : Nat} (h : b ≠ a) (v : Word) : (s.wr a v).rd b = s.rd b := by
  simp [State.rd_wr, h]

theorem State.val_lt (s : State) (a : Nat) : s.val a < 2 ^ 32 := (s.rd a).isLt

@[simp] theorem State.val_setVal_self (s : State) (a n : Nat) : (s.setVal a n).val a = n % 2 ^ 32 := by
  simp [State.val, State.setVal, wordOf]

theorem State.val_setVal_ne (s : State) {a b : Nat} (h : b ≠ a) (n : Nat) : (s.setVal a n).val b = s.val b := by
  simp [State.val, State.setVal, State.rd_wr_ne s h]

theorem State.rd_setVal_ne (s : State) {a b : Nat} (h : b ≠ a) (n : Nat) : (s.setVal a n).rd b = s.rd b :=
  State.rd_wr_ne s h _

/-- A field write leaves every other word. -/
theorem State.rd_put_ne (s : State) {f : Fld} {b : Nat} (h : b ≠ f.addr) (n : Nat) : (s.put f n).rd b = s.rd b :=
  State.rd_wr_ne s h _

/-- A field write touches one word. -/
theorem State.wordsKept_put (s : State) (f : Fld) (n : Nat) : s.wordsKept (s.put f n) [f.addr] :=
  fun _ h => State.rd_put_ne s (by simpa using h) n

/-- The bits of a number, put together again from below a field, the field, and above it. -/
theorem bits_split (v lo w : Nat) : v = v / 2 ^ (lo + w) * 2 ^ (lo + w) + bitsAt v lo w * 2 ^ lo + v % 2 ^ lo := by
  unfold bitsAt
  have h1 := Nat.div_add_mod v (2 ^ lo)
  have h2 := Nat.div_add_mod (v / 2 ^ lo) (2 ^ w)
  have h3 : v / 2 ^ lo / 2 ^ w = v / 2 ^ (lo + w) := by rw [Nat.div_div_eq_div_mul, ← pow_add]
  rw [h3] at h2
  calc v = 2 ^ lo * (v / 2 ^ lo) + v % 2 ^ lo := h1.symm
    _ = 2 ^ lo * (2 ^ w * (v / 2 ^ (lo + w)) + v / 2 ^ lo % 2 ^ w) + v % 2 ^ lo := by rw [h2]
    _ = _ := by rw [pow_add]; ring

theorem withBits_eq (v lo w x : Nat) :
    withBits v lo w x = v / 2 ^ (lo + w) * 2 ^ (lo + w) + x % 2 ^ w * 2 ^ lo + v % 2 ^ lo := by
  have h := bits_split v lo w
  unfold withBits
  omega

/-- A field reads back what was written into it, modulo its width. -/
theorem bitsAt_withBits (v lo w x : Nat) : bitsAt (withBits v lo w x) lo w = x % 2 ^ w := by
  rw [withBits_eq]
  unfold bitsAt
  have h : v / 2 ^ (lo + w) * 2 ^ (lo + w) + x % 2 ^ w * 2 ^ lo + v % 2 ^ lo
      = 2 ^ lo * (v / 2 ^ (lo + w) * 2 ^ w + x % 2 ^ w) + v % 2 ^ lo := by rw [pow_add]; ring
  rw [h, Nat.mul_add_div (by positivity), Nat.div_eq_of_lt (Nat.mod_lt _ (by positivity)), Nat.add_zero,
    Nat.mul_add_mod_self_right, Nat.mod_mod]

/-- A field write stays within the word. -/
theorem withBits_lt {v lo w : Nat} (x : Nat) (hv : v < 2 ^ 32) (hw : lo + w ≤ 32) : withBits v lo w x < 2 ^ 32 := by
  rw [withBits_eq]
  have h1 : v % 2 ^ lo < 2 ^ lo := Nat.mod_lt _ (by positivity)
  have h2 : x % 2 ^ w < 2 ^ w := Nat.mod_lt _ (by positivity)
  have h3 : v / 2 ^ (lo + w) < 2 ^ (32 - (lo + w)) := by
    rw [Nat.div_lt_iff_lt_mul (by positivity), ← pow_add]
    have : 32 - (lo + w) + (lo + w) = 32 := by omega
    rwa [this]
  have h4 : x % 2 ^ w * 2 ^ lo + v % 2 ^ lo < 2 ^ (lo + w) := by
    have : x % 2 ^ w * 2 ^ lo + 2 ^ lo ≤ 2 ^ w * 2 ^ lo := by
      rw [← Nat.succ_mul]; exact Nat.mul_le_mul_right _ h2
    rw [pow_add, mul_comm (2 ^ lo)]; omega
  have h5 : v / 2 ^ (lo + w) * 2 ^ (lo + w) + 2 ^ (lo + w) ≤ 2 ^ 32 := by
    have : v / 2 ^ (lo + w) * 2 ^ (lo + w) + 2 ^ (lo + w) ≤ 2 ^ (32 - (lo + w)) * 2 ^ (lo + w) := by
      rw [← Nat.succ_mul]; exact Nat.mul_le_mul_right _ h3
    rw [← pow_add] at this
    have h6 : 32 - (lo + w) + (lo + w) = 32 := by omega
    rwa [h6] at this
  omega

theorem State.get_put_self (s : State) (f : Fld) (n : Nat) (h : f.lo + f.width ≤ 32) :
    (s.put f n).get f = n % 2 ^ f.width := by
  unfold State.get State.put
  rw [State.val_setVal_self, Nat.mod_eq_of_lt (withBits_lt n (s.val_lt _) h), bitsAt_withBits]

theorem State.get_put_ne (s : State) {f g : Fld} (h : g.addr ≠ f.addr) (n : Nat) : (s.put f n).get g = s.get g := by
  unfold State.get State.put
  rw [State.val_setVal_ne s h]

/-- A field write leaves a field of the same word whose bits lie apart. -/
theorem State.get_put_apart (s : State) {f g : Fld} (n : Nat) (ha : g.addr = f.addr) (hf : f.lo + f.width ≤ 32)
    (h : g.lo + g.width ≤ f.lo ∨ f.lo + f.width ≤ g.lo) : (s.put f n).get g = s.get g := by
  unfold State.get State.put
  rw [ha, State.val_setVal_self, Nat.mod_eq_of_lt (withBits_lt n (s.val_lt _) hf)]
  set v := s.val f.addr
  have hw := withBits_eq v f.lo f.width n
  have hv := bits_split v f.lo f.width
  unfold bitsAt
  rcases h with h | h
  · have e : ∀ a b : Nat, a % 2 ^ f.lo = b % 2 ^ f.lo → a / 2 ^ g.lo % 2 ^ g.width = b / 2 ^ g.lo % 2 ^ g.width := by
      intro a b hab
      rw [← Nat.mod_mul_right_div_self, ← Nat.mod_mul_right_div_self, ← pow_add]
      have hd : 2 ^ (g.lo + g.width) ∣ 2 ^ f.lo := pow_dvd_pow 2 h
      rw [← Nat.mod_mod_of_dvd a hd, hab, Nat.mod_mod_of_dvd b hd]
    refine e _ _ ?_
    rw [hw, pow_add]
    have : v / (2 ^ f.lo * 2 ^ f.width) * (2 ^ f.lo * 2 ^ f.width) + n % 2 ^ f.width * 2 ^ f.lo + v % 2 ^ f.lo
        = v % 2 ^ f.lo + 2 ^ f.lo * (v / (2 ^ f.lo * 2 ^ f.width) * 2 ^ f.width + n % 2 ^ f.width) := by ring
    rw [this, Nat.add_mul_mod_self_left, Nat.mod_mod]
  · have e : ∀ a b : Nat, a / 2 ^ (f.lo + f.width) = b / 2 ^ (f.lo + f.width) → a / 2 ^ g.lo = b / 2 ^ g.lo := by
      intro a b hab
      have hg : g.lo = f.lo + f.width + (g.lo - (f.lo + f.width)) := by omega
      rw [hg, pow_add, ← Nat.div_div_eq_div_mul, ← Nat.div_div_eq_div_mul, hab]
    rw [e _ v ?_]
    rw [hw]
    have hlt : n % 2 ^ f.width * 2 ^ f.lo + v % 2 ^ f.lo < 2 ^ (f.lo + f.width) := by
      have h1 : v % 2 ^ f.lo < 2 ^ f.lo := Nat.mod_lt _ (by positivity)
      have h2 : n % 2 ^ f.width < 2 ^ f.width := Nat.mod_lt _ (by positivity)
      have : n % 2 ^ f.width * 2 ^ f.lo + 2 ^ f.lo ≤ 2 ^ f.width * 2 ^ f.lo := by
        rw [← Nat.succ_mul]; exact Nat.mul_le_mul_right _ h2
      rw [pow_add, mul_comm (2 ^ f.lo)]; omega
    rw [add_assoc, mul_comm, Nat.mul_add_div (by positivity), Nat.div_eq_of_lt hlt, Nat.add_zero]

@[simp] theorem flagVal_true : flagVal true = 1 := rfl
@[simp] theorem flagVal_false : flagVal false = 0 := rfl

theorem State.bit_setBit_self (s : State) (f : Fld) (b : Bool) (hw : f.width = 1) (h : f.lo < 32) :
    (s.setBit f b).bit f = b := by
  unfold State.bit State.setBit
  rw [State.get_put_self s f _ (by omega), hw]
  cases b <;> rfl

theorem State.bit_setBit_apart (s : State) {f g : Fld} (b : Bool) (hf : f.lo + f.width ≤ 32)
    (h : g.addr ≠ f.addr ∨ g.lo + g.width ≤ f.lo ∨ f.lo + f.width ≤ g.lo) : (s.setBit f b).bit g = s.bit g := by
  unfold State.bit State.setBit
  by_cases ha : g.addr = f.addr
  · rw [State.get_put_apart s _ ha hf (h.resolve_left (not_not.2 ha))]
  · rw [State.get_put_ne s ha]

theorem State.get_count_self (s : State) (f : Fld) (k : Nat) (h : f.lo + f.width ≤ 32) :
    (s.count f k).get f = (s.get f + k) % 2 ^ f.width := State.get_put_self s f _ h

/-- Every word keeps the canonical form of the registers. -/
theorem State.wf_wr {s : State} (h : s.regs.wf = true) (a : Nat) (v : Word) : (s.wr a v).regs.wf = true :=
  RegFile.wf_set h a v

theorem State.wf_setVal {s : State} (h : s.regs.wf = true) (a n : Nat) : (s.setVal a n).regs.wf = true :=
  RegFile.wf_set h a _

theorem State.wf_put {s : State} (h : s.regs.wf = true) (f : Fld) (n : Nat) : (s.put f n).regs.wf = true :=
  RegFile.wf_set h _ _

theorem State.wf_setMulti {s : State} (h : s.regs.wf = true) (a n k : Nat) : (s.setMulti a n k).regs.wf = true := by
  induction k generalizing n with
  | zero => exact h
  | succ k ih => exact State.wf_setVal (ih _) _ _

end Sys2Proof.Machine
end

