-- ==== Sys2Proof/Laws/State.lean ====
section
/-! SUPPORT. What each update of the state leaves of it: one law for each field and update, each true by unfolding. -/

namespace Sys2Proof.Machine

/-! ### wr -/

section
variable (s : State) (a : Nat) (v : Word)

@[simp] theorem State.wr_pending : (s.wr a v).pending = s.pending := rfl
@[simp] theorem State.wr_raised : (s.wr a v).raised = s.raised := rfl
@[simp] theorem State.wr_draws : (s.wr a v).draws = s.draws := rfl
@[simp] theorem State.wr_tally : (s.wr a v).tally = s.tally := rfl
@[simp] theorem State.wr_evt : (s.wr a v).evt = s.evt := rfl
@[simp] theorem State.wr_obs : (s.wr a v).obs = s.obs := rfl
@[simp] theorem State.wr_hif : (s.wr a v).hif = s.hif := rfl
@[simp] theorem State.wr_pwr : (s.wr a v).pwr = s.pwr := rfl
@[simp] theorem State.wr_mode : (s.wr a v).mode = s.mode := rfl
@[simp] theorem State.wr_grd : (s.wr a v).grd = s.grd := rfl
@[simp] theorem State.wr_ldg : (s.wr a v).ldg = s.ldg := rfl
@[simp] theorem State.wr_arms : (s.wr a v).arms = s.arms := rfl
@[simp] theorem State.wr_str : (s.wr a v).str = s.str := rfl
@[simp] theorem State.wr_tb : (s.wr a v).tb = s.tb := rfl
@[simp] theorem State.wr_vc : (s.wr a v).vc = s.vc := rfl
@[simp] theorem State.wr_meas : (s.wr a v).meas = s.meas := rfl
@[simp] theorem State.wr_cal : (s.wr a v).cal = s.cal := rfl
@[simp] theorem State.wr_refm : (s.wr a v).refm = s.refm := rfl
@[simp] theorem State.wr_srv : (s.wr a v).srv = s.srv := rfl
@[simp] theorem State.wr_pcr : (s.wr a v).pcr = s.pcr := rfl
@[simp] theorem State.wr_net : (s.wr a v).net = s.net := rfl
@[simp] theorem State.wr_arr : (s.wr a v).arr = s.arr := rfl

end

/-! ### setVal -/

section
variable (s : State) (a n : Nat)

@[simp] theorem State.setVal_pending : (s.setVal a n).pending = s.pending := rfl
@[simp] theorem State.setVal_raised : (s.setVal a n).raised = s.raised := rfl
@[simp] theorem State.setVal_draws : (s.setVal a n).draws = s.draws := rfl
@[simp] theorem State.setVal_tally : (s.setVal a n).tally = s.tally := rfl
@[simp] theorem State.setVal_evt : (s.setVal a n).evt = s.evt := rfl
@[simp] theorem State.setVal_obs : (s.setVal a n).obs = s.obs := rfl
@[simp] theorem State.setVal_hif : (s.setVal a n).hif = s.hif := rfl
@[simp] theorem State.setVal_pwr : (s.setVal a n).pwr = s.pwr := rfl
@[simp] theorem State.setVal_mode : (s.setVal a n).mode = s.mode := rfl
@[simp] theorem State.setVal_grd : (s.setVal a n).grd = s.grd := rfl
@[simp] theorem State.setVal_ldg : (s.setVal a n).ldg = s.ldg := rfl
@[simp] theorem State.setVal_arms : (s.setVal a n).arms = s.arms := rfl
@[simp] theorem State.setVal_str : (s.setVal a n).str = s.str := rfl
@[simp] theorem State.setVal_tb : (s.setVal a n).tb = s.tb := rfl
@[simp] theorem State.setVal_vc : (s.setVal a n).vc = s.vc := rfl
@[simp] theorem State.setVal_meas : (s.setVal a n).meas = s.meas := rfl
@[simp] theorem State.setVal_cal : (s.setVal a n).cal = s.cal := rfl
@[simp] theorem State.setVal_refm : (s.setVal a n).refm = s.refm := rfl
@[simp] theorem State.setVal_srv : (s.setVal a n).srv = s.srv := rfl
@[simp] theorem State.setVal_pcr : (s.setVal a n).pcr = s.pcr := rfl
@[simp] theorem State.setVal_net : (s.setVal a n).net = s.net := rfl
@[simp] theorem State.setVal_arr : (s.setVal a n).arr = s.arr := rfl

end

/-! ### setIval -/

section
variable (s : State) (a : Nat) (i : Int)

@[simp] theorem State.setIval_pending : (s.setIval a i).pending = s.pending := rfl
@[simp] theorem State.setIval_raised : (s.setIval a i).raised = s.raised := rfl
@[simp] theorem State.setIval_draws : (s.setIval a i).draws = s.draws := rfl
@[simp] theorem State.setIval_tally : (s.setIval a i).tally = s.tally := rfl
@[simp] theorem State.setIval_evt : (s.setIval a i).evt = s.evt := rfl
@[simp] theorem State.setIval_obs : (s.setIval a i).obs = s.obs := rfl
@[simp] theorem State.setIval_hif : (s.setIval a i).hif = s.hif := rfl
@[simp] theorem State.setIval_pwr : (s.setIval a i).pwr = s.pwr := rfl
@[simp] theorem State.setIval_mode : (s.setIval a i).mode = s.mode := rfl
@[simp] theorem State.setIval_grd : (s.setIval a i).grd = s.grd := rfl
@[simp] theorem State.setIval_ldg : (s.setIval a i).ldg = s.ldg := rfl
@[simp] theorem State.setIval_arms : (s.setIval a i).arms = s.arms := rfl
@[simp] theorem State.setIval_str : (s.setIval a i).str = s.str := rfl
@[simp] theorem State.setIval_tb : (s.setIval a i).tb = s.tb := rfl
@[simp] theorem State.setIval_vc : (s.setIval a i).vc = s.vc := rfl
@[simp] theorem State.setIval_meas : (s.setIval a i).meas = s.meas := rfl
@[simp] theorem State.setIval_cal : (s.setIval a i).cal = s.cal := rfl
@[simp] theorem State.setIval_refm : (s.setIval a i).refm = s.refm := rfl
@[simp] theorem State.setIval_srv : (s.setIval a i).srv = s.srv := rfl
@[simp] theorem State.setIval_pcr : (s.setIval a i).pcr = s.pcr := rfl
@[simp] theorem State.setIval_net : (s.setIval a i).net = s.net := rfl
@[simp] theorem State.setIval_arr : (s.setIval a i).arr = s.arr := rfl

end

/-! ### put -/

section
variable (s : State) (f : Fld) (n : Nat)

@[simp] theorem State.put_pending : (s.put f n).pending = s.pending := rfl
@[simp] theorem State.put_raised : (s.put f n).raised = s.raised := rfl
@[simp] theorem State.put_draws : (s.put f n).draws = s.draws := rfl
@[simp] theorem State.put_tally : (s.put f n).tally = s.tally := rfl
@[simp] theorem State.put_evt : (s.put f n).evt = s.evt := rfl
@[simp] theorem State.put_obs : (s.put f n).obs = s.obs := rfl
@[simp] theorem State.put_hif : (s.put f n).hif = s.hif := rfl
@[simp] theorem State.put_pwr : (s.put f n).pwr = s.pwr := rfl
@[simp] theorem State.put_mode : (s.put f n).mode = s.mode := rfl
@[simp] theorem State.put_grd : (s.put f n).grd = s.grd := rfl
@[simp] theorem State.put_ldg : (s.put f n).ldg = s.ldg := rfl
@[simp] theorem State.put_arms : (s.put f n).arms = s.arms := rfl
@[simp] theorem State.put_str : (s.put f n).str = s.str := rfl
@[simp] theorem State.put_tb : (s.put f n).tb = s.tb := rfl
@[simp] theorem State.put_vc : (s.put f n).vc = s.vc := rfl
@[simp] theorem State.put_meas : (s.put f n).meas = s.meas := rfl
@[simp] theorem State.put_cal : (s.put f n).cal = s.cal := rfl
@[simp] theorem State.put_refm : (s.put f n).refm = s.refm := rfl
@[simp] theorem State.put_srv : (s.put f n).srv = s.srv := rfl
@[simp] theorem State.put_pcr : (s.put f n).pcr = s.pcr := rfl
@[simp] theorem State.put_net : (s.put f n).net = s.net := rfl
@[simp] theorem State.put_arr : (s.put f n).arr = s.arr := rfl

end

/-! ### setBit -/

section
variable (s : State) (f : Fld) (b : Bool)

@[simp] theorem State.setBit_pending : (s.setBit f b).pending = s.pending := rfl
@[simp] theorem State.setBit_raised : (s.setBit f b).raised = s.raised := rfl
@[simp] theorem State.setBit_draws : (s.setBit f b).draws = s.draws := rfl
@[simp] theorem State.setBit_tally : (s.setBit f b).tally = s.tally := rfl
@[simp] theorem State.setBit_evt : (s.setBit f b).evt = s.evt := rfl
@[simp] theorem State.setBit_obs : (s.setBit f b).obs = s.obs := rfl
@[simp] theorem State.setBit_hif : (s.setBit f b).hif = s.hif := rfl
@[simp] theorem State.setBit_pwr : (s.setBit f b).pwr = s.pwr := rfl
@[simp] theorem State.setBit_mode : (s.setBit f b).mode = s.mode := rfl
@[simp] theorem State.setBit_grd : (s.setBit f b).grd = s.grd := rfl
@[simp] theorem State.setBit_ldg : (s.setBit f b).ldg = s.ldg := rfl
@[simp] theorem State.setBit_arms : (s.setBit f b).arms = s.arms := rfl
@[simp] theorem State.setBit_str : (s.setBit f b).str = s.str := rfl
@[simp] theorem State.setBit_tb : (s.setBit f b).tb = s.tb := rfl
@[simp] theorem State.setBit_vc : (s.setBit f b).vc = s.vc := rfl
@[simp] theorem State.setBit_meas : (s.setBit f b).meas = s.meas := rfl
@[simp] theorem State.setBit_cal : (s.setBit f b).cal = s.cal := rfl
@[simp] theorem State.setBit_refm : (s.setBit f b).refm = s.refm := rfl
@[simp] theorem State.setBit_srv : (s.setBit f b).srv = s.srv := rfl
@[simp] theorem State.setBit_pcr : (s.setBit f b).pcr = s.pcr := rfl
@[simp] theorem State.setBit_net : (s.setBit f b).net = s.net := rfl
@[simp] theorem State.setBit_arr : (s.setBit f b).arr = s.arr := rfl

end

/-! ### count -/

section
variable (s : State) (f : Fld) (k : Nat)

@[simp] theorem State.count_pending : (s.count f k).pending = s.pending := rfl
@[simp] theorem State.count_raised : (s.count f k).raised = s.raised := rfl
@[simp] theorem State.count_draws : (s.count f k).draws = s.draws := rfl
@[simp] theorem State.count_tally : (s.count f k).tally = s.tally := rfl
@[simp] theorem State.count_evt : (s.count f k).evt = s.evt := rfl
@[simp] theorem State.count_obs : (s.count f k).obs = s.obs := rfl
@[simp] theorem State.count_hif : (s.count f k).hif = s.hif := rfl
@[simp] theorem State.count_pwr : (s.count f k).pwr = s.pwr := rfl
@[simp] theorem State.count_mode : (s.count f k).mode = s.mode := rfl
@[simp] theorem State.count_grd : (s.count f k).grd = s.grd := rfl
@[simp] theorem State.count_ldg : (s.count f k).ldg = s.ldg := rfl
@[simp] theorem State.count_arms : (s.count f k).arms = s.arms := rfl
@[simp] theorem State.count_str : (s.count f k).str = s.str := rfl
@[simp] theorem State.count_tb : (s.count f k).tb = s.tb := rfl
@[simp] theorem State.count_vc : (s.count f k).vc = s.vc := rfl
@[simp] theorem State.count_meas : (s.count f k).meas = s.meas := rfl
@[simp] theorem State.count_cal : (s.count f k).cal = s.cal := rfl
@[simp] theorem State.count_refm : (s.count f k).refm = s.refm := rfl
@[simp] theorem State.count_srv : (s.count f k).srv = s.srv := rfl
@[simp] theorem State.count_pcr : (s.count f k).pcr = s.pcr := rfl
@[simp] theorem State.count_net : (s.count f k).net = s.net := rfl
@[simp] theorem State.count_arr : (s.count f k).arr = s.arr := rfl

end

/-! ### countSat -/

section
variable (s : State) (f : Fld) (k : Nat)

@[simp] theorem State.countSat_pending : (s.countSat f k).pending = s.pending := rfl
@[simp] theorem State.countSat_raised : (s.countSat f k).raised = s.raised := rfl
@[simp] theorem State.countSat_draws : (s.countSat f k).draws = s.draws := rfl
@[simp] theorem State.countSat_tally : (s.countSat f k).tally = s.tally := rfl
@[simp] theorem State.countSat_evt : (s.countSat f k).evt = s.evt := rfl
@[simp] theorem State.countSat_obs : (s.countSat f k).obs = s.obs := rfl
@[simp] theorem State.countSat_hif : (s.countSat f k).hif = s.hif := rfl
@[simp] theorem State.countSat_pwr : (s.countSat f k).pwr = s.pwr := rfl
@[simp] theorem State.countSat_mode : (s.countSat f k).mode = s.mode := rfl
@[simp] theorem State.countSat_grd : (s.countSat f k).grd = s.grd := rfl
@[simp] theorem State.countSat_ldg : (s.countSat f k).ldg = s.ldg := rfl
@[simp] theorem State.countSat_arms : (s.countSat f k).arms = s.arms := rfl
@[simp] theorem State.countSat_str : (s.countSat f k).str = s.str := rfl
@[simp] theorem State.countSat_tb : (s.countSat f k).tb = s.tb := rfl
@[simp] theorem State.countSat_vc : (s.countSat f k).vc = s.vc := rfl
@[simp] theorem State.countSat_meas : (s.countSat f k).meas = s.meas := rfl
@[simp] theorem State.countSat_cal : (s.countSat f k).cal = s.cal := rfl
@[simp] theorem State.countSat_refm : (s.countSat f k).refm = s.refm := rfl
@[simp] theorem State.countSat_srv : (s.countSat f k).srv = s.srv := rfl
@[simp] theorem State.countSat_pcr : (s.countSat f k).pcr = s.pcr := rfl
@[simp] theorem State.countSat_net : (s.countSat f k).net = s.net := rfl
@[simp] theorem State.countSat_arr : (s.countSat f k).arr = s.arr := rfl

end

/-! ### raise -/

section
variable (s : State) (e : EventId)

@[simp] theorem State.raise_pending : (s.raise e).pending = s.pending := rfl
@[simp] theorem State.raise_regs : (s.raise e).regs = s.regs := rfl
@[simp] theorem State.raise_draws : (s.raise e).draws = s.draws := rfl
@[simp] theorem State.raise_tally : (s.raise e).tally = s.tally := rfl
@[simp] theorem State.raise_evt : (s.raise e).evt = s.evt := rfl
@[simp] theorem State.raise_obs : (s.raise e).obs = s.obs := rfl
@[simp] theorem State.raise_hif : (s.raise e).hif = s.hif := rfl
@[simp] theorem State.raise_pwr : (s.raise e).pwr = s.pwr := rfl
@[simp] theorem State.raise_mode : (s.raise e).mode = s.mode := rfl
@[simp] theorem State.raise_grd : (s.raise e).grd = s.grd := rfl
@[simp] theorem State.raise_ldg : (s.raise e).ldg = s.ldg := rfl
@[simp] theorem State.raise_arms : (s.raise e).arms = s.arms := rfl
@[simp] theorem State.raise_str : (s.raise e).str = s.str := rfl
@[simp] theorem State.raise_tb : (s.raise e).tb = s.tb := rfl
@[simp] theorem State.raise_vc : (s.raise e).vc = s.vc := rfl
@[simp] theorem State.raise_meas : (s.raise e).meas = s.meas := rfl
@[simp] theorem State.raise_cal : (s.raise e).cal = s.cal := rfl
@[simp] theorem State.raise_refm : (s.raise e).refm = s.refm := rfl
@[simp] theorem State.raise_srv : (s.raise e).srv = s.srv := rfl
@[simp] theorem State.raise_pcr : (s.raise e).pcr = s.pcr := rfl
@[simp] theorem State.raise_net : (s.raise e).net = s.net := rfl
@[simp] theorem State.raise_arr : (s.raise e).arr = s.arr := rfl
@[simp] theorem State.rd_raise (a : Nat) : (s.raise e).rd a = s.rd a := rfl
@[simp] theorem State.val_raise (a : Nat) : (s.raise e).val a = s.val a := rfl
@[simp] theorem State.get_raise (f : Fld) : (s.raise e).get f = s.get f := rfl
@[simp] theorem State.bit_raise (f : Fld) : (s.raise e).bit f = s.bit f := rfl

end

/-! ### drawn -/

section
variable (s : State)

@[simp] theorem State.drawn_pending : (s.drawn).pending = s.pending := rfl
@[simp] theorem State.drawn_regs : (s.drawn).regs = s.regs := rfl
@[simp] theorem State.drawn_raised : (s.drawn).raised = s.raised := rfl
@[simp] theorem State.drawn_tally : (s.drawn).tally = s.tally := rfl
@[simp] theorem State.drawn_evt : (s.drawn).evt = s.evt := rfl
@[simp] theorem State.drawn_obs : (s.drawn).obs = s.obs := rfl
@[simp] theorem State.drawn_hif : (s.drawn).hif = s.hif := rfl
@[simp] theorem State.drawn_pwr : (s.drawn).pwr = s.pwr := rfl
@[simp] theorem State.drawn_mode : (s.drawn).mode = s.mode := rfl
@[simp] theorem State.drawn_grd : (s.drawn).grd = s.grd := rfl
@[simp] theorem State.drawn_ldg : (s.drawn).ldg = s.ldg := rfl
@[simp] theorem State.drawn_arms : (s.drawn).arms = s.arms := rfl
@[simp] theorem State.drawn_str : (s.drawn).str = s.str := rfl
@[simp] theorem State.drawn_tb : (s.drawn).tb = s.tb := rfl
@[simp] theorem State.drawn_vc : (s.drawn).vc = s.vc := rfl
@[simp] theorem State.drawn_meas : (s.drawn).meas = s.meas := rfl
@[simp] theorem State.drawn_cal : (s.drawn).cal = s.cal := rfl
@[simp] theorem State.drawn_refm : (s.drawn).refm = s.refm := rfl
@[simp] theorem State.drawn_srv : (s.drawn).srv = s.srv := rfl
@[simp] theorem State.drawn_pcr : (s.drawn).pcr = s.pcr := rfl
@[simp] theorem State.drawn_net : (s.drawn).net = s.net := rfl
@[simp] theorem State.drawn_arr : (s.drawn).arr = s.arr := rfl
@[simp] theorem State.rd_drawn (a : Nat) : (s.drawn).rd a = s.rd a := rfl
@[simp] theorem State.val_drawn (a : Nat) : (s.drawn).val a = s.val a := rfl
@[simp] theorem State.get_drawn (f : Fld) : (s.drawn).get f = s.get f := rfl
@[simp] theorem State.bit_drawn (f : Fld) : (s.drawn).bit f = s.bit f := rfl

end

/-! ### setPort -/

section
variable (s : State) (p : HostPort) (x : PortState)

@[simp] theorem State.setPort_pending : (s.setPort p x).pending = s.pending := by cases p <;> rfl
@[simp] theorem State.setPort_regs : (s.setPort p x).regs = s.regs := by cases p <;> rfl
@[simp] theorem State.setPort_raised : (s.setPort p x).raised = s.raised := by cases p <;> rfl
@[simp] theorem State.setPort_draws : (s.setPort p x).draws = s.draws := by cases p <;> rfl
@[simp] theorem State.setPort_tally : (s.setPort p x).tally = s.tally := by cases p <;> rfl
@[simp] theorem State.setPort_evt : (s.setPort p x).evt = s.evt := by cases p <;> rfl
@[simp] theorem State.setPort_obs : (s.setPort p x).obs = s.obs := by cases p <;> rfl
@[simp] theorem State.setPort_pwr : (s.setPort p x).pwr = s.pwr := by cases p <;> rfl
@[simp] theorem State.setPort_mode : (s.setPort p x).mode = s.mode := by cases p <;> rfl
@[simp] theorem State.setPort_grd : (s.setPort p x).grd = s.grd := by cases p <;> rfl
@[simp] theorem State.setPort_ldg : (s.setPort p x).ldg = s.ldg := by cases p <;> rfl
@[simp] theorem State.setPort_arms : (s.setPort p x).arms = s.arms := by cases p <;> rfl
@[simp] theorem State.setPort_str : (s.setPort p x).str = s.str := by cases p <;> rfl
@[simp] theorem State.setPort_tb : (s.setPort p x).tb = s.tb := by cases p <;> rfl
@[simp] theorem State.setPort_vc : (s.setPort p x).vc = s.vc := by cases p <;> rfl
@[simp] theorem State.setPort_meas : (s.setPort p x).meas = s.meas := by cases p <;> rfl
@[simp] theorem State.setPort_cal : (s.setPort p x).cal = s.cal := by cases p <;> rfl
@[simp] theorem State.setPort_refm : (s.setPort p x).refm = s.refm := by cases p <;> rfl
@[simp] theorem State.setPort_srv : (s.setPort p x).srv = s.srv := by cases p <;> rfl
@[simp] theorem State.setPort_pcr : (s.setPort p x).pcr = s.pcr := by cases p <;> rfl
@[simp] theorem State.setPort_net : (s.setPort p x).net = s.net := by cases p <;> rfl
@[simp] theorem State.setPort_arr : (s.setPort p x).arr = s.arr := by cases p <;> rfl
@[simp] theorem State.rd_setPort (a : Nat) : (s.setPort p x).rd a = s.rd a := by cases p <;> rfl
@[simp] theorem State.val_setPort (a : Nat) : (s.setPort p x).val a = s.val a := by cases p <;> rfl
@[simp] theorem State.get_setPort (f : Fld) : (s.setPort p x).get f = s.get f := by cases p <;> rfl
@[simp] theorem State.bit_setPort (f : Fld) : (s.setPort p x).bit f = s.bit f := by cases p <;> rfl

end

/-! ### setResult -/

section
variable (s : State) (p : HostPort) (r : MsgResult)

@[simp] theorem State.setResult_pending : (s.setResult p r).pending = s.pending := by cases p <;> rfl
@[simp] theorem State.setResult_regs : (s.setResult p r).regs = s.regs := by cases p <;> rfl
@[simp] theorem State.setResult_raised : (s.setResult p r).raised = s.raised := by cases p <;> rfl
@[simp] theorem State.setResult_draws : (s.setResult p r).draws = s.draws := by cases p <;> rfl
@[simp] theorem State.setResult_tally : (s.setResult p r).tally = s.tally := by cases p <;> rfl
@[simp] theorem State.setResult_evt : (s.setResult p r).evt = s.evt := by cases p <;> rfl
@[simp] theorem State.setResult_obs : (s.setResult p r).obs = s.obs := by cases p <;> rfl
@[simp] theorem State.setResult_pwr : (s.setResult p r).pwr = s.pwr := by cases p <;> rfl
@[simp] theorem State.setResult_mode : (s.setResult p r).mode = s.mode := by cases p <;> rfl
@[simp] theorem State.setResult_grd : (s.setResult p r).grd = s.grd := by cases p <;> rfl
@[simp] theorem State.setResult_ldg : (s.setResult p r).ldg = s.ldg := by cases p <;> rfl
@[simp] theorem State.setResult_arms : (s.setResult p r).arms = s.arms := by cases p <;> rfl
@[simp] theorem State.setResult_str : (s.setResult p r).str = s.str := by cases p <;> rfl
@[simp] theorem State.setResult_tb : (s.setResult p r).tb = s.tb := by cases p <;> rfl
@[simp] theorem State.setResult_vc : (s.setResult p r).vc = s.vc := by cases p <;> rfl
@[simp] theorem State.setResult_meas : (s.setResult p r).meas = s.meas := by cases p <;> rfl
@[simp] theorem State.setResult_cal : (s.setResult p r).cal = s.cal := by cases p <;> rfl
@[simp] theorem State.setResult_refm : (s.setResult p r).refm = s.refm := by cases p <;> rfl
@[simp] theorem State.setResult_srv : (s.setResult p r).srv = s.srv := by cases p <;> rfl
@[simp] theorem State.setResult_pcr : (s.setResult p r).pcr = s.pcr := by cases p <;> rfl
@[simp] theorem State.setResult_net : (s.setResult p r).net = s.net := by cases p <;> rfl
@[simp] theorem State.setResult_arr : (s.setResult p r).arr = s.arr := by cases p <;> rfl
@[simp] theorem State.rd_setResult (a : Nat) : (s.setResult p r).rd a = s.rd a := by cases p <;> rfl
@[simp] theorem State.val_setResult (a : Nat) : (s.setResult p r).val a = s.val a := by cases p <;> rfl
@[simp] theorem State.get_setResult (f : Fld) : (s.setResult p r).get f = s.get f := by cases p <;> rfl
@[simp] theorem State.bit_setResult (f : Fld) : (s.setResult p r).bit f = s.bit f := by cases p <;> rfl

end

/-! ### setBytes -/

section
variable (s : State) (p : HostPort) (l : List Byte)

@[simp] theorem State.setBytes_pending : (s.setBytes p l).pending = s.pending := by cases p <;> rfl
@[simp] theorem State.setBytes_regs : (s.setBytes p l).regs = s.regs := by cases p <;> rfl
@[simp] theorem State.setBytes_raised : (s.setBytes p l).raised = s.raised := by cases p <;> rfl
@[simp] theorem State.setBytes_draws : (s.setBytes p l).draws = s.draws := by cases p <;> rfl
@[simp] theorem State.setBytes_tally : (s.setBytes p l).tally = s.tally := by cases p <;> rfl
@[simp] theorem State.setBytes_evt : (s.setBytes p l).evt = s.evt := by cases p <;> rfl
@[simp] theorem State.setBytes_obs : (s.setBytes p l).obs = s.obs := by cases p <;> rfl
@[simp] theorem State.setBytes_pwr : (s.setBytes p l).pwr = s.pwr := by cases p <;> rfl
@[simp] theorem State.setBytes_mode : (s.setBytes p l).mode = s.mode := by cases p <;> rfl
@[simp] theorem State.setBytes_grd : (s.setBytes p l).grd = s.grd := by cases p <;> rfl
@[simp] theorem State.setBytes_ldg : (s.setBytes p l).ldg = s.ldg := by cases p <;> rfl
@[simp] theorem State.setBytes_arms : (s.setBytes p l).arms = s.arms := by cases p <;> rfl
@[simp] theorem State.setBytes_str : (s.setBytes p l).str = s.str := by cases p <;> rfl
@[simp] theorem State.setBytes_tb : (s.setBytes p l).tb = s.tb := by cases p <;> rfl
@[simp] theorem State.setBytes_vc : (s.setBytes p l).vc = s.vc := by cases p <;> rfl
@[simp] theorem State.setBytes_meas : (s.setBytes p l).meas = s.meas := by cases p <;> rfl
@[simp] theorem State.setBytes_cal : (s.setBytes p l).cal = s.cal := by cases p <;> rfl
@[simp] theorem State.setBytes_refm : (s.setBytes p l).refm = s.refm := by cases p <;> rfl
@[simp] theorem State.setBytes_srv : (s.setBytes p l).srv = s.srv := by cases p <;> rfl
@[simp] theorem State.setBytes_pcr : (s.setBytes p l).pcr = s.pcr := by cases p <;> rfl
@[simp] theorem State.setBytes_net : (s.setBytes p l).net = s.net := by cases p <;> rfl
@[simp] theorem State.setBytes_arr : (s.setBytes p l).arr = s.arr := by cases p <;> rfl
@[simp] theorem State.rd_setBytes (a : Nat) : (s.setBytes p l).rd a = s.rd a := by cases p <;> rfl
@[simp] theorem State.val_setBytes (a : Nat) : (s.setBytes p l).val a = s.val a := by cases p <;> rfl
@[simp] theorem State.get_setBytes (f : Fld) : (s.setBytes p l).get f = s.get f := by cases p <;> rfl
@[simp] theorem State.bit_setBytes (f : Fld) : (s.setBytes p l).bit f = s.bit f := by cases p <;> rfl

end

/-! ### setArming -/

section
variable (s : State) (b : ArmBank) (x : Option Arming)

@[simp] theorem State.setArming_pending : (s.setArming b x).pending = s.pending := by cases b <;> rfl
@[simp] theorem State.setArming_regs : (s.setArming b x).regs = s.regs := by cases b <;> rfl
@[simp] theorem State.setArming_raised : (s.setArming b x).raised = s.raised := by cases b <;> rfl
@[simp] theorem State.setArming_draws : (s.setArming b x).draws = s.draws := by cases b <;> rfl
@[simp] theorem State.setArming_tally : (s.setArming b x).tally = s.tally := by cases b <;> rfl
@[simp] theorem State.setArming_evt : (s.setArming b x).evt = s.evt := by cases b <;> rfl
@[simp] theorem State.setArming_obs : (s.setArming b x).obs = s.obs := by cases b <;> rfl
@[simp] theorem State.setArming_hif : (s.setArming b x).hif = s.hif := by cases b <;> rfl
@[simp] theorem State.setArming_pwr : (s.setArming b x).pwr = s.pwr := by cases b <;> rfl
@[simp] theorem State.setArming_mode : (s.setArming b x).mode = s.mode := by cases b <;> rfl
@[simp] theorem State.setArming_grd : (s.setArming b x).grd = s.grd := by cases b <;> rfl
@[simp] theorem State.setArming_ldg : (s.setArming b x).ldg = s.ldg := by cases b <;> rfl
@[simp] theorem State.setArming_str : (s.setArming b x).str = s.str := by cases b <;> rfl
@[simp] theorem State.setArming_tb : (s.setArming b x).tb = s.tb := by cases b <;> rfl
@[simp] theorem State.setArming_vc : (s.setArming b x).vc = s.vc := by cases b <;> rfl
@[simp] theorem State.setArming_meas : (s.setArming b x).meas = s.meas := by cases b <;> rfl
@[simp] theorem State.setArming_cal : (s.setArming b x).cal = s.cal := by cases b <;> rfl
@[simp] theorem State.setArming_refm : (s.setArming b x).refm = s.refm := by cases b <;> rfl
@[simp] theorem State.setArming_srv : (s.setArming b x).srv = s.srv := by cases b <;> rfl
@[simp] theorem State.setArming_pcr : (s.setArming b x).pcr = s.pcr := by cases b <;> rfl
@[simp] theorem State.setArming_net : (s.setArming b x).net = s.net := by cases b <;> rfl
@[simp] theorem State.setArming_arr : (s.setArming b x).arr = s.arr := by cases b <;> rfl
@[simp] theorem State.rd_setArming (a : Nat) : (s.setArming b x).rd a = s.rd a := by cases b <;> rfl
@[simp] theorem State.val_setArming (a : Nat) : (s.setArming b x).val a = s.val a := by cases b <;> rfl
@[simp] theorem State.get_setArming (f : Fld) : (s.setArming b x).get f = s.get f := by cases b <;> rfl
@[simp] theorem State.bit_setArming (f : Fld) : (s.setArming b x).bit f = s.bit f := by cases b <;> rfl

end

/-! ### setFace -/

section
variable (s : State) (f : MainFace) (x : FaceReg)

@[simp] theorem State.setFace_pending : (s.setFace f x).pending = s.pending := by cases f <;> rfl
@[simp] theorem State.setFace_regs : (s.setFace f x).regs = s.regs := by cases f <;> rfl
@[simp] theorem State.setFace_raised : (s.setFace f x).raised = s.raised := by cases f <;> rfl
@[simp] theorem State.setFace_draws : (s.setFace f x).draws = s.draws := by cases f <;> rfl
@[simp] theorem State.setFace_tally : (s.setFace f x).tally = s.tally := by cases f <;> rfl
@[simp] theorem State.setFace_evt : (s.setFace f x).evt = s.evt := by cases f <;> rfl
@[simp] theorem State.setFace_obs : (s.setFace f x).obs = s.obs := by cases f <;> rfl
@[simp] theorem State.setFace_hif : (s.setFace f x).hif = s.hif := by cases f <;> rfl
@[simp] theorem State.setFace_pwr : (s.setFace f x).pwr = s.pwr := by cases f <;> rfl
@[simp] theorem State.setFace_mode : (s.setFace f x).mode = s.mode := by cases f <;> rfl
@[simp] theorem State.setFace_grd : (s.setFace f x).grd = s.grd := by cases f <;> rfl
@[simp] theorem State.setFace_ldg : (s.setFace f x).ldg = s.ldg := by cases f <;> rfl
@[simp] theorem State.setFace_arms : (s.setFace f x).arms = s.arms := by cases f <;> rfl
@[simp] theorem State.setFace_tb : (s.setFace f x).tb = s.tb := by cases f <;> rfl
@[simp] theorem State.setFace_vc : (s.setFace f x).vc = s.vc := by cases f <;> rfl
@[simp] theorem State.setFace_meas : (s.setFace f x).meas = s.meas := by cases f <;> rfl
@[simp] theorem State.setFace_cal : (s.setFace f x).cal = s.cal := by cases f <;> rfl
@[simp] theorem State.setFace_refm : (s.setFace f x).refm = s.refm := by cases f <;> rfl
@[simp] theorem State.setFace_srv : (s.setFace f x).srv = s.srv := by cases f <;> rfl
@[simp] theorem State.setFace_pcr : (s.setFace f x).pcr = s.pcr := by cases f <;> rfl
@[simp] theorem State.setFace_net : (s.setFace f x).net = s.net := by cases f <;> rfl
@[simp] theorem State.setFace_arr : (s.setFace f x).arr = s.arr := by cases f <;> rfl
@[simp] theorem State.rd_setFace (a : Nat) : (s.setFace f x).rd a = s.rd a := by cases f <;> rfl
@[simp] theorem State.val_setFace (a : Nat) : (s.setFace f x).val a = s.val a := by cases f <;> rfl
@[simp] theorem State.get_setFace (g : Fld) : (s.setFace f x).get g = s.get g := by cases f <;> rfl
@[simp] theorem State.bit_setFace (g : Fld) : (s.setFace f x).bit g = s.bit g := by cases f <;> rfl

end

/-! ### setChan -/

section
variable (s : State) (n : Nat) (c : Channel)

@[simp] theorem State.setChan_pending : (s.setChan n c).pending = s.pending := rfl
@[simp] theorem State.setChan_regs : (s.setChan n c).regs = s.regs := rfl
@[simp] theorem State.setChan_raised : (s.setChan n c).raised = s.raised := rfl
@[simp] theorem State.setChan_draws : (s.setChan n c).draws = s.draws := rfl
@[simp] theorem State.setChan_tally : (s.setChan n c).tally = s.tally := rfl
@[simp] theorem State.setChan_evt : (s.setChan n c).evt = s.evt := rfl
@[simp] theorem State.setChan_obs : (s.setChan n c).obs = s.obs := rfl
@[simp] theorem State.setChan_hif : (s.setChan n c).hif = s.hif := rfl
@[simp] theorem State.setChan_pwr : (s.setChan n c).pwr = s.pwr := rfl
@[simp] theorem State.setChan_mode : (s.setChan n c).mode = s.mode := rfl
@[simp] theorem State.setChan_grd : (s.setChan n c).grd = s.grd := rfl
@[simp] theorem State.setChan_ldg : (s.setChan n c).ldg = s.ldg := rfl
@[simp] theorem State.setChan_arms : (s.setChan n c).arms = s.arms := rfl
@[simp] theorem State.setChan_str : (s.setChan n c).str = s.str := rfl
@[simp] theorem State.setChan_tb : (s.setChan n c).tb = s.tb := rfl
@[simp] theorem State.setChan_meas : (s.setChan n c).meas = s.meas := rfl
@[simp] theorem State.setChan_cal : (s.setChan n c).cal = s.cal := rfl
@[simp] theorem State.setChan_refm : (s.setChan n c).refm = s.refm := rfl
@[simp] theorem State.setChan_srv : (s.setChan n c).srv = s.srv := rfl
@[simp] theorem State.setChan_pcr : (s.setChan n c).pcr = s.pcr := rfl
@[simp] theorem State.setChan_net : (s.setChan n c).net = s.net := rfl
@[simp] theorem State.setChan_arr : (s.setChan n c).arr = s.arr := rfl
@[simp] theorem State.rd_setChan (a : Nat) : (s.setChan n c).rd a = s.rd a := rfl
@[simp] theorem State.val_setChan (a : Nat) : (s.setChan n c).val a = s.val a := rfl
@[simp] theorem State.get_setChan (f : Fld) : (s.setChan n c).get f = s.get f := rfl
@[simp] theorem State.bit_setChan (f : Fld) : (s.setChan n c).bit f = s.bit f := rfl

end

/-! ### setUnit -/

section
variable (s : State) (n : Nat) (u : MeasureUnit)

@[simp] theorem State.setUnit_pending : (s.setUnit n u).pending = s.pending := rfl
@[simp] theorem State.setUnit_regs : (s.setUnit n u).regs = s.regs := rfl
@[simp] theorem State.setUnit_raised : (s.setUnit n u).raised = s.raised := rfl
@[simp] theorem State.setUnit_draws : (s.setUnit n u).draws = s.draws := rfl
@[simp] theorem State.setUnit_tally : (s.setUnit n u).tally = s.tally := rfl
@[simp] theorem State.setUnit_evt : (s.setUnit n u).evt = s.evt := rfl
@[simp] theorem State.setUnit_obs : (s.setUnit n u).obs = s.obs := rfl
@[simp] theorem State.setUnit_hif : (s.setUnit n u).hif = s.hif := rfl
@[simp] theorem State.setUnit_pwr : (s.setUnit n u).pwr = s.pwr := rfl
@[simp] theorem State.setUnit_mode : (s.setUnit n u).mode = s.mode := rfl
@[simp] theorem State.setUnit_grd : (s.setUnit n u).grd = s.grd := rfl
@[simp] theorem State.setUnit_ldg : (s.setUnit n u).ldg = s.ldg := rfl
@[simp] theorem State.setUnit_arms : (s.setUnit n u).arms = s.arms := rfl
@[simp] theorem State.setUnit_str : (s.setUnit n u).str = s.str := rfl
@[simp] theorem State.setUnit_tb : (s.setUnit n u).tb = s.tb := rfl
@[simp] theorem State.setUnit_vc : (s.setUnit n u).vc = s.vc := rfl
@[simp] theorem State.setUnit_cal : (s.setUnit n u).cal = s.cal := rfl
@[simp] theorem State.setUnit_refm : (s.setUnit n u).refm = s.refm := rfl
@[simp] theorem State.setUnit_srv : (s.setUnit n u).srv = s.srv := rfl
@[simp] theorem State.setUnit_pcr : (s.setUnit n u).pcr = s.pcr := rfl
@[simp] theorem State.setUnit_net : (s.setUnit n u).net = s.net := rfl
@[simp] theorem State.setUnit_arr : (s.setUnit n u).arr = s.arr := rfl
@[simp] theorem State.rd_setUnit (a : Nat) : (s.setUnit n u).rd a = s.rd a := rfl
@[simp] theorem State.val_setUnit (a : Nat) : (s.setUnit n u).val a = s.val a := rfl
@[simp] theorem State.get_setUnit (f : Fld) : (s.setUnit n u).get f = s.get f := rfl
@[simp] theorem State.bit_setUnit (f : Fld) : (s.setUnit n u).bit f = s.bit f := rfl

end

/-! ### setCalib -/

section
variable (s : State) (n : Nat) (c : CalChannel)

@[simp] theorem State.setCalib_pending : (s.setCalib n c).pending = s.pending := rfl
@[simp] theorem State.setCalib_regs : (s.setCalib n c).regs = s.regs := rfl
@[simp] theorem State.setCalib_raised : (s.setCalib n c).raised = s.raised := rfl
@[simp] theorem State.setCalib_draws : (s.setCalib n c).draws = s.draws := rfl
@[simp] theorem State.setCalib_tally : (s.setCalib n c).tally = s.tally := rfl
@[simp] theorem State.setCalib_evt : (s.setCalib n c).evt = s.evt := rfl
@[simp] theorem State.setCalib_obs : (s.setCalib n c).obs = s.obs := rfl
@[simp] theorem State.setCalib_hif : (s.setCalib n c).hif = s.hif := rfl
@[simp] theorem State.setCalib_pwr : (s.setCalib n c).pwr = s.pwr := rfl
@[simp] theorem State.setCalib_mode : (s.setCalib n c).mode = s.mode := rfl
@[simp] theorem State.setCalib_grd : (s.setCalib n c).grd = s.grd := rfl
@[simp] theorem State.setCalib_ldg : (s.setCalib n c).ldg = s.ldg := rfl
@[simp] theorem State.setCalib_arms : (s.setCalib n c).arms = s.arms := rfl
@[simp] theorem State.setCalib_str : (s.setCalib n c).str = s.str := rfl
@[simp] theorem State.setCalib_tb : (s.setCalib n c).tb = s.tb := rfl
@[simp] theorem State.setCalib_vc : (s.setCalib n c).vc = s.vc := rfl
@[simp] theorem State.setCalib_meas : (s.setCalib n c).meas = s.meas := rfl
@[simp] theorem State.setCalib_refm : (s.setCalib n c).refm = s.refm := rfl
@[simp] theorem State.setCalib_srv : (s.setCalib n c).srv = s.srv := rfl
@[simp] theorem State.setCalib_pcr : (s.setCalib n c).pcr = s.pcr := rfl
@[simp] theorem State.setCalib_net : (s.setCalib n c).net = s.net := rfl
@[simp] theorem State.setCalib_arr : (s.setCalib n c).arr = s.arr := rfl
@[simp] theorem State.rd_setCalib (a : Nat) : (s.setCalib n c).rd a = s.rd a := rfl
@[simp] theorem State.val_setCalib (a : Nat) : (s.setCalib n c).val a = s.val a := rfl
@[simp] theorem State.get_setCalib (f : Fld) : (s.setCalib n c).get f = s.get f := rfl
@[simp] theorem State.bit_setCalib (f : Fld) : (s.setCalib n c).bit f = s.bit f := rfl

end

/-! ### setSlot -/

section
variable (s : State) (n : Nat) (x : RefSlot)

@[simp] theorem State.setSlot_pending : (s.setSlot n x).pending = s.pending := rfl
@[simp] theorem State.setSlot_regs : (s.setSlot n x).regs = s.regs := rfl
@[simp] theorem State.setSlot_raised : (s.setSlot n x).raised = s.raised := rfl
@[simp] theorem State.setSlot_draws : (s.setSlot n x).draws = s.draws := rfl
@[simp] theorem State.setSlot_tally : (s.setSlot n x).tally = s.tally := rfl
@[simp] theorem State.setSlot_evt : (s.setSlot n x).evt = s.evt := rfl
@[simp] theorem State.setSlot_obs : (s.setSlot n x).obs = s.obs := rfl
@[simp] theorem State.setSlot_hif : (s.setSlot n x).hif = s.hif := rfl
@[simp] theorem State.setSlot_pwr : (s.setSlot n x).pwr = s.pwr := rfl
@[simp] theorem State.setSlot_mode : (s.setSlot n x).mode = s.mode := rfl
@[simp] theorem State.setSlot_grd : (s.setSlot n x).grd = s.grd := rfl
@[simp] theorem State.setSlot_ldg : (s.setSlot n x).ldg = s.ldg := rfl
@[simp] theorem State.setSlot_arms : (s.setSlot n x).arms = s.arms := rfl
@[simp] theorem State.setSlot_str : (s.setSlot n x).str = s.str := rfl
@[simp] theorem State.setSlot_tb : (s.setSlot n x).tb = s.tb := rfl
@[simp] theorem State.setSlot_vc : (s.setSlot n x).vc = s.vc := rfl
@[simp] theorem State.setSlot_meas : (s.setSlot n x).meas = s.meas := rfl
@[simp] theorem State.setSlot_cal : (s.setSlot n x).cal = s.cal := rfl
@[simp] theorem State.setSlot_srv : (s.setSlot n x).srv = s.srv := rfl
@[simp] theorem State.setSlot_pcr : (s.setSlot n x).pcr = s.pcr := rfl
@[simp] theorem State.setSlot_net : (s.setSlot n x).net = s.net := rfl
@[simp] theorem State.setSlot_arr : (s.setSlot n x).arr = s.arr := rfl
@[simp] theorem State.rd_setSlot (a : Nat) : (s.setSlot n x).rd a = s.rd a := rfl
@[simp] theorem State.val_setSlot (a : Nat) : (s.setSlot n x).val a = s.val a := rfl
@[simp] theorem State.get_setSlot (f : Fld) : (s.setSlot n x).get f = s.get f := rfl
@[simp] theorem State.bit_setSlot (f : Fld) : (s.setSlot n x).bit f = s.bit f := rfl

end

/-! ### setUart -/

section
variable (s : State) (n : Nat) (u : Uart)

@[simp] theorem State.setUart_pending : (s.setUart n u).pending = s.pending := rfl
@[simp] theorem State.setUart_regs : (s.setUart n u).regs = s.regs := rfl
@[simp] theorem State.setUart_raised : (s.setUart n u).raised = s.raised := rfl
@[simp] theorem State.setUart_draws : (s.setUart n u).draws = s.draws := rfl
@[simp] theorem State.setUart_tally : (s.setUart n u).tally = s.tally := rfl
@[simp] theorem State.setUart_evt : (s.setUart n u).evt = s.evt := rfl
@[simp] theorem State.setUart_obs : (s.setUart n u).obs = s.obs := rfl
@[simp] theorem State.setUart_hif : (s.setUart n u).hif = s.hif := rfl
@[simp] theorem State.setUart_pwr : (s.setUart n u).pwr = s.pwr := rfl
@[simp] theorem State.setUart_mode : (s.setUart n u).mode = s.mode := rfl
@[simp] theorem State.setUart_grd : (s.setUart n u).grd = s.grd := rfl
@[simp] theorem State.setUart_ldg : (s.setUart n u).ldg = s.ldg := rfl
@[simp] theorem State.setUart_arms : (s.setUart n u).arms = s.arms := rfl
@[simp] theorem State.setUart_str : (s.setUart n u).str = s.str := rfl
@[simp] theorem State.setUart_tb : (s.setUart n u).tb = s.tb := rfl
@[simp] theorem State.setUart_vc : (s.setUart n u).vc = s.vc := rfl
@[simp] theorem State.setUart_meas : (s.setUart n u).meas = s.meas := rfl
@[simp] theorem State.setUart_cal : (s.setUart n u).cal = s.cal := rfl
@[simp] theorem State.setUart_srv : (s.setUart n u).srv = s.srv := rfl
@[simp] theorem State.setUart_pcr : (s.setUart n u).pcr = s.pcr := rfl
@[simp] theorem State.setUart_net : (s.setUart n u).net = s.net := rfl
@[simp] theorem State.setUart_arr : (s.setUart n u).arr = s.arr := rfl
@[simp] theorem State.rd_setUart (a : Nat) : (s.setUart n u).rd a = s.rd a := rfl
@[simp] theorem State.val_setUart (a : Nat) : (s.setUart n u).val a = s.val a := rfl
@[simp] theorem State.get_setUart (f : Fld) : (s.setUart n u).get f = s.get f := rfl
@[simp] theorem State.bit_setUart (f : Fld) : (s.setUart n u).bit f = s.bit f := rfl

end

/-! ### setOut -/

section
variable (s : State) (n : Nat) (o : OutState)

@[simp] theorem State.setOut_pending : (s.setOut n o).pending = s.pending := rfl
@[simp] theorem State.setOut_regs : (s.setOut n o).regs = s.regs := rfl
@[simp] theorem State.setOut_raised : (s.setOut n o).raised = s.raised := rfl
@[simp] theorem State.setOut_draws : (s.setOut n o).draws = s.draws := rfl
@[simp] theorem State.setOut_tally : (s.setOut n o).tally = s.tally := rfl
@[simp] theorem State.setOut_evt : (s.setOut n o).evt = s.evt := rfl
@[simp] theorem State.setOut_obs : (s.setOut n o).obs = s.obs := rfl
@[simp] theorem State.setOut_hif : (s.setOut n o).hif = s.hif := rfl
@[simp] theorem State.setOut_pwr : (s.setOut n o).pwr = s.pwr := rfl
@[simp] theorem State.setOut_mode : (s.setOut n o).mode = s.mode := rfl
@[simp] theorem State.setOut_grd : (s.setOut n o).grd = s.grd := rfl
@[simp] theorem State.setOut_ldg : (s.setOut n o).ldg = s.ldg := rfl
@[simp] theorem State.setOut_arms : (s.setOut n o).arms = s.arms := rfl
@[simp] theorem State.setOut_str : (s.setOut n o).str = s.str := rfl
@[simp] theorem State.setOut_tb : (s.setOut n o).tb = s.tb := rfl
@[simp] theorem State.setOut_vc : (s.setOut n o).vc = s.vc := rfl
@[simp] theorem State.setOut_meas : (s.setOut n o).meas = s.meas := rfl
@[simp] theorem State.setOut_cal : (s.setOut n o).cal = s.cal := rfl
@[simp] theorem State.setOut_refm : (s.setOut n o).refm = s.refm := rfl
@[simp] theorem State.setOut_srv : (s.setOut n o).srv = s.srv := rfl
@[simp] theorem State.setOut_net : (s.setOut n o).net = s.net := rfl
@[simp] theorem State.setOut_arr : (s.setOut n o).arr = s.arr := rfl
@[simp] theorem State.rd_setOut (a : Nat) : (s.setOut n o).rd a = s.rd a := rfl
@[simp] theorem State.val_setOut (a : Nat) : (s.setOut n o).val a = s.val a := rfl
@[simp] theorem State.get_setOut (f : Fld) : (s.setOut n o).get f = s.get f := rfl
@[simp] theorem State.bit_setOut (f : Fld) : (s.setOut n o).bit f = s.bit f := rfl

end

/-! ### setSource -/

section
variable (s : State) (n : Nat) (g : GuardSource)

@[simp] theorem State.setSource_pending : (s.setSource n g).pending = s.pending := rfl
@[simp] theorem State.setSource_regs : (s.setSource n g).regs = s.regs := rfl
@[simp] theorem State.setSource_raised : (s.setSource n g).raised = s.raised := rfl
@[simp] theorem State.setSource_draws : (s.setSource n g).draws = s.draws := rfl
@[simp] theorem State.setSource_tally : (s.setSource n g).tally = s.tally := rfl
@[simp] theorem State.setSource_evt : (s.setSource n g).evt = s.evt := rfl
@[simp] theorem State.setSource_obs : (s.setSource n g).obs = s.obs := rfl
@[simp] theorem State.setSource_hif : (s.setSource n g).hif = s.hif := rfl
@[simp] theorem State.setSource_pwr : (s.setSource n g).pwr = s.pwr := rfl
@[simp] theorem State.setSource_mode : (s.setSource n g).mode = s.mode := rfl
@[simp] theorem State.setSource_ldg : (s.setSource n g).ldg = s.ldg := rfl
@[simp] theorem State.setSource_arms : (s.setSource n g).arms = s.arms := rfl
@[simp] theorem State.setSource_str : (s.setSource n g).str = s.str := rfl
@[simp] theorem State.setSource_tb : (s.setSource n g).tb = s.tb := rfl
@[simp] theorem State.setSource_vc : (s.setSource n g).vc = s.vc := rfl
@[simp] theorem State.setSource_meas : (s.setSource n g).meas = s.meas := rfl
@[simp] theorem State.setSource_cal : (s.setSource n g).cal = s.cal := rfl
@[simp] theorem State.setSource_refm : (s.setSource n g).refm = s.refm := rfl
@[simp] theorem State.setSource_srv : (s.setSource n g).srv = s.srv := rfl
@[simp] theorem State.setSource_pcr : (s.setSource n g).pcr = s.pcr := rfl
@[simp] theorem State.setSource_net : (s.setSource n g).net = s.net := rfl
@[simp] theorem State.setSource_arr : (s.setSource n g).arr = s.arr := rfl
@[simp] theorem State.rd_setSource (a : Nat) : (s.setSource n g).rd a = s.rd a := rfl
@[simp] theorem State.val_setSource (a : Nat) : (s.setSource n g).val a = s.val a := rfl
@[simp] theorem State.get_setSource (f : Fld) : (s.setSource n g).get f = s.get f := rfl
@[simp] theorem State.bit_setSource (f : Fld) : (s.setSource n g).bit f = s.bit f := rfl

end

/-! ### setSection -/

section
variable (s : State) (d : Nat) (x : RetSection)

@[simp] theorem State.setSection_pending : (s.setSection d x).pending = s.pending := rfl
@[simp] theorem State.setSection_regs : (s.setSection d x).regs = s.regs := rfl
@[simp] theorem State.setSection_raised : (s.setSection d x).raised = s.raised := rfl
@[simp] theorem State.setSection_draws : (s.setSection d x).draws = s.draws := rfl
@[simp] theorem State.setSection_tally : (s.setSection d x).tally = s.tally := rfl
@[simp] theorem State.setSection_evt : (s.setSection d x).evt = s.evt := rfl
@[simp] theorem State.setSection_obs : (s.setSection d x).obs = s.obs := rfl
@[simp] theorem State.setSection_hif : (s.setSection d x).hif = s.hif := rfl
@[simp] theorem State.setSection_mode : (s.setSection d x).mode = s.mode := rfl
@[simp] theorem State.setSection_grd : (s.setSection d x).grd = s.grd := rfl
@[simp] theorem State.setSection_ldg : (s.setSection d x).ldg = s.ldg := rfl
@[simp] theorem State.setSection_arms : (s.setSection d x).arms = s.arms := rfl
@[simp] theorem State.setSection_str : (s.setSection d x).str = s.str := rfl
@[simp] theorem State.setSection_tb : (s.setSection d x).tb = s.tb := rfl
@[simp] theorem State.setSection_vc : (s.setSection d x).vc = s.vc := rfl
@[simp] theorem State.setSection_meas : (s.setSection d x).meas = s.meas := rfl
@[simp] theorem State.setSection_cal : (s.setSection d x).cal = s.cal := rfl
@[simp] theorem State.setSection_refm : (s.setSection d x).refm = s.refm := rfl
@[simp] theorem State.setSection_srv : (s.setSection d x).srv = s.srv := rfl
@[simp] theorem State.setSection_pcr : (s.setSection d x).pcr = s.pcr := rfl
@[simp] theorem State.setSection_net : (s.setSection d x).net = s.net := rfl
@[simp] theorem State.setSection_arr : (s.setSection d x).arr = s.arr := rfl
@[simp] theorem State.rd_setSection (a : Nat) : (s.setSection d x).rd a = s.rd a := rfl
@[simp] theorem State.val_setSection (a : Nat) : (s.setSection d x).val a = s.val a := rfl
@[simp] theorem State.get_setSection (f : Fld) : (s.setSection d x).get f = s.get f := rfl
@[simp] theorem State.bit_setSection (f : Fld) : (s.setSection d x).bit f = s.bit f := rfl

end

/-! ### setEth -/

section
variable (s : State) (p : Nat) (e : EthPort)

@[simp] theorem State.setEth_pending : (s.setEth p e).pending = s.pending := rfl
@[simp] theorem State.setEth_regs : (s.setEth p e).regs = s.regs := rfl
@[simp] theorem State.setEth_raised : (s.setEth p e).raised = s.raised := rfl
@[simp] theorem State.setEth_draws : (s.setEth p e).draws = s.draws := rfl
@[simp] theorem State.setEth_tally : (s.setEth p e).tally = s.tally := rfl
@[simp] theorem State.setEth_evt : (s.setEth p e).evt = s.evt := rfl
@[simp] theorem State.setEth_obs : (s.setEth p e).obs = s.obs := rfl
@[simp] theorem State.setEth_hif : (s.setEth p e).hif = s.hif := rfl
@[simp] theorem State.setEth_pwr : (s.setEth p e).pwr = s.pwr := rfl
@[simp] theorem State.setEth_mode : (s.setEth p e).mode = s.mode := rfl
@[simp] theorem State.setEth_grd : (s.setEth p e).grd = s.grd := rfl
@[simp] theorem State.setEth_ldg : (s.setEth p e).ldg = s.ldg := rfl
@[simp] theorem State.setEth_arms : (s.setEth p e).arms = s.arms := rfl
@[simp] theorem State.setEth_str : (s.setEth p e).str = s.str := rfl
@[simp] theorem State.setEth_tb : (s.setEth p e).tb = s.tb := rfl
@[simp] theorem State.setEth_vc : (s.setEth p e).vc = s.vc := rfl
@[simp] theorem State.setEth_meas : (s.setEth p e).meas = s.meas := rfl
@[simp] theorem State.setEth_cal : (s.setEth p e).cal = s.cal := rfl
@[simp] theorem State.setEth_refm : (s.setEth p e).refm = s.refm := rfl
@[simp] theorem State.setEth_srv : (s.setEth p e).srv = s.srv := rfl
@[simp] theorem State.setEth_pcr : (s.setEth p e).pcr = s.pcr := rfl
@[simp] theorem State.setEth_arr : (s.setEth p e).arr = s.arr := rfl
@[simp] theorem State.rd_setEth (a : Nat) : (s.setEth p e).rd a = s.rd a := rfl
@[simp] theorem State.val_setEth (a : Nat) : (s.setEth p e).val a = s.val a := rfl
@[simp] theorem State.get_setEth (f : Fld) : (s.setEth p e).get f = s.get f := rfl
@[simp] theorem State.bit_setEth (f : Fld) : (s.setEth p e).bit f = s.bit f := rfl

end

/-! ### setLat -/

section
variable (s : State) (l : List (Nat × LatEntry))

@[simp] theorem State.setLat_pending : (s.setLat l).pending = s.pending := rfl
@[simp] theorem State.setLat_regs : (s.setLat l).regs = s.regs := rfl
@[simp] theorem State.setLat_raised : (s.setLat l).raised = s.raised := rfl
@[simp] theorem State.setLat_draws : (s.setLat l).draws = s.draws := rfl
@[simp] theorem State.setLat_tally : (s.setLat l).tally = s.tally := rfl
@[simp] theorem State.setLat_evt : (s.setLat l).evt = s.evt := rfl
@[simp] theorem State.setLat_obs : (s.setLat l).obs = s.obs := rfl
@[simp] theorem State.setLat_hif : (s.setLat l).hif = s.hif := rfl
@[simp] theorem State.setLat_pwr : (s.setLat l).pwr = s.pwr := rfl
@[simp] theorem State.setLat_mode : (s.setLat l).mode = s.mode := rfl
@[simp] theorem State.setLat_grd : (s.setLat l).grd = s.grd := rfl
@[simp] theorem State.setLat_ldg : (s.setLat l).ldg = s.ldg := rfl
@[simp] theorem State.setLat_arms : (s.setLat l).arms = s.arms := rfl
@[simp] theorem State.setLat_str : (s.setLat l).str = s.str := rfl
@[simp] theorem State.setLat_tb : (s.setLat l).tb = s.tb := rfl
@[simp] theorem State.setLat_vc : (s.setLat l).vc = s.vc := rfl
@[simp] theorem State.setLat_meas : (s.setLat l).meas = s.meas := rfl
@[simp] theorem State.setLat_cal : (s.setLat l).cal = s.cal := rfl
@[simp] theorem State.setLat_refm : (s.setLat l).refm = s.refm := rfl
@[simp] theorem State.setLat_srv : (s.setLat l).srv = s.srv := rfl
@[simp] theorem State.setLat_pcr : (s.setLat l).pcr = s.pcr := rfl
@[simp] theorem State.setLat_arr : (s.setLat l).arr = s.arr := rfl
@[simp] theorem State.rd_setLat (a : Nat) : (s.setLat l).rd a = s.rd a := rfl
@[simp] theorem State.val_setLat (a : Nat) : (s.setLat l).val a = s.val a := rfl
@[simp] theorem State.get_setLat (f : Fld) : (s.setLat l).get f = s.get f := rfl
@[simp] theorem State.bit_setLat (f : Fld) : (s.setLat l).bit f = s.bit f := rfl

end

/-! ### setAdm -/

section
variable (s : State) (x : AdmState)

@[simp] theorem State.setAdm_pending : (s.setAdm x).pending = s.pending := rfl
@[simp] theorem State.setAdm_regs : (s.setAdm x).regs = s.regs := rfl
@[simp] theorem State.setAdm_raised : (s.setAdm x).raised = s.raised := rfl
@[simp] theorem State.setAdm_draws : (s.setAdm x).draws = s.draws := rfl
@[simp] theorem State.setAdm_tally : (s.setAdm x).tally = s.tally := rfl
@[simp] theorem State.setAdm_evt : (s.setAdm x).evt = s.evt := rfl
@[simp] theorem State.setAdm_obs : (s.setAdm x).obs = s.obs := rfl
@[simp] theorem State.setAdm_hif : (s.setAdm x).hif = s.hif := rfl
@[simp] theorem State.setAdm_pwr : (s.setAdm x).pwr = s.pwr := rfl
@[simp] theorem State.setAdm_mode : (s.setAdm x).mode = s.mode := rfl
@[simp] theorem State.setAdm_grd : (s.setAdm x).grd = s.grd := rfl
@[simp] theorem State.setAdm_ldg : (s.setAdm x).ldg = s.ldg := rfl
@[simp] theorem State.setAdm_arms : (s.setAdm x).arms = s.arms := rfl
@[simp] theorem State.setAdm_str : (s.setAdm x).str = s.str := rfl
@[simp] theorem State.setAdm_tb : (s.setAdm x).tb = s.tb := rfl
@[simp] theorem State.setAdm_vc : (s.setAdm x).vc = s.vc := rfl
@[simp] theorem State.setAdm_meas : (s.setAdm x).meas = s.meas := rfl
@[simp] theorem State.setAdm_cal : (s.setAdm x).cal = s.cal := rfl
@[simp] theorem State.setAdm_refm : (s.setAdm x).refm = s.refm := rfl
@[simp] theorem State.setAdm_srv : (s.setAdm x).srv = s.srv := rfl
@[simp] theorem State.setAdm_pcr : (s.setAdm x).pcr = s.pcr := rfl
@[simp] theorem State.setAdm_arr : (s.setAdm x).arr = s.arr := rfl
@[simp] theorem State.rd_setAdm (a : Nat) : (s.setAdm x).rd a = s.rd a := rfl
@[simp] theorem State.val_setAdm (a : Nat) : (s.setAdm x).val a = s.val a := rfl
@[simp] theorem State.get_setAdm (f : Fld) : (s.setAdm x).get f = s.get f := rfl
@[simp] theorem State.bit_setAdm (f : Fld) : (s.setAdm x).bit f = s.bit f := rfl

end

/-! ### setPipe -/

section
variable (s : State) (x : PipeState)

@[simp] theorem State.setPipe_pending : (s.setPipe x).pending = s.pending := rfl
@[simp] theorem State.setPipe_regs : (s.setPipe x).regs = s.regs := rfl
@[simp] theorem State.setPipe_raised : (s.setPipe x).raised = s.raised := rfl
@[simp] theorem State.setPipe_draws : (s.setPipe x).draws = s.draws := rfl
@[simp] theorem State.setPipe_tally : (s.setPipe x).tally = s.tally := rfl
@[simp] theorem State.setPipe_evt : (s.setPipe x).evt = s.evt := rfl
@[simp] theorem State.setPipe_obs : (s.setPipe x).obs = s.obs := rfl
@[simp] theorem State.setPipe_hif : (s.setPipe x).hif = s.hif := rfl
@[simp] theorem State.setPipe_pwr : (s.setPipe x).pwr = s.pwr := rfl
@[simp] theorem State.setPipe_mode : (s.setPipe x).mode = s.mode := rfl
@[simp] theorem State.setPipe_grd : (s.setPipe x).grd = s.grd := rfl
@[simp] theorem State.setPipe_ldg : (s.setPipe x).ldg = s.ldg := rfl
@[simp] theorem State.setPipe_arms : (s.setPipe x).arms = s.arms := rfl
@[simp] theorem State.setPipe_str : (s.setPipe x).str = s.str := rfl
@[simp] theorem State.setPipe_tb : (s.setPipe x).tb = s.tb := rfl
@[simp] theorem State.setPipe_vc : (s.setPipe x).vc = s.vc := rfl
@[simp] theorem State.setPipe_meas : (s.setPipe x).meas = s.meas := rfl
@[simp] theorem State.setPipe_cal : (s.setPipe x).cal = s.cal := rfl
@[simp] theorem State.setPipe_refm : (s.setPipe x).refm = s.refm := rfl
@[simp] theorem State.setPipe_srv : (s.setPipe x).srv = s.srv := rfl
@[simp] theorem State.setPipe_pcr : (s.setPipe x).pcr = s.pcr := rfl
@[simp] theorem State.setPipe_arr : (s.setPipe x).arr = s.arr := rfl
@[simp] theorem State.rd_setPipe (a : Nat) : (s.setPipe x).rd a = s.rd a := rfl
@[simp] theorem State.val_setPipe (a : Nat) : (s.setPipe x).val a = s.val a := rfl
@[simp] theorem State.get_setPipe (f : Fld) : (s.setPipe x).get f = s.get f := rfl
@[simp] theorem State.bit_setPipe (f : Fld) : (s.setPipe x).bit f = s.bit f := rfl

end

/-! ### setCtxs -/

section
variable (s : State) (l : List Ctx)

@[simp] theorem State.setCtxs_pending : (s.setCtxs l).pending = s.pending := rfl
@[simp] theorem State.setCtxs_regs : (s.setCtxs l).regs = s.regs := rfl
@[simp] theorem State.setCtxs_raised : (s.setCtxs l).raised = s.raised := rfl
@[simp] theorem State.setCtxs_draws : (s.setCtxs l).draws = s.draws := rfl
@[simp] theorem State.setCtxs_tally : (s.setCtxs l).tally = s.tally := rfl
@[simp] theorem State.setCtxs_evt : (s.setCtxs l).evt = s.evt := rfl
@[simp] theorem State.setCtxs_obs : (s.setCtxs l).obs = s.obs := rfl
@[simp] theorem State.setCtxs_hif : (s.setCtxs l).hif = s.hif := rfl
@[simp] theorem State.setCtxs_pwr : (s.setCtxs l).pwr = s.pwr := rfl
@[simp] theorem State.setCtxs_mode : (s.setCtxs l).mode = s.mode := rfl
@[simp] theorem State.setCtxs_grd : (s.setCtxs l).grd = s.grd := rfl
@[simp] theorem State.setCtxs_ldg : (s.setCtxs l).ldg = s.ldg := rfl
@[simp] theorem State.setCtxs_arms : (s.setCtxs l).arms = s.arms := rfl
@[simp] theorem State.setCtxs_str : (s.setCtxs l).str = s.str := rfl
@[simp] theorem State.setCtxs_tb : (s.setCtxs l).tb = s.tb := rfl
@[simp] theorem State.setCtxs_vc : (s.setCtxs l).vc = s.vc := rfl
@[simp] theorem State.setCtxs_meas : (s.setCtxs l).meas = s.meas := rfl
@[simp] theorem State.setCtxs_cal : (s.setCtxs l).cal = s.cal := rfl
@[simp] theorem State.setCtxs_refm : (s.setCtxs l).refm = s.refm := rfl
@[simp] theorem State.setCtxs_srv : (s.setCtxs l).srv = s.srv := rfl
@[simp] theorem State.setCtxs_pcr : (s.setCtxs l).pcr = s.pcr := rfl
@[simp] theorem State.setCtxs_arr : (s.setCtxs l).arr = s.arr := rfl
@[simp] theorem State.rd_setCtxs (a : Nat) : (s.setCtxs l).rd a = s.rd a := rfl
@[simp] theorem State.val_setCtxs (a : Nat) : (s.setCtxs l).val a = s.val a := rfl
@[simp] theorem State.get_setCtxs (f : Fld) : (s.setCtxs l).get f = s.get f := rfl
@[simp] theorem State.bit_setCtxs (f : Fld) : (s.setCtxs l).bit f = s.bit f := rfl

end

/-! ### setNts -/

section
variable (s : State) (x : NtsState)

@[simp] theorem State.setNts_pending : (s.setNts x).pending = s.pending := rfl
@[simp] theorem State.setNts_regs : (s.setNts x).regs = s.regs := rfl
@[simp] theorem State.setNts_raised : (s.setNts x).raised = s.raised := rfl
@[simp] theorem State.setNts_draws : (s.setNts x).draws = s.draws := rfl
@[simp] theorem State.setNts_tally : (s.setNts x).tally = s.tally := rfl
@[simp] theorem State.setNts_evt : (s.setNts x).evt = s.evt := rfl
@[simp] theorem State.setNts_obs : (s.setNts x).obs = s.obs := rfl
@[simp] theorem State.setNts_hif : (s.setNts x).hif = s.hif := rfl
@[simp] theorem State.setNts_pwr : (s.setNts x).pwr = s.pwr := rfl
@[simp] theorem State.setNts_mode : (s.setNts x).mode = s.mode := rfl
@[simp] theorem State.setNts_grd : (s.setNts x).grd = s.grd := rfl
@[simp] theorem State.setNts_ldg : (s.setNts x).ldg = s.ldg := rfl
@[simp] theorem State.setNts_arms : (s.setNts x).arms = s.arms := rfl
@[simp] theorem State.setNts_str : (s.setNts x).str = s.str := rfl
@[simp] theorem State.setNts_tb : (s.setNts x).tb = s.tb := rfl
@[simp] theorem State.setNts_vc : (s.setNts x).vc = s.vc := rfl
@[simp] theorem State.setNts_meas : (s.setNts x).meas = s.meas := rfl
@[simp] theorem State.setNts_cal : (s.setNts x).cal = s.cal := rfl
@[simp] theorem State.setNts_refm : (s.setNts x).refm = s.refm := rfl
@[simp] theorem State.setNts_srv : (s.setNts x).srv = s.srv := rfl
@[simp] theorem State.setNts_pcr : (s.setNts x).pcr = s.pcr := rfl
@[simp] theorem State.setNts_arr : (s.setNts x).arr = s.arr := rfl
@[simp] theorem State.rd_setNts (a : Nat) : (s.setNts x).rd a = s.rd a := rfl
@[simp] theorem State.val_setNts (a : Nat) : (s.setNts x).val a = s.val a := rfl
@[simp] theorem State.get_setNts (f : Fld) : (s.setNts x).get f = s.get f := rfl
@[simp] theorem State.bit_setNts (f : Fld) : (s.setNts x).bit f = s.bit f := rfl

end

/-! ### setPtp -/

section
variable (s : State) (x : PtpState)

@[simp] theorem State.setPtp_pending : (s.setPtp x).pending = s.pending := rfl
@[simp] theorem State.setPtp_regs : (s.setPtp x).regs = s.regs := rfl
@[simp] theorem State.setPtp_raised : (s.setPtp x).raised = s.raised := rfl
@[simp] theorem State.setPtp_draws : (s.setPtp x).draws = s.draws := rfl
@[simp] theorem State.setPtp_tally : (s.setPtp x).tally = s.tally := rfl
@[simp] theorem State.setPtp_evt : (s.setPtp x).evt = s.evt := rfl
@[simp] theorem State.setPtp_obs : (s.setPtp x).obs = s.obs := rfl
@[simp] theorem State.setPtp_hif : (s.setPtp x).hif = s.hif := rfl
@[simp] theorem State.setPtp_pwr : (s.setPtp x).pwr = s.pwr := rfl
@[simp] theorem State.setPtp_mode : (s.setPtp x).mode = s.mode := rfl
@[simp] theorem State.setPtp_grd : (s.setPtp x).grd = s.grd := rfl
@[simp] theorem State.setPtp_ldg : (s.setPtp x).ldg = s.ldg := rfl
@[simp] theorem State.setPtp_arms : (s.setPtp x).arms = s.arms := rfl
@[simp] theorem State.setPtp_str : (s.setPtp x).str = s.str := rfl
@[simp] theorem State.setPtp_tb : (s.setPtp x).tb = s.tb := rfl
@[simp] theorem State.setPtp_vc : (s.setPtp x).vc = s.vc := rfl
@[simp] theorem State.setPtp_meas : (s.setPtp x).meas = s.meas := rfl
@[simp] theorem State.setPtp_cal : (s.setPtp x).cal = s.cal := rfl
@[simp] theorem State.setPtp_refm : (s.setPtp x).refm = s.refm := rfl
@[simp] theorem State.setPtp_srv : (s.setPtp x).srv = s.srv := rfl
@[simp] theorem State.setPtp_pcr : (s.setPtp x).pcr = s.pcr := rfl
@[simp] theorem State.setPtp_arr : (s.setPtp x).arr = s.arr := rfl
@[simp] theorem State.rd_setPtp (a : Nat) : (s.setPtp x).rd a = s.rd a := rfl
@[simp] theorem State.val_setPtp (a : Nat) : (s.setPtp x).val a = s.val a := rfl
@[simp] theorem State.get_setPtp (f : Fld) : (s.setPtp x).get f = s.get f := rfl
@[simp] theorem State.bit_setPtp (f : Fld) : (s.setPtp x).bit f = s.bit f := rfl

end

/-! ### setPtpPort -/

section
variable (s : State) (p : Nat) (x : PtpPort)

@[simp] theorem State.setPtpPort_pending : (s.setPtpPort p x).pending = s.pending := rfl
@[simp] theorem State.setPtpPort_regs : (s.setPtpPort p x).regs = s.regs := rfl
@[simp] theorem State.setPtpPort_raised : (s.setPtpPort p x).raised = s.raised := rfl
@[simp] theorem State.setPtpPort_draws : (s.setPtpPort p x).draws = s.draws := rfl
@[simp] theorem State.setPtpPort_tally : (s.setPtpPort p x).tally = s.tally := rfl
@[simp] theorem State.setPtpPort_evt : (s.setPtpPort p x).evt = s.evt := rfl
@[simp] theorem State.setPtpPort_obs : (s.setPtpPort p x).obs = s.obs := rfl
@[simp] theorem State.setPtpPort_hif : (s.setPtpPort p x).hif = s.hif := rfl
@[simp] theorem State.setPtpPort_pwr : (s.setPtpPort p x).pwr = s.pwr := rfl
@[simp] theorem State.setPtpPort_mode : (s.setPtpPort p x).mode = s.mode := rfl
@[simp] theorem State.setPtpPort_grd : (s.setPtpPort p x).grd = s.grd := rfl
@[simp] theorem State.setPtpPort_ldg : (s.setPtpPort p x).ldg = s.ldg := rfl
@[simp] theorem State.setPtpPort_arms : (s.setPtpPort p x).arms = s.arms := rfl
@[simp] theorem State.setPtpPort_str : (s.setPtpPort p x).str = s.str := rfl
@[simp] theorem State.setPtpPort_tb : (s.setPtpPort p x).tb = s.tb := rfl
@[simp] theorem State.setPtpPort_vc : (s.setPtpPort p x).vc = s.vc := rfl
@[simp] theorem State.setPtpPort_meas : (s.setPtpPort p x).meas = s.meas := rfl
@[simp] theorem State.setPtpPort_cal : (s.setPtpPort p x).cal = s.cal := rfl
@[simp] theorem State.setPtpPort_refm : (s.setPtpPort p x).refm = s.refm := rfl
@[simp] theorem State.setPtpPort_srv : (s.setPtpPort p x).srv = s.srv := rfl
@[simp] theorem State.setPtpPort_pcr : (s.setPtpPort p x).pcr = s.pcr := rfl
@[simp] theorem State.setPtpPort_arr : (s.setPtpPort p x).arr = s.arr := rfl
@[simp] theorem State.rd_setPtpPort (a : Nat) : (s.setPtpPort p x).rd a = s.rd a := rfl
@[simp] theorem State.val_setPtpPort (a : Nat) : (s.setPtpPort p x).val a = s.val a := rfl
@[simp] theorem State.get_setPtpPort (f : Fld) : (s.setPtpPort p x).get f = s.get f := rfl
@[simp] theorem State.bit_setPtpPort (f : Fld) : (s.setPtpPort p x).bit f = s.bit f := rfl

end

/-! ### setTile -/

section
variable (s : State) (t : Nat) (x : Tile)

@[simp] theorem State.setTile_pending : (s.setTile t x).pending = s.pending := rfl
@[simp] theorem State.setTile_regs : (s.setTile t x).regs = s.regs := rfl
@[simp] theorem State.setTile_raised : (s.setTile t x).raised = s.raised := rfl
@[simp] theorem State.setTile_draws : (s.setTile t x).draws = s.draws := rfl
@[simp] theorem State.setTile_tally : (s.setTile t x).tally = s.tally := rfl
@[simp] theorem State.setTile_evt : (s.setTile t x).evt = s.evt := rfl
@[simp] theorem State.setTile_obs : (s.setTile t x).obs = s.obs := rfl
@[simp] theorem State.setTile_hif : (s.setTile t x).hif = s.hif := rfl
@[simp] theorem State.setTile_pwr : (s.setTile t x).pwr = s.pwr := rfl
@[simp] theorem State.setTile_mode : (s.setTile t x).mode = s.mode := rfl
@[simp] theorem State.setTile_grd : (s.setTile t x).grd = s.grd := rfl
@[simp] theorem State.setTile_ldg : (s.setTile t x).ldg = s.ldg := rfl
@[simp] theorem State.setTile_arms : (s.setTile t x).arms = s.arms := rfl
@[simp] theorem State.setTile_str : (s.setTile t x).str = s.str := rfl
@[simp] theorem State.setTile_tb : (s.setTile t x).tb = s.tb := rfl
@[simp] theorem State.setTile_vc : (s.setTile t x).vc = s.vc := rfl
@[simp] theorem State.setTile_meas : (s.setTile t x).meas = s.meas := rfl
@[simp] theorem State.setTile_cal : (s.setTile t x).cal = s.cal := rfl
@[simp] theorem State.setTile_refm : (s.setTile t x).refm = s.refm := rfl
@[simp] theorem State.setTile_srv : (s.setTile t x).srv = s.srv := rfl
@[simp] theorem State.setTile_pcr : (s.setTile t x).pcr = s.pcr := rfl
@[simp] theorem State.setTile_net : (s.setTile t x).net = s.net := rfl
@[simp] theorem State.rd_setTile (a : Nat) : (s.setTile t x).rd a = s.rd a := rfl
@[simp] theorem State.val_setTile (a : Nat) : (s.setTile t x).val a = s.val a := rfl
@[simp] theorem State.get_setTile (f : Fld) : (s.setTile t x).get f = s.get f := rfl
@[simp] theorem State.bit_setTile (f : Fld) : (s.setTile t x).bit f = s.bit f := rfl

end

/-! ### setLoad -/

section
variable (s : State) (l : ImageLoad)

@[simp] theorem State.setLoad_pending : (s.setLoad l).pending = s.pending := rfl
@[simp] theorem State.setLoad_regs : (s.setLoad l).regs = s.regs := rfl
@[simp] theorem State.setLoad_raised : (s.setLoad l).raised = s.raised := rfl
@[simp] theorem State.setLoad_draws : (s.setLoad l).draws = s.draws := rfl
@[simp] theorem State.setLoad_tally : (s.setLoad l).tally = s.tally := rfl
@[simp] theorem State.setLoad_evt : (s.setLoad l).evt = s.evt := rfl
@[simp] theorem State.setLoad_obs : (s.setLoad l).obs = s.obs := rfl
@[simp] theorem State.setLoad_hif : (s.setLoad l).hif = s.hif := rfl
@[simp] theorem State.setLoad_pwr : (s.setLoad l).pwr = s.pwr := rfl
@[simp] theorem State.setLoad_mode : (s.setLoad l).mode = s.mode := rfl
@[simp] theorem State.setLoad_grd : (s.setLoad l).grd = s.grd := rfl
@[simp] theorem State.setLoad_ldg : (s.setLoad l).ldg = s.ldg := rfl
@[simp] theorem State.setLoad_arms : (s.setLoad l).arms = s.arms := rfl
@[simp] theorem State.setLoad_str : (s.setLoad l).str = s.str := rfl
@[simp] theorem State.setLoad_tb : (s.setLoad l).tb = s.tb := rfl
@[simp] theorem State.setLoad_vc : (s.setLoad l).vc = s.vc := rfl
@[simp] theorem State.setLoad_meas : (s.setLoad l).meas = s.meas := rfl
@[simp] theorem State.setLoad_cal : (s.setLoad l).cal = s.cal := rfl
@[simp] theorem State.setLoad_refm : (s.setLoad l).refm = s.refm := rfl
@[simp] theorem State.setLoad_srv : (s.setLoad l).srv = s.srv := rfl
@[simp] theorem State.setLoad_pcr : (s.setLoad l).pcr = s.pcr := rfl
@[simp] theorem State.setLoad_net : (s.setLoad l).net = s.net := rfl
@[simp] theorem State.rd_setLoad (a : Nat) : (s.setLoad l).rd a = s.rd a := rfl
@[simp] theorem State.val_setLoad (a : Nat) : (s.setLoad l).val a = s.val a := rfl
@[simp] theorem State.get_setLoad (f : Fld) : (s.setLoad l).get f = s.get f := rfl
@[simp] theorem State.bit_setLoad (f : Fld) : (s.setLoad l).bit f = s.bit f := rfl

end

/-! ### What a part reads after its own update -/

@[simp] theorem State.port_setPort_self (s : State) (p : HostPort) (x : PortState) : (s.setPort p x).port p = x := by
  cases p <;> rfl

theorem State.port_setPort_ne (s : State) {p q : HostPort} (h : q ≠ p) (x : PortState) :
    (s.setPort p x).port q = s.port q := by
  cases p <;> cases q <;> first | rfl | exact absurd rfl h

@[simp] theorem State.arming_setArming_self (s : State) (b : ArmBank) (x : Option Arming) :
    (s.setArming b x).arming b = x := by
  cases b <;> rfl

theorem State.arming_setArming_ne (s : State) {b c : ArmBank} (h : c ≠ b) (x : Option Arming) :
    (s.setArming b x).arming c = s.arming c := by
  cases b <;> cases c <;> first | rfl | exact absurd rfl h

@[simp] theorem State.face_setFace_self (s : State) (f : MainFace) (x : FaceReg) : (s.setFace f x).face f = x := by
  cases f <;> rfl

/-- A fixed-size list after one of its elements has been replaced. -/
theorem getD_setIfInBounds {α : Type} {n : Nat} (v : Vector α n) (i j : Nat) (x d : α) (h : i < n) :
    (v.setIfInBounds i x).getD j d = if j = i then x else v.getD j d := by
  by_cases e : j = i
  · subst e; simp [Vector.getD, h]
  · simp only [Vector.getD, if_neg e]
    by_cases hj : j < n
    · simp [hj, Ne.symm e]
    · simp [hj]

theorem State.chan_setChan (s : State) {n : Nat} (h : n < 8) (m : Nat) (c : Channel) :
    (s.setChan n c).chan m = if m = n then c else s.chan m := getD_setIfInBounds _ _ _ _ _ h

theorem State.calib_setCalib (s : State) {n : Nat} (h : n < 8) (m : Nat) (c : CalChannel) :
    (s.setCalib n c).calib m = if m = n then c else s.calib m := getD_setIfInBounds _ _ _ _ _ h

theorem State.slot_setSlot (s : State) {n : Nat} (h : n < 12) (m : Nat) (x : RefSlot) :
    (s.setSlot n x).slot m = if m = n then x else s.slot m := getD_setIfInBounds _ _ _ _ _ h

theorem State.uart_setUart (s : State) {n : Nat} (h : n < 2) (m : Nat) (u : Uart) :
    (s.setUart n u).refm.uarts.getD m {} = if m = n then u else s.refm.uarts.getD m {} :=
    getD_setIfInBounds _ _ _ _ _ h

theorem State.out_setOut (s : State) {n : Nat} (h : n < 12) (m : Nat) (o : OutState) :
    (s.setOut n o).out m = if m = n then o else s.out m := getD_setIfInBounds _ _ _ _ _ h

theorem State.source_setSource (s : State) {n : Nat} (h : n < 25) (m : Nat) (g : GuardSource) :
    (s.setSource n g).source m = if m = n then g else s.source m := getD_setIfInBounds _ _ _ _ _ h

theorem State.eth_setEth (s : State) {p : Nat} (h : p < 4) (q : Nat) (e : EthPort) :
    (s.setEth p e).eth q = if q = p then e else s.eth q := getD_setIfInBounds _ _ _ _ _ h

theorem State.ptp_setPtpPort (s : State) {p : Nat} (h : p < 4) (q : Nat) (x : PtpPort) :
    (s.setPtpPort p x).ptp q = if q = p then x else s.ptp q := getD_setIfInBounds _ _ _ _ _ h


end Sys2Proof.Machine
end

