-- ==== Sys2Proof/Laws/Ops.lean ====
section
/-! SUPPORT. What the shared operations can do, each said once: trace records, the end of an engine cycle, what follows an
effect, effects inside a domain, the event logic, register writes through the engine. -/

namespace Sys2Proof.Machine

/-! ### Applying a function for each element -/

@[simp] theorem State.each_nil {α : Type} (s : State) (f : α → State → State) : s.each [] f = s := rfl

@[simp] theorem State.each_cons {α : Type} (s : State) (a : α) (l : List α) (f : α → State → State) :
    s.each (a :: l) f = (f a s).each l f := rfl

/-- What every single application keeps, the whole of `each` keeps. -/
theorem State.each_keeps {α : Type} {P : State → Prop} {f : α → State → State} {l : List α}
    (h : ∀ a ∈ l, ∀ t, P t → P (f a t)) {s : State} (hs : P s) : P (s.each l f) := by
  induction l generalizing s with
  | nil => exact hs
  | cons a l ih => exact ih (fun b hb => h b (by simp [hb])) (h a (by simp) s hs)

@[simp] theorem State.when_true (s : State) (f : State → State) : s.when true f = f s := rfl
@[simp] theorem State.when_false (s : State) (f : State → State) : s.when false f = s := rfl
@[simp] theorem State.raiseIf_true (s : State) (e : EventId) : s.raiseIf true e = s.raise e := rfl
@[simp] theorem State.raiseIf_false (s : State) (e : EventId) : s.raiseIf false e = s := rfl

theorem State.inside_of {s : State} {d : Domain} {ok : Bool} (hd : s.up d = true) (ho : ok = true)
    (f : State → State) : s.inside d ok f = f s := by
  simp [State.inside, hd, ho]

theorem State.inside_down {s : State} {d : Domain} (h : s.up d = false) (ok : Bool) (f : State → State) :
    s.inside d ok f = s := by
  simp [State.inside, h]

theorem State.inside_unmet (s : State) (d : Domain) (f : State → State) : s.inside d false f = s := by
  simp [State.inside]

theorem State.inAon_of {s : State} {ok : Bool} (hd : s.pwr.started = true) (ho : ok = true) (f : State → State) :
    s.inAon ok f = f s := by
  simp [State.inAon, hd, ho]

/-! ### Trace records and the end of a cycle -/

/-- A trace record changes the trace port alone. -/
theorem State.trace_eq (s : State) (k : Nat) (b : List Word) : s.trace k b = { s with obs := (s.trace k b).obs } := by
  unfold State.trace
  split <;> rfl

/-- A list of trace records changes the trace port alone. -/
theorem State.each_trace_eq {α : Type} (l : List α) (f : α → State → State)
    (h : ∀ a t, f a t = { t with obs := (f a t).obs }) (s : State) :
    s.each l f = { s with obs := (s.each l f).obs } := by
  induction l generalizing s with
  | nil => rfl
  | cons a l ih => rw [State.each_cons, ih (f a s)]; rw [h a s]

theorem State.traceChanges_eq (b s : State) : b.traceChanges s = { s with obs := (b.traceChanges s).obs } := by
  unfold State.traceChanges
  have h1 : ∀ c : Bool, (if c then s.trace 4 [s.modeNow] else s) =
      { s with obs := (if c then s.trace 4 [s.modeNow] else s).obs } := by
    intro c; cases c
    · rfl
    · exact State.trace_eq _ _ _
  generalize hs1 : (if (s.traces 4 && b.modeNow != s.modeNow) = true then s.trace 4 [s.modeNow] else s) = s1
  have h2 := h1 (s.traces 4 && b.modeNow != s.modeNow)
  rw [hs1] at h2
  have h3 : ∀ t : State, t = { s with obs := t.obs } → ∀ u : State, u = { t with obs := u.obs } →
      u = { s with obs := u.obs } := by
    intro t ht u hu
    rw [ht] at hu
    exact hu
  dsimp only
  split
  · refine h3 s1 h2 _ (State.each_trace_eq _ _ ?_ _)
    intro x t
    split
    · rfl
    · exact State.trace_eq _ _ _
  · exact h2

/-- The events of a cycle reach the event logic and the trace port; none is left raised (R720). -/
theorem State.commitEvents_eq (s : State) :
    s.commitEvents = { s with raised := [], evt := s.commitEvents.evt, obs := s.commitEvents.obs } := by
  unfold State.commitEvents
  dsimp only
  split
  · rw [State.each_trace_eq _ _ (fun a t => State.trace_eq t _ _)]
  · rfl

/-- The end of a cycle changes the event logic and the trace port, and leaves no event raised. -/
theorem State.endCycle_eq (b s : State) :
    b.endCycle s = { s with raised := [], evt := (b.endCycle s).evt, obs := (b.endCycle s).obs } := by
  unfold State.endCycle
  dsimp only
  rw [State.commitEvents_eq, State.traceChanges_eq b s]

section endCycle
variable (b s : State)

@[simp] theorem State.endCycle_pending : (b.endCycle s).pending = s.pending := by rw [State.endCycle_eq]
@[simp] theorem State.endCycle_regs : (b.endCycle s).regs = s.regs := by rw [State.endCycle_eq]
@[simp] theorem State.endCycle_raised : (b.endCycle s).raised = [] := by rw [State.endCycle_eq]
@[simp] theorem State.endCycle_draws : (b.endCycle s).draws = s.draws := by rw [State.endCycle_eq]
@[simp] theorem State.endCycle_tally : (b.endCycle s).tally = s.tally := by rw [State.endCycle_eq]
@[simp] theorem State.endCycle_hif : (b.endCycle s).hif = s.hif := by rw [State.endCycle_eq]
@[simp] theorem State.endCycle_pwr : (b.endCycle s).pwr = s.pwr := by rw [State.endCycle_eq]
@[simp] theorem State.endCycle_mode : (b.endCycle s).mode = s.mode := by rw [State.endCycle_eq]
@[simp] theorem State.endCycle_grd : (b.endCycle s).grd = s.grd := by rw [State.endCycle_eq]
@[simp] theorem State.endCycle_ldg : (b.endCycle s).ldg = s.ldg := by rw [State.endCycle_eq]
@[simp] theorem State.endCycle_arms : (b.endCycle s).arms = s.arms := by rw [State.endCycle_eq]
@[simp] theorem State.endCycle_str : (b.endCycle s).str = s.str := by rw [State.endCycle_eq]
@[simp] theorem State.endCycle_tb : (b.endCycle s).tb = s.tb := by rw [State.endCycle_eq]
@[simp] theorem State.endCycle_vc : (b.endCycle s).vc = s.vc := by rw [State.endCycle_eq]
@[simp] theorem State.endCycle_meas : (b.endCycle s).meas = s.meas := by rw [State.endCycle_eq]
@[simp] theorem State.endCycle_cal : (b.endCycle s).cal = s.cal := by rw [State.endCycle_eq]
@[simp] theorem State.endCycle_refm : (b.endCycle s).refm = s.refm := by rw [State.endCycle_eq]
@[simp] theorem State.endCycle_srv : (b.endCycle s).srv = s.srv := by rw [State.endCycle_eq]
@[simp] theorem State.endCycle_pcr : (b.endCycle s).pcr = s.pcr := by rw [State.endCycle_eq]
@[simp] theorem State.endCycle_net : (b.endCycle s).net = s.net := by rw [State.endCycle_eq]
@[simp] theorem State.endCycle_arr : (b.endCycle s).arr = s.arr := by rw [State.endCycle_eq]

end endCycle

/-- The event logic is settled whenever a cycle has ended. -/
theorem State.endCycle_settled (b s : State) : (b.endCycle s).eventsSettled := by
  refine ⟨State.endCycle_raised b s, ?_, ?_, ?_⟩
  · unfold State.endCycle
    dsimp only
    rw [BitVec.and_assoc, BitVec.and_self]
  · unfold State.endCycle
    dsimp only
    intro h
    rw [Bool.and_eq_true] at h
    exact h.2
  · unfold State.endCycle
    dsimp only
    intro h
    rw [Bool.and_eq_true] at h
    exact h.2

/-! ### What follows an effect -/

/-- Whatever happened, the queue is the one before. -/
@[simp] theorem State.after_pending (b s : State) : (b.after s).pending = b.pending := by
  unfold State.after; rw [State.endCycle_pending]; rfl

@[simp] theorem State.after_slots (b s : State) : (b.after s).ldg.slots = b.ldg.slots := by
  unfold State.after; rw [State.endCycle_ldg]; rfl

@[simp] theorem State.after_raised (b s : State) : (b.after s).raised = [] := State.endCycle_raised _ _

theorem State.after_settled (b s : State) : (b.after s).eventsSettled := State.endCycle_settled _ _

@[simp] theorem State.still_pending (b s : State) : (b.still s).pending = b.pending := by
  unfold State.still; rw [State.endCycle_pending]; rfl

@[simp] theorem State.still_slots (b s : State) : (b.still s).ldg.slots = b.ldg.slots := by
  unfold State.still; rw [State.endCycle_ldg]; rfl

@[simp] theorem State.still_raised (b s : State) : (b.still s).raised = [] := State.endCycle_raised _ _

@[simp] theorem State.still_regs (b s : State) : (b.still s).regs = s.regs := by
  unfold State.still; rw [State.endCycle_regs]; rfl

theorem State.still_settled (b s : State) : (b.still s).eventsSettled := State.endCycle_settled _ _

/-- After a command the Tally is the one before while it keeps running (R23). -/
theorem State.after_tally {b s : State} (h : b.tallyRun = true) (h' : (b.react s).tallyRun = true) :
    (b.after s).tally = b.tally := by
  unfold State.after; rw [State.endCycle_tally]; simp [State.kept, h, h']

theorem State.still_tally {b s : State} (h : b.tallyRun = true) (h' : s.tallyRun = true) :
    (b.still s).tally = b.tally := by
  unfold State.still; rw [State.endCycle_tally]; simp [State.kept, h, h']

/-- An effect on which no other unit acts leaves every part but those the end of a cycle writes as the effect left it. -/
theorem State.still_eq (b s : State) :
    b.still s = { s with
      pending := b.pending, raised := [], evt := (b.still s).evt, obs := (b.still s).obs
      ldg := { s.ldg with slots := b.ldg.slots }
      tally := if b.tallyRun && s.tallyRun then b.tally else s.tally } := by
  unfold State.still
  rw [State.endCycle_eq]
  rfl

/-- A command in the form of `happen` answers a next state. -/
theorem happen_next (s : State) (f : State → State) : ∃ t, happen s f = .next t ∧ t.pending = s.pending :=
  ⟨_, rfl, State.after_pending _ _⟩

/-- A command in the form of `calm` answers a next state. -/
theorem calm_next (s : State) (f : State → State) : ∃ t, calm s f = .next t ∧ t.pending = s.pending :=
  ⟨_, rfl, State.still_pending _ _⟩

/-! ### The event logic -/

/-- A raise sets its sticky bit and clears none (R720, R722). -/
theorem EventState.take_sticky (e : EventState) (x : EventId) (t : Word) :
    (e.take x t).sticky = e.sticky ||| BitVec.ofNat 128 (2 ^ (x.1 % 128)) := rfl

@[simp] theorem EventState.take_tally (e : EventState) (x : EventId) (t : Word) : (e.take x t).lastTally = t := rfl

@[simp] theorem EventState.take_raises (e : EventState) (x : EventId) (t : Word) :
    (e.take x t).raises = e.raises + 1 := rfl

/-- The end of a release pulse touches that pulse alone (R728). -/
theorem State.irqPulseEnd_eq (s : State) (b : Bool) :
    s.irqPulseEnd b = { s with evt := { s.evt with
      pulseA := s.evt.pulseA && b, pulseB := s.evt.pulseB && !b } } := by
  cases b <;> simp [State.irqPulseEnd]

/-! ### Arming -/

/-- A bank that has been disarmed is armed by no port (R41, R711). -/
theorem State.armedBy_disarm (s : State) (b : ArmBank) : (s.disarm b).armedBy b = none := by
  cases b <;> rfl

/-- Disarming a bank leaves the arming of the others (R710). -/
theorem State.arming_disarm_ne (s : State) {b c : ArmBank} (h : c ≠ b) : (s.disarm b).arming c = s.arming c := by
  cases b <;> cases c <;> first | rfl | exact absurd rfl h

/-! ### Register writes through the engine -/

/-- A write to a bank of a domain that takes none is counted and changes nothing else (R601, R628). -/
theorem State.paramWrite_down {s : State} {p : HostPort} {a : Nat} {v : Word} (hb : a / 256 < 24) (h3 : a / 256 ≠ 3)
    (h : s.takesWrites (bankDomain (a / 256)) = false) : s.paramWrite p a v = s.downAccess.ok := by
  unfold State.paramWrite
  dsimp only
  rw [if_neg (by omega), if_neg h3, h]
  rfl

/-- A write to a bank above the last one is discarded as unmapped (R702). -/
theorem State.paramWrite_unmapped {s : State} {p : HostPort} {a : Nat} {v : Word} (hb : 24 ≤ a / 256) :
    s.paramWrite p a v = s.rejected .unmapped := by
  unfold State.paramWrite
  dsimp only
  rw [if_pos hb]

/-- A word without a rule of its own follows its row of the register map. -/
theorem State.paramWrite_plain {s : State} {p : HostPort} {a : Nat} {v : Word} (h : s.plainWord p a v = true) :
    ∃ r, rowAt a = some r ∧ s.paramWrite p a v = s.rowWrite p r a v.toNat := by
  unfold State.plainWord at h
  cases hr : rowAt a with
  | none => rw [hr] at h; exact absurd h (by simp)
  | some r =>
    refine ⟨r, rfl, ?_⟩
    rw [hr] at h
    simp only [Bool.and_eq_true, decide_eq_true_eq, bne_iff_ne, ne_eq, Bool.not_eq_true', Option.isNone_iff_eq_none] at h
    obtain ⟨⟨⟨⟨⟨⟨⟨⟨h1, h2⟩, h3⟩, h4⟩, -⟩, h5⟩, h6⟩, h7⟩, h8⟩ := h
    unfold State.paramWrite
    dsimp only
    rw [if_neg (by omega), if_neg h2, if_pos h3]
    have hj : s.wordJudged p a v = s.rowWrite p r a v.toNat := by
      unfold State.wordJudged
      rw [hr]
      dsimp only
      rw [if_neg h4, if_neg (by intro hc; simp [hc.1, hc.2] at h5), h6, h8, h7]
    have hh : appliedHolds a = [] := by
      unfold appliedHolds
      rw [h6, h7]
    unfold State.wordWrite
    dsimp only
    rw [hj, hh]
    simp

/-! ### Writes judged field by field -/

@[simp] theorem State.ok_state (s : State) : s.ok.state = s := rfl
@[simp] theorem State.rejected_state (s : State) (r : Reject) : (s.rejected r).state = s := rfl
@[simp] theorem Written.judged_true (x : Written) : x.judged true = x := rfl
@[simp] theorem Written.judged_state (x : Written) (b : Bool) : (x.judged b).state = x.state := by cases b <;> rfl

/-- Where every field is in range the word written stands. -/
theorem fitted_all {l : List (Nat × Nat × Bool)} (old v : Nat) (h : allFit l = true) : fitted old v l = v := by
  unfold fitted
  induction l with
  | nil => rfl
  | cons f l ih =>
    simp only [allFit, List.all_cons, Bool.and_eq_true] at h
    simp only [List.foldl_cons, h.1, if_true]
    exact ih h.2

/-- All that a write judged field by field can do: it stores the word that results, masked to the fields that can be written. -/
theorem State.fitWrite_state {a : Nat} {r : Row} (h : rowAt a = some r) (s : State) (v : Nat) (l : List (Nat × Nat × Bool)) :
    (s.fitWrite a v l).state = s.setVal a (fitted (s.val a) v l &&& r.rw) := by
  simp [State.fitWrite, h]

/-- The Faces kept for the readers of this tick are all that `keepPrior` changes. -/
theorem State.keepPrior_eq (s : State) : s.keepPrior = { s with str := { s.str with prior := s.keepPrior.str.prior } } := by
  unfold State.keepPrior
  split <;> rfl

end Sys2Proof.Machine
end

