-- ==== Sys2Proof/Tests/Slice0.lean ====
section
/-! SUPPORT. The author's tests: ill-formed commands, worked values of the spec, single steps on small states, and for every
statement with hypotheses a state and operands that meet them. -/

namespace Sys2Proof.Tests

open Sys2Proof Sys2Proof.Machine

section

set_option maxRecDepth 100000
set_option Elab.async false

/-- A small state: every domain ON, the Tally running, both I/O banks present, every other register at reset. -/
def tOn : State :=
  { regs := [(A.PWR_DOM_STAT, 0xAAAA), (A.TB_STAT, 0x40)], pwr := { started := true, vioH := some 0, vioO := some 0 },
    hif := { madd := some 0 } }

/-- A state with words set. -/
def tWith (l : List (Nat × Nat)) (s : State) : State := l.foldl (fun t x => t.setVal x.1 x.2) s

/-- Whether a step answers a next state of which `f` holds. -/
def tNext (o : Host.Outcome State Fault Refusal) (f : State → Bool) : Bool :=
  match o with
  | .next t => f t
  | _ => false

/-! ### Well-formed commands -/

/-- One ill-formed command for each check of `Instr.wf`: each is refused. -/
theorem test_ill_formed : ([
    .resetRelease 4, .wakePin 4, .vioBankPresent false 0 4, .multiwordHiRead .spi 0x1800,
    .multiwordHiWrite .spi 0x1800 0, .thresholdDescriptorWrite .spi 0x1800 0, .refEdge 8 0 0 false false,
    .refEdge 0 65536 0 false false, .refEdge 0 0 32 false false, .stampCompose 8 0 false, .vqEntryRead .spi 8,
    .vqFifoRead .spi 8, .vqFlush .spi 8 0, .vcMark .spi 8 0, .vcCtlWrite .spi 0x1800 0, .vcDrainDone 8, .vcIdle 8,
    .measureGateEnd 4, .calRun .spi 8 0, .calTrimOnly .spi 8 0, .calDiscard .spi 8 0, .calAutoStart 8, .calDue 8,
    .calDriftSample 8, .calHitsCollected 0 (List.replicate 3 (List.replicate 32 0)),
    .calHitsCollected 0 (List.replicate 4 (List.replicate 31 0)),
    .calHitsCollected 8 (List.replicate 4 (List.replicate 32 0)), .calNoEdgesTimeout 8, .trimMeasurementDone 8 0 0,
    .dllLocked 8, .dllUnlock 8, .refLos 8, .netSyncTimeout 7, .netSyncTimeout 12, .nmeaSentence 0 [256],
    .nmeaSentence 2 [], .nmeaVerdictExpired 2 0, .nmeaVerdictExpired 0 4, .esmcTimeout 7, .esmcTimeout 12,
    .integVerdictTimeout 12, .wtrExpired 12, .outputEdge 12, .outputCtlWrite .spi 12 0, .oneshotArm .spi 12 0,
    .slewDone 12, .squelchHoldTimeout 12, .outputDrainDone 12, .pcsSample 4 false false false false false false 0 0 0,
    .rxFrame 4 [] 0 0, .rxPauseEnd 4, .rxbLevelSample 4, .pauseRepeat 4, .pauseFrameSend 4, .txFrameDone 4,
    .holdWindowExpired 4, .portCtlWrite .spi 4 0, .portDrainDone 4, .ifCtlWrite .spi 4 0 0, .ifCtlWrite .spi 0 8 0,
    .latCalRun .spi 4 0, .latCalDiscard .spi 4 0, .latCalDone 4 0 0, .latCalNoLoop 4, .tsSettleMeasure 4 0 0,
    .tsSettleSlow 4, .marginWindowEnd 4, .slotCommit 4, .slottedFrameLaunch 4 0, .slottedFrameLaunch 0 32, .slottedFrameLaunch 0 32, .ptpAnnounceTx 4 none,
    .ptpSyncTx 4 none, .ptpDelayReqTx 4, .foreignMasterExpired 4 0, .preMasterDone 4, .ucRequestTx 4,
    .smManagementTx 4, .ntsGraceEnd 8, .ovrCtlWrite .spi 16 0, .tileEnWrite .spi 20 0, .tileStarted 20,
    .tileDrainDone 20, .rowWriteDone 27 0 false, .rowWriteDone 32 0 false, .tileRecalDone 0 [[1]],
    .tileRecalDone 20 [], .tileRecalRetry 20, .tileRecalDue 20, .tileRecalWaitExpired 20, .tileCheckDue 20,
    .tileCheckDone 20 [] [], .modelCtlWrite .spi 4 0, .integJobOffer 12, .jobComplete 4, .meshCheck 16 0 0,
    .meshCheck 0 16 0, .meshCheck 0 0 16, .tampActivation 4 false, .lowdutyWindow 0 false 0 0 0 16 0 0,
    .lowdutyWindow 0 false 0 0 0 0 16 0, .lowdutyWindow 0 false 0 0 0 0 0 16, .codewordDetected 4 0 0,
    .codewordDetected 0 8 0, .codewordDetected 0 0 (2 ^ 20), .ldgEntryRead .spi 8, .spiNop false [64], .spiRead false [128],
    .spiWrite false [64], .twNop 0 .nothing [64] 0, .twNop 128 .nothing [0] 0, .twRead 0 .nothing [128] 0,
    .twRead 128 .nothing [64] 0, .twWrite 0 .nothing [64] false 0, .twWrite 128 .nothing [128] false 0, .aonStart false 4,
    .vmainReturn 4, .claimTake .spi 0 0, .claimTake .spi 101 0,
    .claimTake .spi 1 65536, .claimRelease .spi 65536, .aliasAccess .spi 8 false 0, .registerWrite .spi 0x1800 0,
    .stickyClear .spi 4 0, .calBinSaturated 8 0, .calBinSaturated 0 32, .wakePinArmed 4] : List Instr).all (fun i => !i.wf) = true := by decide +kernel

/-- The same commands at the upper end of their ranges are well formed. -/
theorem test_well_formed : ([
    .resetRelease 3, .wakePin 3, .vioBankPresent false 0 3, .multiwordHiRead .spi 0x17FF,
    .multiwordHiWrite .spi 0x17FF 0, .thresholdDescriptorWrite .spi 0x17FF 0, .refEdge 7 0 0 false false,
    .refEdge 0 65535 0 false false, .refEdge 0 0 31 false false, .stampCompose 7 0 false, .vqEntryRead .spi 7,
    .vqFifoRead .spi 7, .vqFlush .spi 7 0, .vcMark .spi 7 0, .vcCtlWrite .spi 0x17FF 0, .vcDrainDone 7, .vcIdle 7,
    .measureGateEnd 3, .calRun .spi 7 0, .calTrimOnly .spi 7 0, .calDiscard .spi 7 0, .calAutoStart 7, .calDue 7,
    .calDriftSample 7, .calHitsCollected 7 (List.replicate 4 (List.replicate 32 0)), .calNoEdgesTimeout 7,
    .trimMeasurementDone 7 0 0, .dllLocked 7, .dllUnlock 7, .refLos 7, .netSyncTimeout 11, .nmeaSentence 1 [],
    .nmeaVerdictExpired 1 0, .nmeaVerdictExpired 0 3, .esmcTimeout 11, .integVerdictTimeout 11, .wtrExpired 11,
    .outputEdge 11, .outputCtlWrite .spi 11 0, .oneshotArm .spi 11 0, .slewDone 11, .squelchHoldTimeout 11,
    .outputDrainDone 11, .pcsSample 3 false false false false false false 0 0 0, .rxFrame 3 [] 0 0, .rxPauseEnd 3,
    .rxbLevelSample 3, .pauseRepeat 3, .pauseFrameSend 3, .txFrameDone 3, .holdWindowExpired 3,
    .portCtlWrite .spi 3 0, .portDrainDone 3, .ifCtlWrite .spi 3 0 0, .ifCtlWrite .spi 0 7 0, .latCalRun .spi 3 0,
    .latCalDiscard .spi 3 0, .latCalDone 3 0 0, .latCalNoLoop 3, .tsSettleMeasure 3 0 0, .tsSettleSlow 3,
    .marginWindowEnd 3, .slotCommit 3, .slottedFrameLaunch 3 31, .ptpAnnounceTx 3 none, .ptpSyncTx 3 none,
    .ptpDelayReqTx 3, .foreignMasterExpired 3 0, .preMasterDone 3, .ucRequestTx 3, .smManagementTx 3,
    .ntsGraceEnd 7, .ovrCtlWrite .spi 15 0, .tileEnWrite .spi 19 0, .tileStarted 19, .tileDrainDone 19,
    .rowWriteDone 31 0 false, .tileRecalDone 19 [], .tileRecalRetry 19, .tileRecalDue 19, .tileRecalWaitExpired 19,
    .tileCheckDue 19, .tileCheckDone 19 [] [], .modelCtlWrite .spi 3 0, .integJobOffer 11, .jobComplete 3,
    .meshCheck 15 0 0, .meshCheck 0 15 0, .meshCheck 0 0 15, .tampActivation 3 false,
    .lowdutyWindow 0 false 0 0 0 15 0 0, .lowdutyWindow 0 false 0 0 0 0 15 0, .lowdutyWindow 0 false 0 0 0 0 0 15,
    .codewordDetected 3 0 0, .codewordDetected 0 7 0, .codewordDetected 0 0 (2 ^ 20 - 1), .ldgEntryRead .spi 7,
    .twNop 127 .nothing [0] 0, .twRead 127 .nothing [64] 0, .twWrite 127 .nothing [128] false 0, .aonStart false 3,
    .vmainReturn 3, .claimTake .spi 100 65535,
    .claimTake .spi 1 65535, .claimRelease .spi 65535, .aliasAccess .spi 7 false 0, .registerWrite .spi 0x17FF 0,
    .stickyClear .spi 3 0, .calBinSaturated 7 0, .calBinSaturated 0 31, .wakePinArmed 3] : List Instr).all (fun i => i.wf) = true := by decide +kernel

/-- The opcode table gives no row any bits: no word spells a command. -/
theorem test_no_table_word : decodeTableWord 32 0 = none := rfl

/-! ### Worked values -/

/-- Polynomials and initial values of R666 over the nine digits 1 to 9: the published check values of these CRCs. -/
theorem test_crcs : crc8 [49, 50, 51, 52, 53, 54, 55, 56, 57] = 0xF4 ∧ crc16 [49, 50, 51, 52, 53, 54, 55, 56, 57] = 0x29B1 := by
  decide +kernel

/-- FIPS 180-4: SHA-256 of "abc". -/
theorem test_sha256 : (sha256 [97, 98, 99]).take 4 = [0xBA, 0x78, 0x16, 0xBF] := by decide +kernel

/-- FIPS 197, appendix B: the AES-128 block. -/
theorem test_aes : (aesBlock [0x2b, 0x7e, 0x15, 0x16, 0x28, 0xae, 0xd2, 0xa6, 0xab, 0xf7, 0x15, 0x88, 0x09, 0xcf, 0x4f, 0x3c]
    [0x32, 0x43, 0xf6, 0xa8, 0x88, 0x5a, 0x30, 0x8d, 0x31, 0x31, 0x98, 0xa2, 0xe0, 0x37, 0x07, 0x34]).take 4
      = [0x39, 0x25, 0x84, 0x1d] := by decide +kernel

/-- The worked calibration of 04_interpolator_calibration.md: the widths W_k of its table. -/
theorem test_cal_widths : tNext (exec (.calHitsCollected 0 [
    [4202, 4018, 4120, 4046, 4270, 3912, 4106, 4074, 4224, 3980, 4136, 4072, 4154, 4086, 3946, 4178, 4118, 4052,
     4272, 3856, 4126, 4100, 4014, 4158, 4301, 3836, 4110, 4060, 4190, 4024, 4094, 4262],
    [4202, 4018, 4120, 4046, 4270, 3912, 4106, 4074, 4224, 3980, 4136, 4072, 4154, 4086, 3946, 4178, 4118, 4052,
     4272, 3856, 4126, 4100, 4014, 4158, 4262, 3836, 4110, 4060, 4190, 4024, 4094, 4262],
    [4202, 4018, 4120, 4046, 4270, 3912, 4106, 4074, 4224, 3980, 4136, 4072, 4154, 4086, 3946, 4178, 4118, 4052,
     4272, 3856, 4126, 4100, 4014, 4158, 4255, 3836, 4110, 4060, 4190, 4024, 4094, 4262],
    [4202, 4018, 4120, 4046, 4270, 3912, 4106, 4074, 4224, 3980, 4136, 4072, 4154, 4086, 3946, 4178, 4118, 4052,
     4272, 3856, 4126, 4100, 4014, 4158, 4286, 3836, 4110, 4060, 4190, 4024, 4094, 4262]]) (tOn.setCalib 0 { run := some { full := true, held := false } }))
    (fun t => (t.calib 0).run.map (fun r => r.widths) == some (some [
    2101, 2009, 2060, 2023, 2135, 1956, 2053, 2037, 2112, 1990, 2068, 2036, 2077, 2043, 1973, 2089, 2059, 2026,
    2136, 1928, 2063, 2050, 2007, 2079, 2138, 1918, 2055, 2030, 2095, 2012, 2047, 2131])) = true := by decide +kernel

/-- The $PMQST sentence of R158 with PRTC_TACC at 100 ns: PRTC, 12 ns. -/
theorem test_pmqst : tNext (exec (.nmeaSentence 0 [36, 80, 77, 81, 83, 84, 44, 49, 44, 65, 44, 76, 44, 49, 50, 44, 53, 44, 48, 48, 42, 52, 49])
    ((tOn.setVal A.REFM_PRTC_TACC 100).setBit (F.REFM_GRXg_CTL_EN 0) true))
    (fun t => (t.refm.uarts.getD 0 {}).pmqst == some ⟨76, some 12, 0⟩ && ((t.refm.uarts.getD 0 {}).pmqst.map (fun x => x.iq 100)) == some 1) = true := by
  decide +kernel

/-! ### Single steps -/

/-- An empty queue: one tick, the Tally counts (R72). -/
theorem test_tick : tNext (step { tOn with tally := 2 ^ 64 - 1 }) (fun t => t.tally == 0) = true := by decide +kernel

/-- AON powers up: the power sequencer begins in S3 (R752). -/
theorem test_aon_start : tNext (step { State.reset with pending := [.aonStart false 0] })
    (fun t => t.pwr.started && t.get F.PWR_SLEEP_STAT_NOW == 3 && t.pending == []) = true := by decide +kernel

/-- A register write stores its word and completes (R15, R667). -/
theorem test_register_write : tNext (exec (.registerWrite .spi A.SRV_HO_ERR_LIMIT 77) tOn)
    (fun t => t.val A.SRV_HO_ERR_LIMIT == 77 && (t.port .spi).result == { done := true }) = true := by decide +kernel

/-- A write to an address without a register is discarded as unmapped (R702). -/
theorem test_unmapped_write : tNext (exec (.registerWrite .twoWire 0x00FF 77) tOn)
    (fun t => t.port .twoWire |>.result.reject) = true := by decide +kernel

/-- A raise sets its sticky bit, and writing a 1 clears it (R720, R722). -/
theorem test_sticky : tNext (exec (.registerWrite .spi 0x00FF 0) tOn)
    (fun t => t.evt.sticky != 0 && tNext (exec (.stickyClear .spi 3 0xFFFFFFFF) t) (fun u => u.evt.sticky == 0)) = true := by
  decide +kernel

/-- A Guard trip: the first TAMP activation counts one event (R547). -/
theorem test_tamp : tNext (exec (.tampActivation 3 true) tOn) (fun t => t.get (F.GRD_Sx_COUNT_EVENTS 16) == 1) = true := by
  decide +kernel

/-- A lease of 100 ms keeps the other port from the register engine (R681, R682). -/
theorem test_lease : tNext (exec (.claimTake .spi 100 5) tOn)
    (fun t => t.hif.lease == some { holder := .spi, code := 5, ends := 125000000 } && t.engineBusy .twoWire) = true := by
  decide +kernel

/-! ### Witnesses -/


/-! StepTakesTheFront -/

theorem witness_StepTakesTheFront_0 : ∃ (s : State), s.pending = [] ∧ s.tallyRun = true :=
  ⟨tOn, by decide +kernel⟩
theorem witness_StepTakesTheFront_1 : ∃ (s : State), s.pending = [] ∧ s.tallyRun = false :=
  ⟨(tWith [(768, 0)] tOn), by decide +kernel⟩

/-! GroupsAreCommitted -/

theorem witness_GroupsAreCommitted_0 : ∃ (s : State), (s.ldg.queue = [] ∨ s.pwr.started = false) :=
  ⟨tOn, by decide +kernel⟩
theorem witness_GroupsAreCommitted_2 : ∃ (s : State), ∃ e, ∃ (worn : List Bool), s.pwr.started = true ∧
    s.ldg.queue.head? = some e ∧ worn.all (fun w => !w) = true ∧ s.ldg.slots.length + e.bodies.length ≤ 4095 ∧
    s.ldg.slots.length < 3840 ∧ 3840 ≤ ({ s.commitGroup worn with pending := s.pending }).ldg.slots.length :=
  ⟨{ tOn with ldg := { slots := (List.replicate 3839 .worn), queue := [{ src := 2, evt := 2, t := true, era := 1, time := 102, data := (List.replicate 6 1), cont := none }] } },
      { src := 2, evt := 2, t := true, era := 1, time := 102, data := (List.replicate 6 1), cont := none }, [],
      by decide +kernel⟩
theorem witness_GroupsAreCommitted_3 : ∃ (s : State), ∃ e, ∃ (worn : List Bool), s.pwr.started = true ∧
    s.ldg.queue.head? = some e ∧ worn.all (fun w => !w) = true ∧ 4095 < s.ldg.slots.length + e.bodies.length ∧
    s.ldg.slots.length < 4096 :=
  ⟨{ tOn with ldg := { slots := (List.replicate 4094 .worn), queue := [{ src := 1, evt := 1, t := false, era := 1, time := 101, data := (List.replicate 6 1), cont := (some (List.replicate 14 2)) }] } },
      { src := 1, evt := 1, t := false, era := 1, time := 101, data := (List.replicate 6 1), cont := (some (List.replicate 14 2)) },
      [false], by decide +kernel⟩
theorem witness_GroupsAreCommitted_4 : ∃ (s : State), ∃ e, s.pwr.started = true ∧ s.ldg.queue.head? = some e ∧ 4096 ≤
    s.ldg.slots.length :=
  ⟨{ tOn with ldg := { slots := (List.replicate 4096 .worn), queue := [{ src := 4, evt := 4, t := true, era := 1, time := 104, data := (List.replicate 6 1), cont := none }] } },
      { src := 4, evt := 4, t := true, era := 1, time := 104, data := (List.replicate 6 1), cont := none },
      by decide +kernel⟩
theorem witness_GroupsAreCommitted_5 : ∃ (s : State), ∃ e, ∃ (worn : List Bool), s.pwr.started = true ∧
    s.ldg.queue.head? = some e ∧ worn = [true, false] ∧
    wornFrom s.ldg.slots.length ({ s.commitGroup worn with pending := s.pending } : State).ldg.slots = 1 :=
  ⟨{ tOn with ldg := { queue := [{ src := 2, evt := 2, t := true, era := 1, time := 102, data := (List.replicate 6 1), cont := none }] } },
      { src := 2, evt := 2, t := true, era := 1, time := 102, data := (List.replicate 6 1), cont := none }, [true, false],
      by decide +kernel⟩

/-! GuardLockDiscardsAndSets -/

theorem witness_GuardLockDiscardsAndSets_0 : ∃ (s : State) (p : HostPort), ∃ a, s.hostReady p = true ∧ s.bit
    F.GRD_STAT_LOCKED = true ∧ guardLocks a = true :=
  ⟨(tWith [(5632, 145)] tOn), .spi, 5763, by decide +kernel⟩
theorem witness_GuardLockDiscardsAndSets_1 : ∃ (s : State) (p : HostPort) (v : Word), s.hostReady p = true ∧ bitOf
    v.toNat 0 = true :=
  ⟨tOn, .twoWire, 209715, by decide +kernel⟩

/-! GuardUnlockNeedsArming -/

theorem witness_GuardUnlockNeedsArming_0 : ∃ (s : State) (p : HostPort) (v : Word), s.hostReady p = true ∧ s.bit
    F.GRD_STAT_LOCKED = true ∧ bitOf v.toNat 0 = false ∧ s.armedFor p .grd = true :=
  ⟨{ tOn.setBit F.GRD_STAT_LOCKED true with arms := { grd := some { port := .twoWire, ends := none } } }, .twoWire, 0,
      by decide +kernel⟩
theorem witness_GuardUnlockNeedsArming_1 : ∃ (s : State) (p : HostPort) (v : Word), s.hostReady p = true ∧ s.bit
    F.GRD_STAT_LOCKED = true ∧ bitOf v.toNat 0 = false ∧ s.armedFor p .grd = false :=
  ⟨(tWith [(5632, 145)] tOn), .spi, 6, by decide +kernel⟩

/-! GuardSamplesAreRecorded -/

theorem witness_GuardSamplesAreRecorded_1 : ∃ (s : State), ∃ o, ∃ k, ∃ w, s.pwr.started = true ∧ o < 16 ∧ k < 16 ∧ w <
    16 ∧ s.windowed = false ∧ o + k + w ≠ 0 :=
  ⟨tOn, 4, 4, 0, by decide +kernel⟩
theorem witness_GuardSamplesAreRecorded_2 : ∃ (s : State), ∃ o, ∃ k, ∃ w, s.pwr.started = true ∧ o < 16 ∧ k < 16 ∧ w <
    16 ∧ s.windowed = false ∧ o + k + w = 0 :=
  ⟨tOn, 0, 0, 0, by decide +kernel⟩
theorem witness_GuardSamplesAreRecorded_3 : ∃ (s : State), s.pwr.started = true ∧ s.windowed = true :=
  ⟨(tWith [(289, 3)] tOn), by decide +kernel⟩

/-! TamperInputsAreLatched -/

theorem witness_TamperInputsAreLatched_0 : ∃ (s : State), ∃ n, s.pwr.started = true ∧ n < 4 ∧ s.windowed = false :=
  ⟨tOn, 0, by decide +kernel⟩
theorem witness_TamperInputsAreLatched_1 : ∃ (s : State), ∃ n, s.pwr.started = true ∧ n < 4 ∧ s.windowed = true :=
  ⟨(tWith [(289, 3)] tOn), 0, by decide +kernel⟩
theorem witness_TamperInputsAreLatched_2 : ∃ (s : State), s.pwr.started = true ∧ s.windowed = false :=
  ⟨tOn, by decide +kernel⟩

/-! TripsClearOnlyWhenQuiet -/

theorem witness_TripsClearOnlyWhenQuiet_0 : ∃ (s : State) (p : HostPort), ∃ x, s.hostReady p = true ∧ x < 25 :=
  ⟨tOn, .twoWire, 4, by decide +kernel⟩

/-! CodewordsAreChecked -/

theorem witness_CodewordsAreChecked_0 : ∃ (s : State) (m k w : Nat), s.pwr.started = true ∧ m < 4 ∧ k < 8 ∧ w < 2 ^ 20
    ∧ (codewords m).contains w = false ∧ m = 2 :=
  ⟨tOn, 2, 7, 16, by decide +kernel⟩
theorem witness_CodewordsAreChecked_1 : ∃ (s : State) (m k w : Nat), s.pwr.started = true ∧ m < 4 ∧ k < 8 ∧ w < 2 ^ 20
    ∧ (codewords m).contains w = true :=
  ⟨tOn, 0, 4, 69905, by decide +kernel⟩

/-! RandomSourceHealth -/

theorem witness_RandomSourceHealth_0 : ∃ (s : State), s.pwr.started = true :=
  ⟨tOn, by decide +kernel⟩
theorem witness_RandomSourceHealth_1 : ∃ (s : State), s.pwr.started = true ∧ s.rngOk = false ∧ s.up .pipe = false :=
  ⟨((tOn.put F.GRD_STAT_RNG_OK 0).put (domField .pipe) 0), by decide +kernel⟩
theorem witness_RandomSourceHealth_2 : ∃ (s : State), s.pwr.started = true ∧ s.rngOk = false ∧ s.up .pipe = true :=
  ⟨(tWith [(5632, 1)] tOn), by decide +kernel⟩
theorem witness_RandomSourceHealth_3 : ∃ (s : State), s.pwr.started = true ∧ s.rngOk = false :=
  ⟨(tWith [(5632, 1)] tOn), by decide +kernel⟩
theorem witness_RandomSourceHealth_4 : ∃ (s : State), ∃ p, s.pwr.started = true ∧ s.hostReady p = true ∧ s.rngOk =
    true :=
  ⟨tOn, .twoWire, by decide +kernel⟩
theorem witness_RandomSourceHealth_5 : ∃ (s : State), ∃ p, s.pwr.started = true ∧ s.hostReady p = true ∧ s.rngOk =
    false :=
  ⟨(tWith [(5632, 1)] tOn), .spi, by decide +kernel⟩
theorem witness_RandomSourceHealth_6 : ∃ (s : State), s.pwr.started = true ∧ s.get F.GRD_STAT_FSM = fsmZeroising :=
  ⟨(tOn.put F.GRD_STAT_FSM fsmZeroising), by decide +kernel⟩

/-! SpiMessagesRun -/

theorem witness_SpiMessagesRun_1 : ∃ (s : State) (w : Nat) (tail : List Byte), ∃ k, s.hostServes = true ∧ w < 64 ∧
    (s.engineBusy .spi || (true && s.stillUsed)) = false ∧ 1 ≤ k ∧ k ≤ 1024 ∧ spanOk w k = true ∧ 8 + 4 * k ≤ (spiHeader 1 w (4 * k) ++
    tail).length :=
  ⟨tOn, 52, ([1, 0, 94, 0, 1, 129, 2, 1, 1, 1, 1, 1, 136, 8, 0, 1, 0, 3] ++ List.replicate 42 0), 6,
      by decide +kernel⟩
theorem witness_SpiMessagesRun_2 : ∃ (s : State) (w : Nat) (vs : List Word), s.hostServes = true ∧ w < 64 ∧
    (s.engineBusy .spi || (true && s.stillUsed)) = false ∧ 1 ≤ vs.length ∧ vs.length ≤ 1024 ∧ spanOk w vs.length = true :=
  ⟨tOn, 2, [8389120], by decide +kernel⟩
theorem witness_SpiMessagesRun_3 : ∃ (s : State) (w : Nat), s.hostServes = true ∧ w < 64 ∧
    (s.engineBusy .spi || (false && s.stillUsed)) = true :=
  ⟨{ tOn with hif := { lease := (some { holder := .twoWire, code := 35, ends := 18750000 }), madd := (some 0) } }, 26,
      by decide +kernel⟩
theorem witness_SpiMessagesRun_4 : ∃ (s : State) (w : Nat), s.hostServes = true ∧ w < 64 ∧
    (s.engineBusy .spi || (true && s.stillUsed)) = true :=
  ⟨{ tOn with hif := { tOn.hif with usedUntil := 1 } }, 63, by decide +kernel⟩

/-! TwoWireMessagesRun -/

theorem witness_TwoWireMessagesRun_0 : ∃ (s : State) (w : Nat), ∃ k, s.hostReady .twoWire = true ∧ s.hif.madd.isSome =
    true ∧ s.twAddr < 128 ∧ w < 64 ∧ 1 ≤ k ∧ k ≤ 64 ∧ spanOk w k = true :=
  ⟨tOn, 2, 11, by decide +kernel⟩
theorem witness_TwoWireMessagesRun_1 : ∃ (s : State) (w : Nat) (vs : List Word), s.hostReady .twoWire = true ∧
    s.hif.madd.isSome = true ∧ s.twAddr < 128 ∧ w < 64 ∧ 1 ≤ vs.length ∧ vs.length ≤ 64 ∧ spanOk w vs.length = true :=
  ⟨tOn, 2, [8389120], by decide +kernel⟩
theorem witness_TwoWireMessagesRun_2 : ∃ (s : State) (w : Nat), s.hostReady .twoWire = true ∧ s.hif.madd.isSome = true
    ∧ s.twAddr < 128 ∧ w < 64 ∧ s.bit F.HIF_TW_CTL_TMO_EN = true :=
  ⟨tOn, 52, by decide +kernel⟩

/-! ClaimLeases -/

theorem witness_ClaimLeases_0 : ∃ (s : State) (p : HostPort) (ms code : Nat), s.hostReady p = true ∧ s.hif.cmdLatched
    = none ∧ 0 < code ∧ code < 65536 ∧ 1 ≤ ms ∧ ms ≤ 100 ∧ s.hif.lease = none ∧ s.rested p = true :=
  ⟨tOn, .twoWire, 11, 65535, by decide +kernel⟩
theorem witness_ClaimLeases_1 : ∃ (s : State) (p : HostPort) (ms code : Nat), s.hostReady p = true ∧ s.hif.cmdLatched
    = none ∧ 0 < code ∧ code < 65536 ∧ 1 ≤ ms ∧ ms ≤ 100 ∧ (s.hif.lease.isSome = true ∨ s.rested p = false) :=
  ⟨{ tOn with hif := { lease := (some { holder := .spi, code := 7, ends := 2500000 }), madd := (some 0) } }, .spi, 11,
      45392, by decide +kernel⟩
theorem witness_ClaimLeases_2 : ∃ (s : State) (p : HostPort) (code : Nat), ∃ l, s.hostReady p = true ∧
    s.hif.cmdLatched = none ∧ 0 < code ∧ code < 65536 ∧ s.hif.lease = some l ∧ l.code = code :=
  ⟨{ tOn with hif := { tOn.hif with lease := some { holder := .spi, code := 65535, ends := 1 } } }, .spi, 65535,
      { holder := .spi, code := 65535, ends := 1 }, by decide +kernel⟩
theorem witness_ClaimLeases_3 : ∃ (s : State) (p : HostPort) (code : Nat), ∃ l, s.hostReady p = true ∧
    s.hif.cmdLatched = none ∧ 0 < code ∧ code < 65536 ∧ s.hif.lease = some l ∧ l.code ≠ code :=
  ⟨{ tOn with hif := { lease := (some { holder := .spi, code := 7, ends := 2500000 }), madd := (some 0) } }, .spi,
      65535, { holder := .spi, code := 7, ends := 2500000 }, by decide +kernel⟩
theorem witness_ClaimLeases_4 : ∃ (s : State) (p : HostPort) (code : Nat), ∃ l, s.hostReady p = true ∧ s.hif.cmdLatched =
    none ∧ 0 < code ∧ code < 65536 ∧ s.hif.lease = some l ∧ l.ends ≤ s.hif.clock :=
  ⟨{ tOn with hif := { lease := some { holder := .spi, code := 7, ends := 25 }, madd := some 0, clock := 25 } }, .spi,
      65535, { holder := .spi, code := 7, ends := 25 }, by decide +kernel⟩
theorem witness_ClaimLeases_5 : ∃ (s : State) (p : HostPort) (code : Nat), s.hostReady p = true ∧ s.hif.cmdLatched =
    none ∧ 0 < code ∧ code < 65536 ∧ s.leaseOver = false ∧ s.hif.lease.isSome = true :=
  ⟨{ tOn with hif := { lease := some { holder := .spi, code := 7, ends := 25 }, madd := some 0, clock := 24 } }, .spi, 1,
      by decide +kernel⟩

/-! BoardBusJobs -/

theorem witness_BoardBusJobs_0 : ∃ (s : State) (p : HostPort) (v : Word), s.hostReady p = true ∧ s.bit F.HIF_BB_CTL_EN
    = true ∧ s.get F.HIF_BB_STAT_STATE ≠ boardBusy ∧ s.boardCmdOk v.toNat = true ∧ boardKind v.toNat = 1 :=
  ⟨(tWith [(64, 3)] tOn), .spi, 1805601233, by decide +kernel⟩
theorem witness_BoardBusJobs_1 : ∃ (s : State) (p : HostPort) (v : Word), s.hostReady p = true ∧ s.bit F.HIF_BB_CTL_EN
    = true ∧ s.get F.HIF_BB_STAT_STATE ≠ boardBusy ∧ s.boardCmdOk v.toNat = true ∧ boardKind v.toNat = 2 :=
  ⟨(tWith [(64, 3)] tOn), .twoWire, 98, by decide +kernel⟩
theorem witness_BoardBusJobs_2 : ∃ (s : State) (p : HostPort) (v : Word), s.hostReady p = true ∧ s.bit F.HIF_BB_CTL_EN
    = true ∧ s.get F.HIF_BB_STAT_STATE ≠ boardBusy ∧ s.boardCmdOk v.toNat = true ∧ boardKind v.toNat = 3 :=
  ⟨((tOn.setBit F.HIF_BB_CTL_EN true).put F.HIF_BB_WR_ADDR_ADDR0 0x77 |>.setBit F.HIF_BB_WR_ADDR_EN0 true), .spi,
      67139331, by decide +kernel⟩
theorem witness_BoardBusJobs_3 : ∃ (s : State) (j : BoardJob), s.up .host = true ∧ s.hif.job = some
    { j with phase := .waiting } :=
  ⟨{ tOn with hif := { tOn.hif with job := some { cmd := 2147485697, phase := .waiting } } },
      { cmd := 2147485697, phase := .waiting }, by decide +kernel⟩
theorem witness_BoardBusJobs_5 : ∃ (s : State) (j : BoardJob), s.up .host = true ∧ s.hif.job = some
    { j with phase := .running } ∧ s.get F.HIF_BB_STAT_LOSSES < 7 :=
  ⟨(({ tOn with hif := { tOn.hif with job := some { cmd := 2147485697, phase := .running } } } : State).put
      F.HIF_BB_STAT_LOSSES 6), { cmd := 2147485697, phase := .running }, by decide +kernel⟩
theorem witness_BoardBusJobs_6 : ∃ (s : State) (j : BoardJob), s.up .host = true ∧ s.hif.job = some
    { j with phase := .running } ∧ s.get F.HIF_BB_STAT_LOSSES = 7 :=
  ⟨(({ tOn with hif := { tOn.hif with job := some { cmd := 2147485697, phase := .running } } } : State).put
      F.HIF_BB_STAT_LOSSES 7), { cmd := 2147485697, phase := .running }, by decide +kernel⟩
theorem witness_BoardBusJobs_7 : ∃ (s : State) (j : BoardJob), s.up .host = true ∧ s.hif.job = some
    { j with phase := .running } ∧ boardKind j.cmd.toNat = 1 ∧ 1 ≤ boardLen j.cmd.toNat ∧ boardLen j.cmd.toNat ≤ 128
    :=
  ⟨{ tOn with hif := { tOn.hif with job := some { cmd := 2147485697, phase := .running } } },
      { cmd := 2147485697, phase := .running }, by decide +kernel⟩
theorem witness_BoardBusJobs_8 : ∃ (s : State), s.up .host = true ∧ s.hif.job.isSome = true :=
  ⟨{ tOn with hif := { tOn.hif with job := some { cmd := 2147485697, phase := .running } } }, by decide +kernel⟩
theorem witness_BoardBusJobs_4 : ∃ (s : State) (j : BoardJob), s.up .host = true ∧ s.hif.job = some
    { j with phase := .backoff } ∧ j.retryAt ≤ s.hif.clock :=
  ⟨{ tOn with hif := { tOn.hif with job := some { cmd := 2147485697, phase := .backoff, retryAt := 8 }, clock := 8 } },
      { cmd := 2147485697, phase := .backoff, retryAt := 8 }, by decide +kernel⟩
theorem witness_BoardBusJobs_9 : ∃ (s : State) (j : BoardJob), s.up .host = true ∧ s.hif.job = some
    { j with phase := .backoff } ∧ s.hif.clock < j.retryAt :=
  ⟨{ tOn with hif := { tOn.hif with job := some { cmd := 2147485697, phase := .backoff, retryAt := 8 }, clock := 7 } },
      { cmd := 2147485697, phase := .backoff, retryAt := 8 }, by decide +kernel⟩
theorem witness_BoardBusJobs_10 : ∃ (s : State) (p : HostPort) (v : Word), s.hostReady p = true ∧
    (s.bit F.HIF_BB_CTL_EN = false ∨ s.get F.HIF_BB_STAT_STATE = boardBusy ∨ s.boardCmdOk v.toNat = false) :=
  ⟨tOn, .spi, 0, by decide +kernel⟩

/-! PlainWritesKeepOrStore -/

theorem witness_PlainWritesKeepOrStore_0 : ∃ (s : State) (p : HostPort) (a : Nat) (v : Word), s.hostReady p = true ∧
    s.plainWord p a v = true ∧ (rowOf a).inRange v.toNat = true :=
  ⟨tOn, .twoWire, 7, 245, by decide +kernel⟩
theorem witness_PlainWritesKeepOrStore_1 : ∃ (s : State) (p : HostPort) (a : Nat) (v : Word), s.hostReady p = true ∧
    s.plainWord p a v = true ∧ (rowOf a).inRange v.toNat = false :=
  ⟨tOn, .twoWire, 4866, 2560, by decide +kernel⟩

/-! WindowAccesses -/

theorem witness_WindowAccesses_0 : ∃ (s : State) (p : HostPort), s.hostReady p = true ∧ s.hif.cmdLatched = none :=
  ⟨tOn, .twoWire, by decide +kernel⟩
theorem witness_WindowAccesses_2 : ∃ (s : State) (p : HostPort) (v : Word), s.hostReady p = true ∧ s.hif.cmdLatched =
    none ∧ v.toNat ≤ 0x17 :=
  ⟨tOn, .twoWire, 2, by decide +kernel⟩
theorem witness_WindowAccesses_3 : ∃ (s : State) (p : HostPort), ∃ k, s.hostReady p = true ∧ s.hif.cmdLatched = none ∧
    k < 8 ∧ s.bit (F.HIF_ALIAS_EN k) = true :=
  ⟨(tWith [(19, 2147483648)] tOn), .spi, 3, by decide +kernel⟩
theorem witness_WindowAccesses_4 : ∃ (s : State) (p : HostPort), ∃ k, s.hostReady p = true ∧ s.hif.cmdLatched = none ∧
    k < 8 ∧ s.bit (F.HIF_ALIAS_EN k) = false :=
  ⟨tOn, .twoWire, 3, by decide +kernel⟩
theorem witness_WindowAccesses_5 : ∃ (s : State) (p : HostPort) (v : Word), s.hostReady p = true ∧ s.hif.cmdLatched =
    none ∧ 0x17 < v.toNat :=
  ⟨tOn, .twoWire, 0x18, by decide +kernel⟩

/-! StickyAndCauseClears -/

theorem witness_StickyAndCauseClears_0 : ∃ (s : State) (p : HostPort), ∃ g, ∃ n, s.up .host = true ∧ s.hostReady p =
    true ∧ g < 4 ∧ n < 128 :=
  ⟨tOn, .twoWire, 3, 127, by decide +kernel⟩

/-! RaisesSetSticky -/

theorem witness_RaisesSetSticky_0 : ∃ (u : State), ∃ n, u.up .host = true ∧ n < 128 :=
  ⟨tOn, 127, by decide +kernel⟩
theorem witness_RaisesSetSticky_1 : ∃ (u : State), u.up .host = false :=
  ⟨State.reset, by decide +kernel⟩

/-! LinesFollowPending -/

theorem witness_LinesFollowPending_0 : ∃ (s : State), s.up .host = true ∧ s.pwr.vioH.isSome = true ∧ s.evt.pulseA = false :=
  ⟨tOn, by decide +kernel⟩
theorem witness_LinesFollowPending_1 : ∃ (s : State), s.up .host = true ∧ s.pwr.vioH.isSome = true ∧ s.evt.pulseB = false :=
  ⟨tOn, by decide +kernel⟩

/-! TracePortRuns -/

theorem witness_TracePortRuns_0 : ∃ (s : State) (p : HostPort) (v : Word) (m : Bool), s.hostReady p = true ∧
    s.plainWord p ((if m then A.OBS_OUT_MASK else A.OBS_CTL)) v = true ∧ (rowOf ((if m then A.OBS_OUT_MASK else
    A.OBS_CTL))).inRange v.toNat = true :=
  ⟨tOn, .twoWire, 209715, false, by decide +kernel⟩
theorem witness_TracePortRuns_1 : ∃ (s : State), s.up .host = true ∧ s.up .time = true ∧ s.tallyRun = true ∧ s.tally %
    2 ^ 20 = 0 ∧ s.traces 1 = true ∧ s.obs.batch.all (fun r => r.kind != 1) = true :=
  ⟨{ tOn with obs := { ctlNow := 1 } }, by decide +kernel⟩
theorem witness_TracePortRuns_2 : ∃ (s : State), s.up .host = true ∧ s.bit F.OBS_CTL_EN = false :=
  ⟨tOn, by decide +kernel⟩
theorem witness_TracePortRuns_3 : ∃ (s : State), s.up .host = true ∧ s.bit F.OBS_CTL_EN = true :=
  ⟨(tOn.setBit F.OBS_CTL_EN true), by decide +kernel⟩

/-! ReadsReturnAndLatch -/

theorem witness_ReadsReturnAndLatch_0 : ∃ (s : State) (p : HostPort), s.hostReady p = true ∧ s.up .time = true :=
  ⟨tOn, .twoWire, by decide +kernel⟩
theorem witness_ReadsReturnAndLatch_1 : ∃ (s : State) (p : HostPort), ∃ a, ∃ len, s.hostReady p = true ∧ a / 256 ≠ 3 ∧
    s.readable (bankDomain (a / 256)) = true ∧ s.effectRead p (a / 256) (a % 256) = none ∧ multiAt a = some (a, len)
    :=
  ⟨tOn, .spi, 2054, 3, by decide +kernel⟩
theorem witness_ReadsReturnAndLatch_2 : ∃ (s : State) (p : HostPort), ∃ n, s.hostReady p = true ∧ s.up .time = true ∧
    n < 8 ∧ (s.chan n).queue = [] :=
  ⟨tOn, .twoWire, 3, by decide +kernel⟩
theorem witness_ReadsReturnAndLatch_3 : ∃ (s : State) (p : HostPort), ∃ n, s.hostReady p = true ∧ s.up .time = true ∧
    n < 8 ∧ (s.chan n).queue ≠ [] ∧ n < 8 :=
  ⟨{ tOn with vc := ((Vector.replicate 8 {}).setIfInBounds 3 { queue := [3458764513820540929] }) }, .twoWire, 3,
      by decide +kernel⟩
theorem witness_ReadsReturnAndLatch_4 : ∃ (s : State) (p : HostPort), ∃ n, s.hostReady p = true ∧ s.up .time = true ∧
    n < 8 :=
  ⟨tOn, .twoWire, 3, by decide +kernel⟩
theorem witness_ReadsReturnAndLatch_5 : ∃ (s : State) (p : HostPort), s.hostReady p = true ∧ s.up .pipe = true ∧
    s.net.pipe.mailbox = [] :=
  ⟨tOn, .twoWire, by decide +kernel⟩
theorem witness_ReadsReturnAndLatch_6 : ∃ (s : State) (p : HostPort), s.hostReady p = true ∧ s.up .pipe = true ∧
    s.net.pipe.mailbox ≠ [] :=
  ⟨{ tOn with net := { pipe := { mailbox := [3] } } }, .twoWire, by decide +kernel⟩
theorem witness_ReadsReturnAndLatch_7 : ∃ (s : State) (p : HostPort), ∃ k, s.hostReady p = true ∧ k < 8 ∧ k = 0 :=
  ⟨tOn, .spi, 0, by decide +kernel⟩

/-! ResetsTakeTheirDomains -/

theorem witness_ResetsTakeTheirDomains_0 : ∃ (s : State), s.pwr.started = false :=
  ⟨{ tOn with pwr := { vioH := (some 0), vioO := (some 0) } }, by decide +kernel⟩
theorem witness_ResetsTakeTheirDomains_2 : ∃ (s : State), s.pwr.rstLow = false ∧ s.pwr.started = true ∧ ¬ (s.pwr.fresh
    = true ∧ s.sleepNow = 3) ∧ s.sleepNow = 3 ∧ s.pwr.vmainLow = true :=
  ⟨(tWith [(289, 3)] tOn), by decide +kernel⟩
theorem witness_ResetsTakeTheirDomains_3 : ∃ (s : State), ∃ d, s.pwr.rstLow = false ∧ s.pwr.started = true ∧ ¬
    (s.pwr.fresh = true ∧ s.sleepNow = 3) ∧ ¬ (s.sleepNow = 3 ∧ s.pwr.vmainLow = true) ∧ d ∈ [2, 3, 4, 5, 6, 7] :=
  ⟨tOn, 3, by decide +kernel⟩
theorem witness_ResetsTakeTheirDomains_5 : ∃ (s : State), s.pwr.rstLow = true ∧ s.pwr.started = true ∧ s.pwr.coldDue =
    false ∧ s.sleepNow ≠ 3 ∧ s.pwr.vioH.isSome = true ∧ s.hif.madd = none :=
  ⟨{ tOn with hif := {}, pwr := { rstLow := true, started := true, vioH := (some 0), vioO := (some 0) } },
      by decide +kernel⟩
theorem witness_ResetsTakeTheirDomains_6 : ∃ (s : State), ∃ p, ∃ d, s.cmdReady p = true ∧ s.entering = false ∧
    s.waking = false ∧ s.sleepNow = 0 ∧ d ∈ [3, 4, 5, 6, 7] :=
  ⟨tOn, .twoWire, 7, by decide +kernel⟩
theorem witness_ResetsTakeTheirDomains_7 : ∃ (s : State), s.pwr.started = false ∧ s.pwr.rstLow = false ∧
    s.pwr.vioH.isSome = true ∧ s.hif.madd = none :=
  ⟨{ State.reset with pwr := { vioH := some 1800 } }, by decide +kernel⟩
theorem witness_ResetsTakeTheirDomains_8 : ∃ (s : State), ∃ p, ∃ arg : Word, s.cmdReady p = true ∧ arg ≠ 0x5741524D :=
  ⟨tOn, .spi, 0, by decide +kernel⟩

/-! HostCommandsEnd -/

theorem witness_HostCommandsEnd_1 : ∃ (s : State) (p : HostPort) (arg : Word), s.cmdReady p = true ∧ resetTarget
    arg.toNat = none :=
  ⟨tOn, .twoWire, 209715, by decide +kernel⟩
theorem witness_HostCommandsEnd_2 : ∃ (s : State) (p : HostPort) (arg : Word), ∃ t, s.cmdReady p = true ∧ resetTarget
    arg.toNat = some t ∧ s.dom t.domain ≠ 2 :=
  ⟨(tWith [(257, 43946)] tOn), .spi, 1, (.port 1), by decide +kernel⟩
theorem witness_HostCommandsEnd_6 : ∃ (s : State) (p : HostPort), s.cmdReady p = true ∧ s.safe = true ∧
    s.releaseBarred = true :=
  ⟨{ tOn with mode := { now := .safeHold }, grd := { forceLow := true } }, .twoWire, by decide +kernel⟩
theorem witness_HostCommandsEnd_7 : ∃ (s : State) (p : HostPort), s.cmdReady p = true ∧ s.safe = false :=
  ⟨tOn, .twoWire, by decide +kernel⟩
theorem witness_HostCommandsEnd_0 : ∃ (s : State) (p : HostPort) (arg : Word), ∃ t, s.cmdReady p = true ∧ resetTarget
    arg.toNat = some t ∧ s.dom t.domain = 2 ∧ s.hif.blockReset ≠ some arg.toNat ∧ s.targetResetting t = false ∧ (match t
    with | .port q => s.portOn q | _ => true) = true :=
  ⟨tOn, .spi, 18, (.tile 2), by decide +kernel⟩
theorem witness_HostCommandsEnd_3 : ∃ (s : State), ∃ v, ∃ t, s.up .host = true ∧ s.hif.blockReset =
    some v ∧ resetTarget v = some t ∧ s.targetResetting t = false :=
  ⟨{ tOn with hif := { blockReset := (some 0), madd := (some 0) } }, 0, (.port 0), by decide +kernel⟩
theorem witness_HostCommandsEnd_4 : ∃ (s : State), ∃ v, ∃ t, s.up .host = true ∧ s.hif.blockReset =
    some v ∧ resetTarget v = some t ∧ s.targetResetting t = true :=
  ⟨{ (tOn.setTile 0 { resetting := true }) with hif := { blockReset := some 0x10 } }, 0x10, (.tile 0), by decide +kernel⟩
theorem witness_HostCommandsEnd_5 : ∃ (s : State) (p : HostPort), s.cmdReady p = true ∧ s.safe = true ∧
    s.releaseBarred = false ∧ s.lateCause = none :=
  ⟨{ tOn with mode := { now := .safeHold } }, .twoWire, by decide +kernel⟩
theorem witness_HostCommandsEnd_8 : ∃ (s : State) (p : HostPort), s.cmdReady p = true ∧ s.up .time = true :=
  ⟨tOn, .twoWire, by decide +kernel⟩
theorem witness_HostCommandsEnd_9 : ∃ (s : State) (p : HostPort), s.cmdReady p = true ∧ s.up .time = false :=
  ⟨tOn.put (domField .time) 0, .twoWire, by decide +kernel⟩
theorem witness_HostCommandsEnd_10 : ∃ (s : State) (p : HostPort), ∃ c, s.cmdReady p = true ∧ s.safe = true ∧
    s.releaseBarred = false ∧ s.lateCause = some c ∧ 15 < c :=
  ⟨{ tOn with mode := { now := .safeHold, late := some (tOn.instant, 16) } }, .twoWire, 16, by decide +kernel⟩
theorem witness_HostCommandsEnd_11 : ∃ (s : State) (p : HostPort), ∃ c, s.cmdReady p = true ∧ s.safe = true ∧
    s.releaseBarred = false ∧ s.lateCause = some c ∧ c ≤ 15 :=
  ⟨{ tOn with mode := { now := .safeHold, late := some (tOn.instant, 15) } }, .twoWire, 15, by decide +kernel⟩
theorem witness_HostCommandsEnd_12 : ∃ (s : State) (p : HostPort) (arg : Word), s.cmdReady p = true ∧ arg.toNat < 4 ∧
    s.dom .net = 2 ∧ s.hif.blockReset ≠ some arg.toNat ∧ s.portOn arg.toNat = false :=
  ⟨tOn, .spi, 3, by decide +kernel⟩
theorem witness_HostCommandsEnd_13 : ∃ (s : State) (p : HostPort) (arg : Word), ∃ t, s.cmdReady p = true ∧ resetTarget
    arg.toNat = some t ∧ s.dom t.domain = 2 ∧ (s.hif.blockReset = some arg.toNat ∨ s.targetResetting t = true) :=
  ⟨tOn.setTile 0 { resetting := true }, .spi, 0x10, (.tile 0), by decide +kernel⟩

/-! SafeHoldEntryAndExit -/

theorem witness_SafeHoldEntryAndExit_0 : ∃ (s : State), s.mode.now ≠ .transit ∧ s.mode.now ≠ .safeHold :=
  ⟨tOn, by decide +kernel⟩
theorem witness_SafeHoldEntryAndExit_2 : ∃ (s : State), s.safe = true :=
  ⟨{ tOn with mode := { now := .safeHold } }, by decide +kernel⟩
theorem witness_SafeHoldEntryAndExit_1 : ∃ (s : State), s.mode.now = .safeHold ∧ s.mode.safeTick = some s.instant ∧
    isSafeCause s.mode.cause = true :=
  ⟨{ tOn with mode := { now := .safeHold, cause := 20, safeTick := some tOn.instant } }, by decide +kernel⟩
theorem witness_SafeHoldEntryAndExit_3 : ∃ (s : State), s.mode.now = .safeHold ∧ s.mode.safeTick ≠ some s.instant :=
  ⟨{ tOn with mode := { now := .safeHold } }, by decide +kernel⟩
theorem witness_SafeHoldEntryAndExit_4 : ∃ (s : State), s.mode.now = .transit :=
  ⟨{ tOn with mode := { now := .transit } }, by decide +kernel⟩
theorem witness_SafeHoldEntryAndExit_5 : ∃ (s : State), s.mode.now ≠ .transit ∧ s.mode.now ≠ .safeHold ∧
    s.mode.riseTick = some s.instant :=
  ⟨{ tOn with mode := { riseTick := some tOn.instant } }, by decide +kernel⟩

/-! ModeRequestsAreJudged -/

theorem witness_ModeRequestsAreJudged_0 : ∃ (s : State) (p : HostPort) (v : Word), s.hostReady p = true ∧
    s.hif.cmdLatched = none ∧ Mode.ofCode (v.toNat % 16) = none :=
  ⟨tOn, .twoWire, 9437184, by decide +kernel⟩
theorem witness_ModeRequestsAreJudged_1 : ∃ (s : State) (p : HostPort) (v : Word), ∃ m, s.hostReady p = true ∧
    s.hif.cmdLatched = none ∧ Mode.ofCode (v.toNat % 16) = some m ∧ (s.entering = true ∨ s.waking = true) :=
  ⟨(tWith [(289, 32)] tOn), .twoWire, 2054, .freeRun, by decide +kernel⟩
theorem witness_ModeRequestsAreJudged_2 : ∃ (s : State) (p : HostPort) (v : Word), ∃ m, s.hostReady p = true ∧
    s.hif.cmdLatched = none ∧ Mode.ofCode (v.toNat % 16) = some m ∧ s.entering = false ∧ s.waking = false ∧ s.mode.now
    = .rise :=
  ⟨tOn, .twoWire, 209715, .follow, by decide +kernel⟩
theorem witness_ModeRequestsAreJudged_3 : ∃ (s : State) (p : HostPort) (v : Word), ∃ m, ∃ r, s.hostReady p = true ∧
    s.hif.cmdLatched = none ∧ Mode.ofCode (v.toNat % 16) = some m ∧ s.entering = false ∧ s.waking = false ∧ s.mode.now
    ≠ .rise ∧ s.modeBar s.mode.now m = some r :=
  ⟨{ tOn with mode := { now := .safeHold } }, .twoWire, 292, .relay, 5, by decide +kernel⟩
theorem witness_ModeRequestsAreJudged_5 : ∃ (s : State), s.riseReady = false :=
  ⟨tOn, by decide +kernel⟩
theorem witness_ModeRequestsAreJudged_4 : ∃ (s : State), s.riseReady = true ∧ s.mode.now = .rise ∧ s.alarmTripped = false
    ∧ s.bit F.GRD_STAT_SAFE_PEND = false ∧ s.mode.safeAtStop = false ∧ s.mode.reqResult ≠ 1 :=
  ⟨(tWith [(768, 81)] tOn), by decide +kernel⟩
theorem witness_ModeRequestsAreJudged_6 : ∃ (s : State) (p : HostPort) (v : Word), ∃ m, s.hostReady p = true ∧
    s.hif.cmdLatched = none ∧ Mode.ofCode (v.toNat % 16) = some m ∧ s.entering = false ∧ s.waking = false ∧ s.mode.now
    ≠ .rise ∧ s.modeBar s.mode.now m = none ∧ m ≠ .standby ∧ m ≠ .transit ∧ ¬ (m = .safeHold ∧ s.mode.now = .transit) :=
  ⟨{ tOn with mode := { now := .freeRun } }, .twoWire, 9, .maintain, by decide +kernel⟩
theorem witness_ModeRequestsAreJudged_7 : ∃ (s : State) (p : HostPort) (v : Word), ∃ m, s.hostReady p = true ∧
    s.hif.cmdLatched = none ∧ Mode.ofCode (v.toNat % 16) = some m ∧ s.entering = false ∧ s.waking = false ∧ s.mode.now
    ≠ .rise ∧ m = s.mode.now ∧ m ≠ .safeHold :=
  ⟨{ tOn with mode := { now := .freeRun } }, .twoWire, 6, .freeRun, by decide +kernel⟩
theorem witness_ModeRequestsAreJudged_8 : ∃ (s : State), s.riseReady = true ∧ s.mode.now = .rise ∧ (s.alarmTripped = true
    ∨ s.bit F.GRD_STAT_SAFE_PEND = true ∨ s.mode.safeAtStop = true) ∧ s.mode.reqResult = 1 :=
  ⟨{ tWith [(768, 81)] tOn with mode := { safeAtStop := true, reqMode := 6, reqResult := 1 } }, by decide +kernel⟩
theorem witness_ModeRequestsAreJudged_9 : ∃ (s : State), ∃ m, ∃ r, s.riseReady = true ∧ s.mode.now = .rise ∧
    s.alarmTripped = false ∧ s.bit F.GRD_STAT_SAFE_PEND = false ∧ s.mode.safeAtStop = false ∧ s.mode.reqResult = 1 ∧
    Mode.ofCode s.mode.reqMode = some m ∧ s.modeBar .freeRun m = some r :=
  ⟨{ tWith [(768, 81)] tOn with mode := { reqMode := 2, reqResult := 1 } }, .grand, 4, by decide +kernel⟩
theorem witness_ModeRequestsAreJudged_10 : ∃ (s : State), ∃ m, s.riseReady = true ∧ s.mode.now = .rise ∧
    s.alarmTripped = false ∧ s.bit F.GRD_STAT_SAFE_PEND = false ∧ s.mode.safeAtStop = false ∧ s.mode.reqResult = 1 ∧
    Mode.ofCode s.mode.reqMode = some m ∧ s.modeBar .freeRun m = none ∧ m ≠ .standby ∧ m ≠ .transit :=
  ⟨{ tWith [(768, 81)] tOn with mode := { reqMode := 4, reqResult := 1 } }, .relay, by decide +kernel⟩

/-! DomainsDropAndStart -/

theorem witness_DomainsDropAndStart_0 : ∃ (s : State) (p : HostPort) (v : Word), s.hostReady p = true ∧ bitsAt v.toNat
    0 4 = 1 ∧ 1 ≤ (bitsAt v.toNat 8 3) ∧ (withDependents (bitsAt v.toNat 8 3)).any (fun e => s.domain e == 1) = true
    :=
  ⟨(tWith [(257, 39594)] tOn), .spi, 281603809, by decide +kernel⟩
theorem witness_DomainsDropAndStart_1 : ∃ (s : State) (p : HostPort) (v : Word), ∃ x, ∃ e, s.hostReady p = true ∧
    bitsAt v.toNat 0 4 = 1 ∧ 1 ≤ (bitsAt v.toNat 8 3) ∧ (withDependents (bitsAt v.toNat 8 3)).any (fun e => s.domain e
    == 1) = false ∧ s.firstHeld (withDependents (bitsAt v.toNat 8 3)) otherVoters = some x ∧ e < 8 :=
  ⟨tOn, .spi, 1076651377, (5, 8), 7, by decide +kernel⟩
theorem witness_DomainsDropAndStart_2 : ∃ (s : State) (p : HostPort) (v : Word), ∃ e, s.hostReady p = true ∧ bitsAt
    v.toNat 0 4 = 1 ∧ 1 ≤ (bitsAt v.toNat 8 3) ∧ (withDependents (bitsAt v.toNat 8 3)).any (fun e => s.domain e == 1)
    = false ∧ s.firstHeld (withDependents (bitsAt v.toNat 8 3)) otherVoters = none ∧ 1 ≤ e ∧ e < 8 :=
  ⟨tOn, .twoWire, 3055432033, 5, by decide +kernel⟩
theorem witness_DomainsDropAndStart_3 : ∃ (s : State) (d : Domain), ∃ e, d ≠ .aon ∧ s.domain d.code = 3 ∧ s.drained
    d.code = true ∧ ((withDependents d.code).filter (· != d.code)).all (fun e => s.domain e == 0) = true ∧ e < 8 ∧
    ¬ (d = .oven ∧ s.entering = true ∧ s.get F.PWR_SLEEP_STAT_TARGET = 2) :=
  ⟨(tWith [(257, 43754)] tOn), .out, 7, by decide +kernel⟩
theorem witness_DomainsDropAndStart_4 : ∃ (s : State) (d : Domain), ∃ e, d ≠ .aon ∧ s.domain d.code = 1 ∧
    s.pwr.dropWaiting = [] ∧ s.entering = false ∧ e < 8 :=
  ⟨(tWith [(257, 39594)] tOn), .array, 4, by decide +kernel⟩
theorem witness_DomainsDropAndStart_5 : ∃ (s : State) (r : Regulator), ∃ d, s.pwr.started = true ∧ r ≠ .aon ∧ 1 ≤ d ∧
    d < 8 ∧ (regulatorFeeds r.code).any (fun e => (withDependents e).contains d) = true :=
  ⟨tOn, .ana, 3, by decide +kernel⟩
theorem witness_DomainsDropAndStart_6 : ∃ (s : State) (r : Regulator), ∃ d, s.pwr.started = true ∧ r ≠ .aon ∧ 1 ≤ d ∧
    d < 8 ∧ (regulatorFeeds r.code).any (fun e => (withDependents e).contains d) = false :=
  ⟨tOn, .tick, 7, by decide +kernel⟩
theorem witness_DomainsDropAndStart_7 : ∃ (s : State) (p : HostPort) (v : Word), ∃ e, s.hostReady p = true ∧ bitsAt
    v.toNat 0 4 = 1 ∧ 1 ≤ (bitsAt v.toNat 8 3) ∧ (withDependents (bitsAt v.toNat 8 3)).any (fun e => s.domain e == 1)
    = false ∧ s.firstHeld (withDependents (bitsAt v.toNat 8 3)) otherVoters = none ∧ s.pwr.dropping = [] ∧
    dropOrder.all (fun e => s.domain e != 3) = true ∧
    (dropOrder.filter (withDependents (bitsAt v.toNat 8 3)).contains).find? (fun e => s.domain e != 0) = some e :=
  ⟨tOn, .twoWire, 0x101, 1, by decide +kernel⟩
theorem witness_DomainsDropAndStart_8 : ∃ (s : State) (p : HostPort) (v : Word), s.hostReady p = true ∧
    (bitsAt v.toNat 0 4 ≠ 1 ∨ bitsAt v.toNat 8 3 = 0) :=
  ⟨tOn, .spi, 1, by decide +kernel⟩
theorem witness_DomainsDropAndStart_9 : ∃ (s : State), s.domain Domain.oven.code = 3 ∧ s.drained Domain.oven.code = true ∧
    ((withDependents Domain.oven.code).filter (· != Domain.oven.code)).all (fun e => s.domain e == 0) = true ∧
    s.entering = true ∧ s.get F.PWR_SLEEP_STAT_TARGET = 2 :=
  ⟨((tOn.put (domField .oven) 3).put F.PWR_SLEEP_STAT_ENTERING 1).put F.PWR_SLEEP_STAT_TARGET 2, by decide +kernel⟩

/-! PerformanceLevelsFollow -/

theorem witness_PerformanceLevelsFollow_0 : ∃ (s : State) (p : HostPort) (v : Word), s.hostReady p = true ∧ (rowOf
    A.PWR_LEVEL_REQ).inRange v.toNat = true :=
  ⟨tOn, .twoWire, 209715, by decide +kernel⟩
theorem witness_PerformanceLevelsFollow_2 : ∃ (s : State), ∃ l, s.pwr.started = true ∧ s.pwr.levelTo = some l ∧ l < 4
    ∧ s.get F.PWR_STAT_LEVEL_NOW ≠ l :=
  ⟨{ tOn with pwr := { levelTo := (some 3), started := true, vioH := (some 0), vioO := (some 0) } }, 3,
      by decide +kernel⟩
theorem witness_PerformanceLevelsFollow_3 : ∃ (s : State), ∃ l, s.pwr.started = true ∧ s.pwr.levelTo = some l ∧ l < 4
    ∧ s.get F.PWR_STAT_SEQ = 2 :=
  ⟨(tWith [(256, 2)]
      { tOn with pwr := { levelTo := (some 2), started := true, vioH := (some 0), vioO := (some 0) } }), 2,
      by decide +kernel⟩
theorem witness_PerformanceLevelsFollow_1 : ∃ (s : State) (temp : Int), s.pwr.started = true ∧ s.get F.GRD_STAT_FSM ≠
    fsmLowduty ∧ (∃ k, k < 4 ∧ s.ival (A.GRD_TEMP_D k) = temp) ∧ (∀ k, k < 4 → s.ival (A.GRD_TEMP_D k) ≤ temp) :=
  ⟨tOn.setIval (A.GRD_TEMP_D 2) 1050000, 1050000, by decide +kernel, by decide +kernel, ⟨2, by decide, by decide +kernel⟩,
      by decide +kernel⟩

/-! SleepIsEnteredAndLeft -/

theorem witness_SleepIsEnteredAndLeft_0 : ∃ (s : State) (p : HostPort) (v : Word), ∃ x, s.pwr.started = true ∧
    s.hostReady p = true ∧ 1 ≤ (bitsAt v.toNat 0 2) ∧ s.entering = false ∧ s.waking = false ∧ s.safe = false ∧
    s.sleepNow < (bitsAt v.toNat 0 2) ∧ s.firstHeld ((sleepDrops (bitsAt v.toNat 0 2)).filter (fun d => s.domain d !=
    0)) (heldVoters (bitsAt v.toNat 0 2)) = some x :=
  ⟨{ tOn with pwr := { started := true, wakeHold := some 0, vioH := (some 0), vioO := (some 0) } }, .spi, 27, (1, 128),
      by decide +kernel⟩
theorem witness_SleepIsEnteredAndLeft_1 : ∃ (s : State) (p : HostPort) (v : Word), s.pwr.started = true ∧ s.hostReady
    p = true ∧ 1 ≤ (bitsAt v.toNat 0 2) ∧ s.entering = false ∧ s.waking = false ∧ s.safe = false ∧ s.sleepNow <
    (bitsAt v.toNat 0 2) ∧ s.firstHeld ((sleepDrops (bitsAt v.toNat 0 2)).filter (fun d => s.domain d != 0))
    (heldVoters (bitsAt v.toNat 0 2)) = none :=
  ⟨tOn, .twoWire, 209715, by decide +kernel⟩
theorem witness_SleepIsEnteredAndLeft_2 : ∃ (s : State) (p : HostPort) (v : Word), s.pwr.started = true ∧ s.hostReady
    p = true ∧ bitsAt v.toNat 0 2 = 0 ∧ s.waking = false ∧ s.entering = false ∧ s.sleepNow = 0 :=
  ⟨tOn, .spi, 4, by decide +kernel⟩
theorem witness_SleepIsEnteredAndLeft_3 : ∃ (s : State) (p : HostPort) (v : Word), s.pwr.started = true ∧ s.hostReady
    p = true ∧ bitsAt v.toNat 0 2 = 0 ∧ s.waking = false ∧ s.entering = false ∧ (s.sleepNow = 1 ∨ s.sleepNow = 2) ∧
    s.onVbat = false ∧ s.pwr.rstLow = false :=
  ⟨(tWith [(289, 1)] tOn), .spi, 8, by decide +kernel⟩
theorem witness_SleepIsEnteredAndLeft_4 : ∃ (s : State), s.pwr.started = true ∧ s.entering = true ∧ (sleepDrops (s.get
    F.PWR_SLEEP_STAT_TARGET)).all (fun d => s.domain d == 0) = true ∧ s.domain 1 ≠ 1 ∧ s.pwr.wakeLatched = none ∧
    (s.get F.PWR_SLEEP_STAT_TARGET) ≠ 3 :=
  ⟨(tWith [(289, 16)] tOn), by decide +kernel⟩
theorem witness_SleepIsEnteredAndLeft_6 : ∃ (s : State), ∃ k, s.pwr.started = true ∧ k < 4 ∧ bitOf (s.get
    F.PWR_WAKE_STAT_ARMED) k = true ∧ s.sleepNow = 0 ∧ s.entering = false :=
  ⟨(tWith [(291, 32)] tOn), 1, by decide +kernel⟩
theorem witness_SleepIsEnteredAndLeft_7 : ∃ (s : State), s.pwr.started = true ∧ s.bit F.PWR_WAKE_CFG_AT_EN = true ∧
    s.tclk / 65536 = s.multi A.PWR_WAKE_AT_HI 2 % 2 ^ 48 :=
  ⟨(tWith [(290, 768)] tOn), by decide +kernel⟩
theorem witness_SleepIsEnteredAndLeft_8 : ∃ (s : State), s.pwr.started = true ∧ s.waking = true ∧ s.domain 7 = 2 ∧
    s.pwr.warmAfterWake = false :=
  ⟨(tWith [(289, 32)] tOn), by decide +kernel⟩
theorem witness_SleepIsEnteredAndLeft_9 : ∃ (s : State), ∃ h, s.pwr.started = true ∧ s.pwr.wakeHold = some h ∧
    h + s.val A.PWR_WAKE_HOLD * 65536 ≤ s.tclk :=
  ⟨{ tOn with pwr := { tOn.pwr with wakeHold := some 5, tclk := 2 ^ 80 } }, 5, by decide +kernel⟩
theorem witness_SleepIsEnteredAndLeft_10 : ∃ (s : State), ∃ h, s.pwr.started = true ∧ s.pwr.wakeHold = some h ∧
    s.tclk < h + s.val A.PWR_WAKE_HOLD * 65536 :=
  ⟨{ tOn with pwr := { tOn.pwr with wakeHold := some 5 } }, 5, by decide +kernel⟩

/-! SuppliesComeAndGo -/

theorem witness_SuppliesComeAndGo_0 : ∃ (s : State), ∃ d, s.pwr.started = true ∧ s.sleepNow ≠ 3 ∧ s.onVbat = false ∧ 1
    ≤ d ∧ d < 8 :=
  ⟨tOn, 4, by decide +kernel⟩
theorem witness_SuppliesComeAndGo_1 : ∃ (s : State), s.pwr.started = true ∧ s.sleepNow = 3 ∧ s.onVbat = false ∧
    s.pwr.vmainLow = false :=
  ⟨(tWith [(289, 3)] { tOn with pwr := { started := true, vmainLow := false, vioH := (some 0), vioO := (some 0) } }),
      by decide +kernel⟩
theorem witness_SuppliesComeAndGo_2 : ∃ (s : State), s.pwr.started = true ∧ s.sleepNow = 3 ∧ s.pwr.vmainLow = true ∧
    s.pwr.coldDue = false ∧ s.pwr.wakeLatched = none ∧ s.bit F.PWR_WAKE_CFG_VMAIN_RET = false :=
  ⟨((tOn.put F.PWR_SLEEP_STAT_NOW 3).setBit F.PWR_WAKE_CFG_VMAIN_RET false), by decide +kernel⟩
theorem witness_SuppliesComeAndGo_3 : ∃ mv, ((1710 ≤ mv ∧ mv ≤ 1890) ∨ (3135 ≤ mv ∧ mv ≤ 3465)) :=
  ⟨3465, by decide +kernel⟩
theorem witness_SuppliesComeAndGo_4 : ∃ (s : State), s.hif.job = none :=
  ⟨tOn, by decide +kernel⟩
theorem witness_SuppliesComeAndGo_5 : ∃ (s : State), ∃ mv, ((1710 ≤ mv ∧ mv ≤ 1890) ∨ (2375 ≤ mv ∧ mv ≤ 2625) ∨ (3135 ≤
    mv ∧ mv ≤ 3465)) ∧ s.pwr.vioO = none :=
  ⟨State.reset, 2625, by decide +kernel⟩
theorem witness_SuppliesComeAndGo_6 : ∃ (s : State), ∃ mv, ((1710 ≤ mv ∧ mv ≤ 1890) ∨ (2375 ≤ mv ∧ mv ≤ 2625) ∨ (3135 ≤
    mv ∧ mv ≤ 3465)) ∧ s.pwr.vioO.isSome = true :=
  ⟨tOn, 2375, by decide +kernel⟩

/-! FacesMoveByStepsAndTurnByRates -/

theorem witness_FacesMoveByStepsAndTurnByRates_0 : ∃ (s : State) (p : HostPort) (f : MainFace), s.mayWrite p (stepHi
    f) = true ∧ f = .f0 ∧ s.srvOwnsF0 = true :=
  ⟨{ tOn with mode := { now := .follow } }, .twoWire, .f0, by decide +kernel⟩
theorem witness_FacesMoveByStepsAndTurnByRates_2 : ∃ (s : State) (p : HostPort) (f : MainFace) (v : Word), s.mayWrite
    p (stepHi f) = true ∧ ¬ (f = .f0 ∧ s.srvOwnsF0 = true) ∧ |(signedOf 64 (v.toNat * 2 ^ 32 + ((s.heldWord p (stepHi
    f + 1)).getD 0).toNat))| ≤ s.stepLimit ∧ s.stepFits f (signedOf 64 (v.toNat * 2 ^ 32 +
    ((s.heldWord p (stepHi f + 1)).getD 0).toNat)) = true ∧ f = .f0 ∧ s.facesMoving = false :=
  ⟨tOn, .spi, .f0, 0, by decide +kernel⟩
theorem witness_FacesMoveByStepsAndTurnByRates_7 : ∃ (s : State) (p : HostPort) (f : MainFace) (v : Word), s.mayWrite
    p (stepHi f) = true ∧ ¬ (f = .f0 ∧ s.srvOwnsF0 = true) ∧ |(signedOf 64 (v.toNat * 2 ^ 32 + ((s.heldWord p (stepHi
    f + 1)).getD 0).toNat))| ≤ s.stepLimit ∧ s.stepFits f (signedOf 64 (v.toNat * 2 ^ 32 +
    ((s.heldWord p (stepHi f + 1)).getD 0).toNat)) = false :=
  ⟨tOn.hold .spi 0x41C 0xFFFF0000, .spi, .f0, 0xFFFFFFFF, by decide +kernel⟩
theorem witness_FacesMoveByStepsAndTurnByRates_3 : ∃ (s : State) (p : HostPort) (f : MainFace) (v : Word), s.mayWrite
    p (stepHi f) = true ∧ ¬ (f = .f0 ∧ s.srvOwnsF0 = true) ∧ s.stepLimit < |(signedOf 64 (v.toNat * 2 ^ 32 +
    ((s.heldWord p (stepHi f + 1)).getD 0).toNat))| :=
  ⟨tOn, .twoWire, .f0, 4104, by decide +kernel⟩
theorem witness_FacesMoveByStepsAndTurnByRates_5 : ∃ (s : State) (p : HostPort) (f : MainFace) (v : Word), s.mayWrite
    p (rateHi f) = true ∧ ¬ (f = .f0 ∧ s.srvOwnsF0 = true) ∧ |(signedOf 48 (v.toNat % 65536 * 2 ^ 32 + ((s.heldWord p
    (rateHi f + 1)).getD (wordOf (codeOf 48 (s.face f).rate))).toNat)) - (s.face f).rate| ≤ s.rateLimit ∧ f = .f0 :=
  ⟨tOn, .twoWire, .f0, 2147549184, by decide +kernel⟩
theorem witness_FacesMoveByStepsAndTurnByRates_6 : ∃ (s : State) (p : HostPort) (f : MainFace) (v : Word), s.mayWrite
    p (rateHi f) = true ∧ ¬ (f = .f0 ∧ s.srvOwnsF0 = true) ∧ s.rateLimit < |(signedOf 48 (v.toNat % 65536 * 2 ^ 32 +
    ((s.heldWord p (rateHi f + 1)).getD (wordOf (codeOf 48 (s.face f).rate))).toNat)) - (s.face f).rate| :=
  ⟨tOn, .twoWire, .f0, 4104, by decide +kernel⟩

/-! ArmingGatesTheCommit -/

theorem witness_ArmingGatesTheCommit_0 : ∃ (s : State) (p : HostPort) (b : ArmBank), s.mayWrite p (armWord b) = true ∧
    s.armedBy b = some p.other :=
  ⟨{ tOn with arms := { srv := (some { port := .spi, ends := none }) } }, .twoWire, .srv, by decide +kernel⟩
theorem witness_ArmingGatesTheCommit_1 : ∃ (s : State) (p : HostPort) (b : ArmBank) (v : Word), s.mayWrite p (armWord
    b) = true ∧ s.armedBy b ≠ some p.other ∧ v.toNat % 65536 = s.val b.codeWord % 65536 ∧ b = .str :=
  ⟨(tWith [(1027, 0)] tOn), .twoWire, .str, 2228224, by decide +kernel⟩
theorem witness_ArmingGatesTheCommit_2 : ∃ (s : State) (p : HostPort) (b : ArmBank) (v : Word), s.mayWrite p (armWord
    b) = true ∧ s.armedBy b ≠ some p.other ∧ v.toNat % 65536 ≠ s.val b.codeWord % 65536 ∧ b = .str :=
  ⟨tOn, .twoWire, .str, 1082130432, by decide +kernel⟩
theorem witness_ArmingGatesTheCommit_3 : ∃ (s : State) (p : HostPort) (v : Word), s.mayWrite p A.STR_COMMIT = true ∧
    s.armedBy .str ≠ some p.other ∧ v.toNat % 65536 = 65535 - s.val A.STR_ARM_CODE % 65536 ∧ s.armedBy .str = none :=
  ⟨(tWith [(1027, 65534)] tOn), .twoWire, 1, by decide +kernel⟩
theorem witness_ArmingGatesTheCommit_4 : ∃ (s : State) (p : HostPort) (v : Word), ∃ x, ∃ (g : MainFace), s.mayWrite p
    A.STR_COMMIT = true ∧ s.armedBy .str ≠ some p.other ∧ v.toNat % 65536 = 65535 - s.val A.STR_ARM_CODE % 65536 ∧
    s.armedBy .str = some p ∧ s.str.latched = some x ∧ s.stepFits x.1 x.2 = true ∧ g ≠ x.1 :=
  ⟨(tWith [(1027, 65534)]
      { tOn with arms := { str := (some { port := .twoWire, ends := none }) }, str := { latched := (some (.f0, 31000)) } }),
      .twoWire, 1, (.f0, 31000), .f3, by decide +kernel⟩
theorem witness_ArmingGatesTheCommit_5 : ∃ (s : State) (p : HostPort) (v : Word), s.mayWrite p A.STR_COMMIT = true ∧
    s.armedBy .str ≠ some p.other ∧ v.toNat % 65536 ≠ 65535 - s.val A.STR_ARM_CODE % 65536 :=
  ⟨tOn, .twoWire, 209715, by decide +kernel⟩
theorem witness_ArmingGatesTheCommit_6 : ∃ (s : State) (p : HostPort), s.mayWrite p A.STR_PEND_DELTA_HI = true ∧
    (s.armedBy .str).isSome = true :=
  ⟨{ tOn with arms := { str := (some { port := .spi, ends := none }) } }, .twoWire, by decide +kernel⟩
theorem witness_ArmingGatesTheCommit_7 : ∃ (s : State) (p : HostPort), s.mayWrite p A.STR_PEND_DELTA_HI = true ∧
    s.armedBy .str = none :=
  ⟨tOn, .twoWire, by decide +kernel⟩
theorem witness_ArmingGatesTheCommit_8 : ∃ (s : State) (b : ArmBank), (s.arming b).isSome = true ∧ b = .str :=
  ⟨{ tOn with arms := { str := (some { port := .spi, ends := none }) } }, .str, by decide +kernel⟩
theorem witness_ArmingGatesTheCommit_9 : ∃ (s : State) (b : ArmBank), s.arming b = none :=
  ⟨tOn, .nts, by decide +kernel⟩
theorem witness_ArmingGatesTheCommit_10 : ∃ (s : State) (p : HostPort) (b : ArmBank) (v : Word), s.mayWrite p
    b.codeWord = true ∧ v.toNat % 65536 = 0 :=
  ⟨tOn, .twoWire, .str, 1082130432, by decide +kernel⟩
theorem witness_ArmingGatesTheCommit_11 : ∃ (s : State) (p : HostPort) (b : ArmBank) (v : Word), s.mayWrite p
    b.codeWord = true ∧ v.toNat % 65536 ≠ 0 :=
  ⟨tOn, .twoWire, .grd, 4104, by decide +kernel⟩
theorem witness_ArmingGatesTheCommit_12 : ∃ (s : State) (p : HostPort), ∃ k, s.mayWrite p A.HIF_BANK_LOCK = true ∧
    s.locked k = true :=
  ⟨(tWith [(0, 16)] tOn), .twoWire, 4, by decide +kernel⟩

/-! LeapsSmearAndOffset -/

theorem witness_LeapsSmearAndOffset_0 : ∃ (s : State) (p : HostPort) (v : Word), s.mayWrite p A.STR_LEAP_CTL = true ∧
    s.bit F.STR_STAT_IN_SMEAR = false ∧ (bitsAt v.toNat 0 2) ≠ 3 ∧ (bitsAt v.toNat 0 2) ≠ 0 ∧ (bitsAt v.toNat 0 2) ≠
    s.leap ∧ s.leapOk (bitsAt v.toNat 0 2) (bitOf v.toNat 4) = false :=
  ⟨tOn, .twoWire, 2, by decide +kernel⟩
theorem witness_LeapsSmearAndOffset_1 : ∃ (s : State) (p : HostPort) (v : Word), s.mayWrite p A.STR_LEAP_CTL = true ∧
    s.bit F.STR_STAT_IN_SMEAR = false ∧ (bitsAt v.toNat 0 2) ≠ 3 ∧ ((bitsAt v.toNat 0 2) ≠ 0 → (bitsAt v.toNat 0 2) ≠
    s.leap → s.leapOk (bitsAt v.toNat 0 2) (bitOf v.toNat 4) = true) :=
  ⟨tOn, .spi, 4, by decide +kernel⟩
theorem witness_LeapsSmearAndOffset_2 : ∃ (s : State), s.up .time = true ∧ s.leap ≠ 0 ∧ (s.leapAt : Int) * pipsPerSec
    ≤ s.pips .f0 s.nowSub ∧ s.facesFit (s.faces.withUtc (signedOf 16 (codeOf 16 (s.utcOffset + leapSign s.leap))) true)
    [.f1, .f2] = true :=
  ⟨(tOn.put F.STR_LEAP_CTL_LEAP 2), by decide +kernel⟩
theorem witness_LeapsSmearAndOffset_3 : ∃ (s : State), s.up .time = true :=
  ⟨tOn, by decide +kernel⟩
theorem witness_LeapsSmearAndOffset_4 : ∃ (s : State) (p : HostPort), s.mayWrite p A.STR_UTC_OFFSET = true ∧
    s.armedFor p .str = false :=
  ⟨tOn, .twoWire, by decide +kernel⟩
theorem witness_LeapsSmearAndOffset_5 : ∃ (s : State) (p : HostPort) (v : Word), s.mayWrite p A.STR_UTC_OFFSET = true ∧
    s.armedFor p .str = true ∧ s.leap = 0 ∧
    s.facesFit (s.faces.withUtc (signedOf 16 v.toNat) false) [.f1, .f2] = true :=
  ⟨{ tOn with arms := { str := (some { port := .spi, ends := none }) } }, .spi, 0xFFFF, by decide +kernel⟩

/-! OvenFollowsItsSamples -/

theorem witness_OvenFollowsItsSamples_0 : ∃ (s : State), s.up .oven = true :=
  ⟨tOn, by decide +kernel⟩
theorem witness_OvenFollowsItsSamples_1 : ∃ (s : State), s.up .oven = true ∧ s.bit F.TB_CTL_OVEN_EN = true ∧ s.bit
    F.TB_STAT_WARM = false :=
  ⟨tOn, by decide +kernel⟩
theorem witness_OvenFollowsItsSamples_2 : ∃ (s : State), (s.up .oven = false ∨ s.bit F.TB_CTL_OVEN_EN = false ∨ s.bit
    F.TB_STAT_WARM = true) :=
  ⟨(tWith [(769, 134)] tOn), by decide +kernel⟩
theorem witness_OvenFollowsItsSamples_3 : ∃ (s : State), s.up .oven = true ∧ s.tb.ramp = .down ∧ s.bit
    F.TB_STAT_OVEN_ON = false :=
  ⟨{ tOn with tb := { ramp := .down } }, by decide +kernel⟩
theorem witness_OvenFollowsItsSamples_6 : ∃ (s : State), s.up .oven = true ∧ s.tb.ramp ≠ .down :=
  ⟨{ tOn with tb := { ramp := .up } }, by decide +kernel⟩
theorem witness_OvenFollowsItsSamples_7 : ∃ (s : State) (p : HostPort) (v : Word), s.hostReady p = true ∧
    s.takesWrites .oven = true ∧ s.takesWrites .time = true ∧ bitOf v.toNat 0 = s.bit F.TB_CTL_OVEN_EN ∧
    bitsAt v.toNat 4 4 ≤ 12 :=
  ⟨tOn, .twoWire, 0xC5, by decide +kernel⟩
theorem witness_OvenFollowsItsSamples_8 : ∃ (s : State) (p : HostPort) (v : Word), s.hostReady p = true ∧
    s.takesWrites .oven = true ∧ s.takesWrites .time = true ∧ bitOf v.toNat 0 = s.bit F.TB_CTL_OVEN_EN ∧
    12 < bitsAt v.toNat 4 4 :=
  ⟨tOn, .spi, 0xD5, by decide +kernel⟩
theorem witness_OvenFollowsItsSamples_9 : ∃ (s : State) (a b : Int) (vheat drive cmd : Nat), s.up .oven = true ∧
    (s.bit F.TB_CTL_OVEN_EN = false ∨ s.tb.sensorBad.on = true ∨
      (s.ovenSample a b vheat drive cmd).tb.sensorBad.on = true) :=
  ⟨{ tOn with tb := { sensorBad := { on := true } } }, 0, 0, 5000, 0, 0, by decide +kernel⟩
theorem witness_OvenFollowsItsSamples_4 : ∃ (s : State) (p : HostPort) (v : Word), s.hostReady p = true ∧
    s.takesWrites .oven = true ∧ s.takesWrites .time = true ∧ bitOf v.toNat 0 ≠ s.bit F.TB_CTL_OVEN_EN ∧ s.armedFor p
    .tb = false :=
  ⟨tOn, .twoWire, 2, by decide +kernel⟩
theorem witness_OvenFollowsItsSamples_5 : ∃ (s : State) (p : HostPort) (v : Word), s.hostReady p = true ∧
    s.takesWrites .oven = true ∧ s.takesWrites .time = true ∧ bitOf v.toNat 0 ≠ s.bit F.TB_CTL_OVEN_EN ∧ s.armedFor p
    .tb = true ∧ bitsAt v.toNat 4 4 ≤ 12 ∧ bitOf v.toNat 0 = false :=
  ⟨{ tOn with arms := { tb := (some { port := .spi, ends := none }) } }, .spi, 4069064598, by decide +kernel⟩

/-! TickIsLockedAndChecked -/

theorem witness_TickIsLockedAndChecked_0 : ∃ (s : State), s.dom .time ≠ 0 ∧ s.bit F.TB_STAT_PLL_LOCK = false :=
  ⟨tOn, by decide +kernel⟩
theorem witness_TickIsLockedAndChecked_1 : ∃ (s : State), s.up .time = true ∧ s.bit F.TB_STAT_PLL_LOCK = true ∧
    s.tallyRun = true :=
  ⟨(tWith [(768, 80)] tOn), by decide +kernel⟩
theorem witness_TickIsLockedAndChecked_3 : ∃ (s : State) (ticks : Nat) (done : Bool) (slips : Nat), s.up .time = true
    ∧ s.tallyRun = true ∧ slips = 0 ∧ (((if done && (s.windowVerdict ticks done slips).1.crystalSound then
    (s.x32Window ticks done slips).x32Learn ticks else (s.x32Window ticks done slips))).tb.x32.on = true ∨ done =
    false) :=
  ⟨tOn, 6, false, 0, by decide +kernel⟩
theorem witness_TickIsLockedAndChecked_4 : ∃ (s : State) (ticks : Nat) (done : Bool) (slips : Nat), s.up .time = true
    ∧ s.tallyRun = true ∧ slips = 0 ∧ ((if done && (s.windowVerdict ticks done slips).1.crystalSound then (s.x32Window
    ticks done slips).x32Learn ticks else (s.x32Window ticks done slips))).tb.x32.on = false ∧ done = true ∧
    s.refActive = true ∧ s.tb.ref.on = true :=
  ⟨{ tOn with tb := { checkSlot := (some 0), ref := { on := true } } }, 6, true, 0, by decide +kernel⟩
theorem witness_TickIsLockedAndChecked_5 : ∃ (s : State) (ticks : Nat) (done : Bool) (slips : Nat), s.up .time = true
    ∧ s.tallyRun = true ∧ slips = 0 ∧ ((if done && (s.windowVerdict ticks done slips).1.crystalSound then (s.x32Window
    ticks done slips).x32Learn ticks else (s.x32Window ticks done slips))).tb.x32.on = false ∧ done = true ∧ ¬
    (s.refActive = true ∧ s.tb.ref.on = true) :=
  ⟨tOn, 2, true, 0, by decide +kernel⟩
theorem witness_TickIsLockedAndChecked_6 : ∃ (s : State), s.up .time = true ∧ s.refActive = true :=
  ⟨{ tOn with tb := { checkSlot := (some 0) } }, by decide +kernel⟩
theorem witness_TickIsLockedAndChecked_9 : ∃ (s : State), s.up .time = true ∧ s.refActive = true ∧ s.tb.x32.on = true :=
  ⟨{ tOn with tb := { checkSlot := (some 0), x32 := { on := true } } }, by decide +kernel⟩
theorem witness_TickIsLockedAndChecked_10 : ∃ (s : State) (dev : Int), s.up .time = true ∧ s.refActive = true ∧
    s.tb.x32.on = false ∧ (Qual.sample .upper (s.descriptor A.TB_TIM_REF_ASSERT) |dev| s.tb.ref).on = true :=
  ⟨{ tOn with tb := { checkSlot := (some 0), ref := { on := true } } }, 700000, by decide +kernel⟩
theorem witness_TickIsLockedAndChecked_7 : ∃ (s : State) (p : HostPort) (a : Nat) (v : Word), ∃ d, s.mayWrite p a =
    true ∧ (rowOf a).writable ≠ 0 ∧ descriptorAt a = some d ∧ a = d.1 + 2 ∧ (Descriptor.ofWords ((s.heldWord p
    d.1).getD (s.rd d.1)) ((s.heldWord p (d.1 + 1)).getD (s.rd (d.1 + 1))) v).ok d.2 = true :=
  ⟨tOn, .twoWire, 2311, 936531367, (2309, Sys2Proof.Machine.Limit.lower), by decide +kernel⟩
theorem witness_TickIsLockedAndChecked_8 : ∃ (s : State) (p : HostPort) (a : Nat) (v : Word), ∃ d, s.mayWrite p a =
    true ∧ (rowOf a).writable ≠ 0 ∧ descriptorAt a = some d ∧ a = d.1 + 2 ∧ (Descriptor.ofWords ((s.heldWord p
    d.1).getD (s.rd d.1)) ((s.heldWord p (d.1 + 1)).getD (s.rd (d.1 + 1))) v).ok d.2 = false :=
  ⟨tOn, .spi, 5730, 0, (5728, Sys2Proof.Machine.Limit.upper), by decide +kernel⟩

/-! EdgesBecomeStamps -/

theorem witness_EdgesBecomeStamps_0 : ∃ (s : State) (n sub : Nat) (falling short : Bool), s.up .time = true ∧ n < 8 ∧
    s.takesEdges n = true ∧ s.passes n falling = true ∧ (s.chan n).changing = false ∧ short =
    false ∧ (∀ e, (s.chan n).prevEdge = some e → 131072 ≤ s.nowSub + (sub % 65536 : Nat) - e) :=
  ⟨(tWith [(1425, 1)] tOn), 7, 4, false, false, by decide +kernel⟩
theorem witness_EdgesBecomeStamps_1 : ∃ (s : State) (n : Nat) (falling short : Bool), s.up .time = true ∧ n < 8 ∧
    s.takesEdges n = true ∧ s.passes n falling = true ∧ short =
    true ∧ (s.chan n).ranges.any (fun r => r.running && r.cause == 1) = false :=
  ⟨(tWith [(1425, 1)] tOn), 7, false, true, by decide +kernel⟩
theorem witness_EdgesBecomeStamps_2 : ∃ (s : State) (n sub : Nat) (falling : Bool), ∃ e, s.up .time = true ∧ n < 8 ∧
    s.takesEdges n = true ∧ s.passes n falling = true ∧ (s.chan n).ranges.any (fun r => r.running && r.cause == 0) = false ∧ (s.chan
    n).prevEdge = some e ∧ s.nowSub + (sub % 65536 : Nat) - e < 131072 :=
  ⟨(tWith [(1361, 1), (1360, 8200)]
      { tOn with vc := ((Vector.replicate 8 {}).setIfInBounds 3 { prevEdge := (some (-100000)) }) }), 3, 9, true,
      (-100000), by decide +kernel⟩
theorem witness_EdgesBecomeStamps_7 : ∃ (s : State) (n : Nat) (falling : Bool), s.up .time = true ∧ n < 8 ∧
    s.takesEdges n = true ∧ s.passes n falling = true ∧ (s.chan n).changing = true :=
  ⟨tWith [(1361, 1)] (tOn.setChan 3 { stopping := true }), 3, false, by decide +kernel⟩
theorem witness_EdgesBecomeStamps_3 : ∃ (s : State) (n : Nat), s.up .time = true ∧ n < 8 ∧ (s.chan n).conv = [] :=
  ⟨tOn, 4, by decide +kernel⟩
theorem witness_EdgesBecomeStamps_4 : ∃ (s : State) (n : Nat) (met : Bool), ∃ v, s.up .time = true ∧ n < 8 ∧ (s.chan
    n).conv.head? = some v ∧ met = false ∧ v.coarse = false :=
  ⟨{ tOn with vc := ((Vector.replicate 8 {}).setIfInBounds 3 { conv := [{ tally := 8, falling := false, coarse := false, suspect := false, edgeEnd := 2048, width := 2043, sq := 32768, delays := 100, prescaled := false }] }) },
      3, false,
      { tally := 8, falling := false, coarse := false, suspect := false, edgeEnd := 2048, width := 2043, sq := 32768, delays := 100, prescaled := false },
      by decide +kernel⟩
theorem witness_EdgesBecomeStamps_5 : ∃ (s : State) (n : Nat), ∃ v, s.up .time = true ∧ n < 8 ∧ (s.chan n).conv.head?
    = some v ∧ v.coarse = true :=
  ⟨{ tOn with vc := ((Vector.replicate 8 {}).setIfInBounds 7 { conv := [{ tally := 12, falling := false, coarse := true, suspect := false, edgeEnd := 2048, width := 2047, sq := 32768, delays := 100, prescaled := false }] }) },
      7,
      { tally := 12, falling := false, coarse := true, suspect := false, edgeEnd := 2048, width := 2047, sq := 32768, delays := 100, prescaled := false },
      by decide +kernel⟩
theorem witness_EdgesBecomeStamps_6 : ∃ (s : State) (n : Nat), ∃ v, s.up .time = true ∧ n < 8 ∧ (s.chan n).conv.head?
    = some v ∧ s.bit (F.VC_Vn_CTL_QEN n) = false :=
  ⟨{ tOn with vc := ((Vector.replicate 8 {}).setIfInBounds 3 { conv := [{ tally := 8, falling := false, coarse := false, suspect := false, edgeEnd := 2048, width := 2043, sq := 32768, delays := 100, prescaled := false }] }) },
      3,
      { tally := 8, falling := false, coarse := false, suspect := false, edgeEnd := 2048, width := 2043, sq := 32768, delays := 100, prescaled := false },
      by decide +kernel⟩

/-! QueuesMarkersAndChannels -/

theorem witness_QueuesMarkersAndChannels_0 : ∃ (s : State) (n : Nat) (p : HostPort), ∃ m, s.up .time = true ∧ n < 8 ∧
    s.mayWrite p (A.VQ_Vn_FLUSH n) = true ∧ m < 8 ∧ m ≠ n :=
  ⟨tOn, 4, .twoWire, 7, by decide +kernel⟩
theorem witness_QueuesMarkersAndChannels_2 : ∃ (s : State) (n : Nat) (p : HostPort) (v : Word), s.up .time = true ∧ n
    < 8 ∧ s.mayWrite p (A.VC_Vn_MARK n) = true ∧ v.toNat < 0xFF00 ∧ s.bit (F.VC_Vn_CTL_QEN n) = true ∧ (s.chan n).later
    = [] ∧ (s.chan n).markerNext s.tally = true ∧ (s.chan n).ranges.any (fun r => decide (0 < r.edges)) = false ∧ (s.chan n).queue.length ≤ 4094 :=
  ⟨(tWith [(1328, 8194)] tOn), 1, .twoWire, 143, by decide +kernel⟩
theorem witness_QueuesMarkersAndChannels_3 : ∃ (s : State) (n : Nat), s.up .time = true ∧ n < 8 ∧ s.tallyRun = true ∧
    s.tally % 1250000 = 0 :=
  ⟨tOn, 4, by decide +kernel⟩
theorem witness_QueuesMarkersAndChannels_4 : ∃ (s : State) (n : Nat), s.up .time = true ∧ n < 8 ∧ (s.tallyRun = false
    ∨ s.tally % 1250000 ≠ 0) :=
  ⟨(tWith [(768, 0)] tOn), 7, by decide +kernel⟩
theorem witness_QueuesMarkersAndChannels_1 : ∃ (s : State) (n : Nat) (p : HostPort) (v : Word), s.up .time = true ∧
    n < 8 ∧ s.mayWrite p (A.VQ_Vn_FLUSH n) = true ∧ v ≠ 1 :=
  ⟨tOn, 4, .twoWire, 3, by decide +kernel⟩
theorem witness_QueuesMarkersAndChannels_13 : ∃ (s : State) (n : Nat) (p : HostPort) (v : Word), s.up .time = true ∧
    n < 8 ∧ s.mayWrite p (A.VC_Vn_MARK n) = true ∧ v.toNat < 0xFF00 ∧
    ((s.chan n).later ≠ [] ∨ (s.chan n).markerNext s.tally = false) :=
  ⟨(tOn.setChan 1 { later := [.mark 0 3] }), 1, .spi, 7, by decide +kernel⟩
theorem witness_QueuesMarkersAndChannels_14 : ∃ (s : State) (n : Nat) (p : HostPort) (v : Word), s.up .time = true ∧
    n < 8 ∧ s.mayWrite p (A.VC_Vn_CTL n) = true ∧ bitOf v.toNat 15 = true ∧ s.mayLoop n = false :=
  ⟨{ tOn with tb := { checkSlot := some 2 } }, 2, .spi, 0xA001, by decide +kernel⟩
theorem witness_QueuesMarkersAndChannels_5 : ∃ (s : State) (n : Nat) (p : HostPort) (v : Word), s.up .time = true ∧
    n < 8 ∧ s.mayWrite p (A.VC_Vn_CTL n) = true ∧ (bitOf v.toNat 15 = true → s.mayLoop n = true) ∧
    (s.calib n).run = none ∧ (s.chan n).later = [] ∧ (s.chan n).conv = [] ∧ vcCtlOk v.toNat = false ∧
    vcCtlFit (s.val (A.VC_Vn_CTL n)) v.toNat = 0x2001 :=
  ⟨tOn, 7, .twoWire, 0x200D, by decide +kernel⟩
theorem witness_QueuesMarkersAndChannels_6 : ∃ (s : State) (n : Nat) (p : HostPort) (v : Word), s.up .time = true ∧
    n < 8 ∧ s.mayWrite p (A.VC_Vn_CTL n) = true ∧ (bitOf v.toNat 15 = true → s.mayLoop n = true) ∧
    (s.calib n).run = none ∧ (s.chan n).later = [] ∧ (s.chan n).conv = [] ∧ vcCtlOk v.toNat = true ∧
    s.bit (F.VC_Vn_CTL_EN n) = false ∧ bitOf (vcCtlFit (s.val (A.VC_Vn_CTL n)) v.toNat) 0 = true ∧
    (s.chan n).stopping = false :=
  ⟨tOn, 4, .twoWire, 69905, by decide +kernel⟩
theorem witness_QueuesMarkersAndChannels_7 : ∃ (s : State) (n : Nat) (p : HostPort) (v : Word), s.up .time = true ∧
    n < 8 ∧ s.mayWrite p (A.VC_Vn_CTL n) = true ∧ (bitOf v.toNat 15 = true → s.mayLoop n = true) ∧
    (s.calib n).run = none ∧ (s.chan n).later = [] ∧ (s.chan n).conv = [] ∧ s.bit (F.VC_Vn_CTL_EN n) = true ∧
    bitOf (vcCtlFit (s.val (A.VC_Vn_CTL n)) v.toNat) 0 = false ∧ (s.chan n).stopping = false :=
  ⟨(tWith [(1424, 8193)] tOn), 7, .spi, 0x2000, by decide +kernel⟩
theorem witness_QueuesMarkersAndChannels_8 : ∃ (s : State) (n : Nat) (p : HostPort) (v : Word), s.up .time = true ∧
    n < 8 ∧ s.mayWrite p (A.VC_Vn_CTL n) = true ∧ (bitOf v.toNat 15 = true → s.mayLoop n = true) ∧
    (s.calib n).run = none ∧ (s.chan n).conv ≠ [] :=
  ⟨(tOn.setChan 3 { conv := [{ tally := 8, falling := false, coarse := false, suspect := false, edgeEnd := 2048, width := 2043, sq := 32768, delays := 100, prescaled := false }] }),
    3, .spi, 0x2001, by decide +kernel⟩
theorem witness_QueuesMarkersAndChannels_15 : ∃ (s : State) (n : Nat) (p : HostPort) (v : Word), s.up .time = true ∧
    n < 8 ∧ s.mayWrite p (A.VC_Vn_CTL n) = true ∧ (bitOf v.toNat 15 = true → s.mayLoop n = true) ∧
    (s.calib n).run.isSome = true ∧ bitOf (vcCtlFit (s.val (A.VC_Vn_CTL n)) v.toNat) 0 = true ∧
    s.mayWrite p (A.VC_Vn_DELAY_OFS n) = true :=
  ⟨(tOn.setCalib 3 { run := some { full := true, held := true } }), 3, .spi, 0x2001, by decide +kernel⟩
theorem witness_QueuesMarkersAndChannels_16 : ∃ (s : State) (n : Nat) (p : HostPort), s.up .time = true ∧ n < 8 ∧
    s.mayWrite p (A.VC_Vn_DELAY_OFS n) = true ∧ (s.calib n).run = none ∧ (s.chan n).later = [] ∧ (s.chan n).conv = [] :=
  ⟨tOn, 3, .spi, by decide +kernel⟩
theorem witness_QueuesMarkersAndChannels_9 : ∃ (s : State) (n : Nat), s.up .time = true ∧ n < 8 ∧ (s.chan n).stopping
    = true ∧ (s.chan n).conv = [] :=
  ⟨{ tOn with vc := ((Vector.replicate 8 {}).setIfInBounds 1 { stopping := true }) }, 1, by decide +kernel⟩
theorem witness_QueuesMarkersAndChannels_10 : ∃ (s : State) (n : Nat), s.up .time = true ∧ n < 8 ∧ ((s.chan
    n).stopping = false ∨ (s.chan n).conv ≠ []) :=
  ⟨tOn, 4, by decide +kernel⟩
theorem witness_QueuesMarkersAndChannels_11 : ∃ (s : State) (n : Nat), s.up .time = true ∧ n < 8 ∧ s.bit
    (F.VC_Vn_STAT_ACTIVE n) = true ∧ s.val (A.VC_Vn_IDLE_LIMIT n) ≠ 0 ∧ s.bit (F.VC_Vn_STAT_IDLE n) = false :=
  ⟨(tWith [(1412, 8), (1409, 1)] tOn), 6, by decide +kernel⟩
theorem witness_QueuesMarkersAndChannels_12 : ∃ (s : State) (n : Nat), ∃ m, s.up .time = true ∧ n < 8 ∧ n < 4 ∧
    s.measuring n = true ∧ m < 4 ∧ m ≠ n :=
  ⟨(tWith [(1472, 1)] { tOn with mode := { now := .measure } }), 0, 3, by decide +kernel⟩

/-! CalibrationRuns -/

theorem witness_CalibrationRuns_0 : ∃ (s : State) (n : Nat) (p : HostPort) (v : Word), s.up .time = true ∧ n < 8 ∧
    s.mayWrite p (A.VCAL_Vn_CAL_CTL n) = true ∧ bitOf v.toNat 0 = true ∧ bitOf v.toNat 2 = false ∧ s.runPlace n = .now
    ∧ s.bit F.TB_STAT_PLL_LOCK = true ∧ (s.calib n).run = none ∧ (s.chan n).later = [] ∧ (s.chan n).conv = [] :=
  ⟨(tWith [(768, 80)] tOn), 7, .twoWire, 3516158441, by decide +kernel⟩
theorem witness_CalibrationRuns_1 : ∃ (s : State) (n : Nat) (p : HostPort) (v : Word), s.up .time = true ∧ n < 8 ∧
    s.mayWrite p (A.VCAL_Vn_CAL_CTL n) = true ∧ bitOf v.toNat 0 = false ∧ bitOf v.toNat 1 = true ∧ bitOf v.toNat 2 =
    false ∧ s.runPlace n = .now ∧ s.bit F.TB_STAT_PLL_LOCK = true ∧ (s.calib n).run = none ∧ (s.chan n).later = [] ∧ (s.chan n).conv = [] :=
  ⟨(tWith [(768, 80)] tOn), 7, .spi, 1344237186, by decide +kernel⟩
theorem witness_CalibrationRuns_2 : ∃ (s : State) (n : Nat) (p : HostPort) (v : Word), s.up .time = true ∧ n < 8 ∧
    s.mayWrite p (A.VCAL_Vn_CAL_CTL n) = true ∧ bitOf v.toNat 2 = false ∧ (s.calib n).run.isSome = true :=
  ⟨{ tOn with cal := ((Vector.replicate 8 {}).setIfInBounds 0 { run := (some { full := true, held := true, widths := (some (List.replicate 32 2048)), measured := 7 }) }) },
      0, .twoWire, 4202496, by decide +kernel⟩
theorem witness_CalibrationRuns_3 : ∃ (s : State) (n : Nat) (p : HostPort) (v : Word), ∃ k, s.up .time = true ∧ n < 8
    ∧ s.mayWrite p (A.VCAL_Vn_CAL_CTL n) = true ∧ bitOf v.toNat 0 = false ∧ bitOf v.toNat 1 = false ∧ bitOf v.toNat 2
    = true ∧ k < 32 ∧ (s.chan n).later = [] ∧ (s.chan n).conv = [] :=
  ⟨tOn, 3, .spi, 252, 29, by decide +kernel⟩
theorem witness_CalibrationRuns_4 : ∃ (s : State) (n : Nat), s.up .time = true ∧ n < 8 ∧ ((s.calib n).run.isSome =
    true ∨ s.plannedRun n = none) :=
  ⟨{ tOn with cal := ((Vector.replicate 8 {}).setIfInBounds 6 { stored := true }) }, 6, by decide +kernel⟩
theorem witness_CalibrationRuns_5 : ∃ (s : State) (n : Nat), ∃ full, s.up .time = true ∧ n < 8 ∧ (s.calib n).run =
    none ∧ s.plannedRun n = some full ∧ s.autoPlace n full = .now ∧ s.bit F.TB_STAT_PLL_LOCK = true :=
  ⟨(tWith [(768, 80)] tOn), 3, true, by decide +kernel⟩
theorem witness_CalibrationRuns_15 : ∃ (s : State) (n : Nat) (p : HostPort), s.up .time = true ∧ n < 8 ∧
    s.mayWrite p (A.VCAL_Vn_CAL_CTL n) = true ∧ (s.calib n).run = none ∧ (s.chan n).conv ≠ [] :=
  ⟨(tOn.setChan 3 { conv := [{ tally := 8, falling := false, coarse := false, suspect := false, edgeEnd := 2048, width := 2043, sq := 32768, delays := 100, prescaled := false }] }),
    3, .spi, by decide +kernel⟩
/-- PIN0 selected, a PPS slot, in Grand, with a run due: R134 lets it start after an edge. -/
def tSlow : State := tWith [(768, 80), (A.REFM_SEL_NOW, 0), (A.REFM_Sn_CTL 0, 1)] { tOn with mode := { now := .grand } }
theorem witness_CalibrationRuns_16 : ∃ (s : State) (n : Nat), ∃ full, s.up .time = true ∧ n < 8 ∧ (s.calib n).run =
    none ∧ s.plannedRun n = some full ∧ s.autoPlace n full = .atEdge ∧ s.bit F.TB_STAT_PLL_LOCK = true ∧
    s.justStamped n = true :=
  ⟨(tSlow.setChan 0 { prevEdge := some 0 }), 0, true, by decide +kernel⟩
theorem witness_CalibrationRuns_17 : ∃ (s : State) (n : Nat), ∃ full, s.up .time = true ∧ n < 8 ∧ (s.calib n).run =
    none ∧ s.plannedRun n = some full ∧ s.autoPlace n full = .atEdge ∧ s.justStamped n = false :=
  ⟨tSlow, 0, true, by decide +kernel⟩
theorem witness_CalibrationRuns_18 : ∃ (s : State) (n : Nat), ∃ full, s.up .time = true ∧ n < 8 ∧ (s.calib n).run =
    none ∧ s.plannedRun n = some full ∧ s.autoPlace n full = .deferred :=
  ⟨(tWith [(A.VCAL_TIMEOUT, 1000)] tSlow), 0, true, by decide +kernel⟩
theorem witness_CalibrationRuns_6 : ∃ (s : State) (n : Nat), ∃ r, s.up .time = true ∧ n < 8 ∧ (s.calib n).run = some r
    ∧ r.full = true ∧ r.widths = none :=
  ⟨{ tOn with cal := ((Vector.replicate 8 {}).setIfInBounds 0 { run := (some { full := true, held := true }) }) }, 0,
      { full := true, held := true }, by decide +kernel⟩
theorem witness_CalibrationRuns_8 : ∃ (s : State) (n : Nat), ∃ r, ∃ (qs : List (List Nat)), s.up .time = true ∧ n < 8
    ∧ (s.calib n).run = some r ∧ r.full = true ∧ r.widths = none ∧ (totalCounts qs).sum ≠ s.calHits :=
  ⟨{ tOn with cal := ((Vector.replicate 8 {}).setIfInBounds 0 { run := (some { full := true, held := true }) }) }, 0,
      { full := true, held := true }, (List.replicate 256 [48, 304, 816, 1328, 1840, 2352, 2864, 3376, 3888]),
      by decide +kernel⟩
theorem witness_CalibrationRuns_9 : ∃ (s : State) (n : Nat), ∃ r, ∃ (qs : List (List Nat)), s.up .time = true ∧ n < 8
    ∧ (s.calib n).run = some r ∧ r.full = true ∧ r.widths = none ∧ (totalCounts qs).sum = s.calHits :=
  ⟨(tWith [(1538, 5)]
      { tOn with cal := ((Vector.replicate 8 {}).setIfInBounds 0 { run := (some { full := true, held := true }) }) }),
      0, { full := true, held := true }, [(List.replicate 31 1), [], [], (List.replicate 31 0 ++ [1])],
      by decide +kernel⟩
theorem witness_CalibrationRuns_10 : ∃ (s : State) (n : Nat), ∃ r, ∃ (slow fast : Nat), s.up .time = true ∧ n < 8 ∧
    (s.calib n).run = some r ∧ (r.full = false ∨ r.widths.isSome = true) ∧ (16 * (s.widest n r : Int)) - 512 ≤
    measuredSq slow fast ∧ measuredSq slow fast ≤ (16 * (s.widest n r : Int)) :=
  ⟨(tOn.setCalib 7 { run := some { full := true, held := false, widths := some (List.replicate 32 2048) } }), 7,
      { full := true, held := false, widths := some (List.replicate 32 2048) }, 2097152, 2105344, by decide +kernel⟩
theorem witness_CalibrationRuns_11 : ∃ (s : State) (n : Nat), ∃ r, ∃ (slow fast : Nat), s.up .time = true ∧ n < 8 ∧
    (s.calib n).run = some r ∧ (r.full = false ∨ r.widths.isSome = true) ∧ ¬ ((16 * (s.widest n r : Int)) - 512 ≤
    measuredSq slow fast ∧ measuredSq slow fast ≤ (16 * (s.widest n r : Int))) ∧ 7 ≤ r.measured :=
  ⟨{ tOn with cal := ((Vector.replicate 8 {}).setIfInBounds 0 { run := (some { full := true, held := true, widths := (some (List.replicate 32 2048)), measured := 7 }) }) },
      0, { full := true, held := true, widths := (some (List.replicate 32 2048)), measured := 7 }, 10, 158,
      by decide +kernel⟩
theorem witness_CalibrationRuns_12 : ∃ (s : State) (n : Nat), s.up .time = true ∧ n < 8 ∧ (s.calib n).stored = true ∧
    s.val A.VCAL_MAX_AGE ≠ 0 :=
  ⟨{ tOn with cal := ((Vector.replicate 8 {}).setIfInBounds 1 { stored := true }) }, 1, by decide +kernel⟩
theorem witness_CalibrationRuns_13 : ∃ (s : State) (n : Nat), s.up .time = true ∧ n < 8 :=
  ⟨tOn, 4, by decide +kernel⟩
theorem witness_CalibrationRuns_14 : ∃ (s : State) (n : Nat), s.up .time = true ∧ n < 8 ∧ s.val A.VCAL_TRIM_PERIOD ≠ 0
    ∧ s.bit (F.VC_Vn_CTL_EN n) = true :=
  ⟨(tWith [(1312, 8193)] tOn), 0, by decide +kernel⟩

/-! DllsLockAndLose -/

theorem witness_DllsLockAndLose_0 : ∃ (s : State) (t : Nat), s.up .time = true ∧ t < 8 ∧ s.bit F.TB_STAT_PLL_LOCK =
    true ∧ s.bit (F.VCAL_DLL_LOCKED t) = false :=
  ⟨(tWith [(768, 80)] tOn), 0, by decide +kernel⟩
theorem witness_DllsLockAndLose_1 : ∃ (s : State) (t : Nat), s.up .time = true ∧ t < 8 ∧ (s.bit F.TB_STAT_PLL_LOCK =
    false ∨ s.bit (F.VCAL_DLL_LOCKED t) = true) :=
  ⟨tOn, 4, by decide +kernel⟩
theorem witness_DllsLockAndLose_2 : ∃ (s : State) (t : Nat), s.up .time = true ∧ t < 8 ∧ s.bit (F.VCAL_DLL_LOCKED t) =
    true :=
  ⟨(tWith [(1596, 1)] tOn), 4, by decide +kernel⟩
theorem witness_DllsLockAndLose_3 : ∃ (s : State) (t : Nat) (p : HostPort) (v : Word), s.up .time = true ∧ t < 8 ∧
    s.mayWrite p A.VCAL_DLL_CMD = true ∧ bitOf v.toNat t = false :=
  ⟨tOn, 7, .spi, 8224, by decide +kernel⟩
theorem witness_DllsLockAndLose_4 : ∃ (s : State) (t : Nat) (p : HostPort) (v : Word), s.up .time = true ∧ t < 8 ∧
    s.mayWrite p A.VCAL_DLL_CMD = true ∧ bitOf v.toNat t = true ∧ s.bit (F.MAC_STAT_LINK_UP (t / 2)) = false :=
  ⟨tOn, 4, .twoWire, 69905, by decide +kernel⟩
theorem witness_DllsLockAndLose_5 : ∃ (s : State) (t : Nat) (p : HostPort) (v : Word), s.up .time = true ∧ t < 8 ∧
    s.mayWrite p A.VCAL_DLL_CMD = true ∧ bitOf v.toNat t = true ∧ s.bit (F.MAC_STAT_LINK_UP (t / 2)) = true :=
  ⟨(tWith [(2817, 1)] tOn), 0, .spi, 5763, by decide +kernel⟩

/-! SlotsLoseAndRestore -/

theorem witness_SlotsLoseAndRestore_0 : ∃ (s : State), ∃ n, s.up .time = true ∧ n < 12 ∧ s.bit (F.REFM_Sn_CTL_EN n) =
    true ∧ (s.slot n).losArmed = true ∧ n < 8 :=
  ⟨(tWith [(2176, 3585)]
      { tOn with refm := { slots := ((Vector.replicate 12 {}).setIfInBounds 4 { losArmed := true }) } }), 4,
      by decide +kernel⟩
theorem witness_SlotsLoseAndRestore_1 : ∃ (s : State), ∃ n, s.up .time = true ∧ n < 12 ∧ s.bit (F.REFM_Sn_CTL_EN n) =
    true ∧ (s.slot n).losArmed = true ∧ 8 ≤ n :=
  ⟨(tWith [(2288, 3585)]
      { tOn with refm := { slots := ((Vector.replicate 12 {}).setIfInBounds 11 { losArmed := true }) } }), 11,
      by decide +kernel⟩
theorem witness_SlotsLoseAndRestore_3 : ∃ (s : State), ∃ n, s.up .time = true ∧ n < 12 ∧ (s.bit (F.REFM_Sn_CTL_EN n) =
    false ∨ (s.slot n).losArmed = false) ∧ n < 8 :=
  ⟨tOn, 4, by decide +kernel⟩
theorem witness_SlotsLoseAndRestore_4 : ∃ (s : State), ∃ n, s.up .time = true ∧ n < 12 ∧ (s.bit (F.REFM_Sn_CTL_EN n) =
    false ∨ (s.slot n).losArmed = false) ∧ 8 ≤ n :=
  ⟨tOn, 11, by decide +kernel⟩
theorem witness_SlotsLoseAndRestore_5 : ∃ (s : State), ∃ n, s.up .time = true ∧ 8 ≤ n ∧ n ≤ 11 :=
  ⟨tOn, 11, by decide +kernel⟩
theorem witness_SlotsLoseAndRestore_6 : ∃ (s : State), ∃ n, s.up .time = true ∧ n < 12 ∧ s.bit (F.REFM_Sn_CTL_INTEG_EN
    n) = true :=
  ⟨(tWith [(2288, 11776)] tOn), 11, by decide +kernel⟩
theorem witness_SlotsLoseAndRestore_7 : ∃ (s : State), ∃ n, s.up .time = true ∧ n < 12 ∧ s.bit (F.REFM_Sn_STAT_WTR_RUN
    n) = true :=
  ⟨(tWith [(2209, 16)] tOn), 6, by decide +kernel⟩
theorem witness_SlotsLoseAndRestore_8 : ∃ (s : State), ∃ n, s.up .time = true ∧ n < 12 ∧ s.bit (F.REFM_Sn_STAT_WTR_RUN
    n) = false ∧ (s.bit F.REFM_CTL_REVERT = false ∨ s.eligible n = false) :=
  ⟨tOn, 4, by decide +kernel⟩
theorem witness_SlotsLoseAndRestore_13 : ∃ (s : State) (n : Nat), s.up .time = true ∧ n < 12 ∧
    s.bit (F.REFM_Sn_STAT_WTR_RUN n) = false ∧ s.bit F.REFM_CTL_REVERT = true ∧ s.eligible n = true ∧ s.selSlot ∈ s.ladder ∧
    s.selSlot < 12 ∧ s.ladder.idxOf n < s.ladder.idxOf s.selSlot ∧ s.get F.REFM_SEL_NOW_PENDING ≠ n :=
  ⟨tWith [(A.REFM_CTL, 0x71), (A.REFM_LADDER_A, 0xFFFFFF10), (A.REFM_SEL_NOW, 0xF1), (A.REFM_Sn_CTL 0, 0x201),
      (A.REFM_Sn_STAT 0, 2)] tOn, 0, by decide +kernel⟩
theorem witness_SlotsLoseAndRestore_14 : ∃ (s : State) (g : Nat) (line : List Nat), ∃ fs, s.up .time = true ∧ g < 2 ∧
    s.bit (F.REFM_GRXg_CTL_EN g) = true ∧
    s.pwr.vioH.isSome = true ∧ nmeaFields line (s.bit (F.REFM_GRXg_CTL_REQ_CSUM g)) = some fs ∧
    fs.getD 0 [] = [80, 77, 81, 83, 84] ∧ (pmqst fs).isNone = true :=
  ⟨tWith [(A.REFM_GRXg_CTL 0, 0x30421)] tOn, 0, [36, 80, 77, 81, 83, 84, 44, 50], [[80, 77, 81, 83, 84], [50]],
      by decide +kernel⟩
theorem witness_SlotsLoseAndRestore_15 : ∃ (s : State) (g : Nat) (line : List Nat), ∃ fs, ∃ x, s.up .time = true ∧ g < 2 ∧
    s.bit (F.REFM_GRXg_CTL_EN g) = true ∧
    s.pwr.vioH.isSome = true ∧ nmeaFields line (s.bit (F.REFM_GRXg_CTL_REQ_CSUM g)) = some fs ∧
    fs.getD 0 [] = [80, 77, 81, 83, 84] ∧ pmqst fs = some x :=
  ⟨tOn, 0, [36, 80, 77, 81, 83, 84, 44, 49, 44, 65, 44, 76, 44, 49, 50, 44, 53, 44, 48, 48, 42, 52, 49],
      [[80, 77, 81, 83, 84], [49], [65], [76], [49, 50], [53], [48, 48]], ⟨76, some 12, 0⟩, by decide +kernel⟩
theorem witness_SlotsLoseAndRestore_9 : ∃ (s : State) (g : Nat), s.up .time = true ∧ g < 2 ∧ s.bit (F.REFM_GRXg_CTL_EN
    g) = false :=
  ⟨(tWith [(2088, 197680)] tOn), 1, by decide +kernel⟩
theorem witness_SlotsLoseAndRestore_10 : ∃ (s : State) (g : Nat) (line : List Nat), s.up .time = true ∧ g < 2 ∧ s.bit
    (F.REFM_GRXg_CTL_EN g) = true ∧
    s.pwr.vioH.isSome = true ∧ nmeaFields line (s.bit (F.REFM_GRXg_CTL_REQ_CSUM g)) = none :=
  ⟨tOn, 0, [], by decide +kernel⟩
theorem witness_SlotsLoseAndRestore_11 : ∃ (s : State) (g : Nat) (line : List Nat), ∃ fs, s.up .time = true ∧ g < 2 ∧
    s.bit (F.REFM_GRXg_CTL_EN g) = true ∧
    s.pwr.vioH.isSome = true ∧ nmeaFields line (s.bit (F.REFM_GRXg_CTL_REQ_CSUM g)) = some fs ∧ fs.getD 0
    [] ≠ [80, 77, 81, 83, 84] ∧ knownType (fs.getD 0 []) = false :=
  ⟨tOn, 1, [36, 71, 80, 88, 89, 90, 44, 49, 44, 50, 42, 52, 70], [[71, 80, 88, 89, 90], [49], [50]],
      by decide +kernel⟩
theorem witness_SlotsLoseAndRestore_12 : ∃ (s : State) (g : Nat) (line : List Nat), ∃ fs, s.up .time = true ∧ g < 2 ∧
    s.bit (F.REFM_GRXg_CTL_EN g) = true ∧
    s.pwr.vioH.isSome = true ∧ nmeaFields line (s.bit (F.REFM_GRXg_CTL_REQ_CSUM g)) = some fs ∧ fs.getD 0
    [] ≠ [80, 77, 81, 83, 84] ∧ knownType (fs.getD 0 []) = true :=
  ⟨tOn, 0, [36, 71, 78, 71, 71, 65, 44, 49, 50, 51, 53, 49, 57, 44, 52, 56, 48, 55, 46, 48, 51, 56, 44, 78, 44, 48,
      49, 49, 51, 49, 46, 48, 48, 48, 44, 69, 44, 49, 44, 48, 56, 44, 48, 46, 57, 44, 53, 52, 53, 46, 52, 44, 77, 44,
      52, 54, 46, 57, 44, 77, 44, 44, 42, 53, 57], [[71, 78, 71, 71, 65], [49, 50, 51, 53, 49, 57], [52, 56, 48, 55,
      46, 48, 51, 56], [78], [48, 49, 49, 51, 49, 46, 48, 48, 48], [69], [49], [48, 56], [48, 46, 57], [53, 52, 53,
      46, 52], [77], [52, 54, 46, 57], [77], [], []], by decide +kernel⟩
theorem witness_SlotsLoseAndRestore_16 : ∃ (s : State) (g : Nat), s.up .time = true ∧ g < 2 ∧ s.pwr.vioH = none :=
  ⟨{ tOn with pwr := { tOn.pwr with vioH := none } }, 1, by decide +kernel⟩

/-! SelectionsSwitch -/

theorem witness_SelectionsSwitch_0 : ∃ (s : State) (n : Nat), n < 12 ∧ (8 ≤ n ∨ s.slotKind n ≠ 2) ∧ s.bit
    (F.REFM_Sn_CTL_SW_POL n) = true ∧ s.bit F.STR_STAT_F0_SET = true ∧ s.selSlot ≠ n :=
  ⟨(tWith [(2176, 3592), (1024, 1)] tOn), 4, by decide +kernel⟩
theorem witness_SelectionsSwitch_1 : ∃ (s : State) (n : Nat), n < 12 ∧ (8 ≤ n ∨ s.slotKind n ≠ 2) ∧ (s.bit
    (F.REFM_Sn_CTL_SW_POL n) = false ∨ s.bit F.STR_STAT_F0_SET = false) ∧ |(s.deltaOf n)| ≤ s.stepLimit ∧
    s.stepFits .f0 (s.deltaOf n) = true ∧ s.selSlot ≠ n :=
  ⟨tOn, 4, by decide +kernel⟩
theorem witness_SelectionsSwitch_2 : ∃ (s : State) (n : Nat), n < 12 ∧ (8 ≤ n ∨ s.slotKind n ≠ 2) ∧ (s.bit
    (F.REFM_Sn_CTL_SW_POL n) = false ∨ s.bit F.STR_STAT_F0_SET = false) ∧ s.stepLimit < |(s.deltaOf n)| :=
  ⟨{ tOn with str := { f0 := { ofs := 39321600000000000 } }, refm := { slots := ((Vector.replicate 12 {}).setIfInBounds 0 { resid := [(1200, (some 960))] }) } },
      0, by decide +kernel⟩
theorem witness_SelectionsSwitch_3 : ∃ (s : State) (p : HostPort) (v : Word), s.mayWrite p A.REFM_SEL_REQ = true ∧
    (v.toNat = 12 ∨ v.toNat = 13 ∨ 15 < v.toNat) :=
  ⟨tOn, .twoWire, 209715, by decide +kernel⟩
theorem witness_SelectionsSwitch_4 : ∃ (s : State) (p : HostPort) (v : Word), s.mayWrite p A.REFM_SEL_REQ = true ∧
    v.toNat = 15 :=
  ⟨tOn, .twoWire, 15, by decide +kernel⟩
theorem witness_SelectionsSwitch_5 : ∃ (s : State) (p : HostPort) (v : Word), s.mayWrite p A.REFM_SEL_REQ = true ∧
    v.toNat = 14 ∧ s.ladder.find? (fun n => n != 15 && s.worthy n) = none :=
  ⟨tOn, .spi, 14, by decide +kernel⟩
theorem witness_SelectionsSwitch_6 : ∃ (s : State) (p : HostPort) (v : Word), s.mayWrite p A.REFM_SEL_REQ = true ∧
    v.toNat < 12 ∧ (({ s.abandonHeld with refm := { s.abandonHeld.refm with waiting := none } } : State)).usable
    v.toNat = true :=
  ⟨(tWith [(2273, 2), (2272, 1536)] tOn), .twoWire, 10, by decide +kernel⟩
theorem witness_SelectionsSwitch_7 : ∃ (s : State) (p : HostPort) (v : Word), s.mayWrite p A.REFM_SEL_REQ = true ∧
    v.toNat < 12 ∧ (({ s.abandonHeld with refm := { s.abandonHeld.refm with waiting := none } } : State)).serviceable
    v.toNat = false :=
  ⟨tOn, .twoWire, 2, by decide +kernel⟩
theorem witness_SelectionsSwitch_10 : ∃ (s : State) (p : HostPort) (v : Word), s.mayWrite p A.REFM_SEL_REQ = true ∧
    v.toNat < 12 ∧ ({ s.abandonHeld with refm := { s.abandonHeld.refm with waiting := none } } : State).usable
    v.toNat = false ∧ ({ s.abandonHeld with refm := { s.abandonHeld.refm with waiting := none } } : State).serviceable
    v.toNat = true :=
  ⟨tWith [(2273, 0x82), (2272, 1536)] tOn, .twoWire, 10, by decide +kernel⟩
theorem witness_SelectionsSwitch_8 : ∃ (s : State) (p : HostPort) (v : Word), s.mayWrite p A.REFM_ABS_CLEAR = true ∧
    (v.toNat ≠ s.selSlot ∨ 12 ≤ v.toNat) :=
  ⟨tOn, .twoWire, 209715, by decide +kernel⟩
theorem witness_SelectionsSwitch_9 : ∃ (s : State) (p : HostPort) (v : Word), s.mayWrite p A.REFM_ABS_CLEAR = true ∧
    v.toNat = s.selSlot ∧ v.toNat < 12 ∧ |(s.absOfs v.toNat)| ≤ s.stepLimit ∧
    s.stepFits .f0 (s.absOfs v.toNat) = true :=
  ⟨(tWith [(2051, 243)] tOn), .twoWire, 3, by decide +kernel⟩

/-! AntennaFeedStates -/

theorem witness_AntennaFeedStates_0 : ∃ (s : State) (p : HostPort) (v : Word), s.up .time = true ∧ s.mayWrite p
    A.REFM_ANT_CTL = true ∧ 7 < bitsAt v.toNat 4 4 :=
  ⟨tOn, .twoWire, 2101186949, by decide +kernel⟩
theorem witness_AntennaFeedStates_1 : ∃ (s : State) (p : HostPort) (v : Word), s.up .time = true ∧ s.mayWrite p
    A.REFM_ANT_CTL = true ∧ bitsAt v.toNat 4 4 ≤ 7 ∧ bitOf v.toNat 2 = true ∧ s.bit F.REFM_ANT_CTL_EN = true ∧
    bitOf v.toNat 0 = true ∧ s.ant = 4 :=
  ⟨tWith [(A.REFM_ANT_CTL, 1), (A.REFM_ANT_STAT, 4)] tOn, .spi, 5, by decide +kernel⟩
theorem witness_AntennaFeedStates_2 : ∃ (s : State) (p : HostPort) (v : Word), s.up .time = true ∧ s.mayWrite p
    A.REFM_ANT_CTL = true ∧ bitsAt v.toNat 4 4 ≤ 7 ∧ s.bit F.REFM_ANT_CTL_EN = false ∧ bitOf v.toNat 0 = true :=
  ⟨tOn, .twoWire, 209715, by decide +kernel⟩
theorem witness_AntennaFeedStates_3 : ∃ (s : State) (p : HostPort) (v : Word), s.up .time = true ∧ s.mayWrite p
    A.REFM_ANT_CTL = true ∧ bitsAt v.toNat 4 4 ≤ 7 ∧ bitOf v.toNat 0 = false :=
  ⟨tOn, .twoWire, 2, by decide +kernel⟩
theorem witness_AntennaFeedStates_8 : ∃ (s : State) (t : Int), s.up .time = true ∧ s.refm.antTemp.on = true ∧
    (s.antTempSample t).refm.antTemp.on = false :=
  ⟨(tWith [(A.REFM_ANT_TEMP_ASSERT, 100), (A.REFM_ANT_TEMP_RELEASE, 50), (A.REFM_ANT_TEMP_DWELL, 65537)]
      { tOn with refm := { antTemp := { on := true } } }), 49, by decide +kernel⟩
theorem witness_AntennaFeedStates_4 : ∃ (s : State), s.up .time = true ∧ (s.get F.REFM_ANT_STAT_FAILS + 1) ≤ 8 ∧
    (s.get F.REFM_ANT_STAT_FAILS + 1) < 8 :=
  ⟨tOn, by decide +kernel⟩
theorem witness_AntennaFeedStates_5 : ∃ (s : State) (t : Int), s.up .time = true ∧ s.refm.antTemp.on = false ∧
    (s.antTempSample t).refm.antTemp.on = true :=
  ⟨(tWith [(A.REFM_ANT_TEMP_ASSERT, 100), (A.REFM_ANT_TEMP_RELEASE, 50), (A.REFM_ANT_TEMP_DWELL, 65537)] tOn), 101,
      by decide +kernel⟩
theorem witness_AntennaFeedStates_6 : ∃ (s : State) (i : Nat), s.up .time = true ∧ s.ant = 2 ∧ i < 20 ∧ s.refm.lowRun
    = 7 :=
  ⟨(tWith [(2065, 2)] { tOn with refm := { lowRun := 7 } }), 0, by decide +kernel⟩
theorem witness_AntennaFeedStates_7 : ∃ (s : State) (i : Nat), s.up .time = true ∧ (20 ≤ i ∨ s.ant ≠ 2) :=
  ⟨tOn, 11, by decide +kernel⟩

/-! ServoSteersAndHolds -/

theorem witness_ServoSteersAndHolds_0 : ∃ (s : State), s.up .time = true ∧ (s.srvState = 1 ∨ s.srvState = 2) ∧
    s.freqLoop = false ∧ s.srv.meas ≠ [] ∧ s.bit F.SRV_CTL_ACQ_STEP = false :=
  ⟨(tWith [(2304, 2)] { tOn with srv := { meas := [2000] } }), by decide +kernel⟩
theorem witness_ServoSteersAndHolds_1 : ∃ (s : State), s.up .time = true ∧ (s.srvState = 1 ∨ s.srvState = 2) ∧
    s.freqLoop = true ∧ s.srv.freqs ≠ [] :=
  ⟨(tWith [(2304, 2), (2112, 3588), (2051, 240)] { tOn with srv := { freqs := [1 / 1000000] } }), by decide +kernel⟩
theorem witness_ServoSteersAndHolds_2 : ∃ (s : State), s.up .time = true ∧ s.srvState ≠ 1 ∧ s.srvState ≠ 2 :=
  ⟨tOn, by decide +kernel⟩
theorem witness_ServoSteersAndHolds_3 : ∃ (s : State), s.up .time = true ∧ s.srvState = 3 :=
  ⟨(tWith [(2304, 3)] tOn), by decide +kernel⟩
theorem witness_ServoSteersAndHolds_4 : ∃ (s : State), s.up .time = true ∧ s.srvState ≠ 3 :=
  ⟨tOn, by decide +kernel⟩
theorem witness_ServoSteersAndHolds_5 : ∃ (s : State), s.up .time = true ∧ s.srvState = 3 ∧ s.srvJump = false ∧ s.val
    A.SRV_HO_LIMIT ≠ 0 ∧ s.val A.SRV_HO_LIMIT ≤ s.srv.lossSecs :=
  ⟨(tWith [(2314, 60), (2304, 3)] { tOn with srv := { lossSecs := 60 } }), by decide +kernel⟩
theorem witness_ServoSteersAndHolds_6 : ∃ (s : State), s.up .time = true ∧ s.recordDue = false :=
  ⟨tOn, by decide +kernel⟩
theorem witness_ServoSteersAndHolds_7 : ∃ (s : State), s.up .time = true ∧ s.recordDue = true :=
  ⟨(tWith [(1024, 1)] tOn), by decide +kernel⟩
/-- HOLDOVER with PRED_EN, 1,008 valid records and a prediction whose interval ended at F0 second 0. -/
def tPred : State :=
  { (tOn.put F.SRV_STAT_STATE srvHoldover).setBit F.SRV_CTL_PRED_EN true with
    srv := { hist := List.replicate 1008 (0, List.replicate 14 1), predEnd := some 0, predFor := some 600 } }
theorem witness_ServoSteersAndHolds_8 : ∃ (s : State), ∃ e, s.up .time = true ∧ s.srv.predEnd = some e ∧
    s.srv.decaying = false ∧ s.predOk = true ∧ e ≤ s.f0Sec :=
  ⟨tPred, 0, by decide +kernel⟩
theorem witness_ServoSteersAndHolds_9 : ∃ (s : State), s.up .time = true ∧ (s.srv.predEnd = none ∨ s.srv.decaying =
    true ∨ s.predOk = false ∨ (∃ e, s.srv.predEnd = some e ∧ s.f0Sec < e)) :=
  ⟨tOn, by decide +kernel, .inl rfl⟩
theorem witness_ServoSteersAndHolds_15 : ∃ (s : State), s.up .time = true ∧ (s.srvState = 1 ∨ s.srvState = 2) ∧
    s.freqLoop = false ∧ s.srv.meas ≠ [] ∧ s.srv.fresh = true ∧ s.bit F.SRV_CTL_ACQ_STEP = true ∧
    s.ival A.SRV_LOCK_ASSERT < |roundRat (meanOf (s.srv.meas.map (fun x => (x : Rat))))| ∧
    |roundRat (meanOf (s.srv.meas.map (fun x => (x : Rat))))| ≤ s.stepLimit ∧
    s.stepFits .f0 (roundRat (meanOf (s.srv.meas.map (fun x => (x : Rat))))) = true :=
  ⟨(tWith [(2304, 1), (2305, 0x33)] { tOn with srv := { meas := [6600000], fresh := true } }), by decide +kernel⟩
theorem witness_ServoSteersAndHolds_16 : ∃ (s : State), s.up .time = true ∧ (s.srvState ≠ 3 ∨ s.srvJump = true ∨
    s.val A.SRV_HO_LIMIT = 0 ∨ s.srv.lossSecs < s.val A.SRV_HO_LIMIT) :=
  ⟨tOn, by decide +kernel⟩
theorem witness_ServoSteersAndHolds_10 : ∃ (s : State) (p : HostPort), s.up .time = true ∧ s.mayWrite p A.SRV_CMD =
    true ∧ s.srvJump = true ∧ s.selSlot < 12 :=
  ⟨(tWith [(2304, 11), (2051, 251)] tOn), .twoWire, by decide +kernel⟩
theorem witness_ServoSteersAndHolds_11 : ∃ (s : State) (p : HostPort), s.up .time = true ∧ s.mayWrite p A.SRV_CMD =
    true ∧ s.srvState = 3 ∧ s.srvJump = false ∧ s.bit F.SRV_CTL_HO_EXIT = true ∧ s.selSlot ≠ 15 :=
  ⟨(tWith [(2305, 83), (2304, 3), (2051, 247)] tOn), .spi, by decide +kernel⟩
theorem witness_ServoSteersAndHolds_12 : ∃ (s : State) (p : HostPort), s.up .time = true ∧ s.mayWrite p A.SRV_CMD =
    true ∧ s.srvState ≠ 3 :=
  ⟨tOn, .twoWire, by decide +kernel⟩
theorem witness_ServoSteersAndHolds_13 : ∃ (s : State) (p : HostPort), s.up .time = true ∧ s.mayWrite p A.SRV_CMD =
    true ∧ s.armedFor p .srv = true :=
  ⟨{ tOn with arms := { srv := (some { port := .spi, ends := none }) } }, .spi, by decide +kernel⟩
theorem witness_ServoSteersAndHolds_14 : ∃ (s : State) (p : HostPort), s.up .time = true ∧ s.mayWrite p A.SRV_CMD =
    true ∧ s.armedFor p .srv = false :=
  ⟨tOn, .twoWire, by decide +kernel⟩

/-! OutputsLaunchTheirEdges -/

/-- A state with an output replaced. -/
def tOut (n : Nat) (o : OutState) (s : State) : State := s.setOut n o

theorem witness_OutputsLaunchTheirEdges_0 : ∃ (s : State) (n : Nat), s.up .time = true ∧ n < 12 ∧ s.tallyRun = true ∧
    s.fallsFirst n = false ∧ (∀ e, s.nextRise n = some e → e.at_ / 65536 ≠ s.tally) :=
  ⟨tOn, 4, by decide +kernel, by decide +kernel, by decide +kernel, by decide +kernel, by
    have h : tOn.nextRise 4 = none := by decide +kernel
    simp [h]⟩
theorem witness_OutputsLaunchTheirEdges_1 : ∃ (s : State) (n : Nat), ∃ e, s.up .time = true ∧ n < 12 ∧ s.tallyRun =
    true ∧ (s.out n).high = some e ∧ s.fallsFirst n = true ∧ s.fallAt n e / 65536 ≤ s.tally :=
  ⟨tOut 6 { high := some { at_ := -500000 } } tOn, 6, { at_ := -500000 }, by decide +kernel⟩
theorem witness_OutputsLaunchTheirEdges_1b : ∃ (s : State) (n : Nat), ∃ e, s.up .time = true ∧ n < 12 ∧ s.tallyRun =
    true ∧ (s.out n).high = some e ∧ s.fallsFirst n = true ∧ s.tally < s.fallAt n e / 65536 :=
  ⟨tOut 6 { high := some { at_ := 0 } } tOn, 6, { at_ := 0 }, by decide +kernel⟩
theorem witness_OutputsLaunchTheirEdges_2 : ∃ (s : State) (n : Nat), ∃ e, s.up .time = true ∧ n < 12 ∧ s.tallyRun =
    true ∧ s.fallsFirst n = false ∧ s.nextRise n = some e ∧ e.at_ / 65536 = s.tally ∧ (!s.padUp n || ((s.out n).plan.all
    (fun x => decide (x.at_ < s.nowSub)) && s.squelched n)) = true :=
  ⟨tOut 11 { running := true, lastK := -1 } tOn, 11, { k := 0, u := 0, fall := 65536000, at_ := 0 }, by decide +kernel⟩
theorem witness_OutputsLaunchTheirEdges_3 : ∃ (s : State) (n : Nat), ∃ e, s.up .time = true ∧ n < 12 ∧ s.tallyRun =
    true ∧ s.fallsFirst n = false ∧ s.nextRise n = some e ∧ e.at_ / 65536 = s.tally ∧ (!s.padUp n || ((s.out n).plan.all
    (fun x => decide (x.at_ < s.nowSub)) && s.squelched n)) = false ∧ s.outKind n ≠ 2 ∧ s.tight n e.at_ = false :=
  ⟨tOut 2 { running := true, lastK := -1 } (tWith [(2624, 2), (768, 65)] tOn), 2,
    { k := 0, u := 0, fall := 65536000, at_ := 0 }, by decide +kernel⟩
theorem witness_OutputsLaunchTheirEdges_4 : ∃ (s : State) (n : Nat), ∃ e, s.up .time = true ∧ n < 12 ∧ s.tallyRun =
    true ∧ s.fallsFirst n = false ∧ s.nextRise n = some e ∧ e.at_ / 65536 = s.tally ∧ (!s.padUp n || ((s.out n).plan.all
    (fun x => decide (x.at_ < s.nowSub)) && s.squelched n)) = false ∧ s.outKind n ≠ 2 ∧ s.tight n e.at_ = true :=
  ⟨tOut 1 { running := true, lastFall := some (-1000), plan := [{ at_ := 0 }] } (tWith [(2608, 2), (768, 65)] tOn), 1,
    { at_ := 0 }, by decide +kernel⟩
theorem witness_OutputsLaunchTheirEdges_5 : ∃ (s : State) (n : Nat), ∃ e, s.up .time = true ∧ n < 12 ∧ s.tallyRun =
    true ∧ s.fallsFirst n = false ∧ s.nextRise n = some e ∧ e.at_ / 65536 = s.tally ∧ (!s.padUp n || ((s.out n).plan.all
    (fun x => decide (x.at_ < s.nowSub)) && s.squelched n)) = false ∧ s.outKind n = 2 ∧ s.tight n e.at_ = false ∧
    (s.out n).plan = [] ∧ (s.out n).gate = none :=
  ⟨tOut 2 { running := true } (tWith [(2624, 4), (2625, 16), (768, 65)] tOn), 2, { fall := 65536000, at_ := 0 },
    by decide +kernel⟩
theorem witness_OutputsLaunchTheirEdges_6 : ∃ (s : State) (n : Nat), ∃ e, s.up .time = true ∧ n < 12 ∧
    (s.out n).high = some e ∧ (s.squelched n || (s.out n).stopping) = true :=
  ⟨tOut 3 { high := some { at_ := 65536 } } tOn, 3, { at_ := 65536 }, by decide +kernel⟩
theorem witness_OutputsLaunchTheirEdges_7 : ∃ (s : State) (n : Nat), s.up .time = true ∧ n < 12 ∧
    ((s.squelched n || (s.out n).stopping) = false ∨ (s.out n).high = none) :=
  ⟨tOn, 4, by decide +kernel⟩
theorem witness_OutputsLaunchTheirEdges_7b : ∃ (s : State) (n : Nat), s.padUp n = true ∧ s.squelched n = true ∧
    (s.out n).high = none :=
  ⟨tOn, 4, by decide +kernel⟩
theorem witness_OutputsLaunchTheirEdges_8 : ∃ (s : State) (n : Nat), s.up .time = true ∧ n < 12 ∧ (s.out n).stopping =
    true ∧ (s.out n).high = none ∧ s.nextRise n = none :=
  ⟨tOut 0 { stopping := true } tOn, 0, by decide +kernel⟩
theorem witness_OutputsLaunchTheirEdges_9 : ∃ (s : State) (n : Nat) (p : HostPort) (v : Word), s.up .time = true ∧ n <
    12 ∧ s.mayWrite p (A.PCR_OUTn_CTL n) = true ∧ s.bit (F.PCR_OUTn_CTL_EN n) = true ∧
    lockedBits (fitted (s.val (A.PCR_OUTn_CTL n)) v.toNat (outCtlFields n (s.val (A.PCR_OUTn_CTL n)) v.toNat)) ≠
      lockedBits (s.val (A.PCR_OUTn_CTL n)) :=
  ⟨(tWith [(2768, 65537)] tOn), 11, .spi, 65539, by decide +kernel⟩
theorem witness_OutputsLaunchTheirEdges_9b : ∃ (s : State) (n : Nat) (p : HostPort) (v : Word), s.up .time = true ∧ n <
    12 ∧ s.mayWrite p (A.PCR_OUTn_CTL n) = true ∧ (s.outCtlWrite n v.toNat).rej = some .range ∧
    allFit (outCtlFields n (s.val (A.PCR_OUTn_CTL n)) v.toNat) = false ∧
    (s.outCtlWrite n v.toNat).state.val (A.PCR_OUTn_CTL n) = 2 :=
  ⟨tOn, 0, .spi, 2050, by decide +kernel⟩
theorem witness_OutputsLaunchTheirEdges_10 : ∃ (s : State) (n : Nat) (p : HostPort) (v : Word), s.up .time = true ∧ n
    < 12 ∧ s.mayWrite p (A.PCR_OUTn_CTL n) = true ∧ (s.outCtlWrite n v.toNat).rej = none ∧ s.bit (F.PCR_OUTn_CTL_EN n)
    = false ∧ bitOf v.toNat 0 = true ∧ (s.out n).stopping = false :=
  ⟨tOn, 4, .twoWire, 65539, by decide +kernel⟩
theorem witness_OutputsLaunchTheirEdges_11 : ∃ (s : State) (n : Nat) (p : HostPort) (v : Word), s.up .time = true ∧ n
    < 12 ∧ s.mayWrite p (A.PCR_OUTn_CTL n) = true ∧ (s.outCtlWrite n v.toNat).rej = none ∧ s.bit (F.PCR_OUTn_CTL_EN n)
    = true ∧ bitOf v.toNat 0 = false :=
  ⟨(tWith [(2768, 65537)] tOn), 11, .spi, 0, by decide +kernel⟩
theorem witness_OutputsLaunchTheirEdges_12 : ∃ (s : State) (n : Nat) (p : HostPort) (v : Word), s.up .time = true ∧ n
    < 12 ∧ s.mayWrite p (A.PCR_OUTn_AT_SEC_HI n) = true ∧ 10 * (((s.shotArm p n v.toNat).state).shotAt n - s.outTime n
    s.nowSub) ≤ 33554432 :=
  ⟨tOn, 11, .spi, 0, by decide +kernel⟩
theorem witness_OutputsLaunchTheirEdges_13 : ∃ (s : State) (n : Nat) (p : HostPort) (v : Word), s.up .time = true ∧ n
    < 12 ∧ s.mayWrite p (A.PCR_OUTn_AT_SEC_HI n) = true ∧ ¬ 10 * (((s.shotArm p n v.toNat).state).shotAt n - s.outTime n
    s.nowSub) ≤ 33554432 :=
  ⟨tOn, 11, .spi, 1, by decide +kernel⟩

/-! OutputsAlignAndVerify -/

theorem witness_OutputsAlignAndVerify_1 : ∃ (s : State) (n : Nat) (p : HostPort), s.up .time = true ∧ n < 12 ∧
    s.mayWrite p A.PCR_CMD = true ∧ s.outOfs n ≠ s.alignTarget n :=
  ⟨{ tOn with pcr := { outs := ((Vector.replicate 12 {}).setIfInBounds 6 { ofs := 5 }) } }, 6, .spi,
      by decide +kernel⟩
theorem witness_OutputsAlignAndVerify_2 : ∃ (s : State) (n : Nat) (p : HostPort), s.up .time = true ∧ n < 12 ∧
    s.mayWrite p A.PCR_CMD = true ∧ s.outOfs n = s.alignTarget n :=
  ⟨tOn, 4, .twoWire, by decide +kernel⟩
theorem witness_OutputsAlignAndVerify_3 : ∃ (s : State) (n : Nat) (p : HostPort), s.up .time = true ∧ n < 12 ∧
    s.mayWrite p A.PCR_CMD = true ∧ (s.out n).slew.isSome = true :=
  ⟨{ tOn with pcr := { outs := ((Vector.replicate 12 {}).setIfInBounds 0 { slew := (some ((-100), 5)) }) } }, 0,
      .twoWire, by decide +kernel⟩
theorem witness_OutputsAlignAndVerify_4 : ∃ (s : State) (n : Nat) (p : HostPort), s.up .time = true ∧ n < 12 ∧
    s.mayWrite p A.PCR_CMD = true ∧ (s.out n).slew = none :=
  ⟨tOn, 4, .twoWire, by decide +kernel⟩
theorem witness_OutputsAlignAndVerify_5 : ∃ (s : State) (n : Nat) (p : HostPort), s.up .time = true ∧ n < 12 ∧
    s.mayWrite p A.PCR_CMD = true :=
  ⟨tOn, 4, .twoWire, by decide +kernel⟩
theorem witness_OutputsAlignAndVerify_6 : ∃ (s : State) (n : Nat) (p : HostPort) (v : Word), s.up .time = true ∧ n <
    12 ∧ s.mayWrite p A.PCR_CMD = true ∧ 12 ≤ bitsAt v.toNat 0 4 :=
  ⟨tOn, 11, .spi, 3904398175, by decide +kernel⟩
theorem witness_OutputsAlignAndVerify_6b : ∃ (s : State) (n : Nat) (p : HostPort) (v : Word), s.up .time = true ∧ n <
    12 ∧ s.mayWrite p A.PCR_CMD = true ∧ bitsAt v.toNat 0 4 = 11 ∧ bitsAt v.toNat 4 4 = 5 :=
  ⟨tOn, 11, .spi, 0x5B, by decide +kernel⟩

/-- Case A of "Outputs" (07_pacer_outputs.md): OUT0 on 29.97 frames, enabled when F0 reads 1,800,000,900 s, 858,307 ns and
5,555 pips; the first edge has index 53,946,080,920 and stands at 1,800,000,900 s, 30,666,666 ns, 43,690 pips. -/
theorem test_caseA_first_edge :
    (let s0 := tWith [(2592, 0x13006), (768, 65)] { tOn with str := { tOn.str with f0 := { ofs := 1800000900 * 65536000000000 + 858307 * 65536 + 5555, rate := 0 } } }
     let s1 := (s0.outCtlWrite 0 0x13007).state
     ((s1.uncommitted 0).map (fun e => (e.k, e.u))) ==
       some (53946080920, 1800000900 * 65536000000000 + 30666666 * 65536 + 43690)) = true := by decide +kernel
theorem witness_OutputsAlignAndVerify_7 : ∃ (s : State) (n : Nat), ∃ g, s.up .time = true ∧ n < 12 ∧ (s.out n).slew =
    some g ∧ s.outOfs n = s.alignTarget n :=
  ⟨(tWith [(2656, 65570)]
      { tOn with pcr := { outs := ((Vector.replicate 12 {}).setIfInBounds 4 { ofs := 5, slew := (some ((-100), 5)) }) } }),
      4, ((-100), 5), by decide +kernel⟩
theorem witness_OutputsAlignAndVerify_8 : ∃ (s : State) (n : Nat), s.up .time = true ∧ n < 12 ∧ ((s.out n).slew = none
    ∨ s.outOfs n ≠ s.alignTarget n) :=
  ⟨tOn, 4, by decide +kernel⟩
theorem witness_OutputsAlignAndVerify_11 : ∃ (s : State) (n : Nat), s.up .time = true ∧ n < 12 ∧ s.verifying = false
    :=
  ⟨tOn, 4, by decide +kernel⟩
theorem witness_OutputsAlignAndVerify_12 : ∃ (s : State) (n : Nat), s.up .time = true ∧ n < 12 ∧ s.verifying = true ∧
    s.pcr.errors ≠ [] ∧ (s.val A.PCR_VER_LIMIT : Int) * 100 < |(centiPs ((s.pcr.errors.sum : Rat) /
    (s.pcr.errors.length : Rat)))| :=
  ⟨(tWith [(2569, 0), (2568, 1)] { tOn with pcr := { errors := [5] } }), 0, by decide +kernel⟩
theorem witness_OutputsAlignAndVerify_13 : ∃ (s : State) (n : Nat), s.up .time = true ∧ n < 12 ∧ s.verifying = true ∧
    s.pcr.errors ≠ [] ∧ |(centiPs ((s.pcr.errors.sum : Rat) / (s.pcr.errors.length : Rat)))| ≤ (s.val A.PCR_VER_LIMIT
    : Int) * 100 :=
  ⟨(tWith [(2568, 1)] { tOn with pcr := { errors := [4] } }), 1, by decide +kernel⟩
theorem witness_OutputsAlignAndVerify_9 : ∃ (s : State) (n : Nat) (p : HostPort) (v : Word), s.up .time = true ∧ n <
    12 ∧ s.mayWrite p A.PCR_VER_CTL = true ∧ bitOf v.toNat 0 = true ∧ s.verFits v.toNat = false :=
  ⟨tOn, 4, .twoWire, 69905, by decide +kernel⟩
theorem witness_OutputsAlignAndVerify_10 : ∃ (s : State) (n : Nat) (p : HostPort) (v : Word), s.up .time = true ∧ n <
    12 ∧ s.mayWrite p A.PCR_VER_CTL = true ∧ bitOf v.toNat 0 = false ∧ bitsAt v.toNat 4 4 = 2 :=
  ⟨tOn, 11, .spi, 8224, by decide +kernel⟩
theorem witness_OutputsAlignAndVerify_10b : ∃ (s : State) (n : Nat) (p : HostPort) (v : Word), s.up .time = true ∧ n <
    12 ∧ s.mayWrite p A.PCR_VER_CTL = true ∧ bitOf v.toNat 0 = false ∧ 12 ≤ bitsAt v.toNat 4 4 :=
  ⟨tOn, 11, .spi, 0xC0, by decide +kernel⟩

/-! PortsComeUpAndGo -/

/-- The MACn.CTL word that a write of `v` leaves, and whether it is turned away whole. -/
def tCtl (s : State) (p : Nat) (v : Word) : Nat :=
  (if bitsAt v.toNat 1 2 = 3 then withBits v.toNat 1 2 (bitsAt (s.val (A.MAC_CTL p)) 1 2) else v.toNat) % 128
def tCtlBad (s : State) (p x : Nat) : Bool :=
  ((s.portOn p || s.portDraining p) && decide (bitsAt x 1 4 ≠ bitsAt (s.val (A.MAC_CTL p)) 1 4)) ||
    (bitOf x 0 && !s.portMayRun p x)

theorem witness_PortsComeUpAndGo_0 : ∃ (s : State) (p : Nat), s.up .net = true ∧ p < 4 ∧ (s.portOn p = false ∨
    s.portDraining p = true) :=
  ⟨tOn, 0, by decide +kernel⟩
theorem witness_PortsComeUpAndGo_2 : ∃ (s : State) (p : Nat) (x : Pcs), s.up .net = true ∧ p < 4 ∧ s.portOn p = true ∧
    s.portDraining p = false ∧ s.bit (F.MAC_TS_STAT_CAL_BUSY p) = false ∧ ((x.lock && !x.hiBer && !x.remoteFault &&
    (x.anDone && x.fullDuplex || !s.bit (F.MAC_CTL_AN37 p)) && (x.fecLock || !s.bit (F.MAC_CTL_FEC p)))) = false ∧ s.linkUp p = true ∧
    s.val (A.MAC_HOLD_WINDOW p) = 0 ∧ (s.eth p).holdOpen = false :=
  ⟨(tWith [(2817, 1), (2816, 65)] tOn), 0,
      { lock := false, hiBer := false, remoteFault := false, anDone := true, fullDuplex := true, fecLock := true }, by decide +kernel⟩
theorem witness_PortsComeUpAndGo_3 : ∃ (s : State) (p : Nat) (x : Pcs), s.up .net = true ∧ p < 4 ∧ s.portOn p = true ∧
    s.portDraining p = false ∧ s.bit (F.MAC_TS_STAT_CAL_BUSY p) = false ∧ ((x.lock && !x.hiBer && !x.remoteFault &&
    (x.anDone && x.fullDuplex || !s.bit (F.MAC_CTL_AN37 p)) && (x.fecLock || !s.bit (F.MAC_CTL_FEC p)))) = false ∧ s.linkUp p = true ∧
    s.val (A.MAC_HOLD_WINDOW p) ≠ 0 :=
  ⟨(tWith [(3333, 32), (3329, 1), (3328, 65)] tOn), 2,
      { lock := false, hiBer := false, remoteFault := true, anDone := true, fullDuplex := true, fecLock := true }, by decide +kernel⟩
theorem witness_PortsComeUpAndGo_4 : ∃ (s : State) (p : Nat) (x : Pcs), s.up .net = true ∧ p < 4 ∧ s.portOn p = true ∧
    s.portDraining p = false ∧ s.bit (F.MAC_TS_STAT_CAL_BUSY p) = false ∧ ((x.lock && !x.hiBer && !x.remoteFault &&
    (x.anDone && x.fullDuplex || !s.bit (F.MAC_CTL_AN37 p)) && (x.fecLock || !s.bit (F.MAC_CTL_FEC p)))) = false ∧ s.linkUp p = false
    :=
  ⟨(tWith [(3584, 65)] tOn), 3,
      { lock := true, hiBer := false, remoteFault := true, anDone := false, fullDuplex := false, fecLock := false }, by decide +kernel⟩
theorem witness_PortsComeUpAndGo_5 : ∃ (s : State) (p : Nat) (x : Pcs), s.up .net = true ∧ p < 4 ∧ s.portOn p = true ∧
    s.portDraining p = false ∧ s.bit (F.MAC_TS_STAT_CAL_BUSY p) = false ∧ ((x.lock && !x.hiBer && !x.remoteFault &&
    (x.anDone && x.fullDuplex || !s.bit (F.MAC_CTL_AN37 p)) && (x.fecLock || !s.bit (F.MAC_CTL_FEC p)))) = true ∧ s.linkUp p = true :=
  ⟨(tWith [(3585, 1), (3584, 65)] tOn), 3,
      { lock := true, hiBer := false, remoteFault := false, anDone := true, fullDuplex := true, fecLock := true }, by decide +kernel⟩
theorem witness_PortsComeUpAndGo_6 : ∃ (s : State) (p : Nat) (x : Pcs), s.up .net = true ∧ p < 4 ∧ s.portOn p = true ∧
    s.portDraining p = false ∧ s.bit (F.MAC_TS_STAT_CAL_BUSY p) = false ∧ ((x.lock && !x.hiBer && !x.remoteFault &&
    (x.anDone && x.fullDuplex || !s.bit (F.MAC_CTL_AN37 p)) && (x.fecLock || !s.bit (F.MAC_CTL_FEC p)))) = true ∧ s.linkUp p = false ∧
    s.val (A.MAC_LINK_QUAL p) * 100 ≤ (s.eth p).good :=
  ⟨(tWith [(3590, 0), (3584, 65)] tOn), 3,
      { lock := true, hiBer := false, remoteFault := false, anDone := true, fullDuplex := true, fecLock := true }, by decide +kernel⟩
theorem witness_PortsComeUpAndGo_7 : ∃ (s : State) (p : Nat), s.up .net = true ∧ p < 4 ∧ (s.eth p).holdOpen = true ∧
    s.bit (F.MAC_STAT_HOLDING p) = true :=
  ⟨(tWith [(3073, 512)]
      { tOn with net := { ports := ((Vector.replicate 4 {}).setIfInBounds 1 { holdOpen := true }) } }), 1,
      by decide +kernel⟩
theorem witness_PortsComeUpAndGo_8 : ∃ (s : State) (p : Nat), s.up .net = true ∧ p < 4 ∧ (s.eth p).holdOpen = true ∧
    s.bit (F.MAC_STAT_HOLDING p) = false :=
  ⟨{ tOn with net := { ports := ((Vector.replicate 4 {}).setIfInBounds 0 { holdOpen := true }) } }, 0,
      by decide +kernel⟩
theorem witness_PortsComeUpAndGo_10 : ∃ (s : State) (p : Nat) (h : HostPort) (v : Word) (x : Nat), s.up .net = true ∧
    p < 4 ∧ s.mayWrite h (A.MAC_CTL p) = true ∧ x = tCtl s p v ∧ tCtlBad s p x = true :=
  ⟨tOn, 0, .twoWire, 69905, _, by decide +kernel, by decide, by decide +kernel, rfl, by decide +kernel⟩
theorem witness_PortsComeUpAndGo_12 : ∃ (s : State) (p : Nat) (h : HostPort) (v : Word) (x : Nat), s.up .net = true ∧
    p < 4 ∧ s.mayWrite h (A.MAC_CTL p) = true ∧ x = tCtl s p v ∧ tCtlBad s p x = false ∧ s.portOn p = true ∧
    bitOf x 0 = false :=
  ⟨tWith [(3584, 65)] tOn, 3, .spi, 537919488, _, by decide +kernel, by decide, by decide +kernel, rfl, by decide +kernel⟩
theorem witness_PortsComeUpAndGo_13 : ∃ (s : State) (p : Nat) (h : HostPort) (v : Word) (x : Nat), s.up .net = true ∧
    p < 4 ∧ s.mayWrite h (A.MAC_CTL p) = true ∧ x = tCtl s p v ∧ tCtlBad s p x = false ∧ s.portOn p = false ∧
    bitOf x 0 = true ∧ s.portDraining p = false :=
  ⟨tWith [(3586, 512)] tOn, 3, .spi, 513, _, by decide +kernel, by decide, by decide +kernel, rfl, by decide +kernel⟩
theorem witness_PortsComeUpAndGo_14 : ∃ (s : State) (p : Nat) (h : HostPort) (v : Word) (x : Nat), s.up .net = true ∧
    p < 4 ∧ s.mayWrite h (A.MAC_CTL p) = true ∧ x = tCtl s p v ∧ tCtlBad s p x = false ∧
    (s.portOn p = bitOf x 0 ∨ s.portOn p = false ∧ s.portDraining p = true) ∧ bitsAt v.toNat 1 2 = 3 :=
  ⟨tOn, 3, .spi, 8230, _, by decide +kernel, by decide, by decide +kernel, rfl, by decide +kernel⟩
theorem witness_PortsComeUpAndGo_15 : ∃ (s : State) (p : Nat), s.up .net = true ∧ p < 4 ∧ s.portDraining p = true ∧
    (s.eth p).rx = [] ∧ s.portOn p = false :=
  ⟨tWith [(2817, 4)] tOn, 0, by decide +kernel⟩
theorem witness_PortsComeUpAndGo_16 : ∃ (s : State) (p : Nat), s.up .net = true ∧ p < 4 ∧ s.portDraining p = true ∧
    (s.eth p).rx = [] ∧ s.portOn p = true ∧ s.dom .net = 2 :=
  ⟨tWith [(3073, 4), (3072, 65)] tOn, 1, by decide +kernel⟩
theorem witness_PortsComeUpAndGo_17 : ∃ (s : State) (p : Nat), s.up .net = true ∧ p < 4 ∧
    (s.portDraining p = false ∨ (s.eth p).rx ≠ []) := ⟨tOn, 1, by decide +kernel⟩
theorem witness_PortsComeUpAndGo_18 : ∃ (s : State) (p : Nat) (h : HostPort) (e : Nat) (v : Word), s.up .net = true ∧
    p < 4 ∧ e < 8 ∧ s.mayWrite h (A.MAC_IFe_CTL p e) = true ∧ (s.ifCtlWrite h p e v.toNat).rej = none ∧ bitOf v.toNat
    1 = true :=
  ⟨tOn, 2, .twoWire, 1, 262146, by decide +kernel⟩
theorem witness_PortsComeUpAndGo_19 : ∃ (s : State) (p : Nat) (h : HostPort) (e : Nat) (v : Word), s.up .net = true ∧
    p < 4 ∧ e < 8 ∧ s.mayWrite h (A.MAC_IFe_CTL p e) = true ∧ (s.ifCtlWrite h p e v.toNat).rej ≠ none :=
  ⟨tOn, 3, .twoWire, 5, 6, by decide +kernel⟩

/-! FramesAreCountedAndPaused -/

/-- The counter that a received frame falls to. -/
def tRow (s : State) (p : Nat) (raw : List Byte) : Nat :=
  let f := raw.take (raw.length - 4)
  let ok := decide (4 ≤ raw.length) && raw.drop (raw.length - 4) == fcs f
  if raw.length < 64 then (if ok then 16 else 17)
  else if s.val (A.MAC_MAX_LEN p) < raw.length then (if ok then 18 else 19)
  else if ok = false then 15
  else if frameType f = etherPause then (if natAt f (typeAt f + 2) 2 = 1 then 13 else 14)
  else if s.accepts p (frameDst f) = false then 21
  else if (s.entryOf p f).isNone then 22
  else if 4096 < s.rxLevel p + (raw.length + 63) / 64 + 1 then 20 else 0

/-- A PAUSE frame with its FCS, for the port whose address is 02-00-00-00-00-01. -/
def tPause (q : Byte) : List Byte :=
  withFcs ([2, 0, 0, 0, 0, 1, 2, 1, 1, 1, 1, 1, 136, 8, 0, 1, 0, q] ++ List.replicate 42 0)

/-- IEEE 802.3: the CRC-32 of the nine digits 1 to 9 is 0xCBF43926, and the FCS carries its low byte first. -/
theorem test_fcs : fcs [49, 50, 51, 52, 53, 54, 55, 56, 57] = [0x26, 0x39, 0xF4, 0xCB] := by decide +kernel

/-- A port with the parts given. -/
def tPort (p : Nat) (e : EthPort) (s : State) : State := s.setEth p e

theorem witness_FramesAreCountedAndPaused_0 : ∃ (s : State) (p : Nat), s.up .net = true ∧ p < 4 ∧
    (s.portOn p = false ∨ s.portDraining p = true) := ⟨tOn, 0, by decide +kernel⟩
theorem witness_FramesAreCountedAndPaused_1 : ∃ (s : State) (p : Nat) (raw : List Byte), s.up .net = true ∧ p < 4 ∧
    (s.rxFrame p raw 0 0).bit (F.MAC_STAT_PAUSED p) = true ∧
    (((s.rxFrame p raw 0 0).pauseMisses p).eth p).committed = [] :=
  ⟨tWith [(3075, 1), (3074, 512), (3073, 1), (3072, 97)] tOn, 1, tPause 9, by decide +kernel⟩
theorem witness_FramesAreCountedAndPaused_2 : ∃ (s : State) (p : Nat) (raw : List Byte), s.up .net = true ∧ p < 4 ∧
    s.portOn p = true ∧ s.portDraining p = false ∧ tRow s p raw = 15 :=
  ⟨tWith [(3584, 65)] tOn, 3, List.replicate 64 7, by decide +kernel⟩
theorem witness_FramesAreCountedAndPaused_3 : ∃ (s : State) (p : Nat) (raw : List Byte), ∃ e, s.up .net = true ∧ p < 4 ∧
    s.portOn p = true ∧ s.portDraining p = false ∧ tRow s p raw = 0 ∧ s.entryOf p (raw.take (raw.length - 4)) = some e :=
  ⟨tWith [(2848, 1), (2816, 65)] tOn, 0, withFcs ([1, 128, 194, 0, 0, 2, 2, 1, 1, 1, 1, 1, 129, 0, 0, 0, 136,
      247, 0, 2] ++ List.replicate 40 0), 0, by decide +kernel⟩
theorem witness_FramesAreCountedAndPaused_4 : ∃ (s : State) (p : Nat) (raw : List Byte), ∃ f, s.up .net = true ∧ p < 4 ∧
    s.portOn p = true ∧ s.portDraining p = false ∧ tRow s p raw = 13 ∧ f = raw.take (raw.length - 4) ∧ frameTag f = none ∧
    (frameDst f = s.macAddr p ∨ frameDst f = beBytes 6 0x0180C2000001) ∧ s.bit (F.MAC_CTL_RX_PAUSE p) = true ∧
    0 < natAt f 16 2 ∧ s.bit (F.MAC_STAT_PAUSED p) = false :=
  ⟨tWith [(3075, 1), (3074, 512), (3073, 1), (3072, 97)] tOn, 1, tPause 9, _, by decide +kernel, by decide,
    by decide +kernel, by decide +kernel, by decide +kernel, rfl, by decide +kernel⟩
theorem witness_FramesAreCountedAndPaused_5 : ∃ (s : State) (p : Nat) (raw : List Byte), ∃ f, s.up .net = true ∧ p < 4 ∧
    s.portOn p = true ∧ s.portDraining p = false ∧ tRow s p raw = 13 ∧ f = raw.take (raw.length - 4) ∧ frameTag f = none ∧
    (frameDst f = s.macAddr p ∨ frameDst f = beBytes 6 0x0180C2000001) ∧ s.bit (F.MAC_CTL_RX_PAUSE p) = true ∧
    natAt f 16 2 = 0 :=
  ⟨tWith [(3075, 1), (3074, 512), (3073, 1), (3072, 97)] tOn, 1, tPause 0, _, by decide +kernel, by decide,
    by decide +kernel, by decide +kernel, by decide +kernel, rfl, by decide +kernel⟩
theorem witness_FramesAreCountedAndPaused_6 : ∃ (s : State) (p : Nat) (raw : List Byte), ∃ f, s.up .net = true ∧ p < 4 ∧
    s.portOn p = true ∧ s.portDraining p = false ∧ tRow s p raw = 13 ∧ f = raw.take (raw.length - 4) ∧ frameTag f = none ∧
    (frameDst f = s.macAddr p ∨ frameDst f = beBytes 6 0x0180C2000001) ∧ s.bit (F.MAC_CTL_RX_PAUSE p) = false :=
  ⟨tWith [(3075, 1), (3074, 512), (3073, 1), (3072, 65)] tOn, 1, tPause 9, _, by decide +kernel, by decide,
    by decide +kernel, by decide +kernel, by decide +kernel, rfl, by decide +kernel⟩
theorem witness_FramesAreCountedAndPaused_7 : ∃ (s : State) (p : Nat), ∃ a b, s.up .net = true ∧ p < 4 ∧
    (s.eth p).paused = some (a, b) ∧ b < s.nextSub :=
  ⟨tPort 3 { paused := some (-1000000000, 3000) } tOn, 3, -1000000000, 3000, by decide +kernel⟩
theorem witness_FramesAreCountedAndPaused_8 : ∃ (s : State) (p : Nat), ∃ a b, s.up .net = true ∧ p < 4 ∧
    (s.eth p).paused = some (a, b) ∧ s.nextSub ≤ b :=
  ⟨tPort 3 { paused := some (0, 2 ^ 80) } tOn, 3, 0, 2 ^ 80, by decide +kernel⟩
theorem witness_FramesAreCountedAndPaused_9 : ∃ (s : State) (p : Nat), s.up .net = true ∧ p < 4 ∧
    (s.eth p).paused = none ∧ s.linkUp p = false ∧ (s.eth p).pauseOut = none := ⟨tOn, 0, by decide +kernel⟩
theorem witness_FramesAreCountedAndPaused_10 : ∃ (s t : State) (p : Nat), s.up .net = true ∧ p < 4 ∧ s.pending = [] ∧
    step s = .next t ∧ s.bit (F.MAC_STAT_PAUSED p) = true ∧ s.tallyRun = true ∧
    0 < s.pauseMicros p s.nextSub - s.pauseMicros p s.nowSub :=
  ⟨tPort 0 { paused := some (((tOn.tally : Int) - 1249) * 65536, 2 ^ 80) } (tWith [(2817, 128)] tOn), _, 0,
    by decide +kernel, by decide, rfl, rfl, by decide +kernel⟩
theorem witness_FramesAreCountedAndPaused_11 : ∃ (s : State) (p : Nat), s.up .net = true ∧ p < 4 ∧
    s.linkUp p = true ∧ (s.eth p).xoff.on = false ∧ (s.xoffSample p).bit (F.MAC_STAT_XOFF p) = true ∧
    s.bit (F.MAC_CTL_TX_PAUSE p) = true :=
  ⟨tPort 2 { rx := List.replicate 2050 { bytes := List.replicate 54 7, entry := 0, trx := none } }
    (tWith [(3329, 1)] tOn), 2, by decide +kernel⟩
theorem witness_FramesAreCountedAndPaused_12 : ∃ (s : State) (p : Nat), s.up .net = true ∧ p < 4 ∧
    s.linkUp p = true ∧ (s.eth p).xoff.on = true ∧ (s.xoffSample p).bit (F.MAC_STAT_XOFF p) = false :=
  ⟨tPort 3 { xoff := { on := true } } (tWith [(3585, 1)] tOn), 3, by decide +kernel⟩
theorem witness_FramesAreCountedAndPaused_13 : ∃ (s : State) (p : Nat), s.up .net = true ∧ p < 4 ∧
    s.bit (F.MAC_STAT_XOFF p) = true ∧ s.bit (F.MAC_CTL_TX_PAUSE p) = true ∧ s.linkUp p = true :=
  ⟨tWith [(3329, 65)] tOn, 2, by decide +kernel⟩
theorem witness_FramesAreCountedAndPaused_14 : ∃ (s : State) (p : Nat), s.up .net = true ∧ p < 4 ∧ s.linkUp p = true ∧
    (s.xoffSample p).bit (F.MAC_STAT_XOFF p) = (s.eth p).xoff.on ∧ s.bit (F.MAC_STAT_XOFF p) = false :=
  ⟨tWith [(3329, 1)] tOn, 2, by decide +kernel⟩
theorem witness_FramesAreCountedAndPaused_15 : ∃ (s : State) (p : Nat), ∃ k, s.up .net = true ∧ p < 4 ∧
    (s.eth p).pauseOut = some k ∧ s.linkUp p = true ∧ s.pauseGap p = true :=
  ⟨tPort 3 { pauseOut := some (3, 0) } (tWith [(3585, 1)] tOn), 3, (3, 0), by decide +kernel⟩
theorem witness_FramesAreCountedAndPaused_16 : ∃ (s : State) (p : Nat), s.up .net = true ∧ p < 4 ∧
    s.pauseGap p = false :=
  ⟨tPort 3 { committed := [{ kind := .slotted, bytes := List.replicate 60 7, slot := (tOn.tally : Int) * 65536 }] } tOn,
    3, by decide +kernel⟩
theorem witness_FramesAreCountedAndPaused_17 : ∃ (s : State) (p : Nat), ∃ x, s.up .net = true ∧ p < 4 ∧
    (s.eth p).wire = [] ∧ (s.eth p).plain.head? = some x ∧ s.plainFits p (wireLength x.bytes) = true :=
  ⟨tPort 2 { plain := [{ bytes := List.replicate 60 7, reply := true }] } (tWith [(3329, 1), (3328, 65)] tOn), 2,
    { bytes := List.replicate 60 7, reply := true }, by decide +kernel⟩
theorem witness_FramesAreCountedAndPaused_18 : ∃ (s : State) (p : Nat), ∃ g, s.up .net = true ∧ p < 4 ∧
    (s.eth p).wire.head? = some g ∧ g.kind = .slotted :=
  ⟨tPort 3 { wire := [{ kind := .slotted, bytes := List.replicate 60 7 }] } tOn, 3,
    { kind := .slotted, bytes := List.replicate 60 7 }, by decide +kernel⟩
theorem witness_FramesAreCountedAndPaused_20 : ∃ s : State, s.up .net = true ∧ s.bit F.SNAP_CTL_HOLD = true :=
  ⟨tWith [(3840, 2)] tOn, by decide +kernel⟩
theorem witness_FramesAreCountedAndPaused_21 : ∃ (s : State), s.up .net = true ∧ s.bit F.SNAP_CTL_HOLD = false ∧
    s.countedNow 1 46 = 1 := ⟨tOn.macCount 1 46 1, by decide +kernel⟩
theorem witness_FramesAreCountedAndPaused_22 : ∃ s : State, s.up .net = true ∧ s.bit F.SNAP_CTL_PERIOD_EN = true ∧
    s.tally % (s.val A.SNAP_PERIOD * 1250000) = 0 ∧ s.net.snapLast ≠ some s.tally :=
  ⟨tWith [(3840, 4)] tOn, by decide +kernel⟩
theorem witness_FramesAreCountedAndPaused_23 : ∃ s : State, s.up .net = true ∧ s.bit F.SNAP_CTL_PERIOD_EN = false :=
  ⟨tOn, by decide +kernel⟩
theorem witness_FramesAreCountedAndPaused_24 : ∃ (s : State) (h : HostPort), s.up .net = true ∧
    s.mayWrite h A.SNAP_CTL = true := ⟨tOn, .twoWire, by decide +kernel⟩
theorem witness_FramesAreCountedAndPaused_25 : ∃ s : State, s.up .net = true ∧ s.pending = [] ∧ s.net.snapDue = true ∧
    s.bit F.SNAP_CTL_HOLD = false := ⟨{ tOn with net := { snapDue := true } }, by decide +kernel⟩

/-! LatencyAndLaunch -/

theorem witness_LatencyAndLaunch_0 : ∃ (s : State) (p : Nat) (h : HostPort) (v : Word), s.up .net = true ∧ p < 4 ∧
    s.mayWrite h (A.MAC_LAT_CAL p) = true ∧ bitOf v.toNat 1 = false ∧ bitOf v.toNat 0 = true ∧ s.bit
    (F.MAC_TS_STAT_CAL_BUSY p) = true :=
  ⟨(tWith [(2913, 2)] tOn), 0, .spi, 4113197181, by decide +kernel⟩
theorem witness_LatencyAndLaunch_1 : ∃ (s : State) (p : Nat) (h : HostPort) (v : Word), s.up .net = true ∧ p < 4 ∧
    s.mayWrite h (A.MAC_LAT_CAL p) = true ∧ bitOf v.toNat 1 = false ∧ bitOf v.toNat 0 = true ∧ s.bit
    (F.MAC_TS_STAT_CAL_BUSY p) = false ∧ s.linkUp p = false ∧ s.tsuLocked p = true ∧ s.portOn p = true :=
  ⟨(tWith [(3328, 65), (1597, 1), (1596, 1), (768, 80)] tOn), 2, .twoWire, 131073, by decide +kernel⟩
theorem witness_LatencyAndLaunch_2 : ∃ (s : State) (p : Nat) (h : HostPort) (v : Word), s.up .net = true ∧ p < 4 ∧
    s.mayWrite h (A.MAC_LAT_CAL p) = true ∧ bitOf v.toNat 1 = false ∧ bitOf v.toNat 0 = true ∧ s.bit
    (F.MAC_TS_STAT_CAL_BUSY p) = false ∧ (s.linkUp p = true ∨ s.tsuLocked p = false ∨ s.portOn p = false) :=
  ⟨tOn, 0, .twoWire, 69905, by decide +kernel⟩
theorem witness_LatencyAndLaunch_3 : ∃ (s : State) (p : Nat) (h : HostPort) (v : Word), ∃ k, s.up .net = true ∧ p < 4
    ∧ s.mayWrite h (A.MAC_LAT_CAL p) = true ∧ bitOf v.toNat 1 = true ∧ bitOf v.toNat 0 = false ∧ k ≠ p * 4 + s.latMode
    p :=
  ⟨tOn, 3, .twoWire, 26, 6, by decide +kernel⟩
theorem witness_LatencyAndLaunch_6 : ∃ (s : State) (p : Nat), s.up .net = true ∧ p < 4 ∧ s.bit (F.MAC_TS_STAT_CAL_BUSY
    p) = true :=
  ⟨(tWith [(2913, 2)] tOn), 0, by decide +kernel⟩
theorem witness_LatencyAndLaunch_7 : ∃ (s : State) (p : Nat), s.up .net = true ∧ p < 4 ∧ ((s.settling p && s.linkUp p
    && s.tsuLocked p)) = false :=
  ⟨tOn, 0, by decide +kernel⟩
theorem witness_LatencyAndLaunch_8 : ∃ (s : State) (p : Nat) (rx tx : Int), s.up .net = true ∧ p < 4 ∧ ((s.settling p
    && s.linkUp p && s.tsuLocked p)) = true ∧ ((match (s.eth p).lastVars with
            | some (a, b) => if |rx - a| ≤ 2048 ∧ |tx - b| ≤ 2048 then (s.eth p).agreeing + 1 else 1
            | none => 1)) < 16 :=
  ⟨(tWith [(3329, 3), (1597, 1), (1596, 1), (768, 80)] tOn), 2, 2, 40, by decide +kernel⟩
theorem witness_LatencyAndLaunch_9 : ∃ (s : State) (p : Nat) (rx tx : Int), s.up .net = true ∧ p < 4 ∧ ((s.settling p
    && s.linkUp p && s.tsuLocked p)) = true ∧ 16 ≤ ((match (s.eth p).lastVars with
            | some (a, b) => if |rx - a| ≤ 2048 ∧ |tx - b| ≤ 2048 then (s.eth p).agreeing + 1 else 1
            | none => 1)) :=
  ⟨(tWith [(3073, 3), (1595, 1), (1594, 1), (768, 80)]
      { tOn with net := { ports := ((Vector.replicate 4 {}).setIfInBounds 1 { agreeing := 15, lastVars := (some (5, 5)) }) } }),
      1, 4, (-6), by decide +kernel⟩
theorem witness_LatencyAndLaunch_11 : ∃ (s : State) (p : Nat), s.up .net = true ∧ p < 4 ∧ ((s.settling p && s.linkUp p
    && s.tsuLocked p)) = true :=
  ⟨(tWith [(3329, 3), (1597, 1), (1596, 1), (768, 80)] tOn), 2, by decide +kernel⟩
theorem witness_LatencyAndLaunch_12 : ∃ (s : State) (p : Nat), s.up .net = true ∧ p < 4 ∧ (s.eth p).missed = true :=
  ⟨{ tOn with net := { ports := ((Vector.replicate 4 {}).setIfInBounds 0 { missed := true }) } }, 0,
      by decide +kernel⟩
theorem witness_LatencyAndLaunch_13 : ∃ (s : State) (p : Nat), s.up .net = true ∧ p < 4 ∧ (s.eth p).missed = false ∧
    (s.eth p).largestN = none :=
  ⟨tOn, 0, by decide +kernel⟩
theorem witness_LatencyAndLaunch_14 : ∃ (s : State) (p : Nat), ∃ n, s.up .net = true ∧ p < 4 ∧ (s.eth p).largestN =
    some n ∧ (s.eth p).missed = false :=
  ⟨{ tOn with net := { ports := ((Vector.replicate 4 {}).setIfInBounds 2 { largestN := (some 163840) }) } }, 2,
      163840, by decide +kernel⟩
theorem witness_LatencyAndLaunch_15 : ∃ (s : State) (p : Nat), s.up .net = true ∧ p < 4 ∧ s.earliest p = none :=
  ⟨tOn, 0, by decide +kernel⟩
theorem witness_LatencyAndLaunch_16 : ∃ (s : State) (p : Nat), ∃ e, ∃ r, s.up .net = true ∧ p < 4 ∧ s.earliest p =
    some e ∧ e.2.1 = false ∧ (s.eth p).relays[e.2.2]? = some r ∧ s.heldBack p r.slot r.board = false :=
  ⟨{ tOn with net := { ports := ((Vector.replicate 4 {}).setIfInBounds 0 { relays := [{ bytes := ([2, 9, 9, 9, 9, 9] ++ List.replicate 51 7), trx := 0, rate := 0, slot := 0, granted := 0, board := 0, misses := 0 }] }) } },
      0, (0, (false, 0)),
      { bytes := ([2, 9, 9, 9, 9, 9] ++ List.replicate 51 7), trx := 0, rate := 0, slot := 0, granted := 0, board := 0, misses := 0 },
      by decide +kernel⟩
theorem witness_LatencyAndLaunch_17 : ∃ (s : State) (p : Nat), ∃ e, ∃ c, s.up .net = true ∧ p < 4 ∧ s.earliest p =
    some e ∧ e.2.1 = true ∧ s.net.pipe.ctxs[e.2.2]? = some c ∧ c.stage = .staged ∧ s.heldBack c.port c.slot c.board = false ∧
    s.stale c = false ∧ (s.freshened c).msg.length = c.msg.length :=
  ⟨{ tOn with net := { pipe := { ctxs := [{ orig := false, port := 3, entry := 0, stage := .staged, duty := .nts, out := ([2, 9, 9, 9, 9, 9] ++ List.replicate 57 7), slot := 210, len := 100, view := (some { face := .f0, reg := {}, utc := 0, smears := [] }), misses := 3 }] } } },
      3, (210, (true, 0)),
      { orig := false, port := 3, entry := 0, stage := .staged, duty := .nts, out := ([2, 9, 9, 9, 9, 9] ++ List.replicate 57 7), slot := 210, len := 100, view := (some { face := .f0, reg := {}, utc := 0, smears := [] }), misses := 3 },
      by decide +kernel⟩
theorem witness_LatencyAndLaunch_26 : ∃ (s : State) (p : Nat), ∃ e, ∃ c, s.up .net = true ∧ p < 4 ∧ s.earliest p =
    some e ∧ e.2.1 = true ∧ s.net.pipe.ctxs[e.2.2]? = some c ∧ c.stage = .staged ∧ s.heldBack c.port c.slot c.board = false ∧
    s.stale c = false ∧ (s.freshened c).msg.length ≠ c.msg.length :=
  ⟨{ tOn with net := { pipe := { ctxs := [{ orig := true, port := 3, entry := 0, stage := .staged, duty := .management, slot := 210, msg := List.replicate 60 1 }] } } },
      3, (210, (true, 0)),
      { orig := true, port := 3, entry := 0, stage := .staged, duty := .management, slot := 210, msg := List.replicate 60 1 },
      by decide +kernel⟩
theorem witness_LatencyAndLaunch_18 : ∃ (s : State) (p : Nat), ∃ e, ∃ c, s.up .net = true ∧ p < 4 ∧ s.earliest p =
    some e ∧ e.2.1 = true ∧ s.net.pipe.ctxs[e.2.2]? = some c ∧ (c.stage ≠ .staged ∨ s.heldBack c.port c.slot c.board = true ∨
    s.stale c = true) ∧ s.portServes c.port = true ∧ (3 ≤ c.misses ∨ (c.duty = .nts ∧ 1 ≤ c.misses)) :=
  ⟨tWith [(3329, 1), (3328, 65)] { tOn with net := { pipe := { ctxs := [{ orig := false, port := 2, entry := 0, stage := .launch, duty := .nts, out := ([2, 9, 9, 9, 9, 9] ++ List.replicate 57 7), slot := 420, len := 100, view := (some { face := .f0, reg := {}, utc := 0, smears := [] }), misses := 1 }] } } },
      2, (420, (true, 0)),
      { orig := false, port := 2, entry := 0, stage := .launch, duty := .nts, out := ([2, 9, 9, 9, 9, 9] ++ List.replicate 57 7), slot := 420, len := 100, view := (some { face := .f0, reg := {}, utc := 0, smears := [] }), misses := 1 },
      by decide +kernel⟩
theorem witness_LatencyAndLaunch_19 : ∃ (s : State) (p : Nat), s.up .net = true ∧ p < 4 ∧ (s.eth p).committed = [] :=
  ⟨tOn, 0, by decide +kernel⟩
/-- A state in which the first committed frame of port 2 crosses the frontier in bin 0 of the present tick. -/
def tFrame : TxFrame := { kind := .slotted, bytes := List.replicate 60 7, slot := 1024 + Config.latFac 2 0 true }
def tCross (ctl : Nat) : State :=
  tPort 2 { committed := [tFrame] } (tWith [(3329, 1), (3424, ctl)] { tOn with mode := { now := .follow } })
theorem tCross_frontier (k : Nat) (h : k = 0 ∨ k = 2) : (tCross k).frontier 2 tFrame.slot tFrame.board = 1024 := by
  have h1 : (tCross k).latMode 2 = 0 := by rcases h with rfl | rfl <;> decide +kernel
  have h2 : (lookupKey (2 * 4 + 0) (tCross k).net.lat).getD { tx := 0, rx := 0 } = { tx := 0, rx := 0 } := by
    rcases h with rfl | rfl <;> decide +kernel
  have h3 : (tCross k).ival (A.MAC_TX_VAR 2) = 0 := by rcases h with rfl | rfl <;> decide +kernel
  simp only [State.frontier, h1, h3, h2, tFrame]
  ring
theorem tCross_goes (k : Nat) (h : k = 0 ∨ k = 2) : (tCross k).frontier 2 tFrame.slot tFrame.board < (tCross k).nextSub := by
  rw [tCross_frontier k h]; rcases h with rfl | rfl <;> decide +kernel
theorem tCross_dev (k bin : Nat) (h : k = 0 ∨ k = 2) :
    |(tCross k).nowSub + (bin : Int) * 2048 + 1024 - (tCross k).frontier 2 tFrame.slot tFrame.board| = (bin : Int) * 2048 := by
  have h1 : (tCross k).nowSub = 0 := by rcases h with rfl | rfl <;> decide +kernel
  have h2 : (0 : Int) + (bin : Int) * 2048 + 1024 - 1024 = (bin : Int) * 2048 := by omega
  rw [tCross_frontier k h, h1, h2]
  exact abs_of_nonneg (by omega)
theorem tCross_head (k : Nat) (_h : k = 0 ∨ k = 2) : ((tCross k).eth 2).committed.head? = some tFrame := by
  simp [tCross, tPort, State.setEth, State.eth, Vector.getD]
theorem tCross_free (k : Nat) (h : k = 0 ∨ k = 2) (t : Int) : (tCross k).pausedAt 2 t = false := by
  have e : ((tCross k).eth 2).paused = none := by rcases h with rfl | rfl <;> decide +kernel
  simp [State.pausedAt, e]
theorem witness_LatencyAndLaunch_20 : ∃ (s : State) (p bin : Nat) (f : TxFrame), s.up .net = true ∧ p < 4 ∧
    (s.eth p).committed.head? = some f ∧ s.frontier p f.slot f.board < s.nextSub ∧ s.linkUp p = true ∧
    s.pausedAt p (s.startAt p f.slot f.board) = false ∧
    |s.nowSub + (bin : Int) * 2048 + 1024 - s.frontier p f.slot f.board| * 800 ≤ (s.val (A.MAC_TX_DEV_LIMIT p) : Int) * 65536 :=
  ⟨tCross 0, 2, 0, tFrame, by decide +kernel, by decide, tCross_head 0 (by decide), tCross_goes 0 (by decide), by decide +kernel,
    tCross_free 0 (by decide) _, by
    rw [tCross_dev 0 0 (by decide)]; decide +kernel⟩
theorem witness_LatencyAndLaunch_21 : ∃ (s : State) (p bin : Nat) (f : TxFrame), s.up .net = true ∧ p < 4 ∧
    (s.eth p).committed.head? = some f ∧ s.frontier p f.slot f.board < s.nextSub ∧ s.linkUp p = true ∧
    s.pausedAt p (s.startAt p f.slot f.board) = false ∧
    (s.val (A.MAC_TX_DEV_LIMIT p) : Int) * 65536 < |s.nowSub + (bin : Int) * 2048 + 1024 - s.frontier p f.slot f.board| * 800 ∧
    s.bit (F.MAC_TS_CTL_DEV_SAFE p) = true ∧ s.mode.now = .follow :=
  ⟨tCross 2, 2, 31, tFrame, by decide +kernel, by decide, tCross_head 2 (by decide), tCross_goes 2 (by decide), by decide +kernel,
    tCross_free 2 (by decide) _, by
    rw [tCross_dev 2 31 (by decide)]; decide +kernel, by decide +kernel, by decide +kernel⟩
theorem witness_LatencyAndLaunch_22 : ∃ (s : State) (p bin : Nat) (f : TxFrame), s.up .net = true ∧ p < 4 ∧
    (s.eth p).committed.head? = some f ∧ s.frontier p f.slot f.board < s.nextSub ∧ s.linkUp p = true ∧
    s.pausedAt p (s.startAt p f.slot f.board) = false ∧
    (s.val (A.MAC_TX_DEV_LIMIT p) : Int) * 65536 < |s.nowSub + (bin : Int) * 2048 + 1024 - s.frontier p f.slot f.board| * 800 ∧
    s.bit (F.MAC_TS_CTL_DEV_SAFE p) = false :=
  ⟨tCross 0, 2, 31, tFrame, by decide +kernel, by decide, tCross_head 0 (by decide), tCross_goes 0 (by decide), by decide +kernel,
    tCross_free 0 (by decide) _, by
    rw [tCross_dev 0 31 (by decide)]; decide +kernel, by decide +kernel⟩
theorem witness_LatencyAndLaunch_23 : ∃ (s : State) (p : Nat) (f : TxFrame), s.up .net = true ∧ p < 4 ∧
    (s.eth p).committed.head? = some f ∧ s.linkUp p = false :=
  ⟨tPort 2 { committed := [{ kind := .slotted, bytes := List.replicate 60 7, slot := 5 }] } tOn, 2,
    { kind := .slotted, bytes := List.replicate 60 7, slot := 5 }, by decide +kernel⟩
theorem witness_LatencyAndLaunch_24 : ∃ (b s : State) (p : Nat), s.up .net = true ∧ p < 4 ∧ b.baseMode ≠ .calibrate ∧
    s.baseMode = .calibrate ∧ s.dom .time = 2 ∧ s.portOn p = true ∧ s.linkUp p = false :=
  ⟨tOn, tWith [(3328, 65)] { tOn with mode := { now := .calibrate } }, 2, by decide +kernel⟩
theorem witness_LatencyAndLaunch_25 : ∃ (s : State) (p : Nat), s.up .net = true ∧ p < 4 ∧ s.baseMode = .calibrate ∧
    (s.eth p).latDue = true ∧ s.portOn p = true ∧ s.linkUp p = false ∧ s.tsuLocked p = true :=
  ⟨tWith [(3328, 65), (1597, 1), (1596, 1), (768, 80)] (tPort 2 { latDue := true } { tOn with mode := { now := .calibrate } }),
    2, by decide +kernel⟩

/-! RequestsPassTheStages -/

theorem witness_RequestsPassTheStages_0 : ∃ (s : State), s.up .pipe = true ∧ ((s.fillBuckets).nextPort = none ∨ s.bit
    F.PIPE_CTL_EN = false ∨ s.bit F.PIPE_STAT_DRAINING = true ∨ 480 ≤ s.ctxInUse ∨ (s.fillBuckets).net.pipe.issue <
    1250000000) :=
  ⟨tOn, by decide +kernel⟩
theorem witness_RequestsPassTheStages_2 : ∃ (s : State), ∃ p, ∃ f, s.up .pipe = true ∧ s.nextPort = some p ∧ (s.eth
    p).rx.head? = some f ∧ s.bit F.PIPE_CTL_EN = true ∧ s.bit F.PIPE_STAT_DRAINING = false ∧ s.ctxInUse < 480 ∧
    1250000000 ≤ (s.fillBuckets).net.pipe.issue ∧ (s.intake).ctxInUse = 480 :=
  ⟨{ (tOn.setBit F.PIPE_CTL_EN true).setEth 0 { rx := [{ bytes := [], entry := 0, trx := none }] } with net := { ((tOn.setEth 0 { rx := [{ bytes := [], entry := 0, trx := none }] }).net) with pipe := { ctxs := List.replicate 479 { orig := false, port := 0, entry := 0 } } } },
      0, { bytes := [], entry := 0, trx := none }, by decide +kernel⟩
theorem witness_RequestsPassTheStages_3 : ∃ (s : State), s.up .pipe = true ∧ s.findCtx (fun c => c.stage == .sort) =
    none :=
  ⟨tOn, by decide +kernel⟩
theorem witness_RequestsPassTheStages_4 : ∃ (s : State), ∃ i, ∃ c, s.up .pipe = true ∧ s.findCtx (fun c => c.stage ==
    .sort) = some i ∧ s.net.pipe.ctxs[i]? = some c ∧ c.ended = false :=
  ⟨{ tOn with net := { pipe := { ctxs := [{ orig := false, port := 2, entry := 0, cls := 2, duty := .signaling, frame := ([2, 0, 0, 0, 0, 1, 2, 9, 9, 9, 9, 9, 8, 0, 69, 0, 0, 76, 0, 0, 64, 0, 64, 17, 38, 152, 10, 0, 0, 9, 10, 0, 0, 1, 19, 136, 0, 123, 0, 56, 188, 113, 27] ++ List.replicate 47 0), srcIp := [10, 0, 0, 1], dest := { mac := [2, 9, 9, 9, 9, 9], ip := [10, 0, 0, 9], udp := 5000 }, msg := (List.replicate 48 1), slot := 2100, len := 100, view := (some { face := .f0, reg := {}, utc := 0, smears := [] }) }] } } },
      0,
      { orig := false, port := 2, entry := 0, cls := 2, duty := .signaling, frame := ([2, 0, 0, 0, 0, 1, 2, 9, 9, 9, 9, 9, 8, 0, 69, 0, 0, 76, 0, 0, 64, 0, 64, 17, 38, 152, 10, 0, 0, 9, 10, 0, 0, 1, 19, 136, 0, 123, 0, 56, 188, 113, 27] ++ List.replicate 47 0), srcIp := [10, 0, 0, 1], dest := { mac := [2, 9, 9, 9, 9, 9], ip := [10, 0, 0, 9], udp := 5000 }, msg := (List.replicate 48 1), slot := 2100, len := 100, view := (some { face := .f0, reg := {}, utc := 0, smears := [] }) },
      by decide +kernel⟩
theorem witness_RequestsPassTheStages_5 : ∃ (s : State), s.up .pipe = true ∧ s.findCtx (fun c => c.stage ==
    .admission) = none :=
  ⟨tOn, by decide +kernel⟩
theorem witness_RequestsPassTheStages_6 : ∃ (s : State), ∃ i, ∃ c, s.up .pipe = true ∧ s.findCtx (fun c => c.stage ==
    .admission) = some i ∧ s.net.pipe.ctxs[i]? = some c ∧ c.ended = false ∧ c.cls = 2 ∧ natAt c.frame 0 1 % 16 = 1 ∧ s.ptpState c.port ≠
    3 :=
  ⟨{ tOn with net := { pipe := { ctxs := [{ orig := false, port := 3, entry := 0, cls := 2, trx := (some 55555), stage := .admission, duty := .kissNts, frame := ([1, 2, 0, 44] ++ List.replicate 16 0 ++ [1, 2, 3, 4, 5, 6, 7, 8, 0, 1, 0, 7] ++ List.replicate 12 0), srcIp := [10, 0, 0, 1], dest := { mac := [1, 27, 25, 0, 0, 0], ip := [], udp := 0 }, msg := (List.replicate 48 1), slot := 2170, len := 100, view := (some { face := .f0, reg := {}, utc := 0, smears := [] }), misses := 1 }] } } },
      0,
      { orig := false, port := 3, entry := 0, cls := 2, trx := (some 55555), stage := .admission, duty := .kissNts, frame := ([1, 2, 0, 44] ++ List.replicate 16 0 ++ [1, 2, 3, 4, 5, 6, 7, 8, 0, 1, 0, 7] ++ List.replicate 12 0), srcIp := [10, 0, 0, 1], dest := { mac := [1, 27, 25, 0, 0, 0], ip := [], udp := 0 }, msg := (List.replicate 48 1), slot := 2170, len := 100, view := (some { face := .f0, reg := {}, utc := 0, smears := [] }), misses := 1 },
      by decide +kernel⟩
theorem witness_RequestsPassTheStages_7 : ∃ (s : State), ∃ i, ∃ c, s.up .pipe = true ∧ s.findCtx (fun c => c.stage ==
    .admission) = some i ∧ s.net.pipe.ctxs[i]? = some c ∧ c.ended = false ∧ c.cls ≠ 2 ∧ c.trx.isSome = true ∧ s.safe = true ∧ (c.cls = 1
    ∨ s.bit F.NTP_CTL_SAFE_SILENT = true) :=
  ⟨{ tOn with mode := { now := .safeHold }, net := { pipe := { ctxs := [{ orig := true, port := 3, entry := 0, cls := 1, trx := (some 55555), stage := .admission, duty := .delayResp, frame := ([35] ++ List.replicate 47 0), srcIp := [10, 0, 0, 1], dest := { mac := [2, 9, 9, 9, 9, 9], ip := [10, 0, 0, 9], udp := 5000 }, msg := (List.replicate 48 1), slot := 18130, len := 100, misses := 4 }] } } },
      0,
      { orig := true, port := 3, entry := 0, cls := 1, trx := (some 55555), stage := .admission, duty := .delayResp, frame := ([35] ++ List.replicate 47 0), srcIp := [10, 0, 0, 1], dest := { mac := [2, 9, 9, 9, 9, 9], ip := [10, 0, 0, 9], udp := 5000 }, msg := (List.replicate 48 1), slot := 18130, len := 100, misses := 4 },
      by decide +kernel⟩
theorem witness_RequestsPassTheStages_9 : ∃ (s : State), s.up .pipe = true ∧ s.findCtx (fun c => c.stage == .read) =
    none :=
  ⟨tOn, by decide +kernel⟩
theorem witness_RequestsPassTheStages_10 : ∃ (s : State), ∃ i, ∃ c, s.up .pipe = true ∧ s.findCtx (fun c => c.stage ==
    .read) = some i ∧ s.net.pipe.ctxs[i]? = some c ∧ c.ended = false ∧ s.portServes c.port = false :=
  ⟨{ tOn with net := { pipe := { ctxs := [{ orig := false, port := 0, entry := 0, cls := 2, trx := (some 55555), stage := .read, duty := .ntp, frame := ([1, 2, 0, 44] ++ List.replicate 16 0 ++ [1, 2, 3, 4, 5, 6, 7, 8, 0, 1, 0, 7] ++ List.replicate 12 0), srcIp := [10, 0, 0, 1], dest := { mac := [2, 9, 9, 9, 9, 9], ip := [10, 0, 0, 9], udp := 5000 }, msg := (List.replicate 48 1), slot := 2240, len := 100, view := (some { face := .f0, reg := {}, utc := 0, smears := [] }), misses := 2 }] } } },
      0,
      { orig := false, port := 0, entry := 0, cls := 2, trx := (some 55555), stage := .read, duty := .ntp, frame := ([1, 2, 0, 44] ++ List.replicate 16 0 ++ [1, 2, 3, 4, 5, 6, 7, 8, 0, 1, 0, 7] ++ List.replicate 12 0), srcIp := [10, 0, 0, 1], dest := { mac := [2, 9, 9, 9, 9, 9], ip := [10, 0, 0, 9], udp := 5000 }, msg := (List.replicate 48 1), slot := 2240, len := 100, view := (some { face := .f0, reg := {}, utc := 0, smears := [] }), misses := 2 },
      by decide +kernel⟩
theorem witness_RequestsPassTheStages_11 : ∃ (s : State) (i : Nat), ∃ c, s.up .pipe = true ∧ s.net.pipe.ctxs[i]? =
    some c ∧ c.ended = false ∧ c.stage ≠ .seal :=
  ⟨{ tOn with net := { pipe := { ctxs := [{ orig := true, port := 1, entry := 0, stage := .staged }, { orig := true, port := 1, entry := 0, stage := .staged }, { orig := true, port := 1, entry := 0, stage := .staged }, { orig := true, port := 1, entry := 0, stage := .staged }, { orig := true, port := 1, entry := 0, stage := .staged }] } } },
      4, { orig := true, port := 1, entry := 0, stage := .staged }, by decide +kernel⟩
theorem witness_RequestsPassTheStages_12 : ∃ (s : State) (i : Nat), ∃ c, s.up .pipe = true ∧ s.net.pipe.ctxs[i]? =
    some c ∧ c.ended = false ∧ c.stage = .seal ∧ s.inLane i = true ∧ c.duty ≠ .nts :=
  ⟨{ tOn with net := { pipe := { ctxs := [{ orig := true, port := 2, entry := 0, cls := 2, trx := (some 55555), stage := .read, duty := .signaling, frame := ([1, 2, 0, 44] ++ List.replicate 16 0 ++ [1, 2, 3, 4, 5, 6, 7, 8, 0, 1, 0, 7] ++ List.replicate 12 0), srcIp := [10, 0, 0, 1], dest := { mac := [2, 9, 9, 9, 9, 9], ip := [10, 0, 0, 9], udp := 5000 }, msg := (List.replicate 48 1), slot := 980, len := 100, misses := 4 }, { orig := false, port := 3, entry := 0, cls := 2, stage := .seal, duty := .kissNts, frame := ([1, 2, 0, 44] ++ List.replicate 16 0 ++ [1, 2, 3, 4, 5, 6, 7, 8, 0, 1, 0, 7] ++ List.replicate 12 0), srcIp := [10, 0, 0, 1], dest := { mac := [2, 9, 9, 9, 9, 9], ip := [10, 0, 0, 9], udp := 5000 }, msg := (List.replicate 48 1), slot := 1050, len := 100, view := (some { face := .f0, reg := {}, utc := 0, smears := [] }) }] } } },
      1,
      { orig := false, port := 3, entry := 0, cls := 2, stage := .seal, duty := .kissNts, frame := ([1, 2, 0, 44] ++ List.replicate 16 0 ++ [1, 2, 3, 4, 5, 6, 7, 8, 0, 1, 0, 7] ++ List.replicate 12 0), srcIp := [10, 0, 0, 1], dest := { mac := [2, 9, 9, 9, 9, 9], ip := [10, 0, 0, 9], udp := 5000 }, msg := (List.replicate 48 1), slot := 1050, len := 100, view := (some { face := .f0, reg := {}, utc := 0, smears := [] }) },
      by decide +kernel⟩
theorem witness_RequestsPassTheStages_13 : ∃ (s : State) (i : Nat), ∃ c, s.up .pipe = true ∧ s.net.pipe.ctxs[i]? =
    some c ∧ c.ended = false ∧ c.stage = .seal ∧ s.inLane i = true ∧ c.duty = .nts ∧ c.key = none :=
  ⟨{ tOn with net := { pipe := { ctxs := [{ orig := false, port := 1, entry := 0, cls := 1, trx := (some 55555), stage := .seal, duty := .nts, frame := ([35] ++ List.replicate 47 0), srcIp := [10, 0, 0, 1], dest := { mac := [2, 9, 9, 9, 9, 9], ip := [10, 0, 0, 9], udp := 5000 }, msg := (List.replicate 48 1), slot := 8190, len := 100, view := (some { face := .f0, reg := {}, utc := 0, smears := [] }), misses := 2 }] } } },
      0,
      { orig := false, port := 1, entry := 0, cls := 1, trx := (some 55555), stage := .seal, duty := .nts, frame := ([35] ++ List.replicate 47 0), srcIp := [10, 0, 0, 1], dest := { mac := [2, 9, 9, 9, 9, 9], ip := [10, 0, 0, 9], udp := 5000 }, msg := (List.replicate 48 1), slot := 8190, len := 100, view := (some { face := .f0, reg := {}, utc := 0, smears := [] }), misses := 2 },
      by decide +kernel⟩
theorem witness_RequestsPassTheStages_14 : ∃ (s : State) (i : Nat), ∃ c, s.up .pipe = true ∧ s.net.pipe.ctxs[i]? =
    some c ∧ c.ended = false ∧ c.stage ≠ .launch :=
  ⟨{ tOn with net := { pipe := { ctxs := [{ orig := true, port := 1, entry := 0, stage := .staged }, { orig := true, port := 1, entry := 0, stage := .staged }, { orig := true, port := 1, entry := 0, stage := .staged }, { orig := true, port := 1, entry := 0, stage := .staged }, { orig := true, port := 1, entry := 0, stage := .staged }] } } },
      4, { orig := true, port := 1, entry := 0, stage := .staged }, by decide +kernel⟩
theorem witness_RequestsPassTheStages_15 : ∃ (s : State) (i : Nat), ∃ c, s.up .pipe = true ∧ s.net.pipe.ctxs[i]? =
    some c ∧ c.ended = false ∧ c.stage = .launch ∧ s.portServes c.port = false :=
  ⟨{ tOn with net := { pipe := { ctxs := [{ orig := false, port := 2, entry := 0, cls := 0, trx := (some 55555), stage := .launch, duty := .signaling, frame := ([35] ++ List.replicate 47 0), srcIp := [10, 0, 0, 1], dest := { mac := [2, 9, 9, 9, 9, 9], ip := [10, 0, 0, 9], udp := 5000 }, msg := (List.replicate 48 1), slot := 1540, len := 100, view := (some { face := .f0, reg := {}, utc := 0, smears := [] }), misses := 2 }] } } },
      0,
      { orig := false, port := 2, entry := 0, cls := 0, trx := (some 55555), stage := .launch, duty := .signaling, frame := ([35] ++ List.replicate 47 0), srcIp := [10, 0, 0, 1], dest := { mac := [2, 9, 9, 9, 9, 9], ip := [10, 0, 0, 9], udp := 5000 }, msg := (List.replicate 48 1), slot := 1540, len := 100, view := (some { face := .f0, reg := {}, utc := 0, smears := [] }), misses := 2 },
      by decide +kernel⟩
theorem witness_RequestsPassTheStages_16 : ∃ (s : State) (i : Nat), ∃ c, s.up .pipe = true ∧ s.net.pipe.ctxs[i]? =
    some c ∧ c.ended = false ∧ c.stage = .launch ∧ s.portServes c.port = true :=
  ⟨(tWith [(2817, 1), (2816, 65)]
      { tOn with net := { pipe := { ctxs := [{ orig := false, port := 0, entry := 0, cls := 0, trx := (some 55555), duty := .announce, frame := ([2, 0, 0, 0, 0, 1, 2, 9, 9, 9, 9, 9, 8, 6] ++ List.replicate 46 0), srcIp := [10, 0, 0, 1], dest := { mac := [1, 27, 25, 0, 0, 0], ip := [], udp := 0 }, msg := (List.replicate 48 1), slot := 2520, len := 100, view := (some { face := .f0, reg := {}, utc := 0, smears := [] }), misses := 1 }, { orig := false, port := 1, entry := 0, cls := 0, trx := (some 55555), stage := .admission, duty := .nts, frame := ([35] ++ List.replicate 47 0), srcIp := [10, 0, 0, 1], dest := { mac := [2, 9, 9, 9, 9, 9], ip := [10, 0, 0, 9], udp := 5000 }, msg := (List.replicate 48 1), slot := 2590, len := 100, view := (some { face := .f0, reg := {}, utc := 0, smears := [] }), misses := 2 }, { orig := false, port := 2, entry := 0, cls := 0, trx := (some 55555), stage := .read, duty := .signaling, frame := ([35] ++ List.replicate 47 0), srcIp := [10, 0, 0, 1], dest := { mac := [2, 9, 9, 9, 9, 9], ip := [10, 0, 0, 9], udp := 5000 }, msg := (List.replicate 48 1), slot := 2660, len := 100, view := (some { face := .f0, reg := {}, utc := 0, smears := [] }), misses := 3 }, { orig := false, port := 3, entry := 0, cls := 0, trx := (some 55555), stage := .seal, duty := .kissNts, frame := ([35] ++ List.replicate 47 0), srcIp := [10, 0, 0, 1], dest := { mac := [2, 9, 9, 9, 9, 9], ip := [10, 0, 0, 9], udp := 5000 }, msg := (List.replicate 48 1), slot := 2730, len := 100, view := (some { face := .f0, reg := {}, utc := 0, smears := [] }), misses := 4 }, { orig := false, port := 0, entry := 0, cls := 0, stage := .launch, duty := .ntp, frame := ([35] ++ List.replicate 47 0), srcIp := [10, 0, 0, 1], dest := { mac := [2, 9, 9, 9, 9, 9], ip := [10, 0, 0, 9], udp := 5000 }, msg := (List.replicate 48 1), slot := 2800, len := 100, view := (some { face := .f0, reg := {}, utc := 0, smears := [] }) }] } } }),
      4,
      { orig := false, port := 0, entry := 0, cls := 0, stage := .launch, duty := .ntp, frame := ([35] ++ List.replicate 47 0), srcIp := [10, 0, 0, 1], dest := { mac := [2, 9, 9, 9, 9, 9], ip := [10, 0, 0, 9], udp := 5000 }, msg := (List.replicate 48 1), slot := 2800, len := 100, view := (some { face := .f0, reg := {}, utc := 0, smears := [] }) },
      by decide +kernel⟩
theorem witness_RequestsPassTheStages_17 : ∃ (s : State) (i : Nat), ∃ c, s.up .pipe = true ∧ s.net.pipe.ctxs[i]? =
    some c ∧ c.ended = false ∧ (s.val A.PIPE_CTX_TIMEOUT : Int) * 1250 * 65536 ≤ s.nowSub - c.born ∧
    s.bit F.PIPE_STAT_EXPIRED_SEEN = false :=
  ⟨{ tOn with net := { pipe := { ctxs := [{ orig := true, port := 1, entry := 0, stage := .staged, born := -(2 ^ 50) }] } } },
      0, { orig := true, port := 1, entry := 0, stage := .staged, born := -(2 ^ 50) }, by decide +kernel⟩
theorem witness_RequestsPassTheStages_18 : ∃ (s : State) (i : Nat), ∃ c, s.up .pipe = true ∧ s.net.pipe.ctxs[i]? =
    some c ∧ c.ended = false ∧ s.nowSub - c.born < (s.val A.PIPE_CTX_TIMEOUT : Int) * 1250 * 65536 :=
  ⟨{ tOn with net := { pipe := { ctxs := [{ orig := true, port := 1, entry := 0, stage := .staged }] } } },
      0, { orig := true, port := 1, entry := 0, stage := .staged }, by decide +kernel⟩
theorem witness_RequestsPassTheStages_19 : ∃ (s : State), ∃ i, s.up .pipe = true ∧ s.net.pipe.ctxs.length ≤ i :=
  ⟨tOn, 11, by decide +kernel⟩
theorem witness_RequestsPassTheStages_4b : ∃ (s : State), ∃ i, ∃ c, ∃ ip, ∃ d, s.up .pipe = true ∧ s.findCtx (fun c =>
    c.stage == .sort) = some i ∧ s.net.pipe.ctxs[i]? = some c ∧ c.ended = false ∧ parseIp c.frame = .ip ip ∧
    ip.proto = 17 ∧ ip.udp = some d ∧ d.dport = 123 ∧ s.entryHas c.port c.entry ip.dst = true ∧
    s.ntpKind d.payload ≠ .none ∧ c.trx = none := by
  let c : Ctx := { orig := false, port := 2, entry := 0, frame := ([2, 0, 0, 0, 0, 1, 2, 9, 9, 9, 9, 9, 8, 0, 69, 0, 0, 76, 0, 0, 64, 0, 64, 17, 38, 152, 10, 0, 0, 9, 10, 0, 0, 1, 19, 136, 0, 123, 0, 56, 188, 113, 27] ++ List.replicate 47 0) }
  let s : State := ((({ tOn with net := { pipe := { ctxs := [c] } } } : State).setBit F.NTP_CTL_EN true).setVal
    (A.MAC_IFe_CTL 2 0) 5).setVal (A.MAC_IFe_V4 2 0) 0x0A000001
  exact ⟨s, 0, c, { v6 := false, proto := 17, src := [10, 0, 0, 9], dst := [10, 0, 0, 1], body := c.frame.drop 34 },
    { sport := 5000, dport := 123, payload := c.frame.drop 42 }, by decide +kernel⟩

/-! PipelineIsControlledAndDrained -/

theorem witness_PipelineIsControlledAndDrained_0 : ∃ (s : State) (p : HostPort) (v : Word), s.up .pipe = true ∧
    s.mayWrite p A.PIPE_CTL = true ∧ s.bit F.PIPE_CTL_EN = true ∧ bitOf v.toNat 0 = false :=
  ⟨tOn, .twoWire, 2, by decide +kernel⟩
theorem witness_PipelineIsControlledAndDrained_1 : ∃ (s : State) (p : HostPort) (v : Word), s.up .pipe = true ∧
    s.mayWrite p A.PIPE_CTL = true ∧ (s.bit F.PIPE_CTL_EN = false ∨ bitOf v.toNat 0 = true) :=
  ⟨tOn, .twoWire, 209715, by decide +kernel⟩
theorem witness_PipelineIsControlledAndDrained_2 : ∃ (s : State) (p : HostPort) (v : Word), ∃ q, s.up .pipe = true ∧
    s.mayWrite p A.PIPE_HK_ANNOUNCE = true ∧ q < 4 ∧ (bitOf v.toNat q = false ∨ s.linkUp q = false) :=
  ⟨tOn, .twoWire, 209715, 1, by decide +kernel⟩
theorem witness_PipelineIsControlledAndDrained_3 : ∃ (s : State) (p : HostPort) (v : Word), ∃ q, s.up .pipe = true ∧
    s.mayWrite p A.PIPE_HK_ANNOUNCE = true ∧ q < 4 ∧ bitOf v.toNat q = true ∧ s.linkUp q = true ∧ s.portOn q = true :=
  ⟨(tWith [(3073, 1), (3072, 65)] tOn), .twoWire, 10, 1, by decide +kernel⟩
theorem witness_PipelineIsControlledAndDrained_4 : ∃ (s : State) (p : HostPort) (v : Word), s.up .pipe = true ∧
    s.mayWrite p A.PIPE_MBX_FLUSH = true ∧ v.toNat = 1 :=
  ⟨tOn, .twoWire, 1, by decide +kernel⟩
theorem witness_PipelineIsControlledAndDrained_5 : ∃ (s : State) (p : HostPort) (v : Word), s.up .pipe = true ∧
    s.mayWrite p A.PIPE_MBX_FLUSH = true ∧ v.toNat ≠ 1 :=
  ⟨tOn, .twoWire, 209715, by decide +kernel⟩
theorem witness_PipelineIsControlledAndDrained_6 : ∃ (s : State), s.up .pipe = true ∧ s.net.pipe.ctxs.all (fun c => c.ended) = true ∧ s.dom
    .pipe = 2 :=
  ⟨tOn, by decide +kernel⟩
theorem witness_PipelineIsControlledAndDrained_7 : ∃ (s : State), s.up .pipe = true ∧ (s.net.pipe.ctxs.all (fun c => c.ended) = false ∨ s.dom
    .pipe ≠ 2) :=
  ⟨{ tOn with net := { pipe := { ctxs := [{ orig := true, port := 1, entry := 0, stage := .staged }] } } },
      by decide +kernel⟩

/-! PtpMessagesAreSent -/

theorem witness_PtpMessagesAreSent_0 : ∃ (s : State) (p : Nat), s.up .pipe = true ∧ p < 4 ∧ (decide (s.ptpState p = 3) && s.bit (F.PTP_Pp_CTL_MCAST_EN p) && periodDue (s.ptp p).annAt (s.logAnn p) s.tally) = false :=
  ⟨tOn, 0, by decide +kernel⟩
theorem witness_PtpMessagesAreSent_1 : ∃ (s : State) (p : Nat), s.up .pipe = true ∧ p < 4 ∧ (decide (s.ptpState p = 3) && s.bit (F.PTP_Pp_CTL_MCAST_EN p) && periodDue (s.ptp p).annAt (s.logAnn p) s.tally) = true ∧
    s.mayAnnounce p = true :=
  ⟨tWith [(4225, 3)] { tOn with mode := { now := .safeHold } }, 2, by decide +kernel⟩
theorem witness_PtpMessagesAreSent_2 : ∃ (s : State) (p : Nat), s.up .pipe = true ∧ p < 4 ∧ (decide (s.ptpState p = 3) && s.bit (F.PTP_Pp_CTL_MCAST_EN p) && periodDue (s.ptp p).syncAt (s.logSync p) s.tally) = false :=
  ⟨tOn, 0, by decide +kernel⟩
theorem witness_PtpMessagesAreSent_3 : ∃ (s : State) (p : Nat), s.up .pipe = true ∧ p < 4 ∧ (decide (s.ptpState p = 3) && s.bit (F.PTP_Pp_CTL_MCAST_EN p) && periodDue (s.ptp p).syncAt (s.logSync p) s.tally) = true ∧
    s.maySync p = true :=
  ⟨tWith [(4257, 3), (1024, 1)] { tOn with mode := { now := .follow } }, 3, by decide +kernel⟩
theorem witness_PtpMessagesAreSent_4 : ∃ (s : State) (p : Nat), s.up .pipe = true ∧ p < 4 ∧ (decide (s.ptpState p = 3) && s.bit (F.PTP_Pp_CTL_MCAST_EN p) && periodDue (s.ptp p).annAt (s.logAnn p) s.tally) = true ∧
    s.mayAnnounce p = false :=
  ⟨tWith [(4225, 3)] tOn, 2, by decide +kernel⟩
theorem witness_PtpMessagesAreSent_5 : ∃ (s : State) (p : Nat), s.up .pipe = true ∧ p < 4 ∧ (decide (s.ptpState p = 3) && s.bit (F.PTP_Pp_CTL_MCAST_EN p) && periodDue (s.ptp p).syncAt (s.logSync p) s.tally) = true ∧
    s.maySync p = false :=
  ⟨tWith [(4257, 3)] { tOn with mode := { now := .follow } }, 3, by decide +kernel⟩
/-- A foreign master whose last Announce came at Tally 0. -/
def tForeign : Foreign :=
  { id := 100, mac := [2, 9, 9, 9, 9, 9], ip := [10, 0, 0, 9], log := 0, last := 0, ok := true,
    data := { gm := 77, prio1 := 128, prio2 := 128, cls := 6, acc := 33, oslv := 5, steps := 0, utc := 37, flags := 8, source := 32 } }
theorem witness_PtpMessagesAreSent_6 : ∃ (s : State) (p : Nat), s.up .pipe = true ∧ p < 4 ∧ (s.tracking p = false ∨ s.erbest p = none ∨
    s.tally < (s.ptp p).dreqAt) :=
  ⟨tOn, 0, by decide +kernel⟩
theorem witness_PtpMessagesAreSent_7 : ∃ (s : State) (p : Nat), s.up .pipe = true ∧ p < 4 ∧ s.tracking p = true ∧ (s.erbest p).isSome = true ∧
    (s.ptp p).dreqAt ≤ s.tally ∧ s.rngOk = false :=
  ⟨((tWith [(4193, 4)] tOn).setPtpPort 1 { masters := [tForeign] }).setBit F.GRD_STAT_RNG_OK false, 1, by decide +kernel⟩
theorem witness_PtpMessagesAreSent_8 : ∃ (s : State) (p : Nat), s.up .pipe = true ∧ p < 4 ∧ s.tracking p = true ∧ (s.erbest p).isSome = true ∧
    (s.ptp p).dreqAt ≤ s.tally ∧ s.rngOk = true :=
  ⟨((tWith [(4193, 4)] tOn).setPtpPort 1 { masters := [tForeign] }).setBit F.GRD_STAT_RNG_OK true, 1, by decide +kernel⟩
theorem witness_PtpMessagesAreSent_9 : ∃ (s : State) (p : Nat), s.up .pipe = true ∧ p < 4 ∧ (s.bit (F.PTP_Pp_CTL_EN p) && s.bit (F.PTP_Pp_CTL_UC_REQ p) &&
    decide (s.get (F.PTP_Pp_CTL_ROLE p) ≠ 1) && [11, 0, 9].any (fun t => s.askDue p t)) = false :=
  ⟨tOn, 0, by decide +kernel⟩
theorem witness_PtpMessagesAreSent_10 : ∃ (s : State) (p : Nat), s.up .pipe = true ∧ p < 4 ∧ (s.bit (F.PTP_Pp_CTL_EN p) && s.bit (F.PTP_Pp_CTL_UC_REQ p) &&
    decide (s.get (F.PTP_Pp_CTL_ROLE p) ≠ 1) && [11, 0, 9].any (fun t => s.askDue p t)) = true :=
  ⟨tWith [(4256, 280577)] tOn, 3, by decide +kernel⟩
theorem witness_PtpMessagesAreSent_11 : ∃ (s : State) (p : Nat), s.up .pipe = true ∧ p < 4 ∧ (s.metaOn && !s.bit F.PTP_CTL_SM_CARRIER && decide (s.ptpState p = 3) && !s.notServing &&
    periodDue (s.ptp p).metaAt (s.logAnn p) s.tally) = false :=
  ⟨tOn, 0, by decide +kernel⟩
theorem witness_PtpMessagesAreSent_12 : ∃ (s : State) (p : Nat), s.up .pipe = true ∧ p < 4 ∧ (s.metaOn && !s.bit F.PTP_CTL_SM_CARRIER && decide (s.ptpState p = 3) && !s.notServing &&
    periodDue (s.ptp p).metaAt (s.logAnn p) s.tally) = true :=
  ⟨tWith [(4257, 3), (4096, 4), (1024, 1)] { tOn with mode := { now := .follow } }, 3, by decide +kernel⟩
/-- A grant to one grantee on port 1, made at Tally 0. -/
def tGrant (kind ends : Nat) : Grant :=
  { port := 1, id := 4759477275222530850817, dest := { mac := [2, 9, 9, 9, 9, 9], ip := [10, 0, 0, 9], udp := 319 }, entry := 0,
    tag := none, srcIp := [10, 0, 0, 1], kind := kind, log := 0, ends := ends, seq := 65535 }
def tGrants (l : List Grant) (s : State) : State := s.setPtp { s.net.ptp with grants := l }
theorem witness_PtpMessagesAreSent_13 : ∃ (s : State) (p i : Nat) (g : Grant), s.up .pipe = true ∧ p < 4 ∧ s.net.ptp.grants[i]? = some g ∧
    (decide (g.port = p) && decide (g.kind = 11) && decide (s.tally < g.ends) &&
    periodDue (some g.last) g.log s.tally) = false :=
  ⟨tGrants [tGrant 11 9] tOn, 1, 0, tGrant 11 9, by decide +kernel⟩
theorem witness_PtpMessagesAreSent_14 : ∃ (s : State) (p i : Nat) (g : Grant), s.up .pipe = true ∧ p < 4 ∧ s.net.ptp.grants[i]? = some g ∧
    (decide (g.port = p) && decide (g.kind = 11) && decide (s.tally < g.ends) &&
    periodDue (some g.last) g.log s.tally) = true ∧ s.mayAnnounce p = true :=
  ⟨tGrants [tGrant 11 2000000000] (tWith [(4193, 3)] { tOn with tally := 1250000000, mode := { now := .follow } }), 1, 0, tGrant 11 2000000000, by decide +kernel⟩
theorem witness_PtpMessagesAreSent_15 : ∃ (s : State) (p i : Nat) (g : Grant), s.up .pipe = true ∧ p < 4 ∧ s.net.ptp.grants[i]? = some g ∧
    (decide (g.port = p) && decide (g.kind = 0) && decide (s.tally < g.ends) &&
    periodDue (some g.last) g.log s.tally) = false :=
  ⟨tGrants [tGrant 0 9] tOn, 1, 0, tGrant 0 9, by decide +kernel⟩
theorem witness_PtpMessagesAreSent_16 : ∃ (s : State) (p i : Nat) (g : Grant), s.up .pipe = true ∧ p < 4 ∧ s.net.ptp.grants[i]? = some g ∧
    (decide (g.port = p) && decide (g.kind = 0) && decide (s.tally < g.ends) &&
    periodDue (some g.last) g.log s.tally) = true ∧ s.maySync p = true :=
  ⟨tGrants [tGrant 0 2000000000] (tWith [(4193, 3), (1024, 1)] { tOn with tally := 1250000000, mode := { now := .follow } }), 1, 0, tGrant 0 2000000000, by decide +kernel⟩
theorem witness_PtpMessagesAreSent_17 : ∃ (s : State) (p i : Nat) (g : Grant), s.up .pipe = true ∧ p < 4 ∧ s.net.ptp.grants[i]? = some g ∧
    g.ends ≤ s.tally :=
  ⟨tGrants [tGrant 0 0] tOn, 1, 0, tGrant 0 0, by decide +kernel⟩
theorem witness_PtpMessagesAreSent_18 : ∃ (s : State) (p i : Nat) (g : Grant), s.up .pipe = true ∧ p < 4 ∧ s.net.ptp.grants[i]? = some g ∧
    s.tally < g.ends :=
  ⟨tGrants [tGrant 0 9] tOn, 1, 0, tGrant 0 9, by decide +kernel⟩
theorem witness_PtpMessagesAreSent_19 : ∃ (s : State) (p i : Nat), s.up .pipe = true ∧ p < 4 ∧ s.net.ptp.grants.length ≤ i :=
  ⟨tOn, 0, 209715, by decide +kernel⟩
theorem witness_PtpMessagesAreSent_20 : ∃ (s : State) (p i : Nat) (f : Foreign), s.up .pipe = true ∧ p < 4 ∧ (s.ptp p).masters[i]? = some f ∧
    s.foreignDue p f = true :=
  ⟨{ tOn with tally := 2 ^ 40 }.setPtpPort 0 { masters := [tForeign] }, 0, 0, tForeign, by decide +kernel⟩
theorem witness_PtpMessagesAreSent_21 : ∃ (s : State) (p i : Nat) (f : Foreign), s.up .pipe = true ∧ p < 4 ∧ (s.ptp p).masters[i]? = some f ∧
    s.foreignDue p f = false :=
  ⟨tOn.setPtpPort 0 { masters := [tForeign] }, 0, 0, tForeign, by decide +kernel⟩
theorem witness_PtpMessagesAreSent_22 : ∃ (s : State) (p i : Nat), s.up .pipe = true ∧ p < 4 ∧ (s.ptp p).masters.length ≤ i :=
  ⟨tOn, 0, 209715, by decide +kernel⟩
theorem witness_PtpMessagesAreSent_23 : ∃ (s : State) (p : Nat), s.up .pipe = true ∧ p < 4 ∧ s.ptpState p = 2 ∧ (s.ptp p).preAt + (s.announced.steps + 1) * periodTicks (s.logAnn p) ≤ s.tally :=
  ⟨tWith [(4161, 2)] { tOn with tally := 2 ^ 40 }, 0, by decide +kernel⟩
theorem witness_PtpMessagesAreSent_24 : ∃ (s : State) (p : Nat), s.up .pipe = true ∧ p < 4 ∧ (s.ptpState p ≠ 2 ∨ s.tally < (s.ptp p).preAt + (s.announced.steps + 1) * periodTicks (s.logAnn p)) :=
  ⟨tOn, 0, by decide +kernel⟩
theorem witness_PtpMessagesAreSent_25 : ∃ (s : State) (p : Nat) (h : HostPort) (v : Word), s.up .pipe = true ∧ p < 4 ∧
    s.mayWrite h A.PTP_SM_COMMIT = true ∧ v.toNat = 1 :=
  ⟨tOn, 0, .twoWire, 1, by decide +kernel⟩
theorem witness_PtpMessagesAreSent_26 : ∃ (s : State) (p : Nat) (h : HostPort) (v : Word), s.up .pipe = true ∧ p < 4 ∧
    s.mayWrite h A.PTP_SM_COMMIT = true ∧ v.toNat ≠ 1 :=
  ⟨tOn, 0, .twoWire, 69905, by decide +kernel⟩

/-! KeysRotateRetireAndExpire -/

theorem witness_KeysRotateRetireAndExpire_0 : ∃ (s : State) (p : HostPort), s.up .pipe = true ∧ s.mayWrite p
    A.NTS_KEY_CMD = true ∧ s.useArm p .nts = none :=
  ⟨tOn, .twoWire, by decide +kernel⟩
theorem witness_KeysRotateRetireAndExpire_2 : ∃ (s : State) (p : HostPort) (v : Word), s.up .pipe = true ∧ s.mayWrite
    p A.NTS_KEY_CMD = true ∧ (s.useArm p .nts).isSome = true ∧ bitsAt v.toNat 0 4 = 1 ∧ (((s.useArm p .nts).getD
    s).rotationBar).isSome = true :=
  ⟨{ tOn with arms := { nts := (some { port := .spi, ends := none }) }, net := { nts := { rotation := (some (1, (1234, true))) } } },
      .spi, 1, by decide +kernel⟩
theorem witness_KeysRotateRetireAndExpire_3 : ∃ (s : State) (p : HostPort) (v : Word), s.up .pipe = true ∧ s.mayWrite
    p A.NTS_KEY_CMD = true ∧ (s.useArm p .nts).isSome = true ∧ bitsAt v.toNat 0 4 = 1 ∧ ((s.useArm p .nts).getD
    s).rotationBar = none :=
  ⟨{ tOn with arms := { nts := (some { port := .spi, ends := none }) } }, .spi, 33, by decide +kernel⟩
theorem witness_KeysRotateRetireAndExpire_5 : ∃ (s : State) (p : HostPort) (v : Word), s.up .pipe = true ∧ s.mayWrite
    p A.NTS_KEY_CMD = true ∧ (s.useArm p .nts).isSome = true ∧ bitsAt v.toNat 0 4 = 2 ∧ ((s.useArm p .nts).getD
    s).ntsAway = false ∧ s.keyState (bitsAt v.toNat 4 3) = 2 :=
  ⟨(tWith [(4881, 2)] { tOn with arms := { nts := (some { port := .spi, ends := none }) } }), .spi, 274,
      by decide +kernel⟩
theorem witness_KeysRotateRetireAndExpire_6 : ∃ (s : State) (p : HostPort) (v : Word), s.up .pipe = true ∧ s.mayWrite
    p A.NTS_KEY_CMD = true ∧ (s.useArm p .nts).isSome = true ∧ bitsAt v.toNat 0 4 = 2 ∧ ((s.useArm p .nts).getD
    s).ntsAway = false ∧ s.keyState (bitsAt v.toNat 4 3) ≠ 2 :=
  ⟨{ tOn with arms := { nts := (some { port := .spi, ends := none }) } }, .spi, 5730, by decide +kernel⟩
theorem witness_KeysRotateRetireAndExpire_7 : ∃ (s : State) (p : HostPort) (v : Word), s.up .pipe = true ∧ s.mayWrite
    p A.NTS_KEY_CMD = true ∧ (s.useArm p .nts).isSome = true ∧ bitsAt v.toNat 0 4 = 2 ∧ ((s.useArm p .nts).getD
    s).ntsAway = true :=
  ⟨(tWith [(4865, 32)] { tOn with arms := { nts := (some { port := .twoWire, ends := none }) } }), .twoWire, 18,
      by decide +kernel⟩
theorem witness_KeysRotateRetireAndExpire_8 : ∃ (s : State) (p : HostPort) (v : Word), ∃ k, s.up .pipe = true ∧
    s.mayWrite p A.NTS_KEY_CMD = true ∧ (s.useArm p .nts).isSome = true ∧ bitsAt v.toNat 0 4 = 3 ∧ ((s.useArm p
    .nts).getD s).ntsAway = false ∧ k < 8 :=
  ⟨{ tOn with arms := { nts := (some { port := .spi, ends := none }) } }, .spi, 3, 7, by decide +kernel⟩
theorem witness_KeysRotateRetireAndExpire_9 : ∃ (s : State) (p : HostPort) (v : Word), s.up .pipe = true ∧ s.mayWrite
    p A.NTS_KEY_CMD = true ∧ (s.useArm p .nts).isSome = true ∧ bitsAt v.toNat 0 4 = 3 ∧ ((s.useArm p .nts).getD
    s).ntsAway = true :=
  ⟨(tWith [(4865, 32)] { tOn with arms := { nts := (some { port := .twoWire, ends := none }) } }), .twoWire, 209715,
      by decide +kernel⟩
theorem witness_KeysRotateRetireAndExpire_10 : ∃ (s : State) (p : HostPort) (v : Word), s.up .pipe = true ∧ s.mayWrite
    p A.NTS_KEY_CMD = true ∧ (s.useArm p .nts).isSome = true ∧ (bitsAt v.toNat 0 4 = 0 ∨ 3 < bitsAt v.toNat 0 4) :=
  ⟨{ tOn with arms := { nts := (some { port := .spi, ends := none }) } }, .spi, 41943040, by decide +kernel⟩
theorem witness_KeysRotateRetireAndExpire_11 : ∃ (s : State), s.up .pipe = true ∧ s.net.nts.rotation = none :=
  ⟨tOn, by decide +kernel⟩
theorem witness_KeysRotateRetireAndExpire_12 : ∃ (s : State), ∃ x, ∃ k, s.up .pipe = true ∧ s.net.nts.rotation = some
    x ∧ x.1 < 8 ∧ s.safe = true ∧ k < 8 :=
  ⟨{ tOn with mode := { now := .safeHold }, net := { nts := { rotation := (some (1, (1234, true))) } } }, (1, (1234,
      true)), 0, by decide +kernel⟩
theorem witness_KeysRotateRetireAndExpire_13 : ∃ (s : State), ∃ x, ∃ k, s.up .pipe = true ∧ s.net.nts.rotation = some
    x ∧ x.1 < 8 ∧ s.safe = false ∧ k < 8 ∧ k ≠ x.1 :=
  ⟨{ tOn with net := { nts := { rotation := (some (3, (1234, false))) } } }, (3, (1234, false)), 0, by decide +kernel⟩
theorem witness_KeysRotateRetireAndExpire_14 : ∃ (s : State), s.up .pipe = true ∧ s.rotationDue = true ∧
    s.net.nts.lastRefusal = none ∧ s.rotationBar = none :=
  ⟨tWith [(4883, 1), (4899, 86400), (4864, 2), (4866, 86400)] tOn, by decide +kernel⟩
theorem witness_KeysRotateRetireAndExpire_16 : ∃ (s : State), s.up .pipe = true ∧ s.rotationDue = true ∧
    s.net.nts.lastRefusal = some 7 ∧ s.retryDue = true ∧ s.rotationBar = some 7 :=
  ⟨tWith [(5632, 1), (4883, 1), (4899, 86400), (4864, 2), (4866, 86400)]
      { tOn with net := { nts := { lastRefusal := some 7 } }, pwr := { tOn.pwr with tclk := 60 * 2 ^ 48 } }, by
    decide +kernel⟩
theorem witness_KeysRotateRetireAndExpire_17 : ∃ (s : State), s.up .pipe = true ∧ s.rotationDue = false :=
  ⟨tOn, by decide +kernel⟩
theorem witness_KeysRotateRetireAndExpire_18 : ∃ (s : State), s.up .pipe = true ∧ s.rotationDue = true ∧
    s.net.nts.lastRefusal = some 1 ∧ s.rotationBar = some 5 :=
  ⟨tWith [(4883, 1), (4899, 86400), (4864, 2), (4866, 86400)]
      { tOn with net := { nts := { rotation := (some (1, (1234, true))), lastRefusal := some 1 } } }, by decide +kernel⟩
theorem witness_KeysRotateRetireAndExpire_20 : ∃ (s : State), ∃ k, ∃ j, s.up .pipe = true ∧ k < 8 ∧ s.keyState k = 2 ∧
    s.val (A.NTS_Kk_SECS k) = 0 ∧ j < 8 ∧ j ≠ k :=
  ⟨(tWith [(4887, 2)] tOn), 7, 3, by decide +kernel⟩
theorem witness_KeysRotateRetireAndExpire_21 : ∃ (s : State), ∃ k, s.up .pipe = true ∧ k < 8 ∧ s.keyState k = 2 ∧
    s.val (A.NTS_Kk_SECS k) ≠ 0 :=
  ⟨(tWith [(4887, 2), (4903, 1)] tOn), 7, by decide +kernel⟩

/-! CookiesAreMintedAndOpen -/

theorem witness_CookiesAreMintedAndOpen_0 : ∃ (s : State) (p q : HostPort) (v : Word), s.up .pipe = true ∧ q ≠ p ∧
    s.mayWrite p A.NTS_MINT_CMD = true ∧ ((bitsAt v.toNat 0 4) = 0 ∨ 8 < (bitsAt v.toNat 0 4) ∨ bitsAt v.toNat 16 16 ≠
    15 ∨ (s.mint p).job.isSome = true) :=
  ⟨tOn, .twoWire, .spi, 4104, by decide +kernel⟩
theorem witness_CookiesAreMintedAndOpen_1 : ∃ (s : State) (p q : HostPort) (v : Word), s.up .pipe = true ∧ q ≠ p ∧
    s.mayWrite p A.NTS_MINT_CMD = true ∧ 1 ≤ (bitsAt v.toNat 0 4) ∧ (bitsAt v.toNat 0 4) ≤ 8 ∧ bitsAt v.toNat 16 16 =
    15 ∧ (s.mint p).job = none ∧ s.activeSlot = none :=
  ⟨tOn, .spi, .twoWire, 983048, by decide +kernel⟩
theorem witness_CookiesAreMintedAndOpen_2 : ∃ (s : State) (p q : HostPort) (v : Word), s.up .pipe = true ∧ q ≠ p ∧
    s.mayWrite p A.NTS_MINT_CMD = true ∧ 1 ≤ (bitsAt v.toNat 0 4) ∧ (bitsAt v.toNat 0 4) ≤ 8 ∧ bitsAt v.toNat 16 16 =
    15 ∧ (s.mint p).job = none ∧ s.activeSlot.isSome = true ∧ s.safe = true :=
  ⟨{ tOn.setVal (A.NTS_Kk_STATE 7) 1 with mode := { now := .safeHold } }, .spi, .twoWire, 983048, by decide +kernel⟩
theorem witness_CookiesAreMintedAndOpen_3 : ∃ (s : State) (p q : HostPort) (v : Word), s.up .pipe = true ∧ q ≠ p ∧
    s.mayWrite p A.NTS_MINT_CMD = true ∧ 1 ≤ (bitsAt v.toNat 0 4) ∧ (bitsAt v.toNat 0 4) ≤ 8 ∧ bitsAt v.toNat 16 16 =
    15 ∧ (s.mint p).job = none ∧ s.activeSlot.isSome = true ∧ s.safe = false ∧ s.ntsAway = true :=
  ⟨((tOn.setVal (A.NTS_Kk_STATE 7) 1).setBit F.NTS_STAT_DRAINING true), .twoWire, .spi, 983048, by decide +kernel⟩
theorem witness_CookiesAreMintedAndOpen_4 : ∃ (s : State) (p q : HostPort) (v : Word), ∃ k, s.up .pipe = true ∧ q ≠ p
    ∧ s.mayWrite p A.NTS_MINT_CMD = true ∧ 1 ≤ (bitsAt v.toNat 0 4) ∧ (bitsAt v.toNat 0 4) ≤ 8 ∧ bitsAt v.toNat 16 16
    = 15 ∧ (s.mint p).job = none ∧ s.activeSlot = some k ∧ s.safe = false ∧ s.ntsAway = false :=
  ⟨(tOn.setVal (A.NTS_Kk_STATE 7) 1), .twoWire, .spi, 983048, 7, by decide +kernel⟩
theorem witness_CookiesAreMintedAndOpen_5 : ∃ (s : State) (p q : HostPort), ∃ j, s.up .pipe = true ∧ q ≠ p ∧ (s.mint
    p).job = some j ∧ s.safe = true :=
  ⟨{ tOn with mode := { now := .safeHold }, net := { nts := { spi := { job := (some ⟨1, 1, 2, [], []⟩) } } } }, .spi,
      .twoWire, ⟨1, 1, 2, [], []⟩, by decide +kernel⟩
theorem witness_CookiesAreMintedAndOpen_6 : ∃ (s : State) (p q : HostPort), ∃ j, s.up .pipe = true ∧ q ≠ p ∧ (s.mint
    p).job = some j ∧ s.safe = false ∧ (s.keyOf j.slot = none ∨ s.keyGen j.slot ≠ j.gen) :=
  ⟨{ tOn with net := { nts := { tw := { job := (some ⟨1, 1, 2, [], []⟩) } } } }, .twoWire, .spi, ⟨1, 1, 2, [], []⟩,
      by decide +kernel⟩
theorem witness_CookiesAreMintedAndOpen_7 : ∃ (s : State) (p q : HostPort), ∃ j, s.up .pipe = true ∧ q ≠ p ∧ (s.mint
    p).job = some j ∧ s.safe = false ∧ (s.keyOf j.slot).isSome = true ∧ s.keyGen j.slot = j.gen :=
  ⟨(tWith [(4889, 1)]
      { tOn with net := { nts := { keys := ((Vector.replicate 8 none).setIfInBounds 1 (some 7)), tw := { job := (some ⟨1, 1, 2, [], []⟩) } } } }),
      .twoWire, .spi, ⟨1, 1, 2, [], []⟩, by decide +kernel⟩
theorem witness_CookiesAreMintedAndOpen_8 : ∃ (s : State) (k gen key : Nat) (nonce c2s s2c : List Byte), k < 8 ∧ gen <
    2 ^ 32 ∧ nonce.length = 16 ∧ c2s.length = 32 ∧ s2c.length = 32 ∧ s.keyOf k = some key ∧ (s.keyState k = 1 ∨
    s.keyState k = 2) ∧ s.keyGen k = gen :=
  ⟨(((tOn.setNts { keys := Vector.replicate 8 (some 5) }).setVal (A.NTS_Kk_STATE 7) 2).setVal (A.NTS_Kk_GEN 7) (2 ^ 32
      - 1)), 7, (2 ^ 32 - 1), 5, List.replicate 16 0, List.replicate 32 0, List.replicate 32 0, by decide +kernel⟩
theorem witness_CookiesAreMintedAndOpen_9 : ∃ (s : State) (k gen key : Nat) (nonce c2s s2c : List Byte), k < 8 ∧ gen <
    2 ^ 32 ∧ nonce.length = 16 ∧ c2s.length = 32 ∧ s2c.length = 32 ∧ s.keyOf k = some key ∧ (s.keyGen k ≠ gen ∨
    (s.keyState k ≠ 1 ∧ s.keyState k ≠ 2)) :=
  ⟨((tOn.setNts { keys := Vector.replicate 8 (some 5) }).setVal (A.NTS_Kk_STATE 7) 3), 7, 0, 5, List.replicate 16 0,
      List.replicate 32 0, List.replicate 32 0, by decide +kernel⟩
theorem witness_CookiesAreMintedAndOpen_4b : ∃ (s : State) (p q : HostPort) (v : Word), ∃ t k, s.up .pipe = true ∧ q ≠ p
    ∧ s.mayWrite p A.NTS_MINT_CMD = true ∧ 1 ≤ (bitsAt v.toNat 0 4) ∧ (bitsAt v.toNat 0 4) ≤ 8 ∧ bitsAt v.toNat 16 16
    = 15 ∧ (s.mint p).job = none ∧ s.net.nts.switched = some (t, some k) ∧ t = s.instant ∧ s.activeSlot = some 7 ∧
    k = 3 ∧ s.safe = false ∧ s.ntsAway = false :=
  ⟨(tOn.setVal (A.NTS_Kk_STATE 7) 1).setNts { switched := some (tOn.instant, some 3) }, .twoWire, .spi, 983048,
    tOn.instant, 3, by decide +kernel⟩

/-! AdmissionIsCommanded -/

theorem witness_AdmissionIsCommanded_0 : ∃ (s : State) (p : HostPort) (v : Word), s.up .pipe = true ∧ s.mayWrite p
    A.ADM_FLUSH = true ∧ v.toNat = 1 :=
  ⟨tOn, .twoWire, 1, by decide +kernel⟩
theorem witness_AdmissionIsCommanded_1 : ∃ (s : State) (p : HostPort) (v : Word), s.up .pipe = true ∧ s.mayWrite p
    A.ADM_FLUSH = true ∧ v.toNat ≠ 1 :=
  ⟨tOn, .twoWire, 209715, by decide +kernel⟩
theorem witness_AdmissionIsCommanded_2 : ∃ (s : State) (p : HostPort) (v : Word), s.up .pipe = true ∧ s.mayWrite p
    A.ADM_LOOKUP_CTL = true ∧ bitOf v.toNat 0 = false :=
  ⟨tOn, .twoWire, 2, by decide +kernel⟩
theorem witness_AdmissionIsCommanded_3 : ∃ (s : State) (p : HostPort) (v : Word), ∃ o, s.up .pipe = true ∧ s.mayWrite
    p A.ADM_LOOKUP_CTL = true ∧ bitOf v.toNat 0 = true ∧ s.ovrFor (bitOf v.toNat 1) ((if (bitOf v.toNat 1) then
    s.multi (A.ADM_LOOKUP_ADDR 0) 4 else s.val (A.ADM_LOOKUP_ADDR 0))) = some o ∧ o < 16 :=
  ⟨(tWith [(4696, 1)] tOn), .spi, 1, 3, by decide +kernel⟩
theorem witness_AdmissionIsCommanded_4 : ∃ (s : State) (p : HostPort) (v : Word), s.up .pipe = true ∧ s.mayWrite p
    A.ADM_LOOKUP_CTL = true ∧ bitOf v.toNat 0 = true ∧ s.ovrFor (bitOf v.toNat 1) ((if (bitOf v.toNat 1) then s.multi
    (A.ADM_LOOKUP_ADDR 0) 4 else s.val (A.ADM_LOOKUP_ADDR 0))) = none :=
  ⟨tOn, .twoWire, 209715, by decide +kernel⟩
theorem witness_AdmissionIsCommanded_5 : ∃ (s : State) (p : HostPort) (v : Word), s.up .pipe = true ∧ s.mayWrite p
    A.ADM_LOOKUP_CTL = true ∧ bitOf v.toNat 0 = true ∧ (s.net.adm.flows.find? (fun z => z.v6 == (bitOf v.toNat 1) &&
    z.key == s.flowKey (bitOf v.toNat 1) ((if (bitOf v.toNat 1) then s.multi (A.ADM_LOOKUP_ADDR 0) 4 else s.val
    (A.ADM_LOOKUP_ADDR 0))))) = none :=
  ⟨tOn, .twoWire, 209715, by decide +kernel⟩
theorem witness_AdmissionIsCommanded_6 : ∃ (s : State) (p : HostPort) (v : Word), ∃ g, s.up .pipe = true ∧ s.mayWrite
    p A.ADM_LOOKUP_CTL = true ∧ bitOf v.toNat 0 = true ∧ (s.net.adm.flows.find? (fun z => z.v6 == (bitOf v.toNat 1) &&
    z.key == s.flowKey (bitOf v.toNat 1) ((if (bitOf v.toNat 1) then s.multi (A.ADM_LOOKUP_ADDR 0) 4 else s.val
    (A.ADM_LOOKUP_ADDR 0))))) = some g :=
  ⟨(tWith [(4641, 184549377)]
      { tOn with net := { adm := { flows := [{ v6 := false, key := 184549377, set_ := 1, tokens := 100000000, last := (-100000), score := (some (20, 0)), tag := 1, used := 0 }] } } }),
      .twoWire, 2918593157,
      { v6 := false, key := 184549377, set_ := 1, tokens := 100000000, last := (-100000), score := (some (20, 0)), tag := 1, used := 0 },
      by decide +kernel⟩
theorem witness_AdmissionIsCommanded_7 : ∃ (s : State) (p : HostPort) (o : Nat) (v : Word), s.up .pipe = true ∧ o < 16
    ∧ s.mayWrite p (A.ADM_OVRo_CTL o) = true ∧ ((bitsAt v.toNat 8 8) = 0 ∨ (if bitOf v.toNat 1 then 128 else 32) <
    (bitsAt v.toNat 8 8)) :=
  ⟨tOn, .spi, 13, 40, by decide +kernel⟩
theorem witness_AdmissionIsCommanded_8 : ∃ (s : State) (p : HostPort) (o : Nat) (v : Word), ∃ i, s.up .pipe = true ∧ o
    < 16 ∧ s.mayWrite p (A.ADM_OVRo_CTL o) = true ∧ 1 ≤ (bitsAt v.toNat 8 8) ∧ (bitsAt v.toNat 8 8) ≤ (if bitOf
    v.toNat 1 then 128 else 32) ∧ i < 6 :=
  ⟨tOn, .twoWire, 3, 69905, 5, by decide +kernel⟩
theorem witness_AdmissionIsCommanded_9 : ∃ (s : State), s.up .pipe = true ∧ s.net.adm.key = none ∧ s.rngOk = true :=
  ⟨tOn, by decide +kernel⟩
theorem witness_AdmissionIsCommanded_10 : ∃ (s : State), s.up .pipe = true ∧ (s.net.adm.key.isSome = true ∨ s.rngOk =
    false) :=
  ⟨(tWith [(5632, 1)] tOn), by decide +kernel⟩

/-! TilesStartRecalibrateAndCheck -/

theorem witness_TilesStartRecalibrateAndCheck_0 : ∃ (s : State) (t : Nat) (p : HostPort) (v : Word), s.up .array =
    true ∧ isTile t = true ∧ s.mayWrite p (tileBase t) = true ∧ (s.bit (tileEn t) = (bitOf v.toNat 0) ∨ (s.tile
    t).draining = true) :=
  ⟨tOn, 1, .twoWire, 0, by decide +kernel⟩
theorem witness_TilesStartRecalibrateAndCheck_1 : ∃ (s : State) (t : Nat) (p : HostPort) (v : Word), ∃ q, s.up .array
    = true ∧ isTile t = true ∧ s.mayWrite p (tileBase t) = true ∧ s.bit (tileEn t) = false ∧ (bitOf v.toNat 0) = true
    ∧ (s.tile t).draining = false ∧ q < 20 ∧ isTile q = true ∧ q ≠ t :=
  ⟨tOn, 11, .twoWire, 69905, 19, by decide +kernel⟩
theorem witness_TilesStartRecalibrateAndCheck_2 : ∃ (s : State) (t : Nat) (p : HostPort) (v : Word), s.up .array =
    true ∧ isTile t = true ∧ s.mayWrite p (tileBase t) = true ∧ s.bit (tileEn t) = true ∧ (bitOf v.toNat 0) = false ∧
    (s.tile t).draining = false ∧ ((s.tile t).op = .idle ∨ (s.tile t).op = .recal ∨ (s.tile t).op = .check) ∧
    s.arr.load = none ∧ s.arr.running = [] :=
  ⟨(tWith [(5312, 1)] tOn), 8, .twoWire, 158, by decide +kernel⟩
theorem witness_TilesStartRecalibrateAndCheck_3 : ∃ (s : State) (t : Nat), s.up .array = true ∧ isTile t = true ∧
    ((decide (s.tileState t = 1) && (s.tile t).starting && decide ((s.tile t).op = .idle) && !(s.tile t).wantRecal &&
    !(s.tile t).retryDue && !((s.tile t).wantCheck && (s.tile t).img.ok))) = false :=
  ⟨tOn, 11, by decide +kernel⟩
theorem witness_TilesStartRecalibrateAndCheck_4 : ∃ (s : State) (t : Nat), s.up .array = true ∧ isTile t = true ∧
    ((decide (s.tileState t = 1) && (s.tile t).starting && decide ((s.tile t).op = .idle) && !(s.tile t).wantRecal &&
    !(s.tile t).retryDue && !((s.tile t).wantCheck && (s.tile t).img.ok))) = true ∧ s.loadOn t = none ∧ (s.tile
    t).restart = false ∧ (s.tile t).resetting = false :=
  ⟨(tWith [(5320, 1)]
      { tOn with arr := { tiles := ((Vector.replicate 16 {}).setIfInBounds 9 { starting := true }) } }), 9,
      by decide +kernel⟩
theorem witness_TilesStartRecalibrateAndCheck_5 : ∃ (s : State) (t : Nat), ∃ q, s.up .array = true ∧ isTile t = true ∧
    ((decide (s.tileState t = 1) && (s.tile t).starting && decide ((s.tile t).op = .idle) && !(s.tile t).wantRecal &&
    !(s.tile t).retryDue && !((s.tile t).wantCheck && (s.tile t).img.ok))) = true ∧ q < 20 ∧ isTile q = true ∧ q ≠ t
    :=
  ⟨(tWith [(5320, 1)]
      { tOn with arr := { tiles := ((Vector.replicate 16 {}).setIfInBounds 9 { starting := true }) } }), 9, 19,
      by decide +kernel⟩
theorem witness_TilesStartRecalibrateAndCheck_6 : ∃ (s : State) (t : Nat), s.up .array = true ∧ isTile t = true ∧
    (s.tile t).draining = true ∧ (s.tile t).op = .idle ∧ s.bit (tileEn t) = false :=
  ⟨{ tOn with arr := { tiles := ((Vector.replicate 16 {}).setIfInBounds 4 { draining := true }) } }, 4,
      by decide +kernel⟩
theorem witness_TilesStartRecalibrateAndCheck_7 : ∃ (s : State) (t : Nat), s.up .array = true ∧ isTile t = true ∧
    (s.tile t).draining = true ∧ (s.tile t).op = .idle ∧ s.bit (tileEn t) = true ∧ s.dom .array = 2 :=
  ⟨(tWith [(5328, 1)]
      { tOn with arr := { tiles := ((Vector.replicate 16 {}).setIfInBounds 10 { draining := true }) } }), 10,
      by decide +kernel⟩
theorem witness_TilesStartRecalibrateAndCheck_8 : ∃ (s : State) (t : Nat), s.up .array = true ∧ isTile t = true ∧
    ((s.tile t).draining = false ∨ (s.tile t).op ≠ .idle) :=
  ⟨tOn, 11, by decide +kernel⟩
theorem witness_TilesStartRecalibrateAndCheck_9 : ∃ (s : State) (t : Nat), ∃ q, s.up .array = true ∧ isTile t = true ∧
    q < 20 ∧ isTile q = true ∧ q ≠ t :=
  ⟨tOn, 11, 0, by decide +kernel⟩
theorem witness_TilesStartRecalibrateAndCheck_10 : ∃ (s : State) (t : Nat), s.up .array = true ∧ isTile t = true ∧
    ((match (s.tile t).op with
          | .row r bytes => some (r, bytes)
          | _ => none)) = none :=
  ⟨tOn, 11, by decide +kernel⟩
theorem witness_TilesStartRecalibrateAndCheck_11 : ∃ (s : State) (t : Nat), ∃ y, s.up .array = true ∧ isTile t = true
    ∧ ((match (s.tile t).op with
          | .row r bytes => some (r, bytes)
          | _ => none)) = some y ∧ (s.tile t).resetting = true ∧ (s.tile t).draining = false :=
  ⟨(tOn.setTile 0 { op := .row 0 [], resetting := true }), 0, (0, []), by decide +kernel⟩
theorem witness_TilesStartRecalibrateAndCheck_12 : ∃ (s : State) (t : Nat), ∃ y, s.up .array = true ∧ isTile t = true
    ∧ ((match (s.tile t).op with
          | .row r bytes => some (r, bytes)
          | _ => none)) = some y ∧ (s.tile t).resetting = false ∧ (s.loadOn t).all (fun l => l.rows.tail.all (fun z =>
              z.1 != y.1)) = true ∧ analogTile t = true :=
  ⟨{ tOn with arr := { tiles := ((Vector.replicate 16 {}).setIfInBounds 2 { op := (.row 7 [0x09#8, 0x09#8]) }) } }, 2,
      (7, [9, 9]), by decide +kernel⟩
theorem witness_TilesStartRecalibrateAndCheck_13 : ∃ (s : State) (t : Nat), s.up .array = true ∧ isTile t = true ∧
    ((s.tile t).op ≠ .recal ∨ analogTile t = false) :=
  ⟨tOn, 11, by decide +kernel⟩
theorem witness_TilesStartRecalibrateAndCheck_14 : ∃ (s : State) (t : Nat), ∃ q, s.up .array = true ∧ isTile t = true
    ∧ (s.tile t).op = .recal ∧ analogTile t = true ∧ q < 20 ∧ isTile q = true ∧ q ≠ t :=
  ⟨{ tOn with arr := { tiles := ((Vector.replicate 16 {}).setIfInBounds 11 { op := .recal }) } }, 11, 0,
      by decide +kernel⟩
theorem witness_TilesStartRecalibrateAndCheck_15 : ∃ (s : State) (t : Nat) (sums : List (List Nat)), s.up .array =
    true ∧ isTile t = true ∧ (s.tile t).op = .recal ∧ analogTile t = true ∧ sums.length = 256 ∧ (sums.filterMap
    recalOne).length = 256 :=
  ⟨{ tOn with arr := { tiles := ((Vector.replicate 16 {}).setIfInBounds 11 { op := .recal }) } }, 11, (List.replicate
      256 [48, 304, 816, 1328, 1840, 2352, 2864, 3376, 3888]), by decide +kernel⟩
theorem witness_TilesStartRecalibrateAndCheck_16 : ∃ (s : State) (t : Nat) (sums : List (List Nat)), s.up .array =
    true ∧ isTile t = true ∧ (s.tile t).op = .recal ∧ analogTile t = true ∧ (sums.length ≠ 256 ∨ (sums.filterMap
    recalOne).length ≠ 256) ∧ (s.tile t).refusedOnce = false ∧ ((s.recalDone t sums).tile t).failed = true :=
  ⟨{ tOn with arr := { tiles := ((Vector.replicate 16 {}).setIfInBounds 4 { op := .recal, failed := true }) } }, 4,
      [[4, 5, 6], [1]], by decide +kernel⟩
theorem witness_TilesStartRecalibrateAndCheck_17 : ∃ (s : State) (t : Nat) (sums : List (List Nat)), s.up .array =
    true ∧ isTile t = true ∧ (s.tile t).op = .recal ∧ analogTile t = true ∧ (sums.length ≠ 256 ∨ (sums.filterMap
    recalOne).length ≠ 256) ∧ (s.tile t).refusedOnce = true :=
  ⟨{ tOn with arr := { tiles := ((Vector.replicate 16 {}).setIfInBounds 3 { op := .recal, refusedOnce := true }) } },
      3, [[4, 5, 6], [1]], by decide +kernel⟩
theorem witness_TilesStartRecalibrateAndCheck_18 : ∃ (s : State) (t : Nat), s.up .array = true ∧ isTile t = true ∧
    (s.tile t).retryDue = true :=
  ⟨{ tOn with arr := { tiles := ((Vector.replicate 16 {}).setIfInBounds 6 { retryDue := true }) } }, 6,
      by decide +kernel⟩
theorem witness_TilesStartRecalibrateAndCheck_19 : ∃ (s : State) (t : Nat), s.up .array = true ∧ isTile t = true ∧
    ((analogTile t && s.tileState t != 0 && decide ((s.tile t).coefs ≠ []))) = false :=
  ⟨tOn, 11, by decide +kernel⟩
theorem witness_TilesStartRecalibrateAndCheck_20 : ∃ (s : State) (t : Nat), s.up .array = true ∧ isTile t = true ∧
    ((analogTile t && s.tileState t != 0 && decide ((s.tile t).coefs ≠ []))) = true ∧
    s.val A.ARR_RECAL_PERIOD ≤ (s.recalSecond t).val (A.ARR_Aa_CAL_AGE t) ∧ s.bit F.ARR_CTL_RECAL_AUTO = true ∧
    (s.tile t).retryDue = false :=
  ⟨(tWith [(5264, 1), (5123, 0)]
      { tOn with arr := { tiles := ((Vector.replicate 16 {}).setIfInBounds 2 { coefs := [(3, 16384)] }) } }), 2,
      by decide +kernel⟩
theorem witness_TilesStartRecalibrateAndCheck_21 : ∃ (s : State) (t : Nat), s.up .array = true ∧ isTile t = true ∧
    ((analogTile t && s.tileState t != 0 && decide ((s.tile t).coefs ≠ []))) = true ∧
    s.bit F.ARR_CTL_RECAL_AUTO = false :=
  ⟨(tWith [(5312, 1), (5120, 2)]
      { tOn with arr := { tiles := ((Vector.replicate 16 {}).setIfInBounds 8 { coefs := [(3, 16384)] }) } }), 8,
      by decide +kernel⟩
theorem witness_TilesStartRecalibrateAndCheck_22 : ∃ (s : State) (t : Nat), s.up .array = true ∧ isTile t = true ∧
    s.deferred t = true :=
  ⟨{ tOn with arr := { tiles := ((Vector.replicate 16 {}).setIfInBounds 2 { op := (.row 7 [0x09#8, 0x09#8]), wantRecal := true }) } },
      2, by decide +kernel⟩
theorem witness_TilesStartRecalibrateAndCheck_23 : ∃ (s : State) (t : Nat), s.up .array = true ∧ isTile t = true ∧
    s.deferred t = false :=
  ⟨tOn, 11, by decide +kernel⟩
theorem witness_TilesStartRecalibrateAndCheck_24 : ∃ (s : State) (t : Nat), s.up .array = true ∧ isTile t = true ∧
    ((s.bit F.ARR_CTL_TV_AUTO && s.tileServes t && (s.tile t).img.ok)) = false :=
  ⟨tOn, 11, by decide +kernel⟩
theorem witness_TilesStartRecalibrateAndCheck_25 : ∃ (s : State) (t : Nat), s.up .array = true ∧ isTile t = true ∧
    ((s.bit F.ARR_CTL_TV_AUTO && s.tileServes t && (s.tile t).img.ok)) = true :=
  ⟨(tWith [(5256, 1)]
      { tOn with arr := { tiles := ((Vector.replicate 16 {}).setIfInBounds 1 { img := { ok := true } }) } }), 1,
      by decide +kernel⟩
theorem witness_TilesStartRecalibrateAndCheck_26 : ∃ (s : State) (t : Nat), s.up .array = true ∧ isTile t = true ∧
    (s.tile t).op ≠ .check :=
  ⟨tOn, 11, by decide +kernel⟩
theorem witness_TilesStartRecalibrateAndCheck_27 : ∃ (s : State) (t : Nat) (codes : List Nat) (ecc : List (Nat ×
    Bool)), s.up .array = true ∧ isTile t = true ∧ (s.tile t).op = .check ∧ (((s.eccEvents t ecc).checkRolls t
    ((s.eccEvents t ecc).tile t).img.vectors codes).2) = true ∧ ((s.checkDone t codes ecc).tile t).failed = true :=
  ⟨{ tOn with arr := { tiles := ((Vector.replicate 16 {}).setIfInBounds 10 { op := .check, failed := true }) } }, 10,
      [], [(23, false), (82, true)], by decide +kernel⟩
theorem witness_TilesStartRecalibrateAndCheck_28 : ∃ (s : State) (t : Nat) (codes : List Nat) (ecc : List (Nat ×
    Bool)), s.up .array = true ∧ isTile t = true ∧ (s.tile t).op = .check ∧ (((s.eccEvents t ecc).checkRolls t
    ((s.eccEvents t ecc).tile t).img.vectors codes).2) = false ∧ (s.tile t).checkFailed = true :=
  ⟨(tOn.setTile 19
      { op := .check, checkFailed := true, img := { vectors := [{ inputs := [0], want := [1, 2, 3] }] } }), 19, [],
      [], by decide +kernel⟩
theorem witness_TilesStartRecalibrateAndCheck_29 : ∃ (s : State) (t : Nat) (codes : List Nat) (ecc : List (Nat ×
    Bool)), s.up .array = true ∧ isTile t = true ∧ (s.tile t).op = .check ∧ (((s.eccEvents t ecc).checkRolls t
    ((s.eccEvents t ecc).tile t).img.vectors codes).2) = false ∧ (s.tile t).checkFailed = false ∧ ((s.checkDone t
    codes ecc).tile t).failed = true :=
  ⟨{ tOn with arr := { tiles := ((Vector.replicate 16 {}).setIfInBounds 12 { img := { vectors := [{ inputs := [1, 2, (-3)], want := (List.replicate 256 0) }] }, op := .check, failed := true }) } },
      16, [36, 71, 78, 71, 83, 65, 44, 65, 44, 51, 44, 48, 52, 44, 48, 53, 44, 44, 48, 57, 44, 49, 50, 44, 44, 44, 50,
      52, 44, 44, 44, 44, 44, 50, 46, 53, 44, 49, 46, 51, 44, 50, 46, 49, 42, 50, 55, 13, 10], [(0, true), (5, true)],
      by decide +kernel⟩

/-- Case A of chapter 14: double 5 of a tile whose three rows drive it, every converter at OFS 3 and GAIN 16,384: with every
code at the programmed levels' nearest step, y_5 = 1,216. -/
theorem test_array_case_a :
    analogSum (List.replicate 256 (3, 16384))
      ((List.range 8).map (fun b => (b, (List.replicate 10 3) ++
        [3 + [3, 0, 3, 0, 0, 0, 0, 0].getD b 0, 3 + [0, 2, 2, 2, 2, 2, 2, 2].getD b 0]))) 5 / 256 = 1216 := by
  decide +kernel

/-- A code that the figures of R487 do not allow is taken as the nearest that they do: no cell driven, OFS 3, GAIN 16,384. -/
theorem test_conversion_held : heldCode (3, 16384) [] 0 200 = 3 ∧ heldCode (3, 16384) [] 0 3 = 3 := by decide +kernel

theorem witness_TilesStartRecalibrateAndCheck_30 : ∃ (k : Nat × Nat) (rows : List TileRow) (c q r : Nat), q < 256 ∧ r ≤ 255 ∧
    |10 * (((r : Int) - (k.1 : Int)) * (k.2 : Int)) - 40960 * ((rows.map (fun x => x.level c)).sum : Nat)| ≤
      (convSlack rows : Int) ∧ heldCode k rows c q ≠ q :=
  ⟨(3, 16384), [{ bytes := [15], valid := true }], 0, 255, 7, by decide +kernel⟩

/-! ImagesAndModelsAreLoaded -/

theorem witness_ImagesAndModelsAreLoaded_0 : ∃ (s : State) (p : HostPort) (m : Nat) (v : Word), s.up .array = true ∧ m
    < 4 ∧ s.mayWrite p (A.ARR_Mm_CTL m) = true ∧ (bitOf v.toNat 0 && !(s.bit (F.ARR_Mm_CTL_EN m)) &&
    !s.modelFits m (bitsAt v.toNat 1 2 + 1) (bitOf v.toNat 3)) = true :=
  ⟨tOn, .twoWire, 3, 69905, by decide +kernel⟩
theorem witness_ImagesAndModelsAreLoaded_1 : ∃ (s : State) (p : HostPort) (m : Nat) (v : Word), s.up .array = true ∧ m
    < 4 ∧ s.mayWrite p (A.ARR_Mm_CTL m) = true ∧ s.bit (F.ARR_Mm_CTL_EN m) = true ∧ bitOf v.toNat 0 = false ∧
    bitsAt v.toNat 1 2 ≠ s.get (F.ARR_Mm_CTL_NSTAGES m) :=
  ⟨(tWith [(5200, 1)] tOn), .twoWire, 3, 6, by decide +kernel⟩
theorem witness_ImagesAndModelsAreLoaded_2 : ∃ (s : State) (p : HostPort) (m : Nat) (v : Word), s.up .array = true ∧ m
    < 4 ∧ s.mayWrite p (A.ARR_Mm_CTL m) = true ∧ s.bit (F.ARR_Mm_CTL_EN m) = false ∧ bitOf v.toNat 0 = false :=
  ⟨tOn, .twoWire, 3, 8224, by decide +kernel⟩
theorem witness_ImagesAndModelsAreLoaded_3 : ∃ (s : State) (p : HostPort) (v : Word), s.up .array = true ∧ s.mayWrite
    p A.ARR_CMD = true ∧ isTile (bitsAt v.toNat 0 5) = true ∧ bitsAt v.toNat 8 4 = 1 ∧ (analogTile (bitsAt v.toNat 0
    5) = false ∨ ((s.tileState (bitsAt v.toNat 0 5) == 0 || s.tileState (bitsAt v.toNat 0 5) == 7)) = true) :=
  ⟨tOn, .twoWire, 2101186949, by decide +kernel⟩
theorem witness_ImagesAndModelsAreLoaded_4 : ∃ (s : State) (p : HostPort) (v : Word), s.up .array = true ∧ s.mayWrite
    p A.ARR_CMD = true ∧ isTile (bitsAt v.toNat 0 5) = true ∧ bitsAt v.toNat 8 4 = 1 ∧ analogTile (bitsAt v.toNat 0 5)
    = true ∧ ((s.tileState (bitsAt v.toNat 0 5) == 0 || s.tileState (bitsAt v.toNat 0 5) == 7)) = false :=
  ⟨{ tOn with arr := { tiles := ((Vector.replicate 16 {}).setIfInBounds 0 { draining := true }) } }, .spi, 1073742080,
      by decide +kernel⟩
theorem witness_ImagesAndModelsAreLoaded_5 : ∃ (s : State) (p : HostPort) (v : Word), s.up .array = true ∧ s.mayWrite
    p A.ARR_CMD = true ∧ isTile (bitsAt v.toNat 0 5) = true ∧ bitsAt v.toNat 8 4 = 2 ∧ ((s.tileState (bitsAt v.toNat 0
    5) == 0 || s.tileState (bitsAt v.toNat 0 5) == 7)) = true :=
  ⟨tOn, .spi, 576, by decide +kernel⟩
theorem witness_ImagesAndModelsAreLoaded_6 : ∃ (s : State) (p : HostPort) (v : Word), s.up .array = true ∧ s.mayWrite
    p A.ARR_CMD = true ∧ isTile (bitsAt v.toNat 0 5) = true ∧ bitsAt v.toNat 8 4 = 2 ∧ ((s.tileState (bitsAt v.toNat 0
    5) == 0 || s.tileState (bitsAt v.toNat 0 5) == 7)) = false :=
  ⟨(tWith [(5272, 1)] tOn), .spi, 2445689379, by decide +kernel⟩
theorem witness_ImagesAndModelsAreLoaded_7 : ∃ (s : State) (p : HostPort) (v : Word), s.up .array = true ∧ s.mayWrite
    p A.ARR_CMD = true ∧ isTile (bitsAt v.toNat 0 5) = true ∧ bitsAt v.toNat 8 4 = 3 ∧ s.dom .array = 2 ∧ s.bit
    (tileEn (bitsAt v.toNat 0 5)) = true :=
  ⟨(tWith [(5248, 1)] tOn), .twoWire, 768, by decide +kernel⟩
theorem witness_ImagesAndModelsAreLoaded_8 : ∃ (s : State) (p : HostPort) (v : Word), s.up .array = true ∧ s.mayWrite
    p A.ARR_CMD = true ∧ isTile (bitsAt v.toNat 0 5) = true ∧ bitsAt v.toNat 8 4 = 3 ∧ s.dom .array ≠ 2 :=
  ⟨(tOn.put (domField .array) 3), .spi, 787, by decide +kernel⟩
theorem witness_ImagesAndModelsAreLoaded_9 : ∃ (s : State) (p : HostPort) (v : Word), s.up .array = true ∧ s.mayWrite
    p A.ARR_LOAD_CTL = true ∧ (loadTarget (bitsAt v.toNat 0 5) = false ∨ (bitsAt v.toNat 8 2) = 0 ∨ (bitsAt v.toNat 8
    2) = 3) :=
  ⟨tOn, .twoWire, 209715, by decide +kernel⟩
theorem witness_ImagesAndModelsAreLoaded_10 : ∃ (s : State) (p : HostPort) (v : Word), s.up .array = true ∧ s.mayWrite
    p A.ARR_LOAD_CTL = true ∧ loadTarget (bitsAt v.toNat 0 5) = true ∧ (bitsAt v.toNat 8 2) = 1 ∧ ((if s.mode.now ≠
    .maintain ∧ s.mode.now ≠ .calibrate then 1 else if s.arr.load.isSome then 2 else if isTile (bitsAt v.toNat 0 5) =
    true ∧ (s.bit (tileEn (bitsAt v.toNat 0 5)) = false ∨ (s.tile (bitsAt v.toNat 0 5)).draining = true ∨ (s.tile
    (bitsAt v.toNat 0 5)).resetting = true) then 3 else 0)) ≠ 0 :=
  ⟨tOn, .twoWire, 2101186949, by decide +kernel⟩
theorem witness_ImagesAndModelsAreLoaded_11 : ∃ (s : State) (p : HostPort) (v : Word), s.up .array = true ∧ s.mayWrite
    p A.ARR_LOAD_CTL = true ∧ loadTarget (bitsAt v.toNat 0 5) = true ∧ (bitsAt v.toNat 8 2) = 1 ∧ ((if s.mode.now ≠
    .maintain ∧ s.mode.now ≠ .calibrate then 1 else if s.arr.load.isSome then 2 else if isTile (bitsAt v.toNat 0 5) =
    true ∧ (s.bit (tileEn (bitsAt v.toNat 0 5)) = false ∨ (s.tile (bitsAt v.toNat 0 5)).draining = true ∨ (s.tile
    (bitsAt v.toNat 0 5)).resetting = true) then 3 else 0)) = 0 :=
  ⟨(tWith [(5248, 1)] { tOn with mode := { now := .maintain } }), .twoWire, 3290552704, by decide +kernel⟩
theorem witness_ImagesAndModelsAreLoaded_12 : ∃ (s : State) (p : HostPort) (v : Word), s.up .array = true ∧ s.mayWrite
    p A.ARR_LOAD_CTL = true ∧ loadTarget (bitsAt v.toNat 0 5) = true ∧ (bitsAt v.toNat 8 2) = 2 ∧ s.arr.load = none :=
  ⟨tOn, .spi, 576, by decide +kernel⟩
theorem witness_ImagesAndModelsAreLoaded_13 : ∃ (s : State) (p : HostPort) (v : Word), s.up .array = true ∧ s.mayWrite
    p A.ARR_LOAD_CTL = true ∧ loadTarget (bitsAt v.toNat 0 5) = true ∧ (bitsAt v.toNat 8 2) = 2 ∧ s.arr.load.isSome =
    true :=
  ⟨{ tOn with arr := { load := (some { target := 1, got := 60, head := ([77, 81, 65, 73, 1, 0, 1, 0, 1, 4, 0, 0, 0, 0, 0, 9] ++ List.replicate 44 0), part := (List.replicate 124 1), rows := [(7, [0]), (8, [1])], rowsGot := 3 }) } },
      .spi, 67109376, by decide +kernel⟩
theorem witness_ImagesAndModelsAreLoaded_14 : ∃ (s : State) (p : HostPort), s.up .array = true ∧ s.mayWrite p
    A.ARRW_LOAD_DATA = true ∧ s.arr.load = none :=
  ⟨tOn, .twoWire, by decide +kernel⟩
theorem witness_ImagesAndModelsAreLoaded_15 : ∃ (s : State) (p : HostPort), ∃ l, s.up .array = true ∧ s.mayWrite p
    A.ARRW_LOAD_DATA = true ∧ s.arr.load = some l ∧ l.got < 60 :=
  ⟨{ tOn with arr := { load := (some { target := 18, got := 4, part := (List.replicate 252 1), rows := [(7, [0]), (8, [1])], rowsGot := 3, writing := true }) } },
      .twoWire,
      { target := 18, got := 4, part := (List.replicate 252 1), rows := [(7, [0]), (8, [1])], rowsGot := 3, writing := true },
      by decide +kernel⟩
theorem witness_ImagesAndModelsAreLoaded_16 : ∃ (s : State) (p : HostPort) (v : Word), ∃ l, s.up .array = true ∧
    s.mayWrite p A.ARRW_LOAD_DATA = true ∧ s.arr.load = some l ∧ l.got = 60 ∧ headerOk l.target (l.head ++ bytesOfWord
    v) = false :=
  ⟨{ tOn with arr := { load := (some { target := 1, got := 60, head := ([77, 81, 65, 73, 1, 0, 1, 0, 1, 4, 0, 0, 0, 0, 0, 9] ++ List.replicate 44 0), part := (List.replicate 124 1), rows := [(7, [0]), (8, [1])], rowsGot := 3 }) } },
      .twoWire, 3090176455,
      { target := 1, got := 60, head := ([77, 81, 65, 73, 1, 0, 1, 0, 1, 4, 0, 0, 0, 0, 0, 9] ++ List.replicate 44 0), part := (List.replicate 124 1), rows := [(7, [0]), (8, [1])], rowsGot := 3 },
      by decide +kernel⟩
theorem witness_ImagesAndModelsAreLoaded_17 : ∃ (s : State) (p : HostPort) (v : Word), ∃ l, s.up .array = true ∧
    s.mayWrite p A.ARRW_LOAD_DATA = true ∧ s.arr.load = some l ∧ l.got = 60 ∧ headerOk l.target (l.head ++ bytesOfWord
    v) = true ∧ loadTarget l.target = true :=
  ⟨{ tOn with arr := { load := (some { target := 4, got := 60, head := ([77, 81, 65, 73, 1, 0, 1, 0, 1, 4, 0, 0, 0, 0, 0, 9] ++ List.replicate 44 0), part := (List.replicate 252 1), rows := [(7, [0]), (8, [1])], rowsGot := 3, writing := true }) } },
      .spi, 0,
      { target := 4, got := 60, head := ([77, 81, 65, 73, 1, 0, 1, 0, 1, 4, 0, 0, 0, 0, 0, 9] ++ List.replicate 44 0), part := (List.replicate 252 1), rows := [(7, [0]), (8, [1])], rowsGot := 3, writing := true },
      by decide +kernel⟩
theorem witness_ImagesAndModelsAreLoaded_18 : ∃ (s : State) (p : HostPort), ∃ l, s.up .array = true ∧ s.mayWrite p
    A.ARRW_LOAD_DATA = true ∧ s.arr.load = some l ∧ 64 ≤ l.got ∧ l.got < (64 + rowBytes l.target * imageRows l.target
    (s.image l.target).mask) ∧ l.part = [] ∧ l.space = 0 :=
  ⟨{ tOn with arr := { load := (some { target := 30, got := 64, rows := [(7, [0]), (8, [1]), (9, [2]), (10, [3]), (11, [4]), (12, [5]), (13, [6]), (14, [7])], rowsGot := 3, writing := true }) } },
      .spi,
      { target := 30, got := 64, rows := [(7, [0]), (8, [1]), (9, [2]), (10, [3]), (11, [4]), (12, [5]), (13, [6]), (14, [7])], rowsGot := 3, writing := true },
      by decide +kernel⟩
theorem witness_ImagesAndModelsAreLoaded_19 : ∃ (s : State) (p : HostPort) (v : Word), ∃ l, s.up .array = true ∧
    s.mayWrite p A.ARRW_LOAD_DATA = true ∧ s.arr.load = some l ∧ 64 ≤ l.got ∧ l.got < (64 + rowBytes l.target *
    imageRows l.target (s.image l.target).mask) ∧ (l.part ≠ [] ∨ l.space ≠ 0) ∧ l.target < 12 ∧ ((signedBytes
    (bytesOfWord v)).any (fun w => decide (w < -15) || decide (15 < w))) = true :=
  ⟨{ tOn with arr := { tiles := ((Vector.replicate 16 {}).setIfInBounds 4 { img := { mask := 1 } }), load := (some { target := 4, got := 64, part := (List.replicate 252 1), rows := [(7, [0]), (8, [1])], rowsGot := 3, writing := true }) } },
      .twoWire, 292,
      { target := 4, got := 64, part := (List.replicate 252 1), rows := [(7, [0]), (8, [1])], rowsGot := 3, writing := true },
      by decide +kernel⟩
theorem witness_ImagesAndModelsAreLoaded_20 : ∃ (s : State) (p : HostPort) (v : Word), ∃ l, s.up .array = true ∧
    s.mayWrite p A.ARRW_LOAD_DATA = true ∧ s.arr.load = some l ∧ 64 ≤ l.got ∧ l.got < (64 + rowBytes l.target *
    imageRows l.target (s.image l.target).mask) ∧ (l.part ≠ [] ∨ l.space ≠ 0) ∧ (12 ≤ l.target ∨ ((signedBytes
    (bytesOfWord v)).any (fun w => decide (w < -15) || decide (15 < w))) = false) ∧ (l.part ++ bytesOfWord v).length ≠
    rowBytes l.target :=
  ⟨{ tOn with arr := { load := (some { target := 28, got := 8256, rowsGot := 3 }) } }, .spi, 2162688,
      { target := 28, got := 8256, rowsGot := 3 }, by decide +kernel⟩
theorem witness_ImagesAndModelsAreLoaded_21 : ∃ (s : State) (p : HostPort) (v : Word), ∃ l, s.up .array = true ∧
    s.mayWrite p A.ARRW_LOAD_DATA = true ∧ s.arr.load = some l ∧ 64 ≤ l.got ∧ l.got < (64 + rowBytes l.target *
    imageRows l.target (s.image l.target).mask) ∧ (l.part ≠ [] ∨ l.space ≠ 0) ∧ (12 ≤ l.target ∨ ((signedBytes
    (bytesOfWord v)).any (fun w => decide (w < -15) || decide (15 < w))) = false) ∧ (l.part ++ bytesOfWord v).length =
    rowBytes l.target :=
  ⟨{ tOn with arr := { load := (some { target := 16, got := 64, part := (List.replicate 252 1), rows := [(7, [0]), (8, [1])], rowsGot := 3, writing := true }) } },
      .spi, 70,
      { target := 16, got := 64, part := (List.replicate 252 1), rows := [(7, [0]), (8, [1])], rowsGot := 3, writing := true },
      by decide +kernel⟩
theorem witness_ImagesAndModelsAreLoaded_22 : ∃ (s : State) (p : HostPort), ∃ l, s.up .array = true ∧ s.mayWrite p
    A.ARRW_LOAD_DATA = true ∧ s.arr.load = some l ∧ 64 ≤ l.got ∧ (64 + rowBytes l.target * imageRows l.target (s.image
    l.target).mask) ≤ l.got ∧ l.got < (64 + rowBytes l.target * imageRows l.target (s.image l.target).mask) +
    vectorBytes l.target :=
  ⟨{ tOn with arr := { tiles := ((Vector.replicate 16 {}).setIfInBounds 4 { img := { mask := 1 } }), load := (some { target := 4, got := 8356, part := (List.replicate 252 1), rows := [(7, [0]), (8, [1])], rowsGot := 3, writing := true }) } },
      .spi,
      { target := 4, got := 8356, part := (List.replicate 252 1), rows := [(7, [0]), (8, [1])], rowsGot := 3, writing := true },
      by decide +kernel⟩
theorem witness_ImagesAndModelsAreLoaded_23 : ∃ (s : State) (p : HostPort) (v : Word), ∃ l, s.up .array = true ∧
    s.mayWrite p A.ARRW_LOAD_DATA = true ∧ s.arr.load = some l ∧ 64 ≤ l.got ∧ l.got = (64 + rowBytes l.target *
    imageRows l.target (s.image l.target).mask) + vectorBytes l.target ∧ beNat (bytesOfWord v) ≠ l.crc ^^^ 0xFFFFFFFF
    :=
  ⟨{ tOn with arr := { tiles := ((Vector.replicate 16 {}).setIfInBounds 4 { img := { mask := 1 } }), load := (some { target := 4, got := 12352, rows := [(7, [9, 9])], rowsGot := 3, writing := true }) } },
      .twoWire, 17825792, { target := 4, got := 12352, rows := [(7, [9, 9])], rowsGot := 3, writing := true },
      by decide +kernel⟩
theorem witness_ImagesAndModelsAreLoaded_24 : ∃ (s : State) (p : HostPort) (v : Word), ∃ l, s.up .array = true ∧
    s.mayWrite p A.ARRW_LOAD_DATA = true ∧ s.arr.load = some l ∧ 64 ≤ l.got ∧ l.got = (64 + rowBytes l.target *
    imageRows l.target (s.image l.target).mask) + vectorBytes l.target ∧ beNat (bytesOfWord v) = l.crc ^^^ 0xFFFFFFFF
    ∧ l.rows ≠ [] :=
  ⟨{ tOn with arr := { load := (some { target := 31, got := 70720, part := (List.replicate 252 1), rows := [(7, [9, 9])], rowsGot := 3, writing := true }) } },
      .twoWire, 0,
      { target := 31, got := 70720, part := (List.replicate 252 1), rows := [(7, [9, 9])], rowsGot := 3, writing := true },
      by decide +kernel⟩
theorem witness_ImagesAndModelsAreLoaded_25 : ∃ (s : State) (p : HostPort) (v : Word), ∃ l, s.up .array = true ∧
    s.mayWrite p A.ARRW_LOAD_DATA = true ∧ s.arr.load = some l ∧ 64 ≤ l.got ∧ l.got = (64 + rowBytes l.target *
    imageRows l.target (s.image l.target).mask) + vectorBytes l.target ∧ beNat (bytesOfWord v) = l.crc ^^^ 0xFFFFFFFF
    ∧ l.rows = [] ∧ l.writing = false ∧ 28 ≤ l.target ∧ l.target < 32 :=
  ⟨{ tOn with arr := { load := (some { target := 28, got := 70720, part := (List.replicate 124 1), rowsGot := 3 }) } },
      .twoWire, 0, { target := 28, got := 70720, part := (List.replicate 124 1), rowsGot := 3 }, by decide +kernel⟩
theorem witness_ImagesAndModelsAreLoaded_26 : ∃ (s : State) (t : Nat), ∃ l, s.up .array = true ∧ 28 ≤ t ∧ t < 32 ∧
    s.arr.load = some l ∧ (l.target ≠ t ∨ l.writing = false ∨ l.rows = []) :=
  ⟨{ tOn with arr := { load := (some { target := 1, got := 60, head := ([77, 81, 65, 73, 1, 0, 1, 0, 1, 4, 0, 0, 0, 0, 0, 9] ++ List.replicate 44 0), part := (List.replicate 124 1), rows := [(7, [0]), (8, [1])], rowsGot := 3 }) } },
      31,
      { target := 1, got := 60, head := ([77, 81, 65, 73, 1, 0, 1, 0, 1, 4, 0, 0, 0, 0, 0, 9] ++ List.replicate 44 0), part := (List.replicate 124 1), rows := [(7, [0]), (8, [1])], rowsGot := 3 },
      by decide +kernel⟩
theorem witness_ImagesAndModelsAreLoaded_28 : ∃ (s : State) (t : Nat) (good : Bool), ∃ l, ∃ x, s.up .array = true ∧ 28
    ≤ t ∧ t < 32 ∧ s.arr.load = some l ∧ l.target = t ∧ l.writing = true ∧ l.rows.head? = some x ∧ l.rows.tail.all
    (fun z => z.1 != x.1) = true ∧ good = false :=
  ⟨{ tOn with arr := { load := (some { target := 31, got := 70720, part := (List.replicate 252 1), rows := [(7, [9, 9])], rowsGot := 3, writing := true }) } },
      31, false,
      { target := 31, got := 70720, part := (List.replicate 252 1), rows := [(7, [9, 9])], rowsGot := 3, writing := true },
      (7, [9, 9]), by decide +kernel⟩

/-! JobsAreOfferedRunAndEnd -/

theorem witness_JobsAreOfferedRunAndEnd_0 : ∃ (s : State), s.up .time = true ∧ (s.predOpen = false ∨ s.predOk =
    false) :=
  ⟨tOn, by decide +kernel⟩
theorem witness_JobsAreOfferedRunAndEnd_1 : ∃ (s : State), s.up .time = true ∧ s.predOpen = true ∧ s.predOk = true
    ∧ s.dom .array = 2 ∧ s.arr.queue.all (fun j => j.cls != 0) = true ∧ s.bit (F.ARR_Mm_CTL_EN 0) = true ∧ s.arr.load
    = none :=
  ⟨tPred.setBit (F.ARR_Mm_CTL_EN 0) true, by decide +kernel⟩
theorem witness_JobsAreOfferedRunAndEnd_2 : ∃ (s : State), ∃ n, s.up .time = true ∧ n < 12 ∧ s.integDue n = false :=
  ⟨tOn, 4, by decide +kernel⟩
theorem witness_JobsAreOfferedRunAndEnd_3 : ∃ (s : State), ∃ n, s.up .time = true ∧ n < 12 ∧ s.integDue n = true ∧
    s.dom .array = 2 ∧ (s.arr.queue.filter (fun j => j.cls == 1)).length < 12 ∧ s.bit (F.ARR_Mm_CTL_EN 1) = true ∧
    s.arr.load = none :=
  ⟨(tWith [(5168, 1), (2288, 11777)]
      { tOn with refm := { slots := ((Vector.replicate 12 {}).setIfInBounds 11 { resid := (List.replicate 32 (5, none)) }) } }),
      11, by decide +kernel⟩
theorem witness_JobsAreOfferedRunAndEnd_4 : ∃ (s : State), ∃ n, s.up .time = true ∧ n < 12 ∧ s.integDue n = true ∧
    (s.dom .array ≠ 2 ∨ 12 ≤ (s.arr.queue.filter (fun j => j.cls == 1)).length ∨ s.bit (F.ARR_Mm_CTL_EN 1) = false) :=
  ⟨(tWith [(2240, 11777)]
      { tOn with refm := { slots := ((Vector.replicate 12 {}).setIfInBounds 8 { resid := (List.replicate 32 (5, none)) }) } }),
      8, by decide +kernel⟩
theorem witness_JobsAreOfferedRunAndEnd_5 : ∃ (s : State), (s.up .pipe = false ∨ s.bit F.ADM_CTL_EN = false ∨ s.bit
    F.ADM_CTL_SCORE_EN = false) :=
  ⟨(tWith [(4608, 517)] tOn), by decide +kernel⟩
theorem witness_JobsAreOfferedRunAndEnd_6 : ∃ (s : State), s.up .pipe = true ∧ s.bit F.ADM_CTL_EN = true ∧ s.bit
    F.ADM_CTL_SCORE_EN = true ∧ s.net.adm.flows = [] :=
  ⟨tOn, by decide +kernel⟩
theorem witness_JobsAreOfferedRunAndEnd_7 : ∃ (s : State) (p : HostPort) (v : Word), s.mayWrite p A.ARR_USER_SUBMIT =
    true ∧ (v.toNat ≠ 1 ∨ within (s.get F.ARR_USER_STAT_STATE) 1 2 = true) :=
  ⟨tOn, .twoWire, 209715, by decide +kernel⟩
theorem witness_JobsAreOfferedRunAndEnd_8 : ∃ (s : State) (p : HostPort) (v : Word), s.mayWrite p A.ARR_USER_SUBMIT =
    true ∧ v.toNat = 1 ∧ within (s.get F.ARR_USER_STAT_STATE) 1 2 = false ∧ s.dom .array = 2 ∧ s.arr.queue.all (fun j
    => j.cls != 3) = true ∧ s.bit (F.ARR_Mm_CTL_EN (s.get F.ARR_USER_DESC_MODEL)) = true ∧ s.arr.load = none :=
  ⟨(tWith [(5200, 1), (5144, 3)] tOn), .twoWire, 1, by decide +kernel⟩
theorem witness_JobsAreOfferedRunAndEnd_9 : ∃ (s : State) (p : HostPort) (v : Word), s.mayWrite p A.ARR_USER_SUBMIT =
    true ∧ v.toNat = 1 ∧ within (s.get F.ARR_USER_STAT_STATE) 1 2 = false ∧ s.dom .array = 2 ∧ s.arr.queue.all (fun j
    => j.cls != 3) = true ∧ s.bit (F.ARR_Mm_CTL_EN (s.get F.ARR_USER_DESC_MODEL)) = false :=
  ⟨tOn, .twoWire, 1, by decide +kernel⟩
theorem witness_JobsAreOfferedRunAndEnd_10 : ∃ (s : State), s.up .array = true ∧ s.nextJob = none :=
  ⟨tOn, by decide +kernel⟩
theorem witness_JobsAreOfferedRunAndEnd_11 : ∃ (s : State), ∃ j, s.up .array = true ∧ s.nextJob = some j ∧
    (s.modelTiles j.model).any (fun t => s.tileState t == 7) = true :=
  ⟨(tWith [(5360, 1), (5156, 262144)]
      { tOn with arr := { tiles := ((Vector.replicate 16 {}).setIfInBounds 14 { failed := true }), queue := [{ cls := 0, model := 0, origin := 8, deadline := 5, inputs := [[1, 2, 3]], tags := [1], results := [[5]] }] } }),
      { cls := 0, model := 0, origin := 8, deadline := 5, inputs := [[1, 2, 3]], tags := [1], results := [[5]] },
      by decide +kernel⟩
theorem witness_JobsAreOfferedRunAndEnd_12 : ∃ (s : State), ∃ j, ∃ t, s.up .array = true ∧ s.nextJob = some j ∧
    (s.modelTiles j.model).all (fun t => s.tileState t != 7) = true ∧ t < 20 ∧ t ∈ s.modelTiles j.model :=
  ⟨(tWith [(5280, 1), (5156, 16)]
      { tOn with arr := { queue := [{ cls := 1, model := 0, origin := 1, deadline := 5, inputs := [[1, 2, 3]], tags := [1], results := [[5]], spoilt := (some (4, 4)) }] } }),
      { cls := 1, model := 0, origin := 1, deadline := 5, inputs := [[1, 2, 3]], tags := [1], results := [[5]], spoilt := (some (4, 4)) },
      4, by decide +kernel⟩
theorem witness_JobsAreOfferedRunAndEnd_13 : ∃ (s : State) (k : Nat), ∃ j, s.up .array = true ∧ s.arr.queue[k]? = some
    j :=
  ⟨{ tOn with arr := { queue := [{ cls := 0, model := 0, origin := 0, deadline := 5, inputs := [[1, 2, 3]], tags := [1], results := [[5]] }] } },
      0, { cls := 0, model := 0, origin := 0, deadline := 5, inputs := [[1, 2, 3]], tags := [1], results := [[5]] },
      by decide +kernel⟩
theorem witness_JobsAreOfferedRunAndEnd_14 : ∃ (s : State), ∃ k, s.up .array = true ∧ s.arr.queue.length ≤ k :=
  ⟨tOn, 11, by decide +kernel⟩
theorem witness_JobsAreOfferedRunAndEnd_15 : ∃ (s : State), ∃ m, s.up .array = true ∧ s.arr.running.find? (fun j =>
    j.model == m) = none :=
  ⟨tOn, 11, by decide +kernel⟩
theorem witness_JobsAreOfferedRunAndEnd_17 : ∃ (s : State), ∃ m, ∃ j, s.up .array = true ∧ s.arr.running.find? (fun j
    => j.model == m) = some j ∧ j.spoilt = none :=
  ⟨{ tOn with arr := { running := [{ cls := 2, model := 2, origin := 2, deadline := 5, inputs := [[1, 2, 3]], tags := [1], results := [[5]] }] } },
      2, { cls := 2, model := 2, origin := 2, deadline := 5, inputs := [[1, 2, 3]], tags := [1], results := [[5]] },
      by decide +kernel⟩
theorem witness_JobsAreOfferedRunAndEnd_18 : ∃ (s : State), ∃ m, ∃ j, ∃ x, s.up .array = true ∧ s.arr.running.find?
    (fun j => j.model == m) = some j ∧ j.spoilt = some x :=
  ⟨{ tOn with arr := { running := [{ cls := 3, model := 3, origin := 3, deadline := 5, inputs := [[1, 2, 3]], tags := [1], results := [[5]], spoilt := (some (3, 4)) }] } },
      3,
      { cls := 3, model := 3, origin := 3, deadline := 5, inputs := [[1, 2, 3]], tags := [1], results := [[5]], spoilt := (some (3, 4)) },
      (3, 4), by decide +kernel⟩

/-! LedgerIsAppendOnlyAndChained, AfterReach, ResetHoldsTheInvariants -/

theorem witness_LedgerIsAppendOnlyAndChained : ∃ s t : State, step s = .next t ∧ s.ledgerSound := by
  refine ⟨State.reset, State.reset.passTick, rfl, by decide, ?_⟩
  intro k b h
  simp [State.reset] at h

theorem witness_AfterReach_tally : ∃ s u : State, s.tallyRun = true ∧ u.tallyRun = true ∧ (s.after u).tallyRun = true :=
  ⟨tOn, tOn, by decide +kernel⟩

theorem witness_AfterReach_quiet : ∃ s u : State,
    (s.ntpReact (s.clockReact (s.outReact
        (s.timeReact (s.portReact (s.zeroReact (s.modeReact u))).ptpReact).ovenReact).ptpReact)).powerQuiet = true ∧
      s.modeNow = u.modeNow ∧ s.baseMode = u.baseMode :=
  ⟨tOn, tOn, by decide +kernel⟩

theorem witness_ResetHoldsTheInvariants : ∃ k, k < 8 := ⟨7, by decide⟩

end

end Sys2Proof.Tests
end

section
/-! SUPPORT. Accesses of a host port through the register engine: what a write and a read of one parameter come to
(R15, R16, R667, R702). -/

namespace Sys2Proof.Machine

/-! ### Records and results of a port -/

/-- A HOST record changes the trace port alone. -/
theorem State.hostRecord_eq (s : State) (p : HostPort) (via : Bool) (a k : Nat) (v : Word) :
    s.hostRecord p via a k v = { s with obs := (s.hostRecord p via a k v).obs } :=
  State.trace_eq _ _ _

@[simp] theorem State.hostRecord_regs (s : State) (p : HostPort) (via : Bool) (a k : Nat) (v : Word) :
    (s.hostRecord p via a k v).regs = s.regs := by rw [State.hostRecord_eq]

@[simp] theorem State.hostRecord_raised (s : State) (p : HostPort) (via : Bool) (a k : Nat) (v : Word) :
    (s.hostRecord p via a k v).raised = s.raised := by rw [State.hostRecord_eq]

@[simp] theorem State.hostRecord_port (s : State) (p q : HostPort) (via : Bool) (a k : Nat) (v : Word) :
    (s.hostRecord p via a k v).port q = s.port q := by rw [State.hostRecord_eq]; rfl

@[simp] theorem State.port_setResult_self (s : State) (p : HostPort) (r : MsgResult) :
    (s.setResult p r).port p = { s.port p with result := r } := State.port_setPort_self _ _ _

@[simp] theorem State.port_raise (s : State) (e : EventId) (p : HostPort) : (s.raise e).port p = s.port p := rfl

/-- A read finds what the register file holds. -/
theorem State.rd_of_regs {s u : State} (h : u.regs = s.regs) (a : Nat) : u.rd a = s.rd a := by
  rw [State.rd, State.rd, h]

theorem State.wordsKept_of_regs {s u : State} (h : u.regs = s.regs) (l : List Nat) : s.wordsKept u l :=
  fun a _ => State.rd_of_regs h a

/-! ### A discarded write (R702) -/

section
variable (t : State) (p : HostPort) (a : Nat) (v : Word) {r : Reject}

@[simp] theorem State.turnedAway_regs (r : Reject) : (t.turnedAway p a v r).regs = t.regs := by
  cases r <;> simp [State.turnedAway, State.recordReject, State.raiseIf]

theorem State.turnedAway_raises (h : r ≠ .lateCommit) :
    (t.turnedAway p a v r).raised = t.raised ++ [Ev.PARAM_REJECT] := by
  have hr : (r != .lateCommit) = true := bne_iff_ne.2 h
  simp [State.turnedAway, State.recordReject, hr, State.raise]

theorem State.turnedAway_port (h : r ≠ .lateCommit) : (t.turnedAway p a v r).port p =
    { t.port p with
      rejLast := wordOf (a + r.code * 2 ^ 16), rejCount := (t.port p).rejCount + 1
      result := { done := true, reject := true } } := by
  have hr : (r != .lateCommit) = true := bne_iff_ne.2 h
  simp [State.turnedAway, State.recordReject, hr]

end

/-! ### One write (R15, R667) -/

/-- A port that has the engine writes a parameter: the engine judges the write, and the port's result follows. -/
theorem State.hostParam_ready {s : State} {p : HostPort} (h : s.hostReady p = true) (a : Nat) (v : Word) :
    s.hostParam p a v = (match s.paramWrite p a v with
      | ⟨u, none⟩ => u.written p a v
      | ⟨u, some r⟩ => u.turnedAway p a v r) := by
  obtain ⟨hs, hb⟩ : s.hostServes = true ∧ s.engineBusy p = false := by simpa [State.hostReady] using h
  simp only [State.hostParam, hs, hb, Bool.true_eq_false, Bool.false_eq_true, or_self, if_false, State.paramApply]
  obtain ⟨u, _ | r⟩ := s.paramWrite p a v <;> rfl

/-- An accepted write. -/
theorem State.hostParam_ok {s u : State} {p : HostPort} {a : Nat} {v : Word} (h : s.hostReady p = true)
    (hw : s.paramWrite p a v = u.ok) : s.hostParam p a v = u.written p a v := by
  rw [State.hostParam_ready h, hw]; rfl

/-- A discarded write. -/
theorem State.hostParam_rejected {s u : State} {p : HostPort} {a : Nat} {v : Word} {r : Reject} (h : s.hostReady p = true)
    (hw : s.paramWrite p a v = u.rejected r) : s.hostParam p a v = u.turnedAway p a v r := by
  rw [State.hostParam_ready h, hw]; rfl

end Sys2Proof.Machine
end

section
/-! The plain words of the register map (O19). -/

namespace Sys2Proof.Machine

/-- A plain word has a row without WA fields. -/
theorem State.plainWord_row {s : State} {p : HostPort} {a : Nat} {v : Word} (h : s.plainWord p a v = true) :
    rowAt a = some (rowOf a) ∧ (rowOf a).wa = 0 := by
  unfold State.plainWord at h
  unfold rowOf
  cases hr : rowAt a with
  | none => rw [hr] at h; exact absurd h (by simp)
  | some r =>
    rw [hr] at h
    simp only [Bool.and_eq_true, beq_iff_eq] at h
    exact ⟨rfl, by tauto⟩

/-- A row without WA fields asks for no arming: a value in range is stored, any other discarded (R12, R15). -/
theorem State.rowWrite_unarmed {r : Row} (h : r.wa = 0) (s : State) (p : HostPort) (a v : Nat) :
    s.rowWrite p r a v = if r.inRange v then (s.setVal a (r.stores (s.val a) v)).ok else s.rejected .range := by
  simp [State.rowWrite, Row.writesTo, h]

/-- A write of a plain word, as its row judges it. -/
theorem State.paramWrite_plainWord {s : State} {p : HostPort} {a : Nat} {v : Word} (h : s.plainWord p a v = true) :
    s.paramWrite p a v = if (rowOf a).inRange v.toNat then (s.setVal a ((rowOf a).stores (s.val a) v.toNat)).ok
      else s.rejected .range := by
  obtain ⟨hrow, hwa⟩ := State.plainWord_row h
  obtain ⟨r, hr, hw⟩ := State.paramWrite_plain h
  rw [hw, Option.some.inj (hr.symm.trans hrow), State.rowWrite_unarmed hwa]

/-- Settles O19: a plain word's write is its row's, and the engine stores what is in range and records what is not. -/
theorem plainWritesKeepOrStore : Obligations.PlainWritesKeepOrStore := by
  rintro s p a v hready hplain r rfl
  have hw := State.paramWrite_plainWord hplain
  refine ⟨fun hin => ?_, fun hout u hu => ?_⟩
  · rw [hin, if_pos rfl] at hw
    rw [← State.hostParam_ok hready hw]; rfl
  · rw [hout, if_neg (by decide)] at hw
    subst hu
    refine ⟨by rw [← State.hostParam_rejected hready hw]; rfl,
      State.wordsKept_of_regs (State.turnedAway_regs s p a v _) [], ?_, ?_⟩
    · simp [State.turnedAway_raises s p a v (r := .range) (by decide)]
    · simp [State.turnedAway_port s p a v (r := .range) (by decide), Reject.code]

end Sys2Proof.Machine
end


section
/-! SUPPORT. Words with a rule of their bank: what the engine makes of a write to one (R15, R16, R702, R712). -/

namespace Sys2Proof.Machine

/-- A mapped word that can be written, outside TB and the threshold descriptors: the rule of its bank judges it. -/
def ruledWord (a : Nat) : Bool :=
  decide (a / 256 < 24) && a / 256 != 3 && (rowAt a).any (fun r => r.writable != 0) && (descriptorAt a).isNone

@[simp] theorem State.dropHolds_nil (s : State) (p : HostPort) : s.dropHolds p [] = s := by cases p <;> rfl

/-- Emptying holds touches the host interface alone. -/
theorem State.dropHolds_eq (s : State) (p : HostPort) (l : List Nat) :
    s.dropHolds p l = { s with hif := (s.dropHolds p l).hif } := by cases p <;> rfl

/-- A ruled word that the port may write comes to what the bank's rule says; a discard empties the holds that the word
applies. -/
theorem State.paramWrite_ruled {s : State} {p : HostPort} {a : Nat} {v : Word} {x : Written}
    (h : s.mayWrite p a = true) (ha : ruledWord a = true)
    (hx : s.bankWrite p (a / 256) (a % 256) v.toNat = some x) :
    s.paramWrite p a v = if x.rej.isSome then { x with state := x.state.dropHolds p (appliedHolds a) } else x := by
  simp only [State.mayWrite, Bool.and_eq_true, Bool.not_eq_true'] at h
  obtain ⟨⟨-, htakes⟩, hopen⟩ := h
  simp only [ruledWord, Bool.and_eq_true, decide_eq_true_eq, bne_iff_ne, Option.any_eq_true,
    Option.isNone_iff_eq_none] at ha
  obtain ⟨⟨⟨hbank, htb⟩, r, hrow, hwr⟩, hdesc⟩ := ha
  have hjudged : s.wordJudged p a v = x := by
    simp [State.wordJudged, hrow, hwr, hopen, hdesc, hx]
  have hword : s.paramWrite p a v = s.wordWrite p a v := by
    simp only [State.paramWrite]
    rw [if_neg (by omega), if_neg htb, if_pos htakes]
  rw [hword, State.wordWrite, hjudged]
  cases hl : appliedHolds a <;> simp

theorem State.ready_of_mayWrite {s : State} {p : HostPort} {a : Nat} (h : s.mayWrite p a = true) :
    s.hostReady p = true := by
  simp only [State.mayWrite, Bool.and_eq_true] at h
  exact h.1.1

/-- The bank's rule accepts a write of a ruled word. -/
theorem State.hostParam_ruled {s u : State} {p : HostPort} {a : Nat} {v : Word} (h : s.mayWrite p a = true)
    (ha : ruledWord a = true) (hx : s.bankWrite p (a / 256) (a % 256) v.toNat = some u.ok) :
    s.hostParam p a v = u.written p a v :=
  State.hostParam_ok (State.ready_of_mayWrite h) (State.paramWrite_ruled h ha hx)

/-- The bank's rule discards a write of a ruled word. -/
theorem State.hostParam_ruled_rejected {s u : State} {p : HostPort} {a : Nat} {v : Word} {r : Reject}
    (h : s.mayWrite p a = true) (ha : ruledWord a = true)
    (hx : s.bankWrite p (a / 256) (a % 256) v.toNat = some (u.rejected r)) :
    s.hostParam p a v = (u.dropHolds p (appliedHolds a)).turnedAway p a v r :=
  State.hostParam_rejected (State.ready_of_mayWrite h) (State.paramWrite_ruled h ha hx)

/-! ### Words kept -/

theorem State.wordsKept_refl (s : State) (l : List Nat) : s.wordsKept s l := fun _ _ => rfl

theorem State.wordsKept.trans {s t u : State} {l : List Nat} (h1 : s.wordsKept t l) (h2 : t.wordsKept u l) :
    s.wordsKept u l := fun a ha => (h2 a ha).trans (h1 a ha)

theorem State.wordsKept.mono {s u : State} {l m : List Nat} (h : s.wordsKept u l) (hlm : l ⊆ m) : s.wordsKept u m :=
  fun a ha => h a (fun hl => ha (hlm hl))

theorem State.wordsKept.val {s u : State} {l : List Nat} (h : s.wordsKept u l) {a : Nat} (ha : a ∉ l) :
    u.val a = s.val a := by rw [State.val, State.val, h a ha]

theorem State.wordsKept.get {s u : State} {l : List Nat} (h : s.wordsKept u l) {f : Fld} (hf : f.addr ∉ l) :
    u.get f = s.get f := by rw [State.get, State.get, h.val hf]

theorem State.wordsKept.bit {s u : State} {l : List Nat} (h : s.wordsKept u l) {f : Fld} (hf : f.addr ∉ l) :
    u.bit f = s.bit f := by rw [State.bit, State.bit, h.get hf]

theorem State.wordsKept_setVal (s : State) (a n : Nat) : s.wordsKept (s.setVal a n) [a] :=
  fun _ h => State.rd_setVal_ne s (by simpa using h) n

theorem State.wordsKept_setBit (s : State) (f : Fld) (b : Bool) : s.wordsKept (s.setBit f b) [f.addr] :=
  State.wordsKept_put s f _

/-! ### Numbers of several words (R16) -/

theorem State.multi_congr {s u : State} (a : Nat) {k : Nat} (h : ∀ i < k, u.val (a + i) = s.val (a + i)) :
    u.multi a k = s.multi a k := by
  induction k with
  | zero => rfl
  | succ k ih => rw [State.multi, State.multi, ih fun i hi => h i (by omega), h k (by omega)]

/-- A number that `k` words hold reads back. -/
theorem State.multi_setMulti_self (s : State) (a n k : Nat) : (s.setMulti a n k).multi a k = n % 2 ^ (32 * k) := by
  induction k generalizing n with
  | zero => simp [State.multi, Nat.mod_one]
  | succ k ih =>
    have hlow : ∀ i < k, (s.setMulti a n (k + 1)).val (a + i) = (s.setMulti a (n / 2 ^ 32) k).val (a + i) :=
      fun i hi => State.val_setVal_ne _ (by omega) _
    rw [State.multi, State.multi_congr a hlow, ih, State.setMulti, State.val_setVal_self, Nat.mul_succ, Nat.add_comm _ 32,
      pow_add, Nat.mod_mul, Nat.add_comm, Nat.mul_comm]

theorem codeOf_lt (w : Nat) (i : Int) : codeOf w i < 2 ^ w := by
  have h0 : (0 : Int) < 2 ^ w := by positivity
  have h1 := Int.emod_nonneg i h0.ne'
  have h2 := Int.emod_lt_of_pos i h0
  zify
  rw [codeOf, Int.toNat_of_nonneg h1]
  exact_mod_cast h2

/-! ### Events and the Ledger (R577, R582) -/

/-- The words that a Ledger event may write: its queue was full (R582). -/
def ledgerWords : List Nat := [A.LDG_QUEUE_LOST, A.LDG_STAT]

@[simp] theorem State.raised_raise (s : State) (e : EventId) : (s.raise e).raised = s.raised ++ [e] := rfl

/-- Handing an event to the Ledger touches the queue, the summaries, the words of a lost event and its report. -/
theorem State.ledger_eq (s : State) (src evt : Nat) (data : List Byte) (cont : Option (List Byte)) :
    ∃ regs raised queue sums, s.ledger src evt data cont =
      { s with regs := regs, raised := raised, ldg := { s.ldg with queue := queue, sums := sums } } := by
  have lost : ∀ (t : State) (f g : Fld) (e : EventId), ((t.countSat f 1).setBit g true).raise e =
      { t with regs := ((t.countSat f 1).setBit g true).regs, raised := t.raised ++ [e] } := fun _ _ _ _ => rfl
  unfold State.ledger
  dsimp only
  split
  · exact ⟨s.regs, s.raised, _, _, rfl⟩
  · rw [lost]
    exact ⟨_, _, s.ldg.queue, _, rfl⟩

theorem State.wordsKept_ledger (s : State) (src evt : Nat) (data : List Byte) (cont : Option (List Byte)) :
    s.wordsKept (s.ledger src evt data cont) ledgerWords := by
  unfold State.ledger
  dsimp only
  split
  · exact State.wordsKept_of_regs rfl _
  · intro a ha
    simp only [ledgerWords, List.mem_cons, List.not_mem_nil, or_false, not_or] at ha
    rw [State.rd_raise, State.setBit, State.rd_put_ne _ (by exact ha.2), State.countSat,
      State.rd_put_ne _ (by exact ha.1)]
    rfl

theorem State.mem_raised_ledger {s : State} {e : EventId} (h : e ∈ s.raised) (src evt : Nat) (data : List Byte)
    (cont : Option (List Byte)) : e ∈ (s.ledger src evt data cont).raised := by
  unfold State.ledger
  dsimp only
  split
  · exact h
  · rw [State.raised_raise, State.setBit_raised, State.countSat_raised]
    exact List.mem_append_left _ h

end Sys2Proof.Machine
end


section
/-! SUPPORT. Moving a Face and turning it: what this tick's readers still see, and what each change touches (R28, R30,
R35 to R38, R54, R55). -/

namespace Sys2Proof.Machine

/-! ### The parameters of the present tick (R28, R55) -/

/-- All instants of the present tick see the parameters of its boundary. -/
theorem State.facesAt_of_now {s : State} {t : Int} (h1 : s.nowSub ≤ t) (h2 : t < s.nextSub) :
    s.facesAt t = s.facesAt s.nowSub := by
  unfold State.facesAt
  split
  · next x _ =>
    refine if_congr ?_ rfl rfl
    simp only [State.nowSub, State.nextSub, subticks] at h1 h2 ⊢
    omega
  · rfl

/-- While a change of this tick waits for the boundary, the kept parameters are those the tick sees. -/
theorem State.facesAt_moving {s : State} {x : PriorFaces} (hp : s.str.prior = some x) (ht : x.tick = s.tally) :
    s.facesAt s.nowSub = x.faces := by
  simp only [State.facesAt, hp]
  refine if_pos ?_
  simp only [State.nowSub, subticks]
  omega

/-- With no change in this tick the newest parameters are in force in it. -/
theorem State.facesAt_unmoved {s : State} (h : s.facesMoving = false) : s.facesAt s.nowSub = s.faces := by
  unfold State.facesAt
  unfold State.facesMoving at h
  cases hp : s.str.prior with
  | none => rfl
  | some x =>
    simp only [hp, beq_eq_false_iff_ne] at h
    refine if_neg ?_
    simp only [State.nowSub, subticks]
    omega

/-- `u` follows `s` within its tick, and its readers still see the parameters that the tick sees in `s`. -/
def State.tickKept (s u : State) : Prop :=
  u.tally = s.tally ∧ ∃ k, u.str.prior = some { tick := s.tally, faces := s.facesAt s.nowSub, rank := k }

theorem State.tickKept.pips_now {s u : State} (h : s.tickKept u) (g : Face) {t : Int} (h1 : s.nowSub ≤ t)
    (h2 : t < s.nextSub) : u.pips g t = s.pips g t := by
  obtain ⟨ht, k, hp⟩ := h
  have hnow : u.nowSub = s.nowSub := by rw [State.nowSub, State.nowSub, ht]
  have hnext : u.nextSub = s.nextSub := by rw [State.nextSub, State.nextSub, ht]
  rw [State.pips, State.pips, State.facesAt_of_now (by rwa [hnow]) (by rwa [hnext]), State.facesAt_of_now h1 h2,
    State.facesAt_moving hp ht.symm]

/-- From the next boundary on the newest parameters are in force. -/
theorem State.tickKept.pips_next {s u : State} (h : s.tickKept u) (g : Face) {t : Int} (h1 : s.nextSub ≤ t) :
    u.pips g t = u.faces.pips g t := by
  obtain ⟨-, k, hp⟩ := h
  simp only [State.pips, State.facesAt, hp]
  rw [if_neg]
  simp only [State.nextSub] at h1
  omega

/-- The first change of a tick keeps what the tick sees, with no change of F0 among the changes yet. -/
theorem State.keepPrior_prior (s : State) : ∃ k, s.keepPrior.str.prior =
    some { tick := s.tally, faces := s.facesAt s.nowSub, rank := k } ∧ (s.facesMoving = false → k = 0) := by
  unfold State.keepPrior
  split
  · next h =>
    unfold State.facesMoving at h
    cases hp : s.str.prior with
    | none => simp [hp] at h
    | some x =>
      have ht : x.tick = s.tally := by simpa [hp] using h
      exact ⟨x.rank, by rw [State.facesAt_moving hp ht, ← ht], fun hn => by simp_all [State.facesMoving]⟩
  · next h => exact ⟨0, by rw [State.facesAt_unmoved (by simpa using h)], fun _ => rfl⟩

theorem State.keepPrior_face (s : State) (f : MainFace) : s.keepPrior.face f = s.face f := by
  rw [State.keepPrior_eq]; cases f <;> rfl

theorem State.keepPrior_regs (s : State) : s.keepPrior.regs = s.regs := by rw [State.keepPrior_eq]

/-! ### The parts of a change -/

theorem State.face_setFace_ne (s : State) {f g : MainFace} (h : g ≠ f) (x : FaceReg) :
    (s.setFace f x).face g = s.face g := by
  cases f <;> cases g <;> first | rfl | exact absurd rfl h

theorem State.setFace_prior (s : State) (f : MainFace) (x : FaceReg) : (s.setFace f x).str.prior = s.str.prior := by
  cases f <;> rfl

/-- The source of a change touches its word, and the rank that the tick has kept. -/
theorem State.trimSource_eq (s : State) (src : StepSource) (rank : Nat) : s.trimSource src rank =
    { s with regs := (s.trimSource src rank).regs, str := { s.str with prior := (s.trimSource src rank).str.prior } } := by
  unfold State.trimSource
  split
  · split <;> rfl
  · rfl

theorem State.trimSource_prior {s : State} {t : Nat} {x : Faces} {k : Nat}
    (h : s.str.prior = some { tick := t, faces := x, rank := k }) (src : StepSource) (rank : Nat) :
    ∃ j, (s.trimSource src rank).str.prior = some { tick := t, faces := x, rank := j } := by
  simp only [State.trimSource, h]
  split
  · exact ⟨rank, rfl⟩
  · exact ⟨k, h⟩

theorem State.wordsKept_trimSource (s : State) (src : StepSource) (rank : Nat) :
    s.wordsKept (s.trimSource src rank) [A.STR_F0_TRIM_SRC] := by
  unfold State.trimSource
  split
  · split
    · exact fun a ha => State.rd_setVal_ne _ (by simpa using ha) _
    · exact s.wordsKept_refl _
  · exact s.wordsKept_setVal _ _

theorem State.trimSource_val {s : State} {x : PriorFaces} (h : s.str.prior = some x) (src : StepSource) {rank : Nat}
    (hx : x.rank ≤ rank) : (s.trimSource src rank).val A.STR_F0_TRIM_SRC = src.code := by
  simp only [State.trimSource, h, if_pos hx, State.val_setVal_self]
  cases src <;> rfl

/-- The smear flag follows F0: the smears and one bit of STR.STAT (R48). -/
theorem State.smearUpdate_eq (s : State) : s.smearUpdate =
    { s with regs := s.smearUpdate.regs, str := { s.str with smears := s.smearUpdate.str.smears } } := rfl

theorem State.wordsKept_smearUpdate (s : State) : s.wordsKept s.smearUpdate [A.STR_STAT] :=
  State.wordsKept_setBit _ F.STR_STAT_IN_SMEAR _

theorem State.smearUpdate_set (s : State) (f : MainFace) : s.smearUpdate.bit (setFld f) = s.bit (setFld f) := by
  unfold State.smearUpdate
  cases f
  · exact State.bit_setBit_apart _ _ (by decide) (by decide)
  · exact State.bit_setBit_apart _ _ (by decide) (by decide)

theorem State.stepTrace_eq (s : State) (face source : Nat) (d : Int) :
    s.stepTrace face source d = { s with obs := (s.stepTrace face source d).obs } := State.trace_eq _ _ _

theorem FaceReg.at_moved (x : FaceReg) (d t : Int) : ({ x with ofs := x.ofs + d } : FaceReg).at_ t = x.at_ t + d := by
  simp only [FaceReg.at_]; ring

/-- A Face that is re-based does not move at the instant of the change (R30). -/
theorem FaceReg.at_rebase (x : FaceReg) (t r : Int) : (x.rebase t r).at_ t = x.at_ t := by
  simp only [FaceReg.at_, FaceReg.rebase]; ring

/-- The Face that a main Face presents is its value. -/
theorem Faces.pips_face (x : Faces) (f : MainFace) (t : Int) : x.pips (MainFace.face f) t = (x.main f).at_ t := by
  cases f <;> rfl

theorem State.faces_main (s : State) (f : MainFace) : s.faces.main f = s.face f := by cases f <;> rfl

end Sys2Proof.Machine
end


section
/-! SUPPORT. A Face that is moved, a Face that is turned, and a change that is refused (R28, R30, R33, R35 to R38). -/

namespace Sys2Proof.Machine

/-! ### Noting who changed F0 -/

/-- F0_TRIM_SRC after a change of a main Face: only a change of F0 counts. -/
def State.noteSource (s : State) (f : MainFace) (src : StepSource) (rank : Nat) : State :=
  if f = .f0 then s.trimSource src rank else s

/-- The servo's interval has seen a step of F0. -/
def State.noteStep (s : State) (f : MainFace) : State :=
  if f = .f0 then { s with srv := { s.srv with ivStep := true } } else s

theorem State.noteSource_eq (s : State) (f : MainFace) (src : StepSource) (rank : Nat) : s.noteSource f src rank =
    { s with regs := (s.noteSource f src rank).regs
             str := { s.str with prior := (s.noteSource f src rank).str.prior } } := by
  cases f
  · exact State.trimSource_eq s src rank
  · rfl

theorem State.noteSource_prior {s : State} {t : Nat} {x : Faces} {k : Nat}
    (h : s.str.prior = some { tick := t, faces := x, rank := k }) (f : MainFace) (src : StepSource) (rank : Nat) :
    ∃ j, (s.noteSource f src rank).str.prior = some { tick := t, faces := x, rank := j } := by
  cases f
  · exact State.trimSource_prior h src rank
  · exact ⟨k, h⟩

theorem State.wordsKept_noteSource (s : State) (f : MainFace) (src : StepSource) (rank : Nat) :
    s.wordsKept (s.noteSource f src rank) [A.STR_F0_TRIM_SRC] := by
  cases f
  · exact s.wordsKept_trimSource src rank
  · exact s.wordsKept_refl _

theorem State.noteStep_eq (s : State) (f : MainFace) : s.noteStep f = { s with srv := (s.noteStep f).srv } := by
  cases f <;> rfl

/-! ### A Face is moved -/

/-- The state in which a Face's offset has moved and its SET bit stands, before the source is noted. -/
def State.offsetMoved (s : State) (f : MainFace) (d : Int) : State :=
  ((s.keepPrior.setFace f { s.face f with ofs := (s.face f).ofs + d }).setBit (setFld f) true).noteStep f

theorem State.offsetMoved_eq (s : State) (f : MainFace) (d : Int) : s.offsetMoved f d =
    { s with regs := (s.offsetMoved f d).regs, str := (s.offsetMoved f d).str, srv := (s.offsetMoved f d).srv } := by
  unfold State.offsetMoved
  rw [State.noteStep_eq, State.keepPrior_eq]
  cases f <;> rfl

theorem State.offsetMoved_prior (s : State) (f : MainFace) (d : Int) :
    (s.offsetMoved f d).str.prior = s.keepPrior.str.prior := by
  rw [State.offsetMoved, State.noteStep_eq, State.setBit_str]
  exact State.setFace_prior _ _ _

theorem State.offsetMoved_face (s : State) (f g : MainFace) (d : Int) : (s.offsetMoved f d).face g =
    if g = f then { s.face f with ofs := (s.face f).ofs + d } else s.face g := by
  have h : (s.offsetMoved f d).face g = (s.keepPrior.setFace f { s.face f with ofs := (s.face f).ofs + d }).face g := by
    rw [State.offsetMoved, State.noteStep_eq]; cases g <;> rfl
  rw [h]
  split
  · next hg => subst hg; exact State.face_setFace_self _ _ _
  · next hg => rw [State.face_setFace_ne _ hg, State.keepPrior_face]

theorem State.offsetMoved_words (s : State) (f : MainFace) (d : Int) :
    s.wordsKept (s.offsetMoved f d) [A.STR_STAT] := by
  intro a ha
  rw [State.offsetMoved, State.noteStep_eq]
  have hset : a ≠ (setFld f).addr := by
    have hstat : (setFld f).addr = A.STR_STAT := by cases f <;> rfl
    simpa [hstat] using ha
  refine (State.rd_put_ne _ hset _).trans (State.rd_of_regs ?_ a)
  cases f <;> exact State.keepPrior_regs s

theorem State.offsetMoved_set (s : State) (f : MainFace) (d : Int) : (s.offsetMoved f d).bit (setFld f) = true := by
  have h : ∀ t : State, (t.noteStep f).bit (setFld f) = t.bit (setFld f) := fun t => by rw [State.noteStep_eq]; rfl
  rw [State.offsetMoved, h]
  cases f <;> exact State.bit_setBit_self _ _ _ rfl (by decide)

section move
variable {s : State} {f : MainFace} {src : StepSource} {d : Int} (h : s.stepFits f d = true)
include h

/-- A step that makes no Face negative: the offset moves, the source is noted, the smear flag follows, and a STEP record is
formed. -/
theorem State.moveFace_eq : s.moveFace f src d =
    ((s.offsetMoved f d).noteSource f src src.rank).smearUpdate.stepTrace (if f = .f0 then 0 else 3) src.code d := by
  rw [State.moveFace, if_pos h]
  simp only [State.keepPrior_face, State.offsetMoved, State.noteStep, State.noteSource]
  cases f <;> rfl

theorem State.moveFace_frame : s.moveFace f src d = { s with
    regs := (s.moveFace f src d).regs, str := (s.moveFace f src d).str, srv := (s.moveFace f src d).srv
    obs := (s.moveFace f src d).obs } := by
  rw [State.moveFace_eq h, State.stepTrace_eq, State.smearUpdate_eq, State.noteSource_eq, State.offsetMoved_eq]

theorem State.moveFace_face (g : MainFace) : (s.moveFace f src d).face g =
    if g = f then { s.face f with ofs := (s.face f).ofs + d } else s.face g := by
  rw [← State.offsetMoved_face, State.moveFace_eq h, State.stepTrace_eq, State.smearUpdate_eq, State.noteSource_eq]
  cases g <;> rfl

theorem State.moveFace_tickKept : s.tickKept (s.moveFace f src d) := by
  refine ⟨by rw [State.moveFace_frame h], ?_⟩
  obtain ⟨k, hk, -⟩ := s.keepPrior_prior
  rw [← State.offsetMoved_prior s f d] at hk
  obtain ⟨j, hj⟩ := State.noteSource_prior hk f src src.rank
  exact ⟨j, by rw [State.moveFace_eq h, State.stepTrace_eq, State.smearUpdate_eq, ← hj]⟩

theorem State.moveFace_words : s.wordsKept (s.moveFace f src d) [A.STR_STAT, A.STR_F0_TRIM_SRC] := by
  rw [State.moveFace_eq h, State.stepTrace_eq]
  exact (((s.offsetMoved_words f d).mono (by simp)).trans ((State.wordsKept_noteSource _ f src _).mono (by simp))).trans
    ((State.wordsKept_smearUpdate _).mono (by simp))

theorem State.moveFace_set : (s.moveFace f src d).bit (setFld f) = true := by
  rw [State.moveFace_eq h, State.stepTrace_eq]
  refine (State.smearUpdate_set _ f).trans ?_
  rw [(State.wordsKept_noteSource _ f src _).bit (by cases f <;> decide)]
  exact s.offsetMoved_set f d

end move

/-- The first change of F0 in a tick names its source. -/
theorem State.moveFace_source {s : State} {src : StepSource} {d : Int} (h : s.stepFits .f0 d = true)
    (hm : s.facesMoving = false) : (s.moveFace .f0 src d).val A.STR_F0_TRIM_SRC = src.code := by
  obtain ⟨k, hk, h0⟩ := s.keepPrior_prior
  rw [← State.offsetMoved_prior s .f0 d] at hk
  rw [State.moveFace_eq h, State.stepTrace_eq]
  refine ((State.wordsKept_smearUpdate _).val (by decide)).trans (State.trimSource_val hk src ?_)
  simp [h0 hm]

/-! ### A Face is turned -/

/-- The state in which a Face has its rate, before the source is noted. -/
def State.turned (s : State) (f : MainFace) (rate : Int) : State :=
  s.keepPrior.setFace f ((s.face f).rebase s.nextSub rate)

theorem State.turned_eq (s : State) (f : MainFace) (rate : Int) :
    s.turned f rate = { s with str := (s.turned f rate).str } := by
  rw [State.turned, State.keepPrior_eq]; cases f <;> rfl

theorem State.turned_face (s : State) (f g : MainFace) (rate : Int) : (s.turned f rate).face g =
    if g = f then (s.face f).rebase s.nextSub rate else s.face g := by
  split
  · next hg => subst hg; exact State.face_setFace_self _ _ _
  · next hg => rw [State.turned, State.face_setFace_ne _ hg, State.keepPrior_face]

section turn
variable {s : State} {f : MainFace} {src : StepSource} {rate : Int} (h : |rate - (s.face f).rate| ≤ s.rateLimit)
include h

theorem State.setRate_eq : s.setRate f src rate =
    ((s.turned f rate).noteSource f src rateRank).stepTrace (if f = .f0 then 0 else 3) 5
      ((rate - (s.face f).rate) / 2 ^ 20) := by
  rw [State.setRate]
  exact if_pos h

theorem State.setRate_frame : s.setRate f src rate = { s with
    regs := (s.setRate f src rate).regs, str := (s.setRate f src rate).str, obs := (s.setRate f src rate).obs } := by
  rw [State.setRate_eq h, State.stepTrace_eq, State.noteSource_eq, State.turned_eq]

theorem State.setRate_face (g : MainFace) : (s.setRate f src rate).face g =
    if g = f then (s.face f).rebase s.nextSub rate else s.face g := by
  rw [← State.turned_face, State.setRate_eq h, State.stepTrace_eq, State.noteSource_eq]
  cases g <;> rfl

theorem State.setRate_tickKept : s.tickKept (s.setRate f src rate) := by
  refine ⟨by rw [State.setRate_frame h], ?_⟩
  obtain ⟨k, hk, -⟩ := s.keepPrior_prior
  rw [← State.setFace_prior s.keepPrior f ((s.face f).rebase s.nextSub rate)] at hk
  obtain ⟨j, hj⟩ := State.noteSource_prior hk f src rateRank
  exact ⟨j, by rw [State.setRate_eq h, State.stepTrace_eq, ← hj]; rfl⟩

theorem State.setRate_words : s.wordsKept (s.setRate f src rate) [A.STR_F0_TRIM_SRC] := by
  rw [State.setRate_eq h, State.stepTrace_eq]
  refine State.wordsKept.trans (t := s.turned f rate) (State.wordsKept_of_regs ?_ _)
    (State.wordsKept_noteSource _ f src _)
  rw [State.turned_eq]

end turn

theorem State.setRate_source {s : State} {src : StepSource} {rate : Int}
    (h : |rate - (s.face .f0).rate| ≤ s.rateLimit) (hm : s.facesMoving = false) :
    (s.setRate .f0 src rate).val A.STR_F0_TRIM_SRC = src.code := by
  obtain ⟨k, hk, h0⟩ := s.keepPrior_prior
  rw [State.setRate_eq h, State.stepTrace_eq]
  refine State.trimSource_val (x := ⟨s.tally, s.facesAt s.nowSub, k⟩) ?_ src ?_
  · exact (State.setFace_prior _ _ _).trans hk
  · simp [h0 hm]

/-! ### A change is refused (R36, R38) -/

/-- The bit and the event of a refusal. -/
def refusedFld (rate : Bool) : Fld := if rate then F.STR_STAT_RATE_REFUSED else F.STR_STAT_STEP_REFUSED
def refusedEv (rate : Bool) : EventId := if rate then Ev.RATE_REFUSED else Ev.STEP_REFUSED

section refuse
variable (s : State) (f : MainFace) (src : StepSource) (rate : Bool) (d : Int)

/-- What a refusal records before the Ledger has it. -/
def State.refusalNoted : State :=
  (((s.setMulti A.STR_LAST_REFUSED_HI (codeOf 96 d) 3).setVal A.STR_LAST_REFUSED_INFO
    (faceBit f + src.refusedCode * 2 + flagVal rate * 8)).setBit (refusedFld rate) true).raise (refusedEv rate)

theorem State.refuseChange_eq : s.refuseChange f src rate d =
    (s.refusalNoted f src rate d).ledger 32 (if rate then 2 else 1) (beBytes 1 (faceBit f) ++ beBytes 1 src.refusedCode)
      (some (beBytes 12 (codeOf 96 d))) := rfl

/-- The Ledger's words lie apart from those of a refusal. -/
theorem State.refuseChange_val {a : Nat} (ha : a ∉ ledgerWords) :
    (s.refuseChange f src rate d).val a = (s.refusalNoted f src rate d).val a :=
  (State.wordsKept_ledger _ _ _ _ _).val ha

theorem State.refuseChange_str : (s.refuseChange f src rate d).str = s.str := by
  obtain ⟨_, _, _, _, hl⟩ := State.ledger_eq (s.refusalNoted f src rate d) 32 (if rate then 2 else 1)
    (beBytes 1 (faceBit f) ++ beBytes 1 src.refusedCode) (some (beBytes 12 (codeOf 96 d)))
  rw [State.refuseChange_eq, hl]
  rfl

theorem State.refuseChange_slots : (s.refuseChange f src rate d).ldg.slots = s.ldg.slots := by
  obtain ⟨_, _, _, _, hl⟩ := State.ledger_eq (s.refusalNoted f src rate d) 32 (if rate then 2 else 1)
    (beBytes 1 (faceBit f) ++ beBytes 1 src.refusedCode) (some (beBytes 12 (codeOf 96 d)))
  rw [State.refuseChange_eq, hl]
  rfl

theorem State.refuseChange_raises : refusedEv rate ∈ (s.refuseChange f src rate d).raised :=
  State.mem_raised_ledger (s := s.refusalNoted f src rate d) (List.mem_append_right _ (List.mem_singleton_self _))
    _ _ _ _

theorem State.refuseChange_bit : (s.refuseChange f src rate d).bit (refusedFld rate) = true := by
  rw [State.refuseChange_eq, (State.wordsKept_ledger _ _ _ _ _).bit (by cases rate <;> decide), State.refusalNoted,
    State.bit_raise]
  cases rate <;> exact State.bit_setBit_self _ _ _ rfl (by decide)

theorem State.refuseChange_delta : (s.refuseChange f src rate d).multi A.STR_LAST_REFUSED_HI 3 = codeOf 96 d := by
  have hkept : ∀ i < 3, (s.refuseChange f src rate d).val (A.STR_LAST_REFUSED_HI + i) =
      (s.setMulti A.STR_LAST_REFUSED_HI (codeOf 96 d) 3).val (A.STR_LAST_REFUSED_HI + i) := by
    intro i hi
    have hl : A.STR_LAST_REFUSED_HI + i ∉ ledgerWords := by interval_cases i <;> decide
    have hs : A.STR_LAST_REFUSED_HI + i ∉ [(refusedFld rate).addr] := by interval_cases i <;> cases rate <;> decide
    have hv : A.STR_LAST_REFUSED_HI + i ≠ A.STR_LAST_REFUSED_INFO := by interval_cases i <;> decide
    rw [State.refuseChange_val _ _ _ _ _ hl, State.refusalNoted, State.val_raise,
      (State.wordsKept_setBit _ _ _).val hs, State.val_setVal_ne _ hv]
  rw [State.multi_congr _ hkept, State.multi_setMulti_self, Nat.mod_eq_of_lt (codeOf_lt 96 d)]

theorem State.refuseChange_info : (s.refuseChange f src rate d).val A.STR_LAST_REFUSED_INFO =
    faceBit f + src.refusedCode * 2 + flagVal rate * 8 := by
  rw [State.refuseChange_val _ _ _ _ _ (by decide), State.refusalNoted, State.val_raise,
    (State.wordsKept_setBit _ _ _).val (by cases rate <;> decide), State.val_setVal_self]
  cases f <;> cases src <;> cases rate <;> rfl

end refuse

end Sys2Proof.Machine
end


section
/-! The host's writes of a main Face's words (O34). -/

namespace Sys2Proof.Machine

/-! ### The rule of the words (R16, R32, R35 to R38) -/

section words
variable {s : State} {p : HostPort} {f : MainFace} {v : Word}

/-- The delta of a STEP_HI write: the word and the held lower word (R16, R35). -/
def State.stepDelta (s : State) (p : HostPort) (f : MainFace) (v : Word) : Int :=
  signedOf 64 (v.toNat * 2 ^ 32 + ((s.heldWord p (stepHi f + 1)).getD 0).toNat)

/-- The rate of a RATE_HI write: the word and the held lower word, else the lower word in force (R16, R37). -/
def State.rateAsked (s : State) (p : HostPort) (f : MainFace) (v : Word) : Int :=
  signedOf 48 (v.toNat % 65536 * 2 ^ 32 +
    ((s.heldWord p (rateHi f + 1)).getD (wordOf (codeOf 48 (s.face f).rate))).toNat)

theorem ruledWord_stepHi (f : MainFace) : ruledWord (stepHi f) = true := by cases f <;> decide

theorem ruledWord_rateHi (f : MainFace) : ruledWord (rateHi f) = true := by cases f <;> decide

theorem appliedHolds_stepHi (f : MainFace) : appliedHolds (stepHi f) = [stepHi f + 1] := by cases f <;> decide

theorem appliedHolds_rateHi (f : MainFace) : appliedHolds (rateHi f) = [rateHi f + 1] := by cases f <;> decide

theorem State.bankWrite_stepHi (s : State) (p : HostPort) (f : MainFace) (n : Nat) :
    s.bankWrite p (stepHi f / 256) (stepHi f % 256) n = some (s.faceWrite p f (rateHi f) 2 n) := by cases f <;> rfl

theorem State.bankWrite_rateHi (s : State) (p : HostPort) (f : MainFace) (n : Nat) :
    s.bankWrite p (rateHi f / 256) (rateHi f % 256) n = some (s.faceWrite p f (rateHi f) 0 n) := by cases f <;> rfl

/-- The words of a Face lie in one bank. -/
theorem State.mayWrite_rateHi (h : s.mayWrite p (stepHi f) = true) : s.mayWrite p (rateHi f) = true := by
  cases f <;> exact h

/-- While SRV owns F0 a host's write of it is discarded (R32). -/
theorem State.faceWrite_owned (h : f = .f0 ∧ s.srvOwnsF0 = true) (base k n : Nat) :
    s.faceWrite p f base k n = s.rejected .owner := if_pos h

theorem State.hostParam_stepHi_owned (hw : s.mayWrite p (stepHi f) = true) (h : f = .f0 ∧ s.srvOwnsF0 = true) :
    s.hostParam p (stepHi f) v = (s.dropHolds p [stepHi f + 1]).turnedAway p (stepHi f) v .owner := by
  rw [← appliedHolds_stepHi]
  exact State.hostParam_ruled_rejected hw (ruledWord_stepHi f)
    (by rw [State.bankWrite_stepHi, State.faceWrite_owned h])

theorem State.hostParam_rateHi_owned (hw : s.mayWrite p (rateHi f) = true) (h : f = .f0 ∧ s.srvOwnsF0 = true) :
    s.hostParam p (rateHi f) v = (s.dropHolds p [rateHi f + 1]).turnedAway p (rateHi f) v .owner := by
  rw [← appliedHolds_rateHi]
  exact State.hostParam_ruled_rejected hw (ruledWord_rateHi f)
    (by rw [State.bankWrite_rateHi, State.faceWrite_owned h])

/-- A STEP_HI write asks for a step by its delta (R35). -/
theorem State.hostParam_stepHi (hw : s.mayWrite p (stepHi f) = true) (h : ¬ (f = .f0 ∧ s.srvOwnsF0 = true)) :
    s.hostParam p (stepHi f) v =
      ((s.dropHolds p [stepHi f + 1]).stepFace f .host (s.stepDelta p f v)).written p (stepHi f) v :=
  State.hostParam_ruled hw (ruledWord_stepHi f) (by rw [State.bankWrite_stepHi, State.faceWrite, if_neg h]; rfl)

/-- A RATE_HI write asks for its rate (R37). -/
theorem State.hostParam_rateHi (hw : s.mayWrite p (rateHi f) = true) (h : ¬ (f = .f0 ∧ s.srvOwnsF0 = true)) :
    s.hostParam p (rateHi f) v =
      ((s.dropHolds p [rateHi f + 1]).setRate f .host (s.rateAsked p f v)).written p (rateHi f) v :=
  State.hostParam_ruled hw (ruledWord_rateHi f) (by rw [State.bankWrite_rateHi, State.faceWrite, if_neg h]; rfl)

end words

/-! ### What an emptied hold leaves -/

section emptied
variable (s : State) (p : HostPort) (l : List Nat)

@[simp] theorem State.rd_dropHolds (a : Nat) : (s.dropHolds p l).rd a = s.rd a := State.rd_setPort _ _ _ _
@[simp] theorem State.val_dropHolds (a : Nat) : (s.dropHolds p l).val a = s.val a := State.val_setPort _ _ _ _
@[simp] theorem State.dropHolds_regs : (s.dropHolds p l).regs = s.regs := State.setPort_regs _ _ _
@[simp] theorem State.dropHolds_str : (s.dropHolds p l).str = s.str := State.setPort_str _ _ _
@[simp] theorem State.dropHolds_tally : (s.dropHolds p l).tally = s.tally := State.setPort_tally _ _ _
@[simp] theorem State.dropHolds_ldg : (s.dropHolds p l).ldg = s.ldg := State.setPort_ldg _ _ _

@[simp] theorem State.dropHolds_face (f : MainFace) : (s.dropHolds p l).face f = s.face f := by
  cases f <;> simp [State.face]

@[simp] theorem State.dropHolds_nowSub : (s.dropHolds p l).nowSub = s.nowSub := by simp [State.nowSub]
@[simp] theorem State.dropHolds_nextSub : (s.dropHolds p l).nextSub = s.nextSub := by simp [State.nextSub]

@[simp] theorem State.dropHolds_faces : (s.dropHolds p l).faces = s.faces := by simp [State.faces, State.utcOffset]

@[simp] theorem State.dropHolds_pips (g : Face) (t : Int) : (s.dropHolds p l).pips g t = s.pips g t := by
  simp [State.pips, State.facesAt]

@[simp] theorem State.dropHolds_facesMoving : (s.dropHolds p l).facesMoving = s.facesMoving := by
  simp [State.facesMoving]

@[simp] theorem State.dropHolds_stepFits (f : MainFace) (d : Int) :
    (s.dropHolds p l).stepFits f d = s.stepFits f d := by simp [State.stepFits, State.facesFit]

@[simp] theorem State.dropHolds_stepLimit : (s.dropHolds p l).stepLimit = s.stepLimit := by simp [State.stepLimit]
@[simp] theorem State.dropHolds_rateLimit : (s.dropHolds p l).rateLimit = s.rateLimit := by simp [State.rateLimit]

theorem State.wordsKept_dropHolds {u : State} {m : List Nat} (h : (s.dropHolds p l).wordsKept u m) :
    s.wordsKept u m := fun a ha => (h a ha).trans (State.rd_dropHolds s p l a)

end emptied

/-! ### What the changes come to -/

section changes
variable {s u : State} {p : HostPort} {f : MainFace} {l : List Nat}

/-- A step that makes no Face negative (R28, R33, R35). -/
theorem State.moveFace_spec {d : Int} (h : s.stepFits f d = true)
    (hu : u = (s.dropHolds p l).moveFace f .host d) :
    (∀ t : Int, (u.face f).at_ t = (s.face f).at_ t + d) ∧ (u.face f).rate = (s.face f).rate ∧
      u.bit (setFld f) = true ∧
      (∀ g : Face, ∀ t : Int, s.nowSub ≤ t → t < s.nextSub → u.pips g t = s.pips g t) ∧
      (∀ t : Int, s.nextSub ≤ t → u.pips (MainFace.face f) t = (s.face f).at_ t + d) ∧
      (∀ g : MainFace, g ≠ f → u.face g = s.face g) ∧
      (f = .f0 → s.facesMoving = false → u.val A.STR_F0_TRIM_SRC = 0) ∧
      s.wordsKept u [A.STR_STAT, A.STR_F0_TRIM_SRC] ∧
      u = { s with regs := u.regs, str := u.str, srv := u.srv, obs := u.obs, hif := u.hif } := by
  rw [← State.dropHolds_stepFits s p l] at h
  have hface := fun g => hu ▸ State.moveFace_face (src := .host) h g
  have hkept := hu ▸ State.moveFace_tickKept (src := .host) h
  simp only [State.dropHolds_face] at hface
  have hat : ∀ t, (u.face f).at_ t = (s.face f).at_ t + d := fun t => by
    rw [hface, if_pos rfl]; exact FaceReg.at_moved _ _ _
  refine ⟨hat, by rw [hface, if_pos rfl], hu ▸ State.moveFace_set h, fun g t h1 h2 => ?_, fun t ht => ?_,
    fun g hg => by rw [hface, if_neg hg], ?_, s.wordsKept_dropHolds p l (hu ▸ State.moveFace_words h), ?_⟩
  · rw [hkept.pips_now g (by simpa using h1) (by simpa using h2), State.dropHolds_pips]
  · rw [hkept.pips_next _ (by simpa using ht), Faces.pips_face, State.faces_main, hat]
  · rintro rfl hm
    exact hu ▸ State.moveFace_source h (by simpa using hm)
  · have hframe := State.moveFace_frame (src := .host) h
    rw [← hu] at hframe
    rw [hframe, State.dropHolds_eq]

/-- A rate change within the limit (R28, R30, R37). -/
theorem State.setRate_spec {r : Int} (h : |r - (s.face f).rate| ≤ s.rateLimit)
    (hu : u = (s.dropHolds p l).setRate f .host r) :
    (u.face f).rate = r ∧ (u.face f).at_ s.nextSub = (s.face f).at_ s.nextSub ∧
      (∀ g : Face, ∀ t : Int, s.nowSub ≤ t → t < s.nextSub → u.pips g t = s.pips g t) ∧
      (∀ g : MainFace, g ≠ f → u.face g = s.face g) ∧
      (f = .f0 → s.facesMoving = false → u.val A.STR_F0_TRIM_SRC = 0) ∧
      s.wordsKept u [A.STR_F0_TRIM_SRC] ∧
      u = { s with regs := u.regs, str := u.str, obs := u.obs, hif := u.hif } := by
  rw [← State.dropHolds_rateLimit s p l, ← State.dropHolds_face s p l] at h
  have hface := fun g => hu ▸ State.setRate_face (src := .host) h g
  have hkept := hu ▸ State.setRate_tickKept (src := .host) h
  simp only [State.dropHolds_face, State.dropHolds_nextSub] at hface
  refine ⟨by rw [hface, if_pos rfl]; rfl, by rw [hface, if_pos rfl]; exact FaceReg.at_rebase _ _ _,
    fun g t h1 h2 => ?_, fun g hg => by rw [hface, if_neg hg], ?_,
    s.wordsKept_dropHolds p l (hu ▸ State.setRate_words h), ?_⟩
  · rw [hkept.pips_now g (by simpa using h1) (by simpa using h2), State.dropHolds_pips]
  · rintro rfl hm
    exact hu ▸ State.setRate_source h (by simpa using hm)
  · have hframe := State.setRate_frame (src := .host) h
    rw [← hu] at hframe
    rw [hframe, State.dropHolds_eq]

/-- A change beyond its limit (R36, R38). -/
theorem State.refuseChange_spec {rate : Bool} {d : Int} (hu : u = (s.dropHolds p l).refuseChange f .host rate d) :
    u.str = s.str ∧ u.bit (refusedFld rate) = true ∧ refusedEv rate ∈ u.raised ∧
      u.multi A.STR_LAST_REFUSED_HI 3 = codeOf 96 d ∧
      u.val A.STR_LAST_REFUSED_INFO = faceBit f + StepSource.host.refusedCode * 2 + flagVal rate * 8 ∧
      u.ldg.slots = s.ldg.slots := by
  subst hu
  exact ⟨by rw [State.refuseChange_str, State.dropHolds_str], State.refuseChange_bit _ _ _ _ _,
    State.refuseChange_raises _ _ _ _ _, State.refuseChange_delta _ _ _ _ _, State.refuseChange_info _ _ _ _ _,
    by rw [State.refuseChange_slots, State.dropHolds_ldg]⟩

/-- Emptying a hold leaves what a step is judged by. -/
theorem State.stepFace_dropHolds (d : Int) : (s.dropHolds p l).stepFace f .host d =
    if |d| ≤ s.stepLimit then (s.dropHolds p l).moveFace f .host d
    else (s.dropHolds p l).refuseChange f .host false d := by
  rw [State.stepFace, State.dropHolds_stepLimit]

theorem State.moveFace_unfit {d : Int} (h : s.stepFits f d = false) :
    (s.dropHolds p l).moveFace f .host d = (s.dropHolds p l).raise Ev.PARAM_REJECT := by
  rw [State.moveFace, State.dropHolds_stepFits, h]
  exact if_neg (by decide)

theorem State.setRate_beyond {r : Int} (h : s.rateLimit < |r - (s.face f).rate|) :
    (s.dropHolds p l).setRate f .host r = (s.dropHolds p l).refuseChange f .host true (r - (s.face f).rate) := by
  rw [State.setRate, State.dropHolds_rateLimit, State.dropHolds_face]
  exact if_neg (not_le.2 h)

end changes

/-! ### The commands -/

theorem exec_hostStep (s : State) (p : HostPort) (f : MainFace) (v : Word) :
    exec (.hostStep p f v) s = .next (s.after (s.hostParam p (stepHi f) v)) := rfl

theorem exec_rateWrite (s : State) (p : HostPort) (f : MainFace) (v : Word) :
    exec (.rateWrite p f v) s = .next (s.after (s.hostParam p (rateHi f) v)) := rfl

theorem exec_multiwordHiWrite (s : State) (p : HostPort) (a : Nat) (v : Word) :
    exec (.multiwordHiWrite p a v) s = .next (s.after (s.hostParam p a v)) := rfl

/-- Settles O34: the words' rule asks for a step or a rate, and the limits and R29 decide what becomes of it. -/
theorem facesMoveByStepsAndTurnByRates : Obligations.FacesMoveByStepsAndTurnByRates := by
  intro s p f v
  simp only [exec_hostStep, exec_rateWrite, exec_multiwordHiWrite]
  refine ⟨fun hw ho => ?_, fun hw ho d hd => ?_, fun hw ho r hr => ?_⟩
  · rw [State.hostParam_stepHi_owned hw ho, State.hostParam_rateHi_owned (State.mayWrite_rateHi hw) ho]
    exact ⟨rfl, rfl, rfl⟩
  · rw [State.hostParam_stepHi hw ho, State.stepFace_dropHolds, show s.stepDelta p f v = d from hd.symm]
    refine ⟨fun hlim hfit => ?_, fun hlim hfit u hu => ?_, fun hlim u hu => ?_⟩
    · rw [if_pos hlim, State.moveFace_unfit hfit]
    · rw [if_pos hlim, ← hu]
      exact ⟨rfl, rfl, State.moveFace_spec hfit hu⟩
    · rw [if_neg (not_le.2 hlim), ← hu]
      exact ⟨rfl, State.refuseChange_spec (rate := false) hu⟩
  · rw [State.hostParam_rateHi hw ho, show s.rateAsked p f v = r from hr.symm]
    refine ⟨fun hlim u hu => ?_, fun hlim u hu => ?_⟩
    · rw [← hu]
      exact ⟨rfl, rfl, State.setRate_spec hlim hu⟩
    · rw [State.setRate_beyond hlim, ← hu]
      exact ⟨rfl, State.refuseChange_spec (rate := true) hu⟩

end Sys2Proof.Machine
end


section
/-! Reads of latched and queued words (O25). -/

namespace Sys2Proof.Machine

/-! ### One read (R667, R709) -/

/-- A port that has the engine reads a parameter. -/
theorem State.hostRead_ready {s : State} {p : HostPort} (h : s.hostReady p = true) (a : Nat) :
    s.hostRead p a = (s.paramRead p a).2.returned p (s.paramRead p a).1 := by
  obtain ⟨hs, hb⟩ : s.hostServes = true ∧ s.engineBusy p = false := by simpa [State.hostReady] using h
  simp only [State.hostRead, hs, hb, Bool.true_eq_false, Bool.false_eq_true, or_self, if_false]
  rfl

theorem State.paramRead_up {s : State} {a : Nat} (htb : a / 256 ≠ 3) (hr : s.readable (bankDomain (a / 256)) = true)
    (p : HostPort) : s.paramRead p a = s.wordRead p a := by
  simp only [State.paramRead]
  rw [if_neg htb, if_pos hr]

/-- A read whose chapter gives the word an effect of its own. -/
theorem State.hostRead_effect {s : State} {p : HostPort} {a : Nat} {x : Word × State} (h : s.hostReady p = true)
    (htb : a / 256 ≠ 3) (hr : s.readable (bankDomain (a / 256)) = true)
    (hx : s.effectRead p (a / 256) (a % 256) = some x) : s.hostRead p a = x.2.returned p x.1 := by
  rw [State.hostRead_ready h, State.paramRead_up htb hr, State.wordRead, hx]

/-- A read of the _HI word of a multi-word parameter latches the lower words (R16). -/
theorem State.hostRead_hi {s : State} {p : HostPort} {a len : Nat} (h : s.hostReady p = true) (htb : a / 256 ≠ 3)
    (hr : s.readable (bankDomain (a / 256)) = true) (hx : s.effectRead p (a / 256) (a % 256) = none)
    (hm : multiAt a = some (a, len)) :
    s.hostRead p a =
      (s.latch p ((lowerWords a len).map (fun x => (x, s.liveWord p x)))).returned p (s.liveWord p a) := by
  rw [State.hostRead_ready h, State.paramRead_up htb hr, State.wordRead, hx]
  simp only [hm, if_true]

theorem State.readable_up {s : State} {d : Domain} (h : s.up d = true) : s.readable d = true := by
  simp [State.readable, h]

/-! ### Latches of a port (R16, R52) -/

section latches
variable (s : State) (p : HostPort) (l : List (Nat × Word))

theorem State.port_latch_self : (s.latch p l).port p =
    { s.port p with latches := l.foldl (fun l w => insertKey w.1 w.2 l) (s.port p).latches } :=
  State.port_setPort_self _ _ _

/-- A change of a port's state touches the host interface alone. -/
theorem State.setPort_eq (x : PortState) : s.setPort p x = { s with hif := (s.setPort p x).hif } := by
  cases p <;> rfl

theorem State.port_setPort_other (x : PortState) : (s.setPort p x).port p.other = s.port p.other :=
  State.port_setPort_ne s (by cases p <;> decide) x

/-- The word latched first reads back when no other of the list has its address. -/
theorem State.latched_latch_head (a : Nat) (w : Word) (h : ∀ x ∈ l, x.1 ≠ a) :
    (s.latch p ((a, w) :: l)).latched p a = w := by
  have key : ∀ (l : List (Nat × Word)) (m : List (Nat × Word)), (∀ x ∈ l, x.1 ≠ a) → lookupKey a m = some w →
      lookupKey a (l.foldl (fun l w => insertKey w.1 w.2 l) m) = some w := by
    intro l
    induction l with
    | nil => exact fun m _ hm => hm
    | cons y l ih =>
      intro m hl hm
      refine ih _ (fun x hx => hl x (by simp [hx])) ?_
      rw [lookupKey_insertKey_ne (hl y (by simp)).symm, hm]
  rw [State.latched, State.port_latch_self, List.foldl_cons, key l _ h (lookupKey_insertKey_self _ _ _)]
  rfl

end latches

/-! ### The queues of VQ (R98, R111) -/

section queue
variable (s : State) (p : HostPort) {n : Nat}

theorem State.vqLevel_port (n : Nat) : (s.vqLevel n).port p = s.port p := by
  simp only [State.vqLevel, State.raiseIf]
  split <;> rfl

/-- The watermark's bookkeeping leaves the entries. -/
theorem State.vqLevel_queue (hn : n < 8) : ((s.vqLevel n).chan n).queue = (s.chan n).queue := by
  have hc : ∀ (t : State) (b : Bool) (e : EventId), (t.raiseIf b e).chan n = t.chan n := by
    intro t b e; cases b <;> rfl
  simp only [State.vqLevel, hc, State.chan_setChan _ hn, if_true]

/-- An empty queue reads its mark and loses nothing (R111). -/
theorem State.vqPop_empty (h : (s.chan n).queue = []) : (s.vqPop p n).1 = 0xF0000000 ∧ (s.vqPop p n).2.vc = s.vc := by
  simp only [State.vqPop, h]
  exact ⟨trivial, State.setPort_vc _ _ _⟩

/-- A queue with entries gives its oldest (R98, R111). -/
theorem State.vqPop_oldest (hn : n < 8) (h : (s.chan n).queue ≠ []) :
    (s.vqPop p n).1 = wordOf (((s.chan n).queue.headD 0).toNat / 2 ^ 32) ∧
      ((s.vqPop p n).2.chan n).queue = (s.chan n).queue.tail := by
  obtain ⟨e, rest, hq⟩ := List.exists_cons_of_ne_nil h
  have hl : ∀ (t : State) (l : List (Nat × Word)), (t.latch p l).chan n = t.chan n := fun t l => by
    rw [State.chan, State.chan, State.latch, State.setPort_vc]
  simp only [State.vqPop, hq, List.headD_cons, List.tail_cons, hl, State.vqLevel_queue _ hn,
    State.chan_setChan _ hn, if_true, and_self]

theorem State.vqPop_fifoSecond (n : Nat) : ((s.vqPop p n).2.port p).fifoSecond = (s.port p).fifoSecond := by
  unfold State.vqPop
  dsimp only
  split
  · rw [State.port_latch_self]
  · rw [State.port_latch_self, State.vqLevel_port]; rfl

/-- Reads of the FIFO word alternate (R111). -/
theorem State.vqFifo_fifoSecond (n : Nat) : ((s.vqFifo p n).2.port p).fifoSecond = !(s.port p).fifoSecond := by
  unfold State.vqFifo
  dsimp only
  split
  · rw [State.port_setPort_self]
  · rw [State.vqPop_fifoSecond, State.port_setPort_self]

end queue

/-! ### The Ledger's entry words (R587) -/

section entry
variable (s : State) (p : HostPort) (k : Nat)

/-- ENTRY_0 latches the selected slot and reads its first word. -/
theorem State.entryRead_first : (s.entryRead p 0).1 = wordOf (natAt (s.ledgerSlot (s.port p).ldgSel) 0 4) := by
  have hwords : latchWords (A.LDG_ENTRY 0) (s.ledgerSlot (s.port p).ldgSel) 8 =
      (A.LDG_ENTRY 0, wordOf (natAt (s.ledgerSlot (s.port p).ldgSel) 0 4)) ::
        [1, 2, 3, 4, 5, 6, 7].map
          (fun i => (A.LDG_ENTRY 0 + i, wordOf (natAt (s.ledgerSlot (s.port p).ldgSel) (4 * i) 4))) := rfl
  simp only [State.entryRead, if_true, hwords]
  exact State.latched_latch_head _ _ _ _ _ (by simp)

/-- The other entry words read the latch. -/
theorem State.entryRead_latched (hk : k ≠ 0) : (s.entryRead p k).1 = s.latched p (A.LDG_ENTRY k) := by
  simp only [State.entryRead, if_neg hk]

theorem State.entryRead_ldgSel : ((s.entryRead p k).2.port p).ldgSel =
    if k = 7 then min 4095 ((s.port p).ldgSel + 1) else (s.port p).ldgSel := by
  have hlatch : ∀ l, ((s.latch p l).port p).ldgSel = (s.port p).ldgSel := fun l => by rw [State.port_latch_self]
  by_cases h7 : k = 7
  · subst h7
    simp [State.entryRead]
  · by_cases h0 : k = 0
    · simp [State.entryRead, h0, hlatch]
    · simp [State.entryRead, h0, h7]

theorem State.entryRead_frame : (s.entryRead p k).2 = { s with hif := (s.entryRead p k).2.hif } := by
  have hlatch : ∀ l, s.latch p l = { s with hif := (s.latch p l).hif } := fun l => State.setPort_eq s p _
  simp only [State.entryRead]
  split
  · rw [State.setPort_eq]
    split
    · rw [hlatch]
    · rfl
  · split
    · exact hlatch _
    · rfl

end entry

/-! ### The commands -/

theorem exec_faceReadLatch (s : State) (p : HostPort) (f : Face) :
    exec (.faceReadLatch p f) s = .next (s.still (s.hostRead p (A.STR_F0_SEC_HI (4 * faceIndex f)))) := rfl

theorem exec_multiwordHiRead (s : State) (p : HostPort) (a : Nat) :
    exec (.multiwordHiRead p a) s = .next (s.still (s.hostRead p a)) := rfl

theorem exec_vqEntryRead (s : State) (p : HostPort) (n : Nat) :
    exec (.vqEntryRead p n) s = .next (s.still (s.hostRead p (A.VQ_Vn_ENTRY_HI n))) := rfl

theorem exec_vqFifoRead (s : State) (p : HostPort) (n : Nat) :
    exec (.vqFifoRead p n) s = .next (s.still (s.hostRead p (A.VQ_Vn_FIFO n))) := rfl

theorem exec_mbxDataRead (s : State) (p : HostPort) :
    exec (.mbxDataRead p) s = .next (s.still (s.hostRead p A.PIPE_MBX_DATA)) := rfl

theorem exec_ldgEntryRead (s : State) (p : HostPort) (k : Nat) :
    exec (.ldgEntryRead p k) s = .next (s.still (s.hostRead p (A.LDG_ENTRY k))) := rfl

section reads
variable {s : State} {p : HostPort} (h : s.hostReady p = true)
include h

/-- A read of a Face's SEC_HI word latches the Face (R52, R699). -/
theorem State.hostRead_face (hup : s.up .time = true) (f : Face) :
    s.hostRead p (A.STR_F0_SEC_HI (4 * faceIndex f)) =
      (s.latchFace p f).returned p ((s.latchFace p f).latched p (A.STR_F0_SEC_HI (4 * faceIndex f))) := by
  cases f <;> exact State.hostRead_effect (x := (_, s.latchFace p _)) h (by decide) (State.readable_up hup) rfl

/-- A read of ENTRY_HI takes the oldest entry (R111). -/
theorem State.hostRead_entryHi (hup : s.up .time = true) {n : Nat} (hn : n < 8) :
    s.hostRead p (A.VQ_Vn_ENTRY_HI n) = (s.vqPop p n).2.returned p (s.vqPop p n).1 := by
  interval_cases n <;> exact State.hostRead_effect h (by decide) (State.readable_up hup) rfl

theorem State.hostRead_fifo (hup : s.up .time = true) {n : Nat} (hn : n < 8) :
    s.hostRead p (A.VQ_Vn_FIFO n) = (s.vqFifo p n).2.returned p (s.vqFifo p n).1 := by
  interval_cases n <;> exact State.hostRead_effect h (by decide) (State.readable_up hup) rfl

/-- A read of MBX_DATA takes four bytes (R364). -/
theorem State.hostRead_mailbox (hup : s.up .pipe = true) :
    s.hostRead p A.PIPE_MBX_DATA = s.mailPop.2.returned p s.mailPop.1 :=
  State.hostRead_effect h (by decide) (State.readable_up hup) rfl

/-- AON answers whenever the port does (R601, R709). -/
theorem State.hostRead_ledger {k : Nat} (hk : k < 8) :
    s.hostRead p (A.LDG_ENTRY k) = (s.entryRead p k).2.returned p (s.entryRead p k).1 := by
  interval_cases k <;> exact State.hostRead_effect h (by decide) rfl rfl

end reads

/-- Settles O25: each read is the engine's, and the word's own rule says what it latches, takes and returns. -/
theorem readsReturnAndLatch : Obligations.ReadsReturnAndLatch := by
  intro s p h
  simp only [exec_faceReadLatch, exec_multiwordHiRead, exec_vqEntryRead, exec_vqFifoRead, exec_mbxDataRead,
    exec_ldgEntryRead]
  refine ⟨fun hup f u hu => ?_, fun a len htb hr he hm => ?_, fun hup n hn => ⟨fun x hx => ?_, fun x hx => ?_⟩,
    fun hup => ⟨fun hm => ?_, fun hm => ?_⟩, fun k hk x hx => ?_⟩
  · subst hu
    exact ⟨by rw [State.hostRead_face h hup], by rw [State.latchFace, State.port_latch_self],
      State.setPort_eq _ _ _, State.port_setPort_other _ _ _⟩
  · rw [State.hostRead_hi h htb hr he hm]
  · subst hx
    exact ⟨by rw [State.hostRead_entryHi h hup hn], s.vqPop_empty p, fun hq _ => s.vqPop_oldest p hn hq⟩
  · subst hx
    exact ⟨by rw [State.hostRead_fifo h hup hn], s.vqFifo_fifoSecond p n⟩
  · rw [State.hostRead_mailbox h hup, State.mailPop, hm]
  · obtain ⟨b, rest, hb⟩ := List.exists_cons_of_ne_nil hm
    rw [State.hostRead_mailbox h hup, State.mailPop, hb]
  · subst hx
    refine ⟨by rw [State.hostRead_ledger h hk], ?_, s.entryRead_latched p k, s.entryRead_ldgSel p k,
      s.entryRead_frame p k⟩
    rintro rfl
    exact s.entryRead_first p

end Sys2Proof.Machine
end


section
/-! SUPPORT. The MACs: what the operations on one port touch, and what they make of its frames, counters and status bits
(R264, R265, R284, R286, R293 to R299, R317). -/

namespace Sys2Proof.Machine

/-! ### The reach of an operation on a port -/

/-- `u` follows `s` by an operation on port `p` that writes, outside the listed banks, only the listed words of the port's
own bank; no other port's frames change, and every event raised stays raised. -/
structure State.PortStep (s u : State) (p : Nat) (banks ws : List Nat) : Prop where
  words : ∀ a, a / 256 ∉ banks → (∀ w ∈ ws, a ≠ (0x0B + p) * 256 + w) → u.rd a = s.rd a
  ports : ∀ q, q ≠ p → u.eth q = s.eth q
  raised : s.raised ⊆ u.raised

section reach
variable {s t u : State} {p : Nat} {banks ws cs vs : List Nat}

theorem State.PortStep.refl (s : State) (p : Nat) (banks ws : List Nat) : s.PortStep s p banks ws :=
  ⟨fun _ _ _ => rfl, fun _ _ => rfl, List.Subset.refl _⟩

theorem State.PortStep.trans (h1 : s.PortStep t p banks ws) (h2 : t.PortStep u p banks ws) :
    s.PortStep u p banks ws :=
  ⟨fun a hb hw => (h2.words a hb hw).trans (h1.words a hb hw), fun q hq => (h2.ports q hq).trans (h1.ports q hq),
    List.Subset.trans h1.raised h2.raised⟩

theorem State.PortStep.mono (h : s.PortStep u p banks ws) (hb : banks ⊆ cs) (hw : ws ⊆ vs) :
    s.PortStep u p cs vs :=
  ⟨fun a hc hv => h.words a (fun hm => hc (hb hm)) (fun w hm => hv w (hw hm)), h.ports, h.raised⟩

/-- A further operation of no wider reach. -/
theorem State.PortStep.next (h1 : s.PortStep t p banks ws) (h2 : t.PortStep u p cs vs) (hb : cs ⊆ banks := by decide)
    (hw : vs ⊆ ws := by decide) : s.PortStep u p banks ws := h1.trans (h2.mono hb hw)

/-- A word of the port's bank that is not listed is kept. -/
theorem State.PortStep.rd (h : s.PortStep u p banks ws) {w : Nat} (hw : w < 256) (hb : 0x0B + p ∉ banks)
    (hn : w ∉ ws) : u.rd ((0x0B + p) * 256 + w) = s.rd ((0x0B + p) * 256 + w) := by
  refine h.words _ ?_ fun v hv he => hn ?_
  · rwa [show ((0x0B + p) * 256 + w) / 256 = 0x0B + p by omega]
  · rwa [show w = v by omega]

theorem State.PortStep.val (h : s.PortStep u p banks ws) {w : Nat} (hw : w < 256) (hb : 0x0B + p ∉ banks)
    (hn : w ∉ ws) : u.val ((0x0B + p) * 256 + w) = s.val ((0x0B + p) * 256 + w) :=
  congrArg BitVec.toNat (h.rd hw hb hn)

theorem State.PortStep.banksKept (h : s.PortStep u p banks ws) (hw : ∀ w ∈ ws, w < 256) :
    s.banksKept u ((0x0B + p) :: banks) := by
  intro a ha
  obtain ⟨hp, hb⟩ := not_or.1 (mt List.mem_cons.2 ha)
  exact h.words a hb fun w hm he => hp (by have := hw w hm; omega)

/-- An update that writes no word, changes no port's frames and drops no event. -/
theorem State.PortStep.of_regs (hr : u.regs = s.regs) (he : u.net.ports = s.net.ports) (hs : s.raised ⊆ u.raised)
    (p : Nat) (banks ws : List Nat) : s.PortStep u p banks ws :=
  ⟨fun a _ _ => State.rd_of_regs hr a, fun q _ => by rw [State.eth, State.eth, he], hs⟩

theorem State.PortStep.setVal (s : State) (p w n : Nat) :
    s.PortStep (s.setVal ((0x0B + p) * 256 + w) n) p [] [w] :=
  ⟨fun _ _ hw => State.rd_setVal_ne s (hw w (by simp)) n, fun _ _ => rfl, List.Subset.refl _⟩

theorem State.PortStep.put (s : State) (p w lo width n : Nat) :
    s.PortStep (s.put ⟨(0x0B + p) * 256 + w, lo, width⟩ n) p [] [w] := State.PortStep.setVal s p w _

theorem State.PortStep.setBit (s : State) (p w lo width : Nat) (b : Bool) :
    s.PortStep (s.setBit ⟨(0x0B + p) * 256 + w, lo, width⟩ b) p [] [w] := State.PortStep.put s p w lo width _

/-- A write of a word of another bank. -/
theorem State.PortStep.put_bank (s : State) (p : Nat) (f : Fld) (n : Nat) :
    s.PortStep (s.put f n) p [f.addr / 256] [] :=
  ⟨fun _ hb _ => State.rd_put_ne s (fun he => hb (by simp [he])) n, fun _ _ => rfl, List.Subset.refl _⟩

theorem State.PortStep.setEth (s : State) (hp : p < 4) (e : EthPort) : s.PortStep (s.setEth p e) p [] [] :=
  ⟨fun _ _ _ => rfl, fun q hq => by rw [State.eth_setEth s hp, if_neg hq], List.Subset.refl _⟩

theorem State.PortStep.raise (s : State) (p : Nat) (e : EventId) : s.PortStep (s.raise e) p [] [] :=
  State.PortStep.of_regs (s := s) (u := s.raise e) rfl rfl (List.subset_append_left _ _) p [] []

theorem State.PortStep.setCtxs (s : State) (p : Nat) (l : List Ctx) : s.PortStep (s.setCtxs l) p [] [] :=
  State.PortStep.of_regs (s := s) (u := s.setCtxs l) rfl rfl (List.Subset.refl _) p [] []

theorem State.PortStep.each {α : Type} {f : α → State → State} {l : List α}
    (h : ∀ a (t : State), t.PortStep (f a t) p banks ws) (s : State) : s.PortStep (s.each l f) p banks ws :=
  State.each_keeps (P := fun t => s.PortStep t p banks ws) (fun a _ t ht => ht.trans (h a t))
    (State.PortStep.refl s p banks ws)

end reach

/-! ### Status bits -/

/-- A flag of MACn.STAT. -/
def statFld (p k : Nat) : Fld := ⟨A.MAC_STAT p, k, 1⟩

/-- A status bit after a write of one. -/
theorem State.bit_setBit_stat (s : State) (p : Nat) {k : Nat} (hk : k < 32) (j : Nat) (b : Bool) :
    (s.setBit (statFld p k) b).bit (statFld p j) = if j = k then b else s.bit (statFld p j) := by
  split
  · next h => subst h; exact State.bit_setBit_self s _ b rfl hk
  · next h =>
    refine State.bit_setBit_apart s b (by simp only [statFld]; omega) (Or.inr ?_)
    simp only [statFld]
    omega

theorem State.PortStep.stat {s u : State} {p : Nat} {banks ws : List Nat} (h : s.PortStep u p banks ws)
    (hb : 0x0B + p ∉ banks) (hn : 1 ∉ ws) (k : Nat) : u.bit (statFld p k) = s.bit (statFld p k) := by
  have hv : u.val (A.MAC_STAT p) = s.val (A.MAC_STAT p) := h.val (by decide) hb hn
  rw [State.bit, State.bit, State.get, State.get, statFld, hv]

theorem State.PortStep.setStat (s : State) (p k : Nat) (b : Bool) :
    s.PortStep (s.setBit (statFld p k) b) p [] [1] := State.PortStep.setBit s p 1 k 1 b

@[simp] theorem State.eth_setBit (s : State) (f : Fld) (b : Bool) (q : Nat) : (s.setBit f b).eth q = s.eth q := rfl
@[simp] theorem State.eth_raise (s : State) (e : EventId) (q : Nat) : (s.raise e).eth q = s.eth q := rfl

theorem State.eth_setEth_self (s : State) {p : Nat} (hp : p < 4) (e : EthPort) : (s.setEth p e).eth p = e := by
  rw [State.eth_setEth s hp, if_pos rfl]

/-! ### Counters (R286 to R288, R302) -/

section macCount
variable (s : State) {p : Nat} (hp : p < 4) {i : Nat} (hi : i < 48) (k : Nat)

include hp in
theorem State.macCount_step : s.PortStep (s.macCount p i k) p [] [0x0B, 0x0C, 0x80 + i] := by
  have hv : s.PortStep ((s.setEth p { s.eth p with counted := (s.tally, s.countsNow p ++ [(i, k)]) }).setVal
      (A.MAC_CNT_i p i) (s.val (A.MAC_CNT_i p i) + k)) p [] [0x0B, 0x0C, 0x80 + i] :=
    ((State.PortStep.setEth s hp _).mono (by simp) (by simp)).trans
      ((State.PortStep.setVal _ p (0x80 + i) _).mono (by simp) (by simp))
  unfold State.macCount
  dsimp only
  split
  · refine (hv.trans ?_).trans
      ((State.PortStep.raise _ p _).mono (by simp) (by simp))
    split
    · exact (State.PortStep.setBit _ p 0x0B i 1 true).mono (List.Subset.refl _) (by simp)
    · exact (State.PortStep.setBit _ p 0x0C (i - 32) 1 true).mono (List.Subset.refl _) (by simp)
  · exact hv

include hp in
/-- A count notes itself and leaves the port's frames. -/
theorem State.macCount_eth : ∃ c, (s.macCount p i k).eth p = { s.eth p with counted := c } := by
  unfold State.macCount
  dsimp only
  split <;> exact ⟨_, State.eth_setEth_self s hp _⟩

include hi in
theorem State.macCount_val : (s.macCount p i k).val (A.MAC_CNT_i p i) = (s.val (A.MAC_CNT_i p i) + k) % 2 ^ 32 := by
  unfold State.macCount
  dsimp only
  split
  · rw [State.val_raise, State.setBit, State.put, State.val_setVal_ne, State.val_setVal_self]
    split
    · simp only [A.MAC_CNT_i, A.MAC_CNT_HALF_A]; omega
    · simp only [A.MAC_CNT_i, A.MAC_CNT_HALF_B]; omega
  · exact State.val_setVal_self _ _ _

end macCount

/-- A step that counts nothing in counter `i` keeps it. -/
theorem State.PortStep.cnt {s u : State} {p : Nat} {banks ws : List Nat} (h : s.PortStep u p banks ws)
    (hb : 0x0B + p ∉ banks) {i : Nat} (hi : i < 48) (hn : 0x80 + i ∉ ws) :
    u.val (A.MAC_CNT_i p i) = s.val (A.MAC_CNT_i p i) := h.val (by omega) hb hn

/-! ### Contexts that end (R346, R354) -/

theorem State.outcome_step (s : State) (p : Nat) (c : Ctx) {o : Nat} (ho : o < 128) :
    s.PortStep (s.outcome c o) p [0x11] [] := by
  have hput : ∀ (t : State) (f : Fld) (n : Nat), f.addr / 256 = 0x11 → t.PortStep (t.put f n) p [0x11] [] :=
    fun t f n hf => hf ▸ State.PortStep.put_bank t p f n
  have hraise : ∀ (t : State) (b : Bool) (e : EventId), t.PortStep (t.raiseIf b e) p [0x11] [] := by
    intro t b e
    cases b
    · exact State.PortStep.refl _ _ _ _
    · exact (State.PortStep.raise t p e).mono (by simp) (by simp)
  unfold State.outcome
  split
  · exact State.PortStep.refl _ _ _ _
  · dsimp only
    have h1 : s.PortStep (s.count (wordFld (A.PIPE_OUT_c o)) 1) p [0x11] [] :=
      hput s _ _ (by simp only [wordFld, A.PIPE_OUT_c]; omega)
    generalize s.count (wordFld (A.PIPE_OUT_c o)) 1 = s1 at h1 ⊢
    have h2 : s.PortStep (if o = outVoid then s1.seenOnce F.PIPE_STAT_VOID_SEEN Ev.PIPE_VOID
        else if o = outExpired then s1.seenOnce F.PIPE_STAT_EXPIRED_SEEN Ev.PIPE_EXPIRED else s1) p [0x11] [] := by
      split
      · exact h1.trans ((hput s1 _ _ (by decide)).trans (hraise _ _ _))
      · split
        · exact h1.trans ((hput s1 _ _ (by decide)).trans (hraise _ _ _))
        · exact h1
    generalize (if o = outVoid then s1.seenOnce F.PIPE_STAT_VOID_SEEN Ev.PIPE_VOID
        else if o = outExpired then s1.seenOnce F.PIPE_STAT_EXPIRED_SEEN Ev.PIPE_EXPIRED else s1) = s2 at h2 ⊢
    have h3 : s.PortStep (if s2.ctxInUse < 448 then s2.put F.PIPE_STAT_CTX_FULL 0 else s2) p [0x11] [] := by
      split
      · exact h2.trans (hput s2 _ _ (by decide))
      · exact h2
    generalize (if s2.ctxInUse < 448 then s2.put F.PIPE_STAT_CTX_FULL 0 else s2) = s3 at h3 ⊢
    split
    · rw [State.trace_eq]
      exact ⟨h3.words, h3.ports, h3.raised⟩
    · exact ⟨h3.words, h3.ports, h3.raised⟩

theorem State.endAll_step (s : State) (p : Nat) (f : Ctx → Bool) {o : Nat} (ho : o < 128) :
    s.PortStep (s.endAll f o) p [0x11] [] :=
  State.PortStep.trans (t := s.setCtxs (s.net.pipe.ctxs.filter (fun c => !f c)))
    ((State.PortStep.setCtxs s p _).mono (by simp) (List.Subset.refl _))
    (State.PortStep.each (fun c t => t.outcome_step p c ho) _)

theorem State.endAll_eth (s : State) (f : Ctx → Bool) {o : Nat} (ho : o < 128) (q : Nat) :
    (s.endAll f o).eth q = s.eth q := (s.endAll_step (q + 1) f ho).ports q (by omega)

/-! ### Frames that are discarded (R293, R295) -/

/-- The half-range words and counter `i` of a port. -/
def countWords (i : Nat) : List Nat := [0x0B, 0x0C, 0x80 + i]

section discards
variable (s : State) {p : Nat} (hp : p < 4)
include hp

theorem State.discardUncommitted_step {o : Nat} (ho : o < 128) :
    s.PortStep (s.discardUncommitted p o) p [0x11] (countWords 43) := by
  unfold State.discardUncommitted State.discardOf State.countDiscards
  exact (((State.PortStep.setEth s hp _).mono (by simp) (by simp)).trans
    ((State.macCount_step _ hp _).mono (by simp) (List.Subset.refl _))).trans
    ((State.endAll_step _ p _ ho).mono (List.Subset.refl _) (by simp))

theorem State.discardUncommitted_eth {o : Nat} (ho : o < 128) :
    ∃ c, (s.discardUncommitted p o).eth p = { s.eth p with relays := [], counted := c } := by
  unfold State.discardUncommitted State.discardOf State.countDiscards
  obtain ⟨c, hc⟩ := State.macCount_eth (s.setEth p { s.eth p with relays := [] }) hp (i := 43)
    ((s.net.pipe.ctxs.filter (fun c => c.stagedOn p)).length + (s.eth p).relays.length)
  exact ⟨c, by rw [State.endAll_eth _ _ ho, hc, State.eth_setEth_self s hp]⟩

theorem State.discardSlotted_step : s.PortStep (s.discardSlotted p) p [0x11] (countWords 43) := by
  unfold State.discardSlotted State.countDiscards
  exact ((State.discardUncommitted_step s hp (by decide)).trans
    ((State.PortStep.setEth _ hp _).mono (by simp) (by simp))).trans
    ((State.macCount_step _ hp _).mono (by simp) (List.Subset.refl _))

/-- No slotted frame is left. -/
theorem State.discardSlotted_eth : ∃ c, (s.discardSlotted p).eth p =
    { s.eth p with relays := [], committed := [], wire := [], counted := c } := by
  unfold State.discardSlotted State.countDiscards
  dsimp only
  obtain ⟨c, hc⟩ := State.discardUncommitted_eth s hp (o := outSlotDiscard) (by decide)
  obtain ⟨c', hc'⟩ := State.macCount_eth ((s.discardUncommitted p outSlotDiscard).setEth p
    { (s.discardUncommitted p outSlotDiscard).eth p with committed := [], wire := [] }) hp (i := 43)
    (((s.discardUncommitted p outSlotDiscard).eth p).committed.length +
      ((s.discardUncommitted p outSlotDiscard).eth p).wire.length)
  exact ⟨c', by rw [hc', State.eth_setEth_self _ hp, hc]⟩

variable (f : PlainFrame → Bool)

theorem State.flushPlain_step : s.PortStep (s.flushPlain p f) p [] (countWords 44) :=
  ((State.PortStep.setEth s hp _).mono (by simp) (by simp)).trans (State.macCount_step _ hp _)

theorem State.flushPlain_eth : ∃ c, (s.flushPlain p f).eth p =
    { s.eth p with plain := (s.eth p).plain.filter (fun x => !f x), counted := c } := by
  obtain ⟨c, hc⟩ := State.macCount_eth (s.setEth p { s.eth p with plain := (s.eth p).plain.filter (fun x => !f x) })
    hp (i := 44) ((s.eth p).plain.countP f)
  exact ⟨c, by rw [State.flushPlain, hc, State.eth_setEth_self s hp]⟩

omit hp in
theorem State.flushPlain_val : (s.flushPlain p f).val (A.MAC_CNT_i p 44) =
    (s.val (A.MAC_CNT_i p 44) + (s.eth p).plain.countP f) % 2 ^ 32 := State.macCount_val _ (by decide) _

end discards

/-! ### Pause, calibration, and the port's reference slot -/

theorem State.pauseEnds_eq (s : State) {p : Nat} (hp : p < 4) : ∃ x, ∃ t : State,
    t.eth p = { s.eth p with paused := x } ∧ s.PortStep t p [] [] ∧ s.pauseEnds p = t.setBit (statFld p 7) false := by
  unfold State.pauseEnds
  cases h : (s.eth p).paused with
  | none => exact ⟨none, s, by rw [← h], State.PortStep.refl _ _ _ _, rfl⟩
  | some x =>
    dsimp only
    by_cases hb : s.bit (F.MAC_STAT_PAUSED p) = true
    · rw [if_pos hb]
      exact ⟨_, _, State.eth_setEth_self s hp _, State.PortStep.setEth s hp _, rfl⟩
    · rw [if_neg hb]
      exact ⟨some x, s, by rw [← h], State.PortStep.refl _ _ _ _, rfl⟩

section pause
variable (s : State) {p : Nat} (hp : p < 4)
include hp

theorem State.pauseEnds_step : s.PortStep (s.pauseEnds p) p [] [1] := by
  obtain ⟨x, t, -, ht, he⟩ := s.pauseEnds_eq hp
  rw [he]
  exact (ht.mono (by simp) (by simp)).trans (State.PortStep.setStat t p 7 false)

theorem State.pauseEnds_eth : ∃ x, (s.pauseEnds p).eth p = { s.eth p with paused := x } := by
  obtain ⟨x, t, ht, -, he⟩ := s.pauseEnds_eq hp
  exact ⟨x, by rw [he, State.eth_setBit, ht]⟩

theorem State.pauseEnds_stat (k : Nat) :
    (s.pauseEnds p).bit (statFld p k) = if k = 7 then false else s.bit (statFld p k) := by
  obtain ⟨x, t, -, ht, he⟩ := s.pauseEnds_eq hp
  rw [he, State.bit_setBit_stat t p (by decide), ht.stat (by simp) (by simp)]

end pause

theorem State.latCancel_step (s : State) (p reason : Nat) : s.PortStep (s.latCancel p reason) p [] [0x61, 0x63] := by
  unfold State.latCancel State.latAbort State.latResult
  split
  · exact ((((State.PortStep.setVal s p 0x63 _).mono (by simp) (by simp)).trans
      ((State.PortStep.setBit _ p 0x61 1 1 false).mono (by simp) (by simp))).trans
      ((State.PortStep.setBit _ p 0x61 10 1 true).mono (by simp) (by simp))).trans
      ((State.PortStep.raise _ p _).mono (by simp) (by simp))
  · exact State.PortStep.refl _ _ _ _

theorem State.latCancel_eth (s : State) (p reason q : Nat) : (s.latCancel p reason).eth q = s.eth q := by
  unfold State.latCancel
  split
  · simp [State.eth, State.latAbort, State.latResult]
  · rfl

/-- A loss on a port's reference slot stays in the bank of the references. -/
theorem State.netLoss_step (s : State) {n : Nat} (hn : n < 12) (p : Nat) : s.PortStep (s.netLoss n) p [8] [] := by
  have hput : ∀ (t : State) (f : Fld) (k : Nat), f.addr / 256 = 8 → t.PortStep (t.put f k) p [8] [] :=
    fun t f k hf => hf ▸ State.PortStep.put_bank t p f k
  have hslot : ∀ (t : State) (x : RefSlot), t.PortStep (t.setSlot n x) p [8] [] :=
    fun t x => State.PortStep.of_regs (s := t) (u := t.setSlot n x) rfl rfl (List.Subset.refl _) p [8] []
  have hstat : ∀ lo w, (⟨A.REFM_Sn_STAT n, lo, w⟩ : Fld).addr / 256 = 8 := fun _ _ => by
    simp only [A.REFM_Sn_STAT]; omega
  have hacq : s.PortStep (s.toAcquiring n) p [8] [] := by
    unfold State.toAcquiring
    dsimp only
    have hcount : s.PortStep (if s.slotState n = slotQualified then s.count (wordFld (A.REFM_Sn_FAULTS n)) 1 else s)
        p [8] [] := by
      split
      · exact hput s _ _ (by simp only [wordFld, A.REFM_Sn_FAULTS]; omega)
      · exact State.PortStep.refl _ _ _ _
    exact ((hcount.trans (hslot _ _)).trans (hput _ _ _ (hstat 0 2))).trans (hput _ _ _ (hstat 4 1))
  unfold State.netLoss State.lossOfSignal
  dsimp only
  split
  · have hseen := fun x => ((hacq.trans (hput _ (F.REFM_Sn_STAT_LOS_SEEN n) (flagVal true) (hstat 16 1))).trans
      ((State.PortStep.raise _ p Ev.REF_LOS).mono (by simp) (by simp))).trans (hslot _ x)
    split
    · exact ((hseen _).trans (hput _ _ _ (hstat 17 1))).trans (hput _ _ _ (hstat 10 1))
    · exact hseen _
  · exact State.PortStep.refl _ _ _ _

theorem State.netLoss_eth (s : State) {n : Nat} (hn : n < 12) (q : Nat) : (s.netLoss n).eth q = s.eth q :=
  (s.netLoss_step hn (q + 1)).ports q (by omega)

end Sys2Proof.Machine
end


section
/-! SUPPORT. A link that goes and one that comes (R264, R265, R293 to R298, R317). -/

namespace Sys2Proof.Machine

/-! ### The link goes down (R265) -/

section linkDown
variable (s : State) (p : Nat)

/-- LINK_UP clears, and LINK_DOWN counts, is seen and is raised. -/
def State.lossNoted : State :=
  (((s.put (F.MAC_STAT_LINK_UP p) 0).macCount p 46 1).setBit (F.MAC_STAT_DOWN_SEEN p) true).raise Ev.LINK_DOWN

/-- Nothing slotted is left, and a received pause is over. -/
def State.lossCleared : State := (s.lossNoted p).discardSlotted p |>.pauseEnds p

/-- Nothing held over from an earlier loss is left, no PAUSE waits, and XOFF is released. -/
def State.linkCut : State :=
  let t := (s.lossCleared p).flushPlain p (fun x => ((s.lossCleared p).eth p).holdOpen && x.held)
  (t.setEth p { t.eth p with pauseOut := none, xoff := {}, good := 0 }).setBit (F.MAC_STAT_XOFF p) false

/-- A hold window opens for the frames that are left, or they go (R295, R296). -/
def State.linkHeld (opened : Bool) : State :=
  if s.val (A.MAC_HOLD_WINDOW p) = 0 ∧ opened = false then s.flushPlain p (fun _ => true)
  else
    (s.setEth p { s.eth p with
      holdOpen := true, plain := (s.eth p).plain.map (fun x => { x with held := true }) }).setBit
      (F.MAC_STAT_HOLDING p) true

/-- The words that the loss of a link writes: STAT, and the counters of discards, flushes and losses. -/
def lossWords : List Nat := [0x01, 0x0B, 0x0C, 0x80 + 43, 0x80 + 44, 0x80 + 46]

variable {p} (hp : p < 4)
include hp

theorem State.lossNoted_step : s.PortStep (s.lossNoted p) p [0x11] lossWords :=
  ((((State.PortStep.refl s p _ _).next (.setStat s p 0 false)).next (State.macCount_step _ hp (i := 46) 1)).next
    (.setStat _ p 16 true)).next (.raise _ p Ev.LINK_DOWN)

theorem State.lossNoted_eth : ∃ c, (s.lossNoted p).eth p = { s.eth p with counted := c } := by
  obtain ⟨c, h⟩ := State.macCount_eth (s.put (F.MAC_STAT_LINK_UP p) 0) hp (i := 46) 1
  exact ⟨c, by rw [State.lossNoted, State.eth_raise, State.eth_setBit, h]; rfl⟩

theorem State.lossNoted_stat (k : Nat) : (s.lossNoted p).bit (statFld p k) =
    if k = 16 then true else if k = 0 then false else s.bit (statFld p k) := by
  have hup : (s.put (F.MAC_STAT_LINK_UP p) 0).bit (statFld p k) = if k = 0 then false else s.bit (statFld p k) :=
    State.bit_setBit_stat s p (by decide) k false
  have hseen := fun t : State => State.bit_setBit_stat t p (k := 16) (by decide) k true
  rw [State.lossNoted, State.bit_raise, show F.MAC_STAT_DOWN_SEEN p = statFld p 16 from rfl, hseen,
    (State.macCount_step _ hp (i := 46) 1).stat (by simp) (by decide), hup]

omit hp in
theorem State.lossNoted_count : (s.lossNoted p).val (A.MAC_CNT_i p 46) = (s.val (A.MAC_CNT_i p 46) + 1) % 2 ^ 32 := by
  have hup : (s.put (F.MAC_STAT_LINK_UP p) 0).val (A.MAC_CNT_i p 46) = s.val (A.MAC_CNT_i p 46) :=
    (State.PortStep.put s p 1 0 1 0).cnt (by simp) (by decide) (by decide)
  rw [State.lossNoted, State.val_raise, show F.MAC_STAT_DOWN_SEEN p = statFld p 16 from rfl,
    (State.PortStep.setStat _ p 16 true).cnt (by simp) (by decide) (by decide), State.macCount_val _ (by decide), hup]

omit hp in
theorem State.lossNoted_raises : Ev.LINK_DOWN ∈ (s.lossNoted p).raised :=
  List.mem_append_right _ (List.mem_singleton_self Ev.LINK_DOWN)

theorem State.lossCleared_step : (s.lossNoted p).PortStep (s.lossCleared p) p [0x11] (1 :: countWords 43) :=
  ((State.PortStep.refl _ p _ _).next (State.discardSlotted_step _ hp)).next (State.pauseEnds_step _ hp)

theorem State.lossCleared_eth : ∃ c x, (s.lossCleared p).eth p =
    { s.eth p with relays := [], committed := [], wire := [], paused := x, counted := c } := by
  obtain ⟨c1, h1⟩ := s.lossNoted_eth hp
  obtain ⟨c2, h2⟩ := State.discardSlotted_eth (s.lossNoted p) hp
  obtain ⟨x, h3⟩ := State.pauseEnds_eth ((s.lossNoted p).discardSlotted p) hp
  exact ⟨c2, x, by rw [State.lossCleared, h3, h2, h1]⟩

theorem State.lossCleared_stat (k : Nat) :
    (s.lossCleared p).bit (statFld p k) = if k = 7 then false else (s.lossNoted p).bit (statFld p k) := by
  rw [State.lossCleared, State.pauseEnds_stat _ hp, (State.discardSlotted_step _ hp).stat (by simp; omega) (by decide)]

theorem State.linkCut_step : (s.lossCleared p).PortStep (s.linkCut p) p [0x11] (1 :: countWords 44) :=
  (((State.PortStep.refl _ p _ _).next (State.flushPlain_step _ hp _)).next (.setEth _ hp _)).next
    (.setStat _ p 6 false)

theorem State.linkCut_stat (k : Nat) :
    (s.linkCut p).bit (statFld p k) = if k = 6 then false else (s.lossCleared p).bit (statFld p k) := by
  unfold State.linkCut
  dsimp only
  rw [show F.MAC_STAT_XOFF p = statFld p 6 from rfl, State.bit_setBit_stat _ _ (by decide),
    (State.PortStep.setEth _ hp _).stat (by simp) (by simp), (State.flushPlain_step _ hp _).stat (by simp) (by decide)]

/-- The port as the cut leaves it. -/
theorem State.linkCut_eth : ∃ c x, (s.linkCut p).eth p = { s.eth p with
    relays := [], committed := [], wire := [], paused := x, pauseOut := none, xoff := {}, good := 0
    plain := (s.eth p).plain.filter (fun y => !((s.eth p).holdOpen && y.held)), counted := c } := by
  obtain ⟨c1, x, h1⟩ := s.lossCleared_eth hp
  obtain ⟨c2, h2⟩ := State.flushPlain_eth (s.lossCleared p) hp (fun y => ((s.lossCleared p).eth p).holdOpen && y.held)
  unfold State.linkCut
  dsimp only
  exact ⟨c2, x, by rw [State.eth_setBit, State.eth_setEth_self _ hp, h2, h1]⟩

omit hp in
/-- The loss of a link: noted, cleared and cut, then the hold window, then the reference slot. -/
theorem State.linkDown_parts (p : Nat) :
    s.linkDown p = ((s.linkCut p).linkHeld p ((s.lossCleared p).eth p).holdOpen).netLoss (8 + p) := rfl

theorem State.linkDown_eq :
    s.linkDown p = ((s.linkCut p).linkHeld p (s.eth p).holdOpen).netLoss (8 + p) := by
  obtain ⟨c, x, h⟩ := s.lossCleared_eth hp
  rw [State.linkDown_parts, h]

theorem State.linkCut_reach : s.PortStep (s.linkCut p) p [0x11] lossWords :=
  ((s.lossNoted_step hp).next (s.lossCleared_step hp)).next (s.linkCut_step hp)

/-- A loss counts once (R265). -/
theorem State.linkCut_count : (s.linkCut p).val (A.MAC_CNT_i p 46) = (s.val (A.MAC_CNT_i p 46) + 1) % 2 ^ 32 := by
  rw [(s.linkCut_step hp).cnt (by simp; omega) (by decide) (by decide),
    (s.lossCleared_step hp).cnt (by simp; omega) (by decide) (by decide), s.lossNoted_count]

theorem State.linkCut_raises : Ev.LINK_DOWN ∈ (s.linkCut p).raised :=
  (((State.PortStep.refl (s.lossNoted p) p [0x11] lossWords).next (s.lossCleared_step hp)).next
    (s.linkCut_step hp)).raised s.lossNoted_raises

theorem State.linkHeld_step (b : Bool) : s.PortStep (s.linkHeld p b) p [0x11] lossWords := by
  unfold State.linkHeld
  split
  · exact (State.PortStep.refl s p _ _).next (State.flushPlain_step _ hp _)
  · exact ((State.PortStep.refl s p _ _).next (.setEth _ hp _)).next (.setStat _ p 9 true)

/-- The window touches the unslotted frames alone. -/
theorem State.linkHeld_eth (b : Bool) : ∃ o l c,
    (s.linkHeld p b).eth p = { s.eth p with holdOpen := o, plain := l, counted := c } := by
  unfold State.linkHeld
  split
  · obtain ⟨c, h⟩ := State.flushPlain_eth s hp (fun _ => true)
    exact ⟨_, _, c, h⟩
  · exact ⟨true, _, (s.eth p).counted, by rw [State.eth_setBit, State.eth_setEth_self s hp]⟩

theorem State.linkHeld_stat (b : Bool) {k : Nat} (hk : k ≠ 9) :
    (s.linkHeld p b).bit (statFld p k) = s.bit (statFld p k) := by
  unfold State.linkHeld
  split
  · exact (State.flushPlain_step _ hp _).stat (by simp) (by decide) k
  · rw [show F.MAC_STAT_HOLDING p = statFld p 9 from rfl, State.bit_setBit_stat _ _ (by decide), if_neg hk]
    exact (State.PortStep.setEth _ hp _).stat (by simp) (by simp) k

theorem State.linkHeld_closed (h : s.val (A.MAC_HOLD_WINDOW p) = 0) : ((s.linkHeld p false).eth p).plain = [] := by
  obtain ⟨c, hc⟩ := State.flushPlain_eth s hp (fun _ => true)
  rw [State.linkHeld, if_pos ⟨h, rfl⟩, hc]
  simp

theorem State.linkHeld_open (b : Bool) (h : s.val (A.MAC_HOLD_WINDOW p) ≠ 0) :
    (s.linkHeld p b).bit (statFld p 9) = true ∧ ((s.linkHeld p b).eth p).holdOpen = true := by
  rw [State.linkHeld, if_neg (fun hc => h hc.1)]
  exact ⟨(State.bit_setBit_stat _ p (by decide) 9 true).trans (if_pos rfl),
    by rw [State.eth_setBit, State.eth_setEth_self s hp]⟩

theorem State.linkHeld_count (b : Bool) :
    (s.linkHeld p b).val (A.MAC_CNT_i p 46) = s.val (A.MAC_CNT_i p 46) := by
  unfold State.linkHeld
  split
  · exact (State.flushPlain_step _ hp _).cnt (by simp) (by decide) (by decide)
  · exact (((State.PortStep.refl s p [] [1]).next (.setEth _ hp _)).next (.setStat _ p 9 true)).cnt (by simp)
      (by decide) (by decide)

/-! The loss as a whole. -/

theorem State.linkDown_step : s.PortStep (s.linkDown p) p [8, 0x11] lossWords := by
  rw [State.linkDown_eq s hp]
  exact (((State.PortStep.refl s p _ _).next (s.linkCut_reach hp)).next (State.linkHeld_step _ hp _)).next
    (State.netLoss_step _ (by omega) p)

theorem State.linkDown_stat {k : Nat} (hk : k ≠ 9) : (s.linkDown p).bit (statFld p k) =
    if k = 6 ∨ k = 7 ∨ k = 0 then false else if k = 16 then true else s.bit (statFld p k) := by
  rw [State.linkDown_eq s hp, (State.netLoss_step _ (by omega) p).stat (by simp; omega) (by simp),
    State.linkHeld_stat _ hp _ hk, s.linkCut_stat hp, s.lossCleared_stat hp, s.lossNoted_stat hp]
  grind

theorem State.linkDown_eth : ∃ c x o l, (s.linkDown p).eth p = { s.eth p with
    relays := [], committed := [], wire := [], paused := x, pauseOut := none, xoff := {}, good := 0, holdOpen := o
    plain := l, counted := c } := by
  obtain ⟨c, x, hc⟩ := s.linkCut_eth hp
  obtain ⟨o, l, c', hc'⟩ := State.linkHeld_eth (s.linkCut p) hp (s.eth p).holdOpen
  exact ⟨c', x, o, l, by rw [State.linkDown_eq s hp, State.netLoss_eth _ (by omega), hc', hc]⟩

theorem State.linkDown_count : (s.linkDown p).val (A.MAC_CNT_i p 46) = (s.val (A.MAC_CNT_i p 46) + 1) % 2 ^ 32 := by
  rw [State.linkDown_eq s hp, (State.netLoss_step _ (by omega) p).cnt (by simp; omega) (by decide) (by simp),
    State.linkHeld_count _ hp, State.linkCut_count s hp]

theorem State.linkDown_raises : Ev.LINK_DOWN ∈ (s.linkDown p).raised := by
  rw [State.linkDown_eq s hp]
  exact (((State.PortStep.refl _ p [8, 0x11] lossWords).next (State.linkHeld_step _ hp _)).next
    (State.netLoss_step _ (by omega) p)).raised (s.linkCut_raises hp)

theorem State.linkCut_window : (s.linkCut p).val (A.MAC_HOLD_WINDOW p) = s.val (A.MAC_HOLD_WINDOW p) :=
  (s.linkCut_reach hp).val (w := 5) (by decide) (by simp; omega) (by decide)

/-- Without a hold window no unslotted frame is left (R295). -/
theorem State.linkDown_closed (h : s.val (A.MAC_HOLD_WINDOW p) = 0) (ho : (s.eth p).holdOpen = false) :
    ((s.linkDown p).eth p).plain = [] := by
  rw [State.linkDown_eq s hp, State.netLoss_eth _ (by omega), ho]
  exact State.linkHeld_closed _ hp (by rwa [State.linkCut_window s hp])

/-- With one it opens (R295). -/
theorem State.linkDown_open (h : s.val (A.MAC_HOLD_WINDOW p) ≠ 0) :
    (s.linkDown p).bit (statFld p 9) = true ∧ ((s.linkDown p).eth p).holdOpen = true := by
  rw [State.linkDown_eq s hp, State.netLoss_eth _ (by omega),
    (State.netLoss_step _ (by omega) p).stat (by simp; omega) (by simp)]
  exact State.linkHeld_open _ hp _ (by rwa [State.linkCut_window s hp])

end linkDown

/-! ### The link comes up (R264, R317) -/

section linkRises
variable (s : State) {p : Nat} (hp : p < 4)
include hp

/-- One sample of the buffer level: XOFF and XOFF_SEEN in STAT, the qualifier and the waiting PAUSE (R276 to R278). -/
theorem State.xoffSample_spec : s.PortStep (s.xoffSample p) p [] [1] ∧
    (∃ q o, (s.xoffSample p).eth p = { s.eth p with xoff := q, pauseOut := o }) ∧
    ∀ k, k ≠ 6 → k ≠ 20 → (s.xoffSample p).bit (statFld p k) = s.bit (statFld p k) := by
  unfold State.xoffSample
  dsimp only
  split
  · generalize Qual.sample _ _ _ _ = q
    have h1 : s.PortStep ((s.setEth p { s.eth p with xoff := q }).setBit (statFld p 6) q.on) p [] [1] :=
      ((State.PortStep.refl s p _ _).next (.setEth _ hp _)).next (.setStat _ p 6 q.on)
    have he : ((s.setEth p { s.eth p with xoff := q }).setBit (statFld p 6) q.on).eth p =
        { s.eth p with xoff := q } := State.eth_setEth_self s hp _
    have hb : ∀ k, k ≠ 6 → ((s.setEth p { s.eth p with xoff := q }).setBit (statFld p 6) q.on).bit (statFld p k) =
        s.bit (statFld p k) := fun k hk => by
      rw [State.bit_setBit_stat _ _ (by decide), if_neg hk]; rfl
    rw [show F.MAC_STAT_XOFF p = statFld p 6 from rfl, show F.MAC_STAT_XOFF_SEEN p = statFld p 20 from rfl]
    generalize (s.setEth p { s.eth p with xoff := q }).setBit (statFld p 6) q.on = t at h1 he hb ⊢
    split
    · refine ⟨((h1.next (.setEth _ hp _)).next (.setStat _ p 20 true)).next (.raise _ p _),
        ⟨q, some (s.val (A.MAC_PAUSE_QUANTA p), s.nowSub), ?_⟩, fun k h6 h20 => ?_⟩
      · rw [State.eth_raise, State.eth_setBit, State.eth_setEth_self _ hp, he]
      · rw [State.bit_raise, State.bit_setBit_stat _ _ (by decide), if_neg h20, ← hb k h6]; rfl
    · split
      · exact ⟨h1.next (.setEth _ hp _), ⟨q, some (0, s.nowSub), by rw [State.eth_setEth_self _ hp, he]⟩,
          fun k h6 _ => hb k h6⟩
      · exact ⟨h1, ⟨q, (s.eth p).pauseOut, he⟩, fun k h6 _ => hb k h6⟩
  · exact ⟨State.PortStep.refl _ _ _ _, ⟨(s.eth p).xoff, (s.eth p).pauseOut, rfl⟩, fun _ _ _ => rfl⟩

theorem State.settle_step : s.PortStep (s.settle p) p [8] [1] :=
  (((State.PortStep.refl s p _ _).next (.setEth _ hp _)).next (.setStat _ p 1 true)).next
    (State.netLoss_step _ (by omega) p)

theorem State.settle_eth : (s.settle p).eth p = { s.eth p with agreeing := 0, lastVars := none } := by
  rw [State.settle, State.netLoss_eth _ (by omega), State.eth_setBit, State.eth_setEth_self s hp]

theorem State.settle_stat (k : Nat) :
    (s.settle p).bit (statFld p k) = if k = 1 then true else s.bit (statFld p k) := by
  rw [State.settle, (State.netLoss_step _ (by omega) p).stat (by simp; omega) (by simp)]
  exact State.bit_setBit_stat _ p (by decide) k true

/-- The state in which the link is up, before it settles. -/
def State.linkSet (s : State) (p : Nat) : State :=
  ((s.setBit (statFld p 0) true).setBit (statFld p 9) false).raise Ev.LINK_UP

omit hp in
theorem State.linkRises_eq (p : Nat) : s.linkRises p = ((s.linkSet p).settle p).xoffSample p := rfl

omit hp in
theorem State.linkSet_step (p : Nat) : s.PortStep (s.linkSet p) p [8] [1] :=
  (((State.PortStep.refl s p _ _).next (.setStat _ p 0 true)).next (.setStat _ p 9 false)).next
    (.raise _ p Ev.LINK_UP)

omit hp in
theorem State.linkSet_eth (p q : Nat) : (s.linkSet p).eth q = s.eth q := by
  rw [State.linkSet, State.eth_raise, State.eth_setBit, State.eth_setBit]

theorem State.linkRises_step : s.PortStep (s.linkRises p) p [8] [1] :=
  ((s.linkSet_step p).trans (State.settle_step _ hp)).next (State.xoffSample_spec _ hp).1

theorem State.linkRises_eth : ∃ q o, (s.linkRises p).eth p =
    { s.eth p with xoff := q, pauseOut := o, agreeing := 0, lastVars := none } := by
  obtain ⟨q, o, h⟩ := (State.xoffSample_spec ((s.linkSet p).settle p) hp).2.1
  exact ⟨q, o, by rw [State.linkRises_eq, h, State.settle_eth _ hp, State.linkSet_eth]⟩

theorem State.linkRises_stat {k : Nat} (h6 : k ≠ 6) (h20 : k ≠ 20) : (s.linkRises p).bit (statFld p k) =
    if k = 1 ∨ k = 0 then true else if k = 9 then false else s.bit (statFld p k) := by
  rw [State.linkRises_eq, (State.xoffSample_spec _ hp).2.2 k h6 h20, State.settle_stat _ hp, State.linkSet,
    State.bit_raise, State.bit_setBit_stat _ _ (by decide), State.bit_setBit_stat _ _ (by decide)]
  grind

theorem State.linkRises_raises : Ev.LINK_UP ∈ (s.linkRises p).raised :=
  ((State.settle_step (s.linkSet p) hp).next (State.xoffSample_spec _ hp).1).raised (by simp [State.linkSet])

end linkRises

end Sys2Proof.Machine
end


section
/-! SUPPORT. The commands of a port, each with what it touches and what it makes of the port (R261 to R265, R274, R289,
R295, R299, R300). -/

namespace Sys2Proof.Machine

/-! ### PCS samples (R264, R265, R289) -/

/-- The conditions of R264 on a sample. -/
def State.pcsGood (s : State) (p : Nat) (x : Pcs) : Bool :=
  x.lock && !x.hiBer && !x.remoteFault && (x.anDone && x.fullDuplex || !s.bit (F.MAC_CTL_AN37 p)) &&
    (x.fecLock || !s.bit (F.MAC_CTL_FEC p))

/-- The flags and the error counters after a sample. -/
def State.pcsNoted (s : State) (p : Nat) (x : Pcs) (code corr uncorr : Nat) : State :=
  ((((((s.setBit (F.MAC_STAT_PCS_LOCK p) x.lock).setBit (F.MAC_STAT_HI_BER p) x.hiBer).setBit
    (F.MAC_STAT_REMOTE_FAULT p) x.remoteFault).setBit (F.MAC_STAT_AN_DONE p)
    (x.anDone && s.bit (F.MAC_CTL_AN37 p))).macCount p 23 code).macCount p 24 corr).macCount p 25 uncorr

/-- The words that a sample writes. -/
def sampleWords : List Nat := [0x80 + 23, 0x80 + 24, 0x80 + 25] ++ lossWords

section sample
variable (s : State) {p : Nat} (hp : p < 4) (x : Pcs) (code corr uncorr : Nat)

theorem State.pcsSample_off (h : s.portOn p = false ∨ s.portDraining p = true) :
    s.pcsSample p x code corr uncorr = s := if_pos h

/-- A sample of a port that runs. -/
theorem State.pcsSample_on (h : ¬ (s.portOn p = false ∨ s.portDraining p = true)) :
    s.pcsSample p x code corr uncorr =
      (let t := s.pcsNoted p x code corr uncorr
      if s.bit (F.MAC_TS_STAT_CAL_BUSY p) then t
      else if s.pcsGood p x then
        let r := t.setEth p { t.eth p with good := (t.eth p).good + 1 }
        if s.linkUp p = false ∧ s.val (A.MAC_LINK_QUAL p) * 100 < (t.eth p).good + 1 then r.linkRises p else r
      else
        let r := t.setEth p { t.eth p with good := 0 }
        if s.linkUp p then r.linkDown p else r) := if_neg h

include hp

theorem State.pcsNoted_step : s.PortStep (s.pcsNoted p x code corr uncorr) p [8, 0x11] sampleWords := by
  unfold State.pcsNoted
  have hflags := ((((State.PortStep.refl s p [8, 0x11] sampleWords).next (.setStat s p 3 x.lock)).next
    (.setStat _ p 4 x.hiBer)).next (.setStat _ p 5 x.remoteFault)).next
    (.setStat _ p 8 (x.anDone && s.bit (F.MAC_CTL_AN37 p)))
  exact ((hflags.next (State.macCount_step _ hp (i := 23) code)).next (State.macCount_step _ hp (i := 24) corr)).next
    (State.macCount_step _ hp (i := 25) uncorr)

theorem State.pcsNoted_eth : ∃ c, (s.pcsNoted p x code corr uncorr).eth p = { s.eth p with counted := c } := by
  unfold State.pcsNoted
  generalize hs : (((s.setBit (F.MAC_STAT_PCS_LOCK p) x.lock).setBit (F.MAC_STAT_HI_BER p) x.hiBer).setBit
    (F.MAC_STAT_REMOTE_FAULT p) x.remoteFault).setBit (F.MAC_STAT_AN_DONE p) _ = t
  have ht : t.eth p = s.eth p := by
    rw [← hs, State.eth_setBit, State.eth_setBit, State.eth_setBit, State.eth_setBit]
  obtain ⟨c1, h1⟩ := State.macCount_eth t hp (i := 23) code
  obtain ⟨c2, h2⟩ := State.macCount_eth (t.macCount p 23 code) hp (i := 24) corr
  obtain ⟨c3, h3⟩ := State.macCount_eth ((t.macCount p 23 code).macCount p 24 corr) hp (i := 25) uncorr
  exact ⟨c3, by rw [h3, h2, h1, ht]⟩

theorem State.pcsNoted_stat (k : Nat) : (s.pcsNoted p x code corr uncorr).bit (statFld p k) =
    if k = 8 then x.anDone && s.bit (F.MAC_CTL_AN37 p) else if k = 5 then x.remoteFault
    else if k = 4 then x.hiBer else if k = 3 then x.lock else s.bit (statFld p k) := by
  rw [State.pcsNoted, (State.macCount_step _ hp (i := 25) uncorr).stat (by simp) (by decide),
    (State.macCount_step _ hp (i := 24) corr).stat (by simp) (by decide),
    (State.macCount_step _ hp (i := 23) code).stat (by simp) (by decide),
    show F.MAC_STAT_PCS_LOCK p = statFld p 3 from rfl, show F.MAC_STAT_HI_BER p = statFld p 4 from rfl,
    show F.MAC_STAT_REMOTE_FAULT p = statFld p 5 from rfl, show F.MAC_STAT_AN_DONE p = statFld p 8 from rfl]
  simp only [State.bit_setBit_stat _ p (k := 3) (by decide), State.bit_setBit_stat _ p (k := 4) (by decide),
    State.bit_setBit_stat _ p (k := 5) (by decide), State.bit_setBit_stat _ p (k := 8) (by decide)]

/-- Code errors count in counter 23. -/
theorem State.pcsNoted_code : (s.pcsNoted p x code corr uncorr).val (A.MAC_CNT_i p 23) =
    (s.val (A.MAC_CNT_i p 23) + code) % 2 ^ 32 := by
  have hflag : ∀ (t : State) (k : Nat) (b : Bool), (t.setBit (statFld p k) b).val (A.MAC_CNT_i p 23) =
      t.val (A.MAC_CNT_i p 23) := fun t k b => (State.PortStep.setStat t p k b).cnt (by simp) (by decide) (by decide)
  rw [State.pcsNoted, (State.macCount_step _ hp (i := 25) uncorr).cnt (by simp) (by decide) (by decide),
    (State.macCount_step _ hp (i := 24) corr).cnt (by simp) (by decide) (by decide), State.macCount_val _ (by decide),
    show F.MAC_STAT_PCS_LOCK p = statFld p 3 from rfl, show F.MAC_STAT_HI_BER p = statFld p 4 from rfl,
    show F.MAC_STAT_REMOTE_FAULT p = statFld p 5 from rfl, show F.MAC_STAT_AN_DONE p = statFld p 8 from rfl,
    hflag, hflag, hflag, hflag]

/-- Counters other than those of the errors are kept by what a sample notes. -/
theorem State.pcsNoted_losses : (s.pcsNoted p x code corr uncorr).val (A.MAC_CNT_i p 46) = s.val (A.MAC_CNT_i p 46) := by
  have hflag : ∀ (t : State) (k : Nat) (b : Bool), (t.setBit (statFld p k) b).val (A.MAC_CNT_i p 46) =
      t.val (A.MAC_CNT_i p 46) := fun t k b => (State.PortStep.setStat t p k b).cnt (by simp) (by decide) (by decide)
  rw [State.pcsNoted, (State.macCount_step _ hp (i := 25) uncorr).cnt (by simp) (by decide) (by decide),
    (State.macCount_step _ hp (i := 24) corr).cnt (by simp) (by decide) (by decide),
    (State.macCount_step _ hp (i := 23) code).cnt (by simp) (by decide) (by decide),
    show F.MAC_STAT_PCS_LOCK p = statFld p 3 from rfl, show F.MAC_STAT_HI_BER p = statFld p 4 from rfl,
    show F.MAC_STAT_REMOTE_FAULT p = statFld p 5 from rfl, show F.MAC_STAT_AN_DONE p = statFld p 8 from rfl,
    hflag, hflag, hflag, hflag]

theorem State.pcsSample_step : s.PortStep (s.pcsSample p x code corr uncorr) p [8, 0x11] sampleWords := by
  by_cases h : s.portOn p = false ∨ s.portDraining p = true
  · rw [State.pcsSample_off _ _ _ _ _ h]
    exact State.PortStep.refl _ _ _ _
  · rw [State.pcsSample_on _ _ _ _ _ h]
    dsimp only
    have hset := fun e => (s.pcsNoted_step hp x code corr uncorr).next (.setEth _ hp e)
    split
    · exact s.pcsNoted_step hp x code corr uncorr
    · split
      · split
        · exact (hset _).next (State.linkRises_step _ hp)
        · exact hset _
      · split
        · exact (hset _).next (State.linkDown_step _ hp)
        · exact hset _

end sample

/-- A sample in which a condition of R264 fails (R265). -/
theorem State.pcsSample_bad {s u : State} {p : Nat} (hp : p < 4) {x : Pcs} {code corr uncorr : Nat}
    (hon : ¬ (s.portOn p = false ∨ s.portDraining p = true)) (hcal : s.bit (F.MAC_TS_STAT_CAL_BUSY p) = false)
    (hbad : s.pcsGood p x = false) (hu : u = s.pcsSample p x code corr uncorr) :
    u.val (A.MAC_CNT_i p 23) = (s.val (A.MAC_CNT_i p 23) + code) % 2 ^ 32 ∧
      u.bit (statFld p 3) = x.lock ∧ u.bit (statFld p 8) = (x.anDone && s.bit (F.MAC_CTL_AN37 p)) ∧
      u.linkUp p = false ∧ (u.eth p).good = 0 ∧
      (s.linkUp p = true → u.val (A.MAC_CNT_i p 46) = (s.val (A.MAC_CNT_i p 46) + 1) % 2 ^ 32 ∧
        u.bit (statFld p 16) = true ∧ Ev.LINK_DOWN ∈ u.raised ∧ (u.eth p).committed = [] ∧ (u.eth p).wire = [] ∧
        (u.eth p).relays = [] ∧ (u.eth p).pauseOut = none ∧ u.bit (statFld p 7) = false ∧
        u.bit (statFld p 6) = false ∧
        (s.val (A.MAC_HOLD_WINDOW p) = 0 → (s.eth p).holdOpen = false → (u.eth p).plain = []) ∧
        (s.val (A.MAC_HOLD_WINDOW p) ≠ 0 → u.bit (statFld p 9) = true ∧ (u.eth p).holdOpen = true)) ∧
      (s.linkUp p = false → u.val (A.MAC_CNT_i p 46) = s.val (A.MAC_CNT_i p 46)) := by
  rw [State.pcsSample_on _ _ _ _ _ hon, hcal, hbad] at hu
  simp only [Bool.false_eq_true, if_false] at hu
  obtain ⟨c, heth⟩ := s.pcsNoted_eth hp x code corr uncorr
  have hcode := s.pcsNoted_code hp x code corr uncorr
  have hloss := s.pcsNoted_losses hp x code corr uncorr
  have hstat := s.pcsNoted_stat hp x code corr uncorr
  have hwindow : (s.pcsNoted p x code corr uncorr).val (A.MAC_HOLD_WINDOW p) = s.val (A.MAC_HOLD_WINDOW p) :=
    (s.pcsNoted_step hp x code corr uncorr).val (w := 5) (by decide) (by simp; omega) (by decide)
  generalize hr : (s.pcsNoted p x code corr uncorr).setEth p
    { (s.pcsNoted p x code corr uncorr).eth p with good := 0 } = r at hu
  have hreth : r.eth p = { s.eth p with good := 0, counted := c } := by
    rw [← hr, State.eth_setEth_self _ hp, heth]
  have hrval : ∀ a, r.val a = (s.pcsNoted p x code corr uncorr).val a := fun a => by rw [← hr, State.val_setEth]
  have hrstat : ∀ k, r.bit (statFld p k) = (s.pcsNoted p x code corr uncorr).bit (statFld p k) := fun k => by
    rw [← hr, State.bit_setEth]
  by_cases hlink : s.linkUp p = true
  · rw [if_pos hlink] at hu
    subst hu
    obtain ⟨c', y, o, l, hd⟩ := State.linkDown_eth r hp
    have hdstat := fun k (hk : k ≠ 9) => State.linkDown_stat r hp hk
    refine ⟨?_, ?_, ?_, hdstat 0 (by decide), by rw [hd],
      fun _ => ⟨?_, hdstat 16 (by decide), State.linkDown_raises r hp, by rw [hd], by rw [hd], by rw [hd], by rw [hd],
        hdstat 7 (by decide), hdstat 6 (by decide), fun hw ho => ?_, fun hw => ?_⟩,
      fun h => absurd (hlink.symm.trans h) (by decide)⟩
    · rw [(State.linkDown_step r hp).cnt (by simp; omega) (by decide) (by decide), hrval, hcode]
    · rw [hdstat 3 (by decide), if_neg (by decide), if_neg (by decide), hrstat, hstat]; rfl
    · rw [hdstat 8 (by decide), if_neg (by decide), if_neg (by decide), hrstat, hstat]; rfl
    · rw [State.linkDown_count r hp, hrval, hloss]
    · exact State.linkDown_closed r hp (by rw [hrval, hwindow, hw]) (by rw [hreth]; exact ho)
    · exact State.linkDown_open r hp (by rwa [hrval, hwindow])
  · rw [if_neg hlink] at hu
    subst hu
    refine ⟨by rw [hrval, hcode], by rw [hrstat, hstat]; rfl, by rw [hrstat, hstat]; rfl, ?_, by rw [hreth],
      fun h => absurd h hlink, fun _ => by rw [hrval, hloss]⟩
    exact ((hrstat 0).trans (hstat 0)).trans (Bool.eq_false_iff.2 hlink)

/-- A good sample adds to the run, and brings the link up once the run is long enough (R264, R317). -/
theorem State.pcsSample_good {s u : State} {p : Nat} (hp : p < 4) {x : Pcs} {code corr uncorr : Nat}
    (hon : ¬ (s.portOn p = false ∨ s.portDraining p = true)) (hcal : s.bit (F.MAC_TS_STAT_CAL_BUSY p) = false)
    (hgood : s.pcsGood p x = true) (hu : u = s.pcsSample p x code corr uncorr) :
    u.val (A.MAC_CNT_i p 23) = (s.val (A.MAC_CNT_i p 23) + code) % 2 ^ 32 ∧
      u.bit (statFld p 3) = x.lock ∧ u.bit (statFld p 8) = (x.anDone && s.bit (F.MAC_CTL_AN37 p)) ∧
      (u.eth p).good = (s.eth p).good + 1 ∧
      (s.linkUp p = true → u.linkUp p = true) ∧
      (s.linkUp p = false → u.linkUp p = decide (s.val (A.MAC_LINK_QUAL p) * 100 ≤ (s.eth p).good)) ∧
      (s.linkUp p = false → s.val (A.MAC_LINK_QUAL p) * 100 ≤ (s.eth p).good →
        Ev.LINK_UP ∈ u.raised ∧ u.settling p = true ∧ u.bit (statFld p 9) = false ∧
        (u.eth p).plain = (s.eth p).plain) := by
  rw [State.pcsSample_on _ _ _ _ _ hon, hcal, hgood] at hu
  simp only [Bool.false_eq_true, if_false, if_true] at hu
  obtain ⟨c, heth⟩ := s.pcsNoted_eth hp x code corr uncorr
  have hcode := s.pcsNoted_code hp x code corr uncorr
  have hstat := s.pcsNoted_stat hp x code corr uncorr
  generalize hr : (s.pcsNoted p x code corr uncorr).setEth p
    { (s.pcsNoted p x code corr uncorr).eth p with good := ((s.pcsNoted p x code corr uncorr).eth p).good + 1 } = r at hu
  have hreth : r.eth p = { s.eth p with good := (s.eth p).good + 1, counted := c } := by
    rw [← hr, State.eth_setEth_self _ hp, heth]
  have hrval : ∀ a, r.val a = (s.pcsNoted p x code corr uncorr).val a := fun a => by rw [← hr, State.val_setEth]
  have hrstat : ∀ k, r.bit (statFld p k) = (s.pcsNoted p x code corr uncorr).bit (statFld p k) := fun k => by
    rw [← hr, State.bit_setEth]
  have hrup : r.linkUp p = s.linkUp p := (hrstat 0).trans (hstat 0)
  simp only [heth, Nat.lt_succ_iff] at hu
  by_cases hrise : s.linkUp p = false ∧ s.val (A.MAC_LINK_QUAL p) * 100 ≤ (s.eth p).good
  · rw [if_pos hrise] at hu
    subst hu
    obtain ⟨q, o, hl⟩ := State.linkRises_eth r hp
    have hlstat := fun k (h6 : k ≠ 6) (h20 : k ≠ 20) => State.linkRises_stat r hp h6 h20
    have hup : (r.linkRises p).linkUp p = true := hlstat 0 (by decide) (by decide)
    refine ⟨?_, ?_, ?_, by rw [hl, hreth], fun _ => hup, fun _ => by rw [hup, decide_eq_true hrise.2],
      fun _ _ => ⟨State.linkRises_raises r hp, hlstat 1 (by decide) (by decide), hlstat 9 (by decide) (by decide),
        by rw [hl, hreth]⟩⟩
    · rw [(State.linkRises_step r hp).cnt (by simp; omega) (by decide) (by decide), hrval, hcode]
    · rw [hlstat 3 (by decide) (by decide), if_neg (by decide), if_neg (by decide), hrstat, hstat]; rfl
    · rw [hlstat 8 (by decide) (by decide), if_neg (by decide), if_neg (by decide), hrstat, hstat]; rfl
  · rw [if_neg hrise] at hu
    subst hu
    refine ⟨by rw [hrval, hcode], by rw [hrstat, hstat]; rfl, by rw [hrstat, hstat]; rfl, by rw [hreth],
      fun h => hrup.trans h, fun h => ?_, fun h hq => absurd ⟨h, hq⟩ hrise⟩
    rw [hrup, h, decide_eq_false fun hq => hrise ⟨h, hq⟩]

end Sys2Proof.Machine
end


section
/-! SUPPORT. A hold window that ends, and a port that is enabled, disabled and drained (R261, R262, R295, R299, R300). -/

namespace Sys2Proof.Machine

/-! ### The hold window ends (R295) -/

section hold
variable {s : State} {p : Nat} (hp : p < 4) (ho : (s.eth p).holdOpen = true)

theorem State.holdExpired_closed (h : (s.eth p).holdOpen = false) : s.holdExpired p = s := by
  rw [State.holdExpired, h]; rfl

include ho

/-- The window of a port that holds drops what it held. -/
theorem State.holdExpired_holding (h : s.bit (F.MAC_STAT_HOLDING p) = true) : s.holdExpired p =
    ((s.setEth p { s.eth p with holdOpen := false }).flushPlain p (fun _ => true)).setBit (statFld p 9) false := by
  rw [State.holdExpired, if_pos ho, if_pos h]; rfl

/-- The window of a port that holds nothing just closes. -/
theorem State.holdExpired_idle (h : s.bit (F.MAC_STAT_HOLDING p) = false) :
    s.holdExpired p = s.setEth p { s.eth p with holdOpen := false } := by
  rw [State.holdExpired, if_pos ho, h]; rfl

include hp

theorem State.holdExpired_step : s.PortStep (s.holdExpired p) p [] (1 :: countWords 44) := by
  have hset := (State.PortStep.refl s p [] (1 :: countWords 44)).next (.setEth s hp { s.eth p with holdOpen := false })
  cases h : s.bit (F.MAC_STAT_HOLDING p)
  · rw [State.holdExpired_idle ho h]
    exact hset
  · rw [State.holdExpired_holding ho h]
    exact (hset.next (State.flushPlain_step _ hp _)).next (.setStat _ p 9 false)

theorem State.holdExpired_window :
    ((s.holdExpired p).eth p).holdOpen = false ∧ (s.holdExpired p).bit (F.MAC_STAT_HOLDING p) = false := by
  cases h : s.bit (F.MAC_STAT_HOLDING p)
  · rw [State.holdExpired_idle ho h, State.eth_setEth_self s hp, State.bit_setEth]
    exact ⟨rfl, h⟩
  · obtain ⟨c, hc⟩ := State.flushPlain_eth (s.setEth p { s.eth p with holdOpen := false }) hp (fun _ => true)
    rw [State.holdExpired_holding ho h, State.eth_setBit, hc, State.eth_setEth_self s hp]
    exact ⟨rfl, State.bit_setBit_self _ (statFld p 9) false rfl (by simp [statFld])⟩

/-- The frames dropped count in counter 44. -/
theorem State.holdExpired_drops (h : s.bit (F.MAC_STAT_HOLDING p) = true) :
    ((s.holdExpired p).eth p).plain = [] ∧ (s.holdExpired p).val (A.MAC_CNT_i p 44) =
      (s.val (A.MAC_CNT_i p 44) + (s.eth p).plain.length) % 2 ^ 32 := by
  obtain ⟨c, hc⟩ := State.flushPlain_eth (s.setEth p { s.eth p with holdOpen := false }) hp (fun _ => true)
  rw [State.holdExpired_holding ho h, State.eth_setBit, hc,
    (State.PortStep.setStat _ p 9 false).cnt (by simp) (by decide) (by decide), State.flushPlain_val,
    State.val_setEth, State.eth_setEth_self s hp]
  simp

theorem State.holdExpired_keeps (h : s.bit (F.MAC_STAT_HOLDING p) = false) :
    (s.holdExpired p).regs = s.regs ∧ ((s.holdExpired p).eth p).plain = (s.eth p).plain := by
  rw [State.holdExpired_idle ho h, State.eth_setEth_self s hp]
  exact ⟨State.setEth_regs _ _ _, rfl⟩

end hold

/-! ### A port starts (R129, R300) -/

theorem State.dllLose_step (s : State) {t : Nat} (ht : t < 8) (p : Nat) : s.PortStep (s.dllLose t) p [6] [] := by
  have hput : ∀ (u : State) (lo n : Nat), u.PortStep (u.put ⟨A.VCAL_DLL t, lo, 1⟩ n) p [6] [] := fun u lo n =>
    (show A.VCAL_DLL t / 256 = 6 by simp only [A.VCAL_DLL]; omega) ▸
      State.PortStep.put_bank u p ⟨A.VCAL_DLL t, lo, 1⟩ n
  unfold State.dllLose
  split
  · exact ((hput s 0 0).next (hput _ 8 (flagVal true))).next (.raise _ p _)
  · exact State.PortStep.refl _ _ _ _

theorem State.eth_dllLose (s : State) (t q : Nat) : (s.dllLose t).eth q = s.eth q := by
  unfold State.dllLose
  split <;> rfl

/-- A DLL that loses its lock leaves the lock of the others. -/
theorem State.locked_dllLose (s : State) (t j : Nat) :
    (s.dllLose t).bit (F.VCAL_DLL_LOCKED j) = if j = t then false else s.bit (F.VCAL_DLL_LOCKED j) := by
  unfold State.dllLose
  split
  · rw [State.bit_raise, State.bit_setBit_apart _ _ (by simp [F.VCAL_DLL_LOST_SEEN])
      (Or.inr (Or.inl (by simp [F.VCAL_DLL_LOCKED, F.VCAL_DLL_LOST_SEEN])))]
    split
    · next h => subst h; exact State.bit_setBit_self s (F.VCAL_DLL_LOCKED j) false rfl (by simp [F.VCAL_DLL_LOCKED])
    · next h =>
      exact State.bit_setBit_apart s (f := F.VCAL_DLL_LOCKED t) false (by simp [F.VCAL_DLL_LOCKED])
        (Or.inl (by simp only [F.VCAL_DLL_LOCKED, A.VCAL_DLL]; omega))
  · next h =>
    split
    · next hj => subst hj; exact Bool.eq_false_iff.2 h
    · rfl

section start
variable (s : State) {p : Nat} (hp : p < 4)

/-- Both DLLs of the port lose their lock. -/
theorem State.portStart_unlocks : (s.portStart p).bit (F.VCAL_DLL_LOCKED (2 * p)) = false ∧
    (s.portStart p).bit (F.VCAL_DLL_LOCKED (2 * p + 1)) = false := by
  simp [State.portStart, State.locked_dllLose]

include hp

theorem State.portStart_step : s.PortStep (s.portStart p) p [6] [] :=
  (((State.PortStep.refl s p _ _).next (.setEth _ hp _)).next (State.dllLose_step _ (by omega) p)).next
    (State.dllLose_step _ (by omega) p)

theorem State.portStart_good : ((s.portStart p).eth p).good = 0 := by
  simp only [State.portStart, State.eth_dllLose, State.eth_setEth_self s hp]

end start

/-! ### A port stops (R299) -/

/-- What a stop discards, and its calibration. -/
def State.stopCleared (s : State) (p : Nat) : State :=
  (((s.discardSlotted p).flushPlain p (fun _ => true)).pauseEnds p).latCancel p latCancelled

/-- The words that a stop writes: STAT, the calibration's, and the counters of discards and flushes. -/
def stopWords : List Nat := [0x01, 0x0B, 0x0C, 0x61, 0x63, 0x80 + 43, 0x80 + 44]

section stop
variable (s : State) {p : Nat} (hp : p < 4)

theorem State.portStop_eq (p : Nat) : s.portStop p =
    ((((((s.stopCleared p).setEth p { (s.stopCleared p).eth p with
      pauseOut := none, xoff := {}, good := 0, holdOpen := false }).setBit (statFld p 0) false).setBit (statFld p 9)
      false).setBit (statFld p 6) false).setBit (statFld p 3) false).setBit (statFld p 2) true := by
  rw [State.portStop, State.stopCleared, show F.MAC_STAT_LINK_UP p = statFld p 0 from rfl,
    show F.MAC_STAT_HOLDING p = statFld p 9 from rfl, show F.MAC_STAT_XOFF p = statFld p 6 from rfl,
    show F.MAC_STAT_PCS_LOCK p = statFld p 3 from rfl, show F.MAC_STAT_DRAINING p = statFld p 2 from rfl]

/-- The link is down and the port drains. -/
theorem State.portStop_stat : (s.portStop p).linkUp p = false ∧ (s.portStop p).portDraining p = true := by
  rw [State.linkUp, State.portDraining, show F.MAC_STAT_LINK_UP p = statFld p 0 from rfl,
    show F.MAC_STAT_DRAINING p = statFld p 2 from rfl, State.portStop_eq]
  simp [State.bit_setBit_stat]

include hp

theorem State.stopCleared_step : s.PortStep (s.stopCleared p) p [0x11] stopWords :=
  ((((State.PortStep.refl s p _ _).next (State.discardSlotted_step _ hp)).next (State.flushPlain_step _ hp _)).next
    (State.pauseEnds_step _ hp)).next (State.latCancel_step _ p _)

theorem State.stopCleared_eth : ∃ c x, (s.stopCleared p).eth p =
    { s.eth p with relays := [], committed := [], wire := [], plain := [], paused := x, counted := c } := by
  obtain ⟨c1, h1⟩ := State.discardSlotted_eth s hp
  obtain ⟨c2, h2⟩ := State.flushPlain_eth (s.discardSlotted p) hp (fun _ => true)
  obtain ⟨x, h3⟩ := State.pauseEnds_eth ((s.discardSlotted p).flushPlain p (fun _ => true)) hp
  exact ⟨c2, x, by rw [State.stopCleared, State.latCancel_eth, h3, h2, h1]; simp⟩

theorem State.portStop_step : s.PortStep (s.portStop p) p [0x11] stopWords := by
  rw [State.portStop_eq]
  exact ((((((s.stopCleared_step hp).next (.setEth _ hp _)).next (.setStat _ p 0 false)).next (.setStat _ p 9 false)).next
    (.setStat _ p 6 false)).next (.setStat _ p 3 false)).next (.setStat _ p 2 true)

/-- No frame waits to be sent; the receive buffer stays (R299). -/
theorem State.portStop_eth : ∃ c x, (s.portStop p).eth p =
    { s.eth p with
      relays := [], committed := [], wire := [], plain := [], paused := x, counted := c, pauseOut := none, xoff := {}
      good := 0, holdOpen := false } := by
  obtain ⟨c, x, h⟩ := s.stopCleared_eth hp
  exact ⟨c, x, by rw [State.portStop_eq, State.eth_setBit, State.eth_setBit, State.eth_setBit, State.eth_setBit,
    State.eth_setBit, State.eth_setEth_self _ hp, h]⟩

end stop

/-! ### A port has drained (R299, R300) -/

section drain
variable {s : State} {p : Nat}

theorem State.portDrained_not (h : s.portDraining p = false ∨ (s.eth p).rx ≠ []) : s.portDrained p = s := by
  rw [State.portDrained, if_neg]
  rcases h with h | h
  · simp [h]
  · simp [h]

theorem State.portDrained_eq (hd : s.portDraining p = true) (hrx : (s.eth p).rx = []) : s.portDrained p =
    if s.portOn p && s.dom .net == 2 then (s.setBit (statFld p 2) false).portStart p
    else s.setBit (statFld p 2) false := by
  rw [State.portDrained, if_pos (by simp [hd, hrx])]; rfl

theorem State.portDrained_ends (hp : p < 4) (hd : s.portDraining p = true) (hrx : (s.eth p).rx = []) :
    (s.portDrained p).portDraining p = false := by
  have hclear : (s.setBit (statFld p 2) false).bit (statFld p 2) = false :=
    State.bit_setBit_self s (statFld p 2) false rfl (by simp [statFld])
  rw [State.portDraining, show F.MAC_STAT_DRAINING p = statFld p 2 from rfl, State.portDrained_eq hd hrx]
  split
  · rw [(State.portStart_step _ hp).stat (by simp; omega) (by simp), hclear]
  · exact hclear

end drain

end Sys2Proof.Machine
end


section
/-! SUPPORT. The host's writes of MACn.CTL and of IFe_CTL (R15, R261, R262, R274, R299, R300). -/

namespace Sys2Proof.Machine

/-! ### MACn.CTL (R261, R262) -/

/-- The word that a write of MACn.CTL leaves: a SPEED of 3 keeps the old SPEED (R15). -/
def State.ctlWord (s : State) (p v : Nat) : Nat :=
  (if bitsAt v 1 2 = 3 then withBits v 1 2 (bitsAt (s.val (A.MAC_CTL p)) 1 2) else v) % 128

/-- Whether a word of MACn.CTL is discarded whole: SPEED, FEC or AN37 of a port that runs, or an enable that R262 bars. -/
def State.ctlBarred (s : State) (p x : Nat) : Bool :=
  ((s.portOn p || s.portDraining p) && decide (bitsAt x 1 4 ≠ bitsAt (s.val (A.MAC_CTL p)) 1 4)) ||
    (bitOf x 0 && !s.portMayRun p x)

/-- The word stored, and what its EN starts or stops. -/
def State.ctlStored (s : State) (p x : Nat) : State :=
  if s.portOn p = true ∧ bitOf x 0 = false then (s.setVal (A.MAC_CTL p) x).portStop p
  else if s.portOn p = false ∧ bitOf x 0 = true ∧ s.portDraining p = false then (s.setVal (A.MAC_CTL p) x).portStart p
  else s.setVal (A.MAC_CTL p) x

section ctl
variable (s : State) {p : Nat} (v : Nat)

theorem State.fitted_macCtl (p : Nat) : fitted (s.val (A.MAC_CTL p)) v (macCtlFields v) % 128 = s.ctlWord p v := by
  simp [fitted, macCtlFields, ite_not, State.ctlWord]

theorem allFit_macCtlFields : allFit (macCtlFields v) = decide (bitsAt v 1 2 ≠ 3) := by
  simp [allFit, macCtlFields]

theorem State.macCtlWrite_barred (h : s.ctlBarred p (s.ctlWord p v) = true) :
    s.macCtlWrite p v = s.rejected .range := by
  simp only [State.ctlBarred, Bool.or_eq_true, Bool.and_eq_true, decide_eq_true_eq, Bool.not_eq_true'] at h
  unfold State.macCtlWrite
  rw [State.fitted_macCtl]
  dsimp only
  split
  · rfl
  · next hspeed => rw [if_pos (h.resolve_left hspeed)]

theorem State.macCtlWrite_stored (h : s.ctlBarred p (s.ctlWord p v) = false) :
    s.macCtlWrite p v = (s.ctlStored p (s.ctlWord p v)).ok.judged (decide (bitsAt v 1 2 ≠ 3)) := by
  have hbar := Bool.eq_false_iff.1 h
  simp only [State.ctlBarred, ne_eq, Bool.or_eq_true, Bool.and_eq_true, decide_eq_true_eq, Bool.not_eq_true',
    not_or] at hbar
  unfold State.macCtlWrite
  rw [State.fitted_macCtl, allFit_macCtlFields]
  dsimp only
  rw [if_neg hbar.1, if_neg hbar.2, State.ctlStored]
  congr 1
  split
  · rfl
  · split <;> rfl

theorem ruledWord_macCtl (hp : p < 4) : ruledWord (A.MAC_CTL p) = true ∧ appliedHolds (A.MAC_CTL p) = [] := by
  interval_cases p <;> decide

/-- The rule of a word of a MAC's bank. -/
theorem State.bankWrite_mac (hp : p < 4) (h : HostPort) {w : Nat} (hw : w < 256) :
    s.bankWrite h (((0x0B + p) * 256 + w) / 256) (((0x0B + p) * 256 + w) % 256) v = s.macWrite h p w v := by
  rw [show ((0x0B + p) * 256 + w) / 256 = 0x0B + p by omega, show ((0x0B + p) * 256 + w) % 256 = w by omega]
  unfold State.bankWrite
  rw [if_pos (by omega), Nat.add_sub_cancel_left]

theorem State.bankWrite_macCtl (hp : p < 4) (h : HostPort) :
    s.bankWrite h (A.MAC_CTL p / 256) (A.MAC_CTL p % 256) v = some (s.macCtlWrite p v) :=
  State.bankWrite_mac s v hp h (w := 0) (by decide)

end ctl

section port
variable {s : State} {h : HostPort} {p : Nat} (hp : p < 4) {v : Word} (hw : s.mayWrite h (A.MAC_CTL p) = true)
include hp hw

/-- A word that is barred changes nothing. -/
theorem State.hostParam_macCtl_barred (hb : s.ctlBarred p (s.ctlWord p v.toNat) = true) :
    s.hostParam h (A.MAC_CTL p) v = s.turnedAway h (A.MAC_CTL p) v .range := by
  rw [State.hostParam_ruled_rejected hw (ruledWord_macCtl hp).1
      (by rw [State.bankWrite_macCtl s _ hp h, State.macCtlWrite_barred s _ hb]),
    (ruledWord_macCtl hp).2, State.dropHolds_nil]

/-- Another is stored; a SPEED of 3 is recorded as its discard (R15, R702). -/
theorem State.hostParam_macCtl_stored (hb : s.ctlBarred p (s.ctlWord p v.toNat) = false) :
    s.hostParam h (A.MAC_CTL p) v =
      if bitsAt v.toNat 1 2 = 3 then (s.ctlStored p (s.ctlWord p v.toNat)).turnedAway h (A.MAC_CTL p) v .range
      else (s.ctlStored p (s.ctlWord p v.toNat)).written h (A.MAC_CTL p) v := by
  have hbank := State.bankWrite_macCtl s v.toNat hp h
  rw [State.macCtlWrite_stored s _ hb] at hbank
  split
  · next hspeed =>
    rw [decide_eq_false (not_not.2 hspeed)] at hbank
    rw [State.hostParam_ruled_rejected (u := s.ctlStored p (s.ctlWord p v.toNat)) hw (ruledWord_macCtl hp).1 hbank,
      (ruledWord_macCtl hp).2, State.dropHolds_nil]
    rfl
  · next hspeed =>
    rw [decide_eq_true hspeed] at hbank
    exact State.hostParam_ruled hw (ruledWord_macCtl hp).1 hbank

end port

section stored
variable {s : State} {p : Nat} (hp : p < 4) {x : Nat}

theorem State.ctlWord_lt (s : State) (p v : Nat) : s.ctlWord p v < 128 := Nat.mod_lt _ (by decide)

theorem State.ctlStored_stop (hon : s.portOn p = true) (hx : bitOf x 0 = false) :
    s.ctlStored p x = (s.setVal (A.MAC_CTL p) x).portStop p := by rw [State.ctlStored, if_pos ⟨hon, hx⟩]

theorem State.ctlStored_start (hon : s.portOn p = false) (hx : bitOf x 0 = true) (hd : s.portDraining p = false) :
    s.ctlStored p x = (s.setVal (A.MAC_CTL p) x).portStart p := by
  rw [State.ctlStored, if_neg (by simp [hon]), if_pos ⟨hon, hx, hd⟩]

/-- A word that neither starts nor stops the port. -/
theorem State.ctlStored_plain (h : s.portOn p = bitOf x 0 ∨ s.portOn p = false ∧ s.portDraining p = true) :
    s.ctlStored p x = s.setVal (A.MAC_CTL p) x := by
  rw [State.ctlStored, if_neg, if_neg]
  · rintro ⟨hon, hx, hd⟩
    simp [hon, hx, hd] at h
  · rintro ⟨hon, hx⟩
    simp [hon, hx] at h

include hp

/-- Whatever EN does, the port's frames alone change, and of its bank and those of the DLLs and the pipe no other. -/
theorem State.ctlStored_step : (s.setVal (A.MAC_CTL p) x).PortStep (s.ctlStored p x) p [6, 0x11] stopWords := by
  unfold State.ctlStored
  split
  · exact (State.PortStep.refl _ p _ _).next (State.portStop_step _ hp)
  · split
    · exact (State.PortStep.refl _ p _ _).next (State.portStart_step _ hp)
    · exact State.PortStep.refl _ _ _ _

theorem State.ctlStored_ports : ∀ q, q < 4 → q ≠ p → (s.ctlStored p x).eth q = s.eth q :=
  fun q _ hq => (State.ctlStored_step hp).ports q hq

theorem State.ctlStored_val (hx : x < 128) : (s.ctlStored p x).val (A.MAC_CTL p) = x := by
  have hkept : (s.ctlStored p x).val (A.MAC_CTL p) = (s.setVal (A.MAC_CTL p) x).val (A.MAC_CTL p) :=
    (State.ctlStored_step hp).val (w := 0) (by decide) (by simp; omega) (by decide)
  rw [hkept, State.val_setVal_self, Nat.mod_eq_of_lt (by omega)]

/-- Clearing EN stops the port (R299). -/
theorem State.ctlStored_stops (hon : s.portOn p = true) (hx : bitOf x 0 = false) {u : State}
    (hu : u = s.ctlStored p x) : u.linkUp p = false ∧ u.portDraining p = true ∧
      (u.eth p).committed = [] ∧ (u.eth p).wire = [] ∧ (u.eth p).plain = [] ∧ (u.eth p).rx = (s.eth p).rx ∧
      u.val (A.MAC_CNT_i p 46) = s.val (A.MAC_CNT_i p 46) ∧ s.banksKept u [0x0B + p, 0x11] := by
  rw [State.ctlStored_stop hon hx] at hu
  subst hu
  obtain ⟨c, y, he⟩ := State.portStop_eth (s.setVal (A.MAC_CTL p) x) hp
  have hstep : s.PortStep ((s.setVal (A.MAC_CTL p) x).portStop p) p [0x11] (0 :: stopWords) :=
    ((State.PortStep.refl s p _ _).next (.setVal s p 0 x)).next (State.portStop_step _ hp)
  obtain ⟨hlink, hdrain⟩ := State.portStop_stat (s.setVal (A.MAC_CTL p) x) (p := p)
  exact ⟨hlink, hdrain, by rw [he], by rw [he], by rw [he], by rw [he]; rfl,
    hstep.cnt (by simp; omega) (by decide) (by decide), hstep.banksKept (by decide)⟩

end stored

/-! ### IFe_CTL (R274) -/

/-- Words written from a list read back. -/
theorem State.rd_each_wr (s : State) (l : List Nat) (w : Nat → Word) (b : Nat) :
    (s.each l (fun a t => t.wr a (w a))).rd b = if b ∈ l then w b else s.rd b := by
  induction l generalizing s with
  | nil => simp
  | cons a l ih =>
    rw [State.each_cons, ih, State.rd_wr]
    by_cases hb : b = a
    · subst hb; simp
    · simp [hb]

theorem State.each_wr_hif (s : State) (l : List Nat) (w : Nat → Word) :
    (s.each l (fun a t => t.wr a (w a))).hif = s.hif :=
  State.each_keeps (P := fun t => t.hif = s.hif) (f := fun a t => t.wr a (w a)) (fun _ _ _ ht => ht) rfl

theorem State.heldWord_of_hif {s u : State} (h : u.hif = s.hif) (p : HostPort) (a : Nat) :
    u.heldWord p a = s.heldWord p a := by
  cases p <;> simp [State.heldWord, State.port, h]

/-- A hold that was emptied holds no more. -/
theorem State.heldWord_dropHolds (s : State) (p : HostPort) {l : List Nat} {a : Nat} (ha : a ∈ l) :
    (s.dropHolds p l).heldWord p a = none := by
  have key : ∀ (l : List Nat) (m : List (Nat × Word)), a ∈ l ∨ lookupKey a m = none →
      lookupKey a (l.foldl (fun l a => eraseKey a l) m) = none := by
    intro l
    induction l with
    | nil => intro m h; simpa using h
    | cons b l ih =>
      intro m h
      refine ih _ ?_
      rw [lookupKey_eraseKey]
      by_cases hb : a = b
      · simp [hb]
      · simpa [hb] using h
  rw [State.heldWord, State.dropHolds, State.port_setPort_self]
  exact key l _ (Or.inl ha)

section entry
variable (s : State) (h : HostPort) (p e v : Nat)

/-- The word that an address word of an entry takes: the one held, else the one in force (R16). -/
def State.entryWord (s : State) (h : HostPort) (a : Nat) : Word := (s.heldWord h a).getD (s.rd a)

/-- Whether the entry that results is accepted. -/
def State.entryFits (s : State) (h : HostPort) (p e v : Nat) : Bool :=
  s.entryOk p e v (bytesOfWord (s.entryWord h (A.MAC_IFe_V4 p e)))
    (((entryWords p e).drop 1).flatMap (fun a => bytesOfWord (s.entryWord h a)))

/-- The entry with its address words, whose holds are spent. -/
def State.entryStored (s : State) (h : HostPort) (p e v : Nat) : State :=
  ((s.dropHolds h (entryWords p e)).each (entryWords p e) (fun a t => t.wr a (s.entryWord h a))).setVal
    (A.MAC_IFe_CTL p e) (bitsAt v 0 7 + bitsAt v 16 12 * 65536)

theorem State.ifCtlWrite_eq : s.ifCtlWrite h p e v =
    if s.entryFits h p e v then (s.entryStored h p e v).ok
    else (s.dropHolds h (entryWords p e)).rejected .range := rfl

theorem entryWords_ne {a : Nat} (ha : a ∈ entryWords p e) : a ≠ A.MAC_IFe_CTL p e := by
  simp only [entryWords, List.mem_cons, List.not_mem_nil, or_false, A.MAC_IFe_V4, A.MAC_IFe_V6] at ha
  simp only [A.MAC_IFe_CTL]
  omega

theorem State.entryStored_ctl :
    (s.entryStored h p e v).val (A.MAC_IFe_CTL p e) = bitsAt v 0 7 + bitsAt v 16 12 * 65536 := by
  rw [State.entryStored, State.val_setVal_self, Nat.mod_eq_of_lt]
  unfold bitsAt
  omega

theorem State.entryStored_address {a : Nat} (ha : a ∈ entryWords p e) :
    (s.entryStored h p e v).rd a = s.entryWord h a ∧ (s.entryStored h p e v).heldWord h a = none := by
  constructor
  · rw [State.entryStored, State.rd_setVal_ne _ (entryWords_ne p e ha), State.rd_each_wr, if_pos ha]
  · have hhif : (s.entryStored h p e v).hif = (s.dropHolds h (entryWords p e)).hif := State.each_wr_hif _ _ _
    rw [State.heldWord_of_hif hhif]
    exact State.heldWord_dropHolds s h ha

theorem State.wordsKept_entryStored : s.wordsKept (s.entryStored h p e v) (A.MAC_IFe_CTL p e :: entryWords p e) := by
  intro a ha
  obtain ⟨hctl, hword⟩ := not_or.1 (mt List.mem_cons.2 ha)
  rw [State.entryStored, State.rd_setVal_ne _ hctl, State.rd_each_wr, if_neg hword, State.rd_dropHolds]

/-- A tagged entry has a VID of its own. -/
theorem State.entryFits_vid (hf : s.entryFits h p e v = true) (ht : bitOf v 1 = true) :
    bitsAt v 16 12 ≠ 0 ∧ bitsAt v 16 12 ≠ 4095 := by
  simp only [State.entryFits, State.entryOk, ht, Bool.true_and, Bool.and_eq_true, Bool.not_eq_true',
    Bool.or_eq_false_iff, beq_eq_false_iff_ne] at hf
  exact hf.1.1.2

variable {p e} (hp : p < 4) (he : e < 8)
include hp he

theorem State.bankWrite_ifCtl :
    s.bankWrite h (A.MAC_IFe_CTL p e / 256) (A.MAC_IFe_CTL p e % 256) v = some (s.ifCtlWrite h p e v) := by
  rw [A.MAC_IFe_CTL, State.bankWrite_mac s v hp h (by omega), State.macWrite]
  dsimp only
  rw [if_neg (by omega), if_neg (by omega), if_neg (by omega), if_neg (by omega), if_neg (by omega),
    if_pos (by omega), show (0x20 + 8 * e - 0x20) % 8 = 0 by omega, show (0x20 + 8 * e - 0x20) / 8 = e by omega]
  rfl

theorem ruledWord_ifCtl : ruledWord (A.MAC_IFe_CTL p e) = true ∧ appliedHolds (A.MAC_IFe_CTL p e) = [] := by
  have key : ∀ p < 4, ∀ e < 8, ruledWord (A.MAC_IFe_CTL p e) = true ∧ appliedHolds (A.MAC_IFe_CTL p e) = [] := by
    decide
  exact key p hp e he

end entry

section host
variable {s : State} {h : HostPort} {p e : Nat} (hp : p < 4) (he : e < 8) {v : Word}
  (hw : s.mayWrite h (A.MAC_IFe_CTL p e) = true)
include hp he hw

theorem State.hostParam_ifCtl_stored (hf : s.entryFits h p e v.toNat = true) :
    s.hostParam h (A.MAC_IFe_CTL p e) v = (s.entryStored h p e v.toNat).written h (A.MAC_IFe_CTL p e) v :=
  State.hostParam_ruled hw (ruledWord_ifCtl hp he).1
    (by rw [State.bankWrite_ifCtl s h _ hp he, State.ifCtlWrite_eq, if_pos hf])

theorem State.hostParam_ifCtl_discarded (hf : s.entryFits h p e v.toNat = false) :
    s.hostParam h (A.MAC_IFe_CTL p e) v =
      (s.dropHolds h (entryWords p e)).turnedAway h (A.MAC_IFe_CTL p e) v .range := by
  rw [State.hostParam_ruled_rejected hw (ruledWord_ifCtl hp he).1
      (by rw [State.bankWrite_ifCtl s h _ hp he, State.ifCtlWrite_eq, hf, if_neg (by decide)]),
    (ruledWord_ifCtl hp he).2, State.dropHolds_nil]

end host

end Sys2Proof.Machine
end


section
/-! The ports: how they come up, lose their link, hold, are enabled and are drained (O49). -/

namespace Sys2Proof.Machine

/-! ### The instructions -/

/-- An effect inside a domain that is up, its condition met. -/
theorem happen_inside {s : State} {d : Domain} {ok : Bool} (hd : s.up d = true) (hok : ok = true) (f : State → State) :
    happen s (fun s => s.inside d ok f) = .next (s.after (f s)) := by rw [happen, State.inside_of hd hok]

section instructions
variable {s : State} {p : Nat} (hup : s.up .net = true) (hp : p < 4)
include hup hp

theorem exec_pcsSample (x : Pcs) (code corr uncorr : Nat) :
    exec (.pcsSample p x.lock x.hiBer x.remoteFault x.anDone x.fullDuplex x.fecLock code corr uncorr) s =
      .next (s.after (s.pcsSample p x code corr uncorr)) :=
  happen_inside hup (decide_eq_true hp) (fun s => s.pcsSample p x code corr uncorr)

theorem exec_holdWindowExpired : exec (.holdWindowExpired p) s = .next (s.after (s.holdExpired p)) :=
  happen_inside hup (decide_eq_true hp) (fun s => s.holdExpired p)

theorem exec_portDrainDone : exec (.portDrainDone p) s = .next (s.after (s.portDrained p)) :=
  happen_inside hup (decide_eq_true hp) (fun s => s.portDrained p)

omit hup hp in
theorem exec_portCtlWrite (h : HostPort) (p : Nat) (v : Word) :
    exec (.portCtlWrite h p v) s = .next (s.after (s.hostParam h (A.MAC_CTL p) v)) := rfl

omit hup hp in
theorem exec_ifCtlWrite (h : HostPort) (p e : Nat) (v : Word) :
    exec (.ifCtlWrite h p e v) s = .next (s.after (s.hostParam h (A.MAC_IFe_CTL p e) v)) := rfl

end instructions

/-- A port that drained while it was enabled starts again (R300); another is left but for its flag. -/
theorem State.portDrained_after {s : State} {p : Nat} (hp : p < 4) (hd : s.portDraining p = true)
    (hrx : (s.eth p).rx = []) {u : State} (hu : u = s.portDrained p) :
    (s.portOn p = false → s.wordsKept u [A.MAC_STAT p] ∧ u = { s with regs := u.regs }) ∧
      (s.portOn p = true → s.dom .net = 2 → (u.eth p).good = 0 ∧ u.bit (F.VCAL_DLL_LOCKED (2 * p)) = false) := by
  rw [State.portDrained_eq hd hrx] at hu
  refine ⟨fun hon => ?_, fun hon hdom => ?_⟩
  · rw [if_neg (by simp [hon])] at hu
    subst hu
    exact ⟨State.wordsKept_setBit s (statFld p 2) false, rfl⟩
  · rw [if_pos (by simp [hon, hdom])] at hu
    subst hu
    exact ⟨State.portStart_good _ hp, (State.portStart_unlocks _).1⟩

/-- Settles O49, clause by clause: the samples, the hold window, MACn.CTL, the drain and the entries. -/
theorem portsComeUpAndGo : Obligations.PortsComeUpAndGo := by
  intro s p hup hp
  refine ⟨?_, ?_, ?_, ?_, ?_, ?_, ?_⟩
  case refine_1 =>
    intro x code corr uncorr u hu
    have hstep := s.pcsSample_step hp x code corr uncorr
    rw [← hu] at hstep
    refine ⟨by rw [exec_pcsSample hup hp, hu], fun hoff => by rw [hu, State.pcsSample_off _ _ _ _ _ hoff],
      fun q _ hq => hstep.ports q hq, hstep.banksKept (by decide), fun hon hd hcal good hgood => ?_⟩
    have hruns : ¬ (s.portOn p = false ∨ s.portDraining p = true) := by simp [hon, hd]
    cases hg : s.pcsGood p x
    · obtain ⟨hcode, hlock, han, hdown, hgood0, hlost, hno⟩ := State.pcsSample_bad hp hruns hcal hg hu
      exact ⟨hcode, hlock, han, fun _ => ⟨hdown, hgood0, hlost, hno⟩,
        fun hgt => absurd ((hgood.symm.trans hgt).symm.trans hg) (by decide)⟩
    · obtain ⟨hcode, hlock, han, hrun, hstays, hrises, hup'⟩ := State.pcsSample_good hp hruns hcal hg hu
      exact ⟨hcode, hlock, han, fun hgf => absurd ((hgood.symm.trans hgf).symm.trans hg) (by decide),
        fun _ => ⟨hrun, hstays, hrises, hup'⟩⟩
  case refine_2 =>
    rintro ho u rfl
    obtain ⟨hclosed, hflag⟩ := State.holdExpired_window hp ho
    have hstep := State.holdExpired_step hp ho
    exact ⟨exec_holdWindowExpired hup hp, hclosed, hflag, State.holdExpired_drops hp ho, State.holdExpired_keeps hp ho,
      hstep.banksKept (by decide), fun q _ hq => hstep.ports q hq⟩
  case refine_3 =>
    intro ho
    rw [exec_holdWindowExpired hup hp, State.holdExpired_closed ho]
  case refine_4 =>
    intro h v hw x hx bad hbad
    obtain rfl : x = s.ctlWord p v.toNat := hx
    obtain rfl : bad = s.ctlBarred p (s.ctlWord p v.toNat) := hbad
    rw [exec_portCtlWrite]
    refine ⟨fun hb => by rw [State.hostParam_macCtl_barred hp hw hb], fun hb u hu => ?_⟩
    have hstate : u = s.ctlStored p (s.ctlWord p v.toNat) := by
      rw [hu, State.macCtlWrite_stored s _ hb]
      cases decide (bitsAt v.toNat 1 2 ≠ 3) <;> rfl
    refine ⟨by rw [State.hostParam_macCtl_stored hp hw hb, hstate], ?_, ?_,
      fun hon hx0 => State.ctlStored_stops hp hon hx0 hstate, fun hon hx0 hd => ?_, fun hplain => ?_⟩
    · rw [hstate, State.ctlStored_val hp (s.ctlWord_lt p _)]
    · rw [hstate]
      exact State.ctlStored_ports hp
    · rw [hstate, State.ctlStored_start hon hx0 hd]
      exact ⟨(State.portStart_unlocks _).1, (State.portStart_unlocks _).2, State.portStart_good _ hp⟩
    · rw [hstate, State.ctlStored_plain hplain]
      exact ⟨State.wordsKept_setVal s _ _, rfl⟩
  case refine_5 =>
    intro hd hrx u hu
    exact ⟨by rw [exec_portDrainDone hup hp, hu], by rw [hu]; exact State.portDrained_ends hp hd hrx,
      State.portDrained_after hp hd hrx hu⟩
  case refine_6 =>
    intro hn
    rw [exec_portDrainDone hup hp, State.portDrained_not hn]
  case refine_7 =>
    intro h e v he hw x hx
    rw [State.ifCtlWrite_eq] at hx
    rw [exec_ifCtlWrite]
    cases hf : s.entryFits h p e v.toNat
    · rw [hf, if_neg (by decide)] at hx
      subst hx
      refine ⟨fun hok => absurd hok (Option.some_ne_none _), fun _ => ⟨?_, State.dropHolds_regs s h _⟩⟩
      rw [State.hostParam_ifCtl_discarded hp he hw hf]; rfl
    · rw [hf, if_pos rfl] at hx
      subst hx
      refine ⟨fun _ => ⟨?_, s.entryStored_ctl h p e _, fun a ha => s.entryStored_address h p e _ ha,
        fun ht => s.entryFits_vid h p e _ hf ht, s.wordsKept_entryStored h p e _⟩, fun hne => absurd rfl hne⟩
      rw [State.hostParam_ifCtl_stored hp he hw hf]; rfl

end Sys2Proof.Machine
end


section
/-! A step from registers that list the era counter twice (O2). -/

namespace Sys2Proof.Machine

/-- The Tally runs in era 5, HOST and PIPE are ON and TIME is OFF with votes on it; but the register list is not in its
canonical form: it names STR.ERA twice. A read takes the first entry, era 5. -/
def eraTwice : State :=
  { pending := [.slowWarmTimeout], tally := 1, pwr := { started := true }
    regs := [(A.PWR_DOM_STAT, 0x8800), (A.TB_STAT, 0x40), (A.STR_ERA, 5), (A.STR_ERA, 7)] }

theorem eraTwice_start : eraTwice.tallyRun = true ∧ eraTwice.tally = 1 ∧ eraTwice.era = 5 := by decide +kernel

/-- The command itself does nothing with OVEN down. The reaction of the PTP ports takes the pages of STR over entry by
entry, so that the last entry stands, era 7; then the votes start TIME (R23, R594): the Tally restarts, and the era counts
on from 7 instead of 5. -/
theorem eraTwice_restarts : ∃ t, step eraTwice = .next t ∧ t.tally = 0 ∧ t.era = 8 := ⟨_, rfl, by decide +kernel⟩

/-- Refutes O2: its clause on the Tally has no premise on the registers, and from `eraTwice` the Tally restarts with the
era two up instead of one. -/
theorem not_stepsAnswerAndKeepTheInvariants : ¬ Obligations.StepsAnswerAndKeepTheInvariants := by
  intro h
  obtain ⟨hrun, htally, hera⟩ := eraTwice_start
  obtain ⟨t, hstep, ht0, ht8⟩ := eraTwice_restarts
  obtain ⟨u, hu, -, -, -, htal⟩ := h eraTwice
  obtain rfl : t = u := Host.Outcome.next.inj (hstep.symm.trans hu)
  rcases htal hrun with ⟨hkept, -⟩ | ⟨-, hidle⟩ | ⟨-, hnext⟩
  · omega
  · exact absurd hidle (List.cons_ne_nil _ _)
  · omega

end Sys2Proof.Machine
end


section
/-! Arming TB while its words are away with OVEN (O35). -/

namespace Sys2Proof.Machine

/-- A write of a TB word of the oven while OVEN takes no writes changes nothing, although TIME, the domain of the bank's
other words, takes them (R601, R831). -/
theorem State.paramWrite_ovenAway {s : State} {p : HostPort} {w : Nat} {v : Word} (hw : ovenWord w = true)
    (hmapped : (rowAt (0x300 + w)).isSome = true) (hsmall : 1 < w ∧ w < 256) (hoven : s.takesWrites .oven = false)
    (htime : s.takesWrites .time = true) : s.paramWrite p (0x300 + w) v = s.ok := by
  have hbank : (0x300 + w) / 256 = 3 := by omega
  have hword : (0x300 + w) % 256 = w := by omega
  have hrow : (rowAt (0x300 + w)).isNone = false := by simpa using hmapped
  simp only [State.paramWrite, hbank, hword, hoven, htime]
  rw [if_neg (by decide), if_pos trivial, Bool.or_true, if_pos rfl, State.tbWordWrite, if_neg (by omega),
    if_neg (by omega), hw, hrow]
  rfl

/-- HOST and TIME are ON and OVEN is OFF; TB.ARM_CODE is 0x1234 and no bank is armed. -/
def ovenAway : State :=
  { regs := [(A.PWR_DOM_STAT, 0x8020), (A.TB_ARM_CODE, 0x1234)], pwr := { started := true, vioH := some 1800 } }

/-- `State.mayWrite` holds of TB.ARM: it asks for TIME, the domain of the bank. -/
theorem ovenAway_start : ovenAway.mayWrite .spi (armWord .tb) = true ∧ ovenAway.armedBy .tb = none ∧
    ovenAway.val ArmBank.tb.codeWord = 0x1234 := by decide +kernel

/-- ARM with the bank's code changes no arming, for TB.ARM is away with OVEN. -/
theorem ovenAway_armBank : exec (.armBank .spi .tb 0x1234) ovenAway =
    .next (ovenAway.after (ovenAway.written .spi (armWord .tb) 0x1234)) := by
  have hhost : ovenAway.hostParam .spi (armWord .tb) 0x1234 = ovenAway.written .spi (armWord .tb) 0x1234 :=
    State.hostParam_ok (State.ready_of_mayWrite ovenAway_start.1)
      (State.paramWrite_ovenAway (w := 0x0F) (by decide) (by decide) (by decide) (by decide +kernel)
        (by decide +kernel))
  rw [← hhost]
  rfl

/-- The step leaves TB unarmed, where a write that the bank takes would have armed it. -/
theorem ovenAway_unarmed : (ovenAway.after (ovenAway.written .spi (armWord .tb) 0x1234)).armedBy .tb = none ∧
    (ovenAway.after ((ovenAway.armWrite .spi .tb 0x1234).state.written .spi (armWord .tb) 0x1234)).armedBy .tb =
      some .spi := by decide +kernel

/-- Refutes O35: ARM and ARM_CODE of TB are words of the oven, so with TIME up and OVEN down ARM of TB with its code
does not arm the bank, although `State.mayWrite` holds of the word. -/
theorem not_armingGatesTheCommit : ¬ Obligations.ArmingGatesTheCommit := by
  intro h
  obtain ⟨hmay, hfree, -⟩ := ovenAway_start
  obtain ⟨-, harm, -⟩ := h ovenAway .spi .tb 0x1234
  obtain ⟨hexec, -, -⟩ := harm hmay (by rw [hfree]; decide) _ rfl
  have hsame := Host.Outcome.next.inj (ovenAway_armBank.symm.trans hexec)
  obtain ⟨hno, hyes⟩ := ovenAway_unarmed
  exact absurd (hno.symm.trans ((congrArg (State.armedBy · .tb) hsame).trans hyes)) (by decide)

end Sys2Proof.Machine
end


section
/-! The leap, the smear and UTC_OFFSET (O36). -/

namespace Sys2Proof.Machine

/-! ### Fields of a word that is written whole -/

theorem State.get_setVal (s : State) (f : Fld) (n : Nat) : (s.setVal f.addr n).get f =
    bitsAt (n % 2 ^ 32) f.lo f.width := by
  rw [State.get, State.val_setVal_self]

/-- The fields of a LEAP_CTL word. -/
def leapCtlWord (leap : Nat) (smear done : Bool) : Nat := leap + flagVal smear * 16 + flagVal done * 256

theorem leapCtlWord_leap {n : Nat} (h : n < 4) (smear done : Bool) :
    bitsAt (leapCtlWord n smear done % 2 ^ 32) 0 2 = n := by
  interval_cases n <;> cases smear <;> cases done <;> rfl

theorem leapCtlWord_smear {n : Nat} (h : n < 4) (smear done : Bool) :
    bitsAt (leapCtlWord n smear done % 2 ^ 32) 4 1 = flagVal smear := by
  interval_cases n <;> cases smear <;> cases done <;> rfl

/-! ### The smear flag (R48) -/

/-- The smears that a leap has left behind and whose window has closed are not the ones that F0 stands in. -/
theorem State.smearUpdate_flag (s : State) : s.smearUpdate.bit F.STR_STAT_IN_SMEAR =
    s.str.smears.any (fun m => decide (m.opens ≤ s.pips .f0 s.actSub) &&
      decide (s.pips .f0 s.actSub < m.closes)) := by
  rw [State.smearUpdate, State.bit_setBit_self _ _ _ rfl (by decide), List.any_filter]
  refine congrArg (s.str.smears.any ·) (funext fun m => ?_)
  by_cases h : s.pips .f0 s.actSub < m.closes <;> simp [h]

/-! ### A write of LEAP_CTL (R46, R49) -/

/-- The smears after a write of LEAP_CTL that leaves `leap` pending: its own, and those whose leap has been applied. -/
def State.plannedSmears (s : State) (leap : Nat) (smear : Bool) : List Smear :=
  (if leap ≠ 0 ∧ smear = true then [{ at_ := s.leapAt, d := leapSign leap }] else []) ++
    s.str.smears.filter (fun m => m.applied)

/-- The state in which LEAP_CTL and the planned smears stand, before the smear flag follows. -/
def State.leapStored (s : State) (leap : Nat) (smear done : Bool) : State :=
  let t := (s.setVal A.STR_LEAP_CTL (leapCtlWord leap smear done)).keepPrior
  { t with str := { t.str with smears := s.plannedSmears leap smear } }

section store
variable (s : State) (n : Nat) (smear done : Bool)

theorem State.leapStored_regs :
    (s.leapStored n smear done).regs = (s.setVal A.STR_LEAP_CTL (leapCtlWord n smear done)).regs :=
  State.keepPrior_regs _

theorem State.leapStored_eq : s.leapStored n smear done =
    { s with regs := (s.leapStored n smear done).regs
             str := { s.str with prior := (s.leapStored n smear done).str.prior
                                 smears := (s.leapStored n smear done).str.smears } } := by
  unfold State.leapStored
  dsimp only
  rw [State.keepPrior_eq]
  rfl

theorem State.leapStored_words : s.wordsKept (s.leapStored n smear done) [A.STR_LEAP_CTL] :=
  (s.wordsKept_setVal _ _).trans (State.wordsKept_of_regs (s.leapStored_regs n smear done) _)

theorem State.leapStored_leap (h : n < 4) : (s.leapStored n smear done).leap = n := by
  rw [State.leap, State.get, State.val, State.rd_of_regs (s.leapStored_regs n smear done)]
  exact (State.get_setVal s F.STR_LEAP_CTL_LEAP _).trans (leapCtlWord_leap h smear done)

theorem State.leapStored_smearEn (h : n < 4) : (s.leapStored n smear done).bit F.STR_LEAP_CTL_SMEAR_EN = smear := by
  have hget : (s.leapStored n smear done).get F.STR_LEAP_CTL_SMEAR_EN = flagVal smear := by
    rw [State.get, State.val, State.rd_of_regs (s.leapStored_regs n smear done)]
    exact (State.get_setVal s F.STR_LEAP_CTL_SMEAR_EN _).trans (leapCtlWord_smear h smear done)
  rw [State.bit, hget]
  cases smear <;> rfl

end store

section leapCtl
variable {s : State} {v : Nat} (hsmear : s.bit F.STR_STAT_IN_SMEAR = false) (h3 : bitsAt v 0 2 ≠ 3)
include hsmear h3

/-- Outside a smear a leap that does not meet R46 is out of range. -/
theorem State.leapCtlWrite_range (h0 : bitsAt v 0 2 ≠ 0) (hnew : bitsAt v 0 2 ≠ s.leap)
    (hok : s.leapOk (bitsAt v 0 2) (bitOf v 4) = false) : s.leapCtlWrite v = s.rejected .range := by
  simp only [State.leapCtlWrite, hsmear, Bool.and_false, Bool.false_eq_true, and_false, if_false]
  rw [if_neg h3, if_pos ⟨hnew, h0, hok⟩]

/-- Outside a smear any other write of LEAP_CTL is stored, and the smear flag follows. -/
theorem State.leapCtlWrite_stored
    (hok : bitsAt v 0 2 ≠ 0 → bitsAt v 0 2 ≠ s.leap → s.leapOk (bitsAt v 0 2) (bitOf v 4) = true) :
    s.leapCtlWrite v = (s.leapStored (bitsAt v 0 2) (bitOf v 4)
      (s.bit F.STR_LEAP_CTL_LEAP_DONE && !bitOf v 8)).smearUpdate.ok := by
  have hfit : ¬ (bitsAt v 0 2 ≠ s.leap ∧ bitsAt v 0 2 ≠ 0 ∧ s.leapOk (bitsAt v 0 2) (bitOf v 4) = false) :=
    fun ⟨hnew, h0, hbad⟩ => absurd (hok h0 hnew) (by rw [hbad]; decide)
  simp only [State.leapCtlWrite, hsmear, Bool.and_false, Bool.false_eq_true, and_false, if_false]
  rw [if_neg h3, if_neg hfit]
  simp only [State.leapStored, State.plannedSmears, leapCtlWord]

end leapCtl

/-- What a stored LEAP_CTL comes to: the leap and SMEAR_EN stand, and no Face has changed (R46, R49). -/
theorem State.leapStored_spec {s u : State} {n : Nat} (hn : n < 4) {smear done : Bool}
    (hu : u = (s.leapStored n smear done).smearUpdate) :
    u.leap = n ∧ u.bit F.STR_LEAP_CTL_SMEAR_EN = smear ∧ u.str.f0 = s.str.f0 ∧ u.str.f3 = s.str.f3 ∧
      s.wordsKept u [A.STR_LEAP_CTL, A.STR_STAT] ∧ u = { s with regs := u.regs, str := u.str } := by
  subst hu
  have hstat := State.wordsKept_smearUpdate (s.leapStored n smear done)
  refine ⟨(hstat.get (by decide)).trans (State.leapStored_leap s n smear done hn),
    (hstat.bit (by decide)).trans (State.leapStored_smearEn s n smear done hn), ?_, ?_,
    ((s.leapStored_words n smear done).mono (by simp)).trans (hstat.mono (by simp)), ?_⟩
  all_goals rw [State.smearUpdate_eq, State.leapStored_eq]

/-! ### A leap is applied (R47) -/

/-- The state in which the leap has moved UTC_OFFSET to `utc` and is done, before its records. -/
def State.leapTaken (s : State) (utc : Nat) : State :=
  let t := ({ s.keepPrior with str := { s.keepPrior.str with
    smears := (s.faces.withUtc (signedOf 16 utc) true).smears } } : State).setVal A.STR_UTC_OFFSET utc
  (t.put F.STR_LEAP_CTL_LEAP 0).setBit F.STR_LEAP_CTL_LEAP_DONE true

section taken
variable (s : State) (utc : Nat)

theorem State.leapTaken_eq : s.leapTaken utc =
    { s with regs := (s.leapTaken utc).regs
             str := { s.str with prior := (s.leapTaken utc).str.prior, smears := (s.leapTaken utc).str.smears } } := by
  unfold State.leapTaken
  rw [State.keepPrior_eq]
  rfl

theorem State.leapTaken_leap : (s.leapTaken utc).leap = 0 :=
  (State.get_put_apart _ (f := F.STR_LEAP_CTL_LEAP_DONE) (g := F.STR_LEAP_CTL_LEAP) _ rfl (by decide) (by decide)).trans
    (State.get_put_self _ F.STR_LEAP_CTL_LEAP 0 (by decide))

theorem State.leapTaken_done : (s.leapTaken utc).bit F.STR_LEAP_CTL_LEAP_DONE = true :=
  State.bit_setBit_self _ _ _ rfl (by decide)

theorem State.leapTaken_utc (h : utc < 2 ^ 32) : (s.leapTaken utc).val A.STR_UTC_OFFSET = utc := by
  rw [State.leapTaken, (State.wordsKept_setBit _ _ _).val (by decide), (State.wordsKept_put _ _ _).val (by decide),
    State.val_setVal_self, Nat.mod_eq_of_lt h]

theorem State.leapTaken_words : s.wordsKept (s.leapTaken utc) [A.STR_UTC_OFFSET, A.STR_LEAP_CTL] := by
  have hprior : s.wordsKept ({ s.keepPrior with str := { s.keepPrior.str with
      smears := (s.faces.withUtc (signedOf 16 utc) true).smears } } : State) [A.STR_UTC_OFFSET, A.STR_LEAP_CTL] :=
    State.wordsKept_of_regs s.keepPrior_regs _
  exact ((hprior.trans ((State.wordsKept_setVal _ _ _).mono (by simp))).trans
    ((State.wordsKept_put _ F.STR_LEAP_CTL_LEAP 0).mono (by simp [F.STR_LEAP_CTL_LEAP]))).trans
    ((State.wordsKept_setBit _ F.STR_LEAP_CTL_LEAP_DONE true).mono (by simp [F.STR_LEAP_CTL_LEAP_DONE]))

end taken

/-- The offset that the pending leap leaves (R47). -/
def State.leapUtc (s : State) : Nat := codeOf 16 (s.utcOffset + leapSign s.leap)

/-- A leap that F0 has reached and that makes neither F1 nor F2 negative: the offset moves, and a STEP record, the event
and the Ledger say so. -/
theorem State.leapApply_taken {s : State} (hleap : s.leap ≠ 0)
    (hat : (s.leapAt : Int) * pipsPerSec ≤ s.pips .f0 s.nowSub)
    (hfit : s.facesFit (s.faces.withUtc (signedOf 16 s.leapUtc) true) [.f1, .f2] = true) :
    s.leapApply = (((s.leapTaken s.leapUtc).stepTrace 1 4 (-leapSign s.leap * pipsPerSec)).raise Ev.LEAP_DONE).ledger
      32 5 (beBytes 2 s.leapUtc) none := by
  rw [State.leapApply, if_pos ⟨hleap, hat⟩]
  exact if_pos hfit

/-- The Ledger's words lie in its own bank. -/
theorem ledgerWords_bank {a : Nat} (h : a ∈ ledgerWords) : a / 256 = 0x16 := by
  simp only [ledgerWords, List.mem_cons, List.not_mem_nil, or_false] at h
  rcases h with rfl | rfl <;> rfl

/-- Words kept outside a list and outside the Ledger's words are kept outside the list and the Ledger's bank. -/
theorem State.wordsKept.keptBut {s u : State} {l : List Nat} (h : s.wordsKept u (l ++ ledgerWords)) {f : Nat → Bool}
    (hl : ∀ a ∈ l, f a = true) (hb : ∀ a, a / 256 = 0x16 → f a = true) : s.keptBut u f := by
  intro a ha
  refine h a fun hmem => ?_
  rcases List.mem_append.1 hmem with hmem | hmem
  · exact absurd (hl a hmem) (by simp [ha])
  · exact absurd (hb a (ledgerWords_bank hmem)) (by simp [ha])

/-- What a leap that is taken comes to. -/
theorem State.leapApply_spec {s u : State} (hleap : s.leap ≠ 0)
    (hat : (s.leapAt : Int) * pipsPerSec ≤ s.pips .f0 s.nowSub)
    (hfit : s.facesFit (s.faces.withUtc (signedOf 16 s.leapUtc) true) [.f1, .f2] = true) (hu : u = s.leapApply) :
    u.leap = 0 ∧ u.bit F.STR_LEAP_CTL_LEAP_DONE = true ∧ u.val A.STR_UTC_OFFSET = s.leapUtc ∧
      Ev.LEAP_DONE ∈ u.raised ∧ u.str.f0 = s.str.f0 ∧ u.str.f3 = s.str.f3 ∧
      s.keptBut u (fun a => a == A.STR_UTC_OFFSET || a == A.STR_LEAP_CTL || a / 256 == 0x16) ∧
      u = { s with regs := u.regs, raised := u.raised, obs := u.obs, ldg := u.ldg, str := u.str } := by
  rw [State.leapApply_taken hleap hat hfit] at hu
  set r := ((s.leapTaken s.leapUtc).stepTrace 1 4 (-leapSign s.leap * pipsPerSec)).raise Ev.LEAP_DONE with hr
  have hrecords : (s.leapTaken s.leapUtc).wordsKept r [] :=
    State.wordsKept_of_regs (by rw [hr, State.stepTrace_eq]; rfl) _
  have hkept : (s.leapTaken s.leapUtc).wordsKept u ledgerWords :=
    hu ▸ (hrecords.mono (by simp)).trans (State.wordsKept_ledger r _ _ _ _)
  have hraised : Ev.LEAP_DONE ∈ r.raised := by simp [hr]
  obtain ⟨regs, raised, queue, sums, hledger⟩ := State.ledger_eq r 32 5 (beBytes 2 s.leapUtc) none
  have hframe : u = { s.leapTaken s.leapUtc with
      regs := u.regs, raised := u.raised, obs := u.obs, ldg := u.ldg } := by
    rw [hu, hledger, hr, State.stepTrace_eq]; rfl
  have hwords : s.wordsKept u ([A.STR_UTC_OFFSET, A.STR_LEAP_CTL] ++ ledgerWords) :=
    ((s.leapTaken_words _).mono (by simp)).trans (hkept.mono (by simp))
  refine ⟨(hkept.get (by decide)).trans (s.leapTaken_leap _), (hkept.bit (by decide)).trans (s.leapTaken_done _),
    (hkept.val (by decide)).trans (s.leapTaken_utc _ ((codeOf_lt 16 _).trans (by decide))),
    hu ▸ State.mem_raised_ledger hraised _ _ _ _, ?_, ?_, hwords.keptBut (by simp) (by simp +contextual), ?_⟩
  all_goals rw [hframe, State.leapTaken_eq]

/-! ### An armed write of UTC_OFFSET (R50) -/

/-- Disarming leaves what the Faces are judged and read by. -/
theorem State.facesAt_disarm (s : State) (b : ArmBank) (t : Int) : (s.disarm b).facesAt t = s.facesAt t := by
  cases b <;> rfl

/-- The state in which an accepted write of UTC_OFFSET stands, before the Ledger has it. -/
def State.utcStored (s : State) (utc : Nat) : State := (s.disarm .str).keepPrior.setVal A.STR_UTC_OFFSET utc

section utc
variable (s : State) (utc : Nat)

theorem State.utcStored_eq : s.utcStored utc =
    { s.disarm .str with
      regs := (s.utcStored utc).regs
      str := { (s.disarm .str).str with prior := (s.utcStored utc).str.prior } } := by
  rw [State.utcStored, State.keepPrior_eq]
  rfl

theorem State.utcStored_words : s.wordsKept (s.utcStored utc) [A.STR_UTC_OFFSET] :=
  State.wordsKept.trans (t := (s.disarm .str).keepPrior)
    (State.wordsKept_of_regs (State.keepPrior_regs (s.disarm .str)) _) (State.wordsKept_setVal _ _ _)

theorem State.utcStored_tickKept : s.tickKept (s.utcStored utc) := by
  refine ⟨by rw [State.utcStored_eq]; rfl, ?_⟩
  obtain ⟨k, hk, -⟩ := (s.disarm .str).keepPrior_prior
  exact ⟨k, hk.trans (by rw [State.facesAt_disarm]; rfl)⟩

end utc

/-- Within a tick the kept parameters survive what leaves the Tally and STR. -/
theorem State.tickKept.congr {s t u : State} (h : s.tickKept t) (htal : u.tally = t.tally) (hstr : u.str = t.str) :
    s.tickKept u := by
  obtain ⟨h1, k, hk⟩ := h
  exact ⟨htal.trans h1, k, by rw [hstr, hk]⟩

theorem State.utcWrite_unarmed {s : State} {p : HostPort} (h : s.armedFor p .str = false) (v : Nat) :
    s.utcWrite p v = s.rejected .unarmed := by
  simp [State.utcWrite, State.useArm, h]

theorem State.utcWrite_stored {s : State} {p : HostPort} {v : Nat} (harm : s.armedFor p .str = true)
    (hleap : s.leap = 0) (hfit : s.facesFit (s.faces.withUtc (signedOf 16 v) false) [.f1, .f2] = true) :
    s.utcWrite p v = ((s.utcStored (v % 65536)).ledger 32 6 (beBytes 2 v) none).ok := by
  simp [State.utcWrite, State.useArm, harm, hleap, hfit, State.utcStored]

/-- What an accepted write of UTC_OFFSET comes to. -/
theorem State.utcStored_spec {s u : State} {v : Nat}
    (hu : u = (s.utcStored (v % 65536)).ledger 32 6 (beBytes 2 v) none) :
    u.val A.STR_UTC_OFFSET = v % 65536 ∧ u.armedBy .str = none ∧ u.str.f0 = s.str.f0 ∧ u.str.f3 = s.str.f3 ∧
      (∀ g : Face, ∀ t : Int, s.nowSub ≤ t → t < s.nextSub → u.pips g t = s.pips g t) ∧
      s.keptBut u (fun a => a == A.STR_UTC_OFFSET || a / 256 == 0x16) := by
  have hkept : (s.utcStored (v % 65536)).wordsKept u ledgerWords := hu ▸ State.wordsKept_ledger _ _ _ _ _
  have hwords : s.wordsKept u ([A.STR_UTC_OFFSET] ++ ledgerWords) :=
    ((s.utcStored_words _).mono (by simp)).trans (hkept.mono (by simp))
  obtain ⟨regs, raised, queue, sums, hledger⟩ := State.ledger_eq (s.utcStored (v % 65536)) 32 6 (beBytes 2 v) none
  rw [hledger] at hu
  have htick : s.tickKept u := (s.utcStored_tickKept (v % 65536)).congr (by rw [hu]) (by rw [hu])
  refine ⟨?_, ?_, ?_, ?_, fun g t h1 h2 => htick.pips_now g h1 h2, hwords.keptBut (by simp) (by simp +contextual)⟩
  · rw [hkept.val (by decide), State.utcStored, State.val_setVal_self, Nat.mod_eq_of_lt]
    omega
  · rw [hu, State.utcStored_eq]
    exact State.armedBy_disarm s .str
  all_goals rw [hu, State.utcStored_eq]; rfl

/-! ### The commands -/

/-- The commands are writes of LEAP_CTL and of UTC_OFFSET. -/
theorem exec_leapSchedule (s : State) (p : HostPort) (v : Word) :
    exec (.leapSchedule p v) s = .next (s.after (s.hostParam p A.STR_LEAP_CTL v)) := rfl

theorem exec_leapCancel (s : State) (p : HostPort) (v : Word) :
    exec (.leapCancel p v) s = .next (s.after (s.hostParam p A.STR_LEAP_CTL v)) := rfl

theorem exec_utcOffsetWrite (s : State) (p : HostPort) (v : Word) :
    exec (.utcOffsetWrite p v) s = .next (s.after (s.hostParam p A.STR_UTC_OFFSET v)) := rfl

/-- The bank's rule discards a write of a ruled word whose write applies no held words. -/
theorem State.hostParam_ruled_rejected_unheld {s u : State} {p : HostPort} {a : Nat} {v : Word} {r : Reject}
    (h : s.mayWrite p a = true) (ha : ruledWord a = true) (hl : appliedHolds a = [])
    (hx : s.bankWrite p (a / 256) (a % 256) v.toNat = some (u.rejected r)) :
    s.hostParam p a v = u.turnedAway p a v r := by
  rw [State.hostParam_ruled_rejected h ha hx, hl, State.dropHolds_nil]

/-- LEAP_CTL follows its own rule. -/
theorem State.bankWrite_leapCtl (s : State) (p : HostPort) (n : Nat) :
    s.bankWrite p (A.STR_LEAP_CTL / 256) (A.STR_LEAP_CTL % 256) n = some (s.leapCtlWrite n) := rfl

/-- UTC_OFFSET follows its own rule. -/
theorem State.bankWrite_utcOffset (s : State) (p : HostPort) (n : Nat) :
    s.bankWrite p (A.STR_UTC_OFFSET / 256) (A.STR_UTC_OFFSET % 256) n = some (s.utcWrite p n) := rfl

/-- Settles O36: LEAP_CTL and UTC_OFFSET follow their rules through the port, a leap that is due is taken, and the smear
flag follows F0. -/
theorem leapsSmearAndOffset : Obligations.LeapsSmearAndOffset := by
  intro s p v
  simp only [exec_leapSchedule, exec_leapCancel, exec_utcOffsetWrite]
  refine ⟨?_, fun hup hleap hat hfit u hu => ?_, fun hup u hu => ?_, fun hw harm => ?_,
    fun hw harm hleap hfit u hu => ?_⟩
  · rintro hw hsmear n rfl
    refine ⟨fun h3 h0 hnew hbad => ?_, fun h3 hok u hu => ?_⟩
    · have hrule := (s.bankWrite_leapCtl p _).trans
        (congrArg some (State.leapCtlWrite_range hsmear h3 h0 hnew hbad))
      rw [State.hostParam_ruled_rejected_unheld hw (by decide) (by decide) hrule]
    · have hstored := State.leapCtlWrite_stored hsmear h3 hok
      rw [hstored] at hu
      rw [State.hostParam_ruled hw (by decide) ((s.bankWrite_leapCtl p _).trans (congrArg some hstored)), hu]
      exact ⟨rfl, rfl, State.leapStored_spec (Nat.mod_lt _ (by decide)) rfl⟩
  · exact ⟨hu ▸ happen_inside hup rfl State.leapApply, State.leapApply_spec hleap hat hfit hu⟩
  · subst hu
    exact ⟨happen_inside hup rfl State.smearUpdate, happen_inside hup rfl State.smearUpdate, s.smearUpdate_flag,
      rfl, rfl, s.wordsKept_smearUpdate, s.smearUpdate_eq⟩
  · have hrule := (s.bankWrite_utcOffset p v.toNat).trans (congrArg some (State.utcWrite_unarmed harm _))
    rw [State.hostParam_ruled_rejected_unheld hw (by decide) (by decide) hrule]
  · have hstored := State.utcWrite_stored harm hleap hfit
    rw [hstored] at hu
    rw [State.hostParam_ruled hw (by decide) ((s.bankWrite_utcOffset p _).trans (congrArg some hstored)), hu]
    exact ⟨rfl, State.utcStored_spec rfl⟩

end Sys2Proof.Machine
end


section
/-! A run that Rise makes by itself (O41). -/

namespace Sys2Proof.Machine

/-- TIME is ON in Rise with RISE_RUN set and the PLL locked, the Tally runs, and no channel has a stored table. -/
def riseDue : State :=
  { regs := [(A.PWR_DOM_STAT, 0xAAAA), (A.TB_STAT, 0x50), (A.VCAL_CTL, 2)], pwr := { started := true } }

/-- Channel 0 runs nothing, and the full run planned for it may start now: what CAL_AUTO_START asks for. -/
theorem riseDue_planned : riseDue.up .time = true ∧ (riseDue.calib 0).run = none ∧ riseDue.plannedRun 0 = some true ∧
    riseDue.bit F.TB_STAT_PLL_LOCK = true ∧ riseDue.autoPlace 0 true = .now := by decide +kernel

/-- The run bears the mark of a run that RISE_RUN makes (R137). -/
theorem riseDue_marked : ((riseDue.autoRun 0).calib 0).run = some { full := true, held := true, rise := true } := by
  decide +kernel

/-- Refutes O41: its clause on CAL_AUTO_START gives every planned run as one without the mark of R137, and in Rise with
RISE_RUN the run of a due channel has it. -/
theorem not_calibrationRuns : ¬ Obligations.CalibrationRuns := by
  intro h
  obtain ⟨hup, hidle, hplan, hlock, hnow⟩ := riseDue_planned
  obtain ⟨-, -, hauto, -⟩ := h riseDue 0 hup (by decide)
  obtain ⟨-, -, hstart, -⟩ := hauto _ rfl
  have hunmarked := hstart hidle true hplan hlock (.inl hnow)
  rw [riseDue_marked, hnow] at hunmarked
  exact absurd hunmarked (by decide)

end Sys2Proof.Machine
end


section
/-! SUPPORT. The oven: what its operations touch, and how OVEN_ON, WARM, T_INBAND and OVEN_FAULT follow (R57 to R65, R86,
R88). -/

-- As in the tests: elaborated in parallel, these proofs' thread stacks would exceed the check's memory limit.
set_option Elab.async false

namespace Sys2Proof.Machine

/-! ### The reach of an operation of the oven -/

/-- A field none of whose bits is listed. -/
abbrev bitsBeside (f : Fld) (bits : List Nat) : Prop := 0 < f.width ∧ ∀ k ∈ bits, k < f.lo ∨ f.lo + f.width ≤ k

/-- `u` follows `s` by an operation of the oven that writes, of TB.STAT, only the listed bits, and else only the listed
words; it may hand an event to the Ledger, and every event raised stays raised. -/
structure State.OvenStep (s u : State) (bits words : List Nat) : Prop where
  words : s.wordsKept u (A.TB_STAT :: words)
  stat : ∀ f : Fld, f.addr = A.TB_STAT → bitsBeside f bits → u.get f = s.get f
  raised : s.raised ⊆ u.raised
  slots : u.ldg.slots = s.ldg.slots
  frame : u = { s with regs := u.regs, raised := u.raised, ldg := u.ldg, tb := u.tb }

namespace State.OvenStep
variable {s t u : State} {bits words cs vs : List Nat}

theorem refl (s : State) (bits words : List Nat) : s.OvenStep s bits words :=
  ⟨s.wordsKept_refl _, fun _ _ _ => rfl, List.Subset.refl _, rfl, rfl⟩

/-- A further operation of no wider reach. -/
theorem next (h1 : s.OvenStep t bits words) (h2 : t.OvenStep u cs vs) (hb : cs ⊆ bits := by decide)
    (hw : vs ⊆ words := by decide) : s.OvenStep u bits words :=
  ⟨h1.words.trans (h2.words.mono (List.cons_subset_cons _ hw)),
    fun f hf hk => (h2.stat f hf ⟨hk.1, fun k hm => hk.2 k (hb hm)⟩).trans (h1.stat f hf hk),
    List.Subset.trans h1.raised h2.raised, h2.slots.trans h1.slots, by rw [h2.frame, h1.frame]⟩

theorem mono (h : s.OvenStep u bits words) (hb : bits ⊆ cs) (hw : words ⊆ vs) : s.OvenStep u cs vs :=
  (refl s cs vs).next h hb hw

/-- A field apart from what is written keeps its value. -/
theorem get (h : s.OvenStep u bits words) (f : Fld)
    (hf : (f.addr = A.TB_STAT ∧ bitsBeside f bits) ∨ f.addr ∉ A.TB_STAT :: words := by decide) :
    u.get f = s.get f :=
  hf.elim (fun hf => h.stat f hf.1 hf.2) (fun hf => h.words.get hf)

theorem bit (h : s.OvenStep u bits words) (f : Fld)
    (hf : (f.addr = A.TB_STAT ∧ bitsBeside f bits) ∨ f.addr ∉ A.TB_STAT :: words := by decide) :
    u.bit f = s.bit f := by rw [State.bit, State.bit, h.get f hf]

theorem val (h : s.OvenStep u bits words) (a : Nat) (ha : a ∉ A.TB_STAT :: words := by decide) :
    u.val a = s.val a := h.words.val ha

/-- An update of the time base's hidden state. -/
theorem withTb (s : State) (x : TimeBaseState) : s.OvenStep { s with tb := x } [] [] :=
  ⟨State.wordsKept_of_regs rfl _, fun _ _ _ => rfl, List.Subset.refl _, rfl, rfl⟩

theorem setVal (s : State) (a n : Nat) (ha : A.TB_STAT ≠ a := by decide) : s.OvenStep (s.setVal a n) [] [a] :=
  ⟨(s.wordsKept_setVal a n).mono (by simp), fun f hf _ => by
    rw [State.get, State.get, State.val_setVal_ne s (by rwa [hf])], List.Subset.refl _, rfl, rfl⟩

theorem putStat (s : State) (lo width n : Nat) (hw : 0 < width := by decide) (h : lo + width ≤ 32 := by decide) :
    s.OvenStep (s.put ⟨A.TB_STAT, lo, width⟩ n) (List.range' lo width) [] where
  words := s.wordsKept_put _ _
  stat f hf hk := by
    refine State.get_put_apart s n hf h ?_
    by_contra hc
    simp only [not_or, not_le] at hc
    have := hk.2 (max lo f.lo) (List.mem_range'_1.2 (by omega))
    have := hk.1
    omega
  raised := List.Subset.refl _
  slots := rfl
  frame := rfl

theorem setBit (s : State) (k : Nat) (b : Bool) (h : k + 1 ≤ 32 := by decide) :
    s.OvenStep (s.setBit ⟨A.TB_STAT, k, 1⟩ b) [k] [] := putStat s k 1 _ Nat.one_pos h

theorem raise (s : State) (e : EventId) : s.OvenStep (s.raise e) [] [] :=
  ⟨State.wordsKept_of_regs rfl _, fun _ _ _ => rfl, List.subset_append_left _ _, rfl, rfl⟩

theorem ledger (s : State) (src evt : Nat) (data : List Byte) (cont : Option (List Byte)) :
    s.OvenStep (s.ledger src evt data cont) [] ledgerWords := by
  have hkept := State.wordsKept_ledger s src evt data cont
  obtain ⟨regs, raised, queue, sums, hl⟩ := State.ledger_eq s src evt data cont
  refine ⟨hkept.mono (by simp), fun f hf _ => hkept.get (by rw [hf]; decide),
    fun e he => State.mem_raised_ledger he src evt data cont, ?_, ?_⟩
  all_goals rw [hl]

/-- What of the state the control loop asks besides the hidden state of the time base. -/
theorem wantsHeat (h : s.OvenStep u bits words) (hdom : A.PWR_DOM_STAT ∉ words := by decide)
    (hctl : A.TB_CTL ∉ words := by decide) (hlow : u.tb.vheatLow = s.tb.vheatLow) (hhot : u.tb.overtemp = s.tb.overtemp)
    (hramp : u.tb.ramp = s.tb.ramp) : u.wantsHeat = s.wantsHeat := by
  have hd : u.dom .oven = s.dom .oven := h.words.get (List.not_mem_cons_of_ne_of_not_mem (by decide) hdom)
  have he : u.bit F.TB_CTL_OVEN_EN = s.bit F.TB_CTL_OVEN_EN :=
    h.words.bit (List.not_mem_cons_of_ne_of_not_mem (by decide) hctl)
  rw [State.wantsHeat, State.wantsHeat, hd, he, hlow, hhot, hramp]

end State.OvenStep

/-! ### The heater (R58, R88) -/

section heat
variable (s : State)

/-- Nothing to do, a start, or a stop. -/
theorem State.heatFollows_cases :
    (s.wantsHeat = s.bit F.TB_STAT_OVEN_ON ∧ s.heatFollows = s) ∨
    (s.wantsHeat = true ∧ s.bit F.TB_STAT_OVEN_ON = false ∧ s.heatFollows = s.heatStarts) ∨
    (s.wantsHeat = false ∧ s.bit F.TB_STAT_OVEN_ON = true ∧ s.heatFollows =
      ({ s with tb := { s.tb with ramp := .down, drives := [] } }.setBit F.TB_STAT_OVEN_ON false).setBit
        F.TB_STAT_FREQ_SETTLED false) := by
  unfold State.heatFollows State.heatStops
  cases s.wantsHeat <;> cases s.bit F.TB_STAT_OVEN_ON <;> simp

theorem State.heatFollows_step : s.OvenStep s.heatFollows [1, 3] [] := by
  rcases s.heatFollows_cases with ⟨-, h⟩ | ⟨-, -, h⟩ | ⟨-, -, h⟩ <;> rw [h]
  · exact .refl _ _ _
  · exact ((State.OvenStep.refl s _ _).next (.withTb s _)).next (.setBit _ 1 true)
  · exact (((State.OvenStep.refl s _ _).next (.withTb s _)).next (.setBit _ 1 false)).next (.setBit _ 3 false)

theorem State.heatFollows_tb : ∃ r d, s.heatFollows.tb = { s.tb with ramp := r, drives := d } := by
  rcases s.heatFollows_cases with ⟨-, h⟩ | ⟨-, -, h⟩ | ⟨-, -, h⟩ <;>
    exact ⟨_, _, (congrArg State.tb h).trans rfl⟩

/-- OVEN_ON equals what the loop wants. -/
theorem State.heatFollows_on : s.heatFollows.bit F.TB_STAT_OVEN_ON = s.heatFollows.wantsHeat := by
  rcases s.heatFollows_cases with ⟨hw, h⟩ | ⟨hw, hoff, h⟩ | ⟨hw, hon, h⟩
  · rw [h, hw]
  · have hon : s.heatStarts.bit F.TB_STAT_OVEN_ON = true := State.bit_setBit_self _ _ _ rfl (by decide)
    have hup : s.heatStarts.wantsHeat = (s.dom .oven == 2 && s.bit F.TB_CTL_OVEN_EN && !s.tb.vheatLow.on &&
        !s.tb.overtemp.on && (HeaterRamp.up != .down)) := by
      have hstep := h ▸ s.heatFollows_step
      rw [State.wantsHeat, State.dom, hstep.get (domField .oven), hstep.bit F.TB_CTL_OVEN_EN]
      rfl
    simp only [State.wantsHeat, Bool.and_eq_true] at hw
    rw [h, hon, hup]
    simp [hw]
  · rw [h, State.bit_setBit_apart _ _ (by decide) (by decide), State.bit_setBit_self _ _ _ rfl (by decide)]
    simp [State.wantsHeat]

end heat

/-! ### The faults (R86) -/

section fault
variable (s : State)

theorem State.faultCode_lt : s.faultCode < 8 := by
  unfold State.faultCode
  split_ifs <;> decide

theorem State.faultCode_congr {s u : State} (h : u.tb = { s.tb with faultLogged := u.tb.faultLogged }) :
    u.faultCode = s.faultCode := by rw [State.faultCode, h]; rfl

/-- The new code stands, and its event is raised. -/
def State.faultNoted : State := (s.put F.TB_STAT_OVEN_FAULT s.faultCode).raise Ev.OVEN_FAULT

/-- A code other than 0 leaves FAULT_SEEN. -/
def State.faultSeen : State := s.faultNoted.setBit F.TB_STAT_FAULT_SEEN true

theorem State.faultFollows_same (h : s.faultCode = s.get F.TB_STAT_OVEN_FAULT) : s.faultFollows = s := if_pos h

theorem State.faultFollows_noted (h : s.faultCode ≠ s.get F.TB_STAT_OVEN_FAULT) :
    s.faultNoted.OvenStep s.faultFollows [16] ledgerWords ∧
      ∃ b, s.faultFollows.tb = { s.tb with faultLogged := b } := by
  have hseen : s.faultNoted.OvenStep s.faultSeen [16] ledgerWords :=
    (State.OvenStep.refl _ _ _).next (.setBit s.faultNoted 16 true)
  have heq : s.faultFollows = if s.faultCode = 0 then s.faultNoted else if s.tb.faultLogged then s.faultSeen
      else ({ s.faultSeen with tb := { s.tb with faultLogged := true } }).ledger 33 1 (beBytes 1 s.faultCode) none :=
    if_neg h
  rw [heq]
  split_ifs
  · exact ⟨.refl _ _ _, _, rfl⟩
  · exact ⟨hseen, _, rfl⟩
  · obtain ⟨regs, raised, queue, sums, hl⟩ := State.ledger_eq
      { s.faultSeen with tb := { s.tb with faultLogged := true } } 33 1 (beBytes 1 s.faultCode) none
    exact ⟨(hseen.next (.withTb _ _)).next (.ledger _ _ _ _ _), true, by rw [hl]⟩

theorem State.faultNoted_step : s.OvenStep s.faultNoted [8, 9, 10] [] :=
  ((State.OvenStep.refl s _ _).next (.putStat s 8 3 s.faultCode)).next (.raise _ _)

theorem State.faultFollows_step : s.OvenStep s.faultFollows [8, 9, 10, 16] ledgerWords := by
  by_cases h : s.faultCode = s.get F.TB_STAT_OVEN_FAULT
  · rw [s.faultFollows_same h]; exact .refl _ _ _
  · exact ((State.OvenStep.refl s _ _).next s.faultNoted_step).next (s.faultFollows_noted h).1

theorem State.faultFollows_tb : ∃ b, s.faultFollows.tb = { s.tb with faultLogged := b } := by
  by_cases h : s.faultCode = s.get F.TB_STAT_OVEN_FAULT
  · exact ⟨_, by rw [s.faultFollows_same h]⟩
  · exact (s.faultFollows_noted h).2

/-- OVEN_FAULT equals the code of the standing faults. -/
theorem State.faultFollows_code : s.faultFollows.get F.TB_STAT_OVEN_FAULT = s.faultFollows.faultCode := by
  obtain ⟨b, hb⟩ := s.faultFollows_tb
  rw [State.faultCode_congr (s := s) (by rw [hb])]
  by_cases h : s.faultCode = s.get F.TB_STAT_OVEN_FAULT
  · rw [s.faultFollows_same h, h]
  · rw [(s.faultFollows_noted h).1.get F.TB_STAT_OVEN_FAULT, State.faultNoted, State.get_raise,
      State.get_put_self s _ _ (by decide)]
    exact Nat.mod_eq_of_lt s.faultCode_lt

/-- A change of the code is raised. -/
theorem State.faultFollows_raises : s.faultFollows.get F.TB_STAT_OVEN_FAULT = s.get F.TB_STAT_OVEN_FAULT ∨
    Ev.OVEN_FAULT ∈ s.faultFollows.raised := by
  by_cases h : s.faultCode = s.get F.TB_STAT_OVEN_FAULT
  · rw [s.faultFollows_same h]; exact .inl rfl
  · exact .inr ((s.faultFollows_noted h).1.raised (List.mem_append_right _ (List.mem_singleton_self _)))

end fault

/-! ### WARM and T_INBAND (R61, R62, R64, R65) -/

section warm
variable (s : State)

theorem State.loseWarm_step : s.OvenStep s.loseWarm [0] [A.TB_WARM_AGE] := by
  unfold State.loseWarm
  split
  · exact ((((State.OvenStep.refl s _ _).next (.withTb s _)).next (.setBit _ 0 false)).next
      (.setVal _ A.TB_WARM_AGE 0)).next (.raise _ _)
  · exact .refl _ _ _

theorem State.loseWarm_tb : ∃ k, s.loseWarm.tb = { s.tb with warmSamples := k } := by
  unfold State.loseWarm
  split <;> exact ⟨_, rfl⟩

theorem State.loseWarm_warm : s.loseWarm.bit F.TB_STAT_WARM = false := by
  unfold State.loseWarm
  split
  · rw [State.bit_raise, (State.OvenStep.setVal _ A.TB_WARM_AGE 0).bit F.TB_STAT_WARM,
      State.bit_setBit_self _ _ _ rfl (by decide)]
  · next h => exact Bool.eq_false_iff.2 h

theorem State.loseWarm_raises (h : s.bit F.TB_STAT_WARM = true) : Ev.WARM_LOST ∈ s.loseWarm.raised := by
  rw [State.loseWarm, if_pos h]
  exact List.mem_append_right _ (List.mem_singleton_self _)

theorem State.gainWarm_step : s.OvenStep s.gainWarm [0] [A.TB_WARMUP_LAST] := by
  unfold State.gainWarm
  split
  · exact ((((State.OvenStep.refl s _ _).next (.withTb s _)).next (.setBit _ 0 true)).next
      (.setVal _ A.TB_WARMUP_LAST _)).next (.raise _ _)
  · exact .refl _ _ _

theorem State.gainWarm_tb : ∃ k b, s.gainWarm.tb = { s.tb with warmSamples := k, slow := b } := by
  unfold State.gainWarm
  split <;> exact ⟨_, _, rfl⟩

theorem State.gainWarm_kept (h : s.bit F.TB_STAT_WARM = true) : s.gainWarm = s := by
  rw [State.gainWarm, if_neg (by simp [h])]

/-- WARM rises only with both its conditions, and is raised. -/
theorem State.gainWarm_rises : s.gainWarm = s ∨
    (s.bit F.TB_STAT_FREQ_SETTLED = true ∧ Ev.WARM_SET ∈ s.gainWarm.raised) := by
  unfold State.gainWarm
  split
  · next h => exact .inr ⟨h.2.2, List.mem_append_right _ (List.mem_singleton_self _)⟩
  · exact .inl rfl

/-- T_INBAND with its qualifier. -/
def State.setInband (q : Qual) : State := ({ s with tb := { s.tb with inband := q } }).setBit F.TB_STAT_T_INBAND q.on

theorem State.setInband_step (q : Qual) : s.OvenStep (s.setInband q) [2] [] :=
  ((State.OvenStep.refl s _ _).next (.withTb s _)).next (.setBit _ 2 q.on)

theorem State.setInband_inband (q : Qual) : (s.setInband q).bit F.TB_STAT_T_INBAND = q.on :=
  State.bit_setBit_self _ _ _ rfl (by decide)

theorem State.releaseInband_eq : s.releaseInband = (s.setInband {}).loseWarm := rfl

theorem State.releaseInband_step : s.OvenStep s.releaseInband [0, 2] [A.TB_WARM_AGE] := by
  rw [s.releaseInband_eq]
  exact ((State.OvenStep.refl s _ _).next (s.setInband_step {})).next (State.loseWarm_step _)

/-- T_INBAND takes a sample of the deviation, or is released at once; WARM follows it. -/
def State.inbandFollows (bad : Bool) (err : Int) : State :=
  if s.bit F.TB_CTL_OVEN_EN = false ∨ bad = true then s.releaseInband
  else
    let q := Qual.sample .lower
      { assertAt := 500, releaseAt := 2000, assertDwell := 240, releaseDwell := 8 } |err| s.tb.inband
    if q.on then (s.setInband q).gainWarm else (s.setInband q).loseWarm

/-- T_INBAND is released and WARM lost, or T_INBAND holds and WARM may be gained. -/
theorem State.inbandFollows_cases (bad : Bool) (err : Int) :
    (∃ q : Qual, q.on = false ∧ s.inbandFollows bad err = (s.setInband q).loseWarm ∧
      (s.bit F.TB_CTL_OVEN_EN = false ∨ bad = true → q = {})) ∨
    (∃ q : Qual, q.on = true ∧ s.inbandFollows bad err = (s.setInband q).gainWarm ∧
      ¬ (s.bit F.TB_CTL_OVEN_EN = false ∨ bad = true)) := by
  unfold State.inbandFollows
  dsimp only
  split
  · exact .inl ⟨{}, rfl, s.releaseInband_eq, fun _ => rfl⟩
  · next hb =>
    split
    · next hq => exact .inr ⟨_, hq, rfl, hb⟩
    · next hq => exact .inl ⟨_, Bool.eq_false_iff.2 hq, rfl, fun h => absurd h hb⟩

theorem State.inbandFollows_step (bad : Bool) (err : Int) :
    s.OvenStep (s.inbandFollows bad err) [0, 2] [A.TB_WARM_AGE, A.TB_WARMUP_LAST] := by
  rcases s.inbandFollows_cases bad err with ⟨q, -, h, -⟩ | ⟨q, -, h, -⟩ <;> rw [h]
  · exact ((State.OvenStep.refl s _ _).next (s.setInband_step q)).next (State.loseWarm_step _)
  · exact ((State.OvenStep.refl s _ _).next (s.setInband_step q)).next (State.gainWarm_step _)

theorem State.inbandFollows_tb (bad : Bool) (err : Int) : ∃ q k b,
    (s.inbandFollows bad err).tb = { s.tb with inband := q, warmSamples := k, slow := b } := by
  rcases s.inbandFollows_cases bad err with ⟨q, -, h, -⟩ | ⟨q, -, h, -⟩
  · obtain ⟨k, hk⟩ := (s.setInband q).loseWarm_tb
    exact ⟨q, k, s.tb.slow, by rw [h, hk]; rfl⟩
  · obtain ⟨k, b, hk⟩ := (s.setInband q).gainWarm_tb
    exact ⟨q, k, b, by rw [h, hk]; rfl⟩

/-- T_INBAND is released while OVEN_EN is 0 or the thermistors disagree. -/
theorem State.inbandFollows_released {bad : Bool} (err : Int) (h : s.bit F.TB_CTL_OVEN_EN = false ∨ bad = true) :
    (s.inbandFollows bad err).bit F.TB_STAT_T_INBAND = false ∧ (s.inbandFollows bad err).tb.inband = {} ∧
      (s.inbandFollows bad err).bit F.TB_STAT_WARM = false := by
  obtain ⟨q, -, heq, hq⟩ | ⟨q, -, -, hno⟩ := s.inbandFollows_cases bad err
  · obtain ⟨k, hk⟩ := (s.setInband q).loseWarm_tb
    rw [heq, hk, hq h]
    exact ⟨((State.loseWarm_step _).bit F.TB_STAT_T_INBAND).trans (s.setInband_inband _), rfl, State.loseWarm_warm _⟩
  · exact absurd h hno

/-- WARM rises only with T_INBAND and FREQ_SETTLED together. -/
theorem State.inbandFollows_gains (bad : Bool) (err : Int) : s.bit F.TB_STAT_WARM = true ∨
    (s.inbandFollows bad err).bit F.TB_STAT_WARM = false ∨
    ((s.inbandFollows bad err).bit F.TB_STAT_T_INBAND = true ∧
      (s.inbandFollows bad err).bit F.TB_STAT_FREQ_SETTLED = true ∧ Ev.WARM_SET ∈ (s.inbandFollows bad err).raised) := by
  rcases s.inbandFollows_cases bad err with ⟨q, -, h, -⟩ | ⟨q, hq, h, -⟩ <;> rw [h]
  · exact .inr (.inl (State.loseWarm_warm _))
  · rw [(State.gainWarm_step _).bit F.TB_STAT_T_INBAND, (State.gainWarm_step _).bit F.TB_STAT_FREQ_SETTLED,
      s.setInband_inband, hq]
    rcases (s.setInband q).gainWarm_rises with hsame | ⟨hf, hr⟩
    · rw [hsame, (s.setInband_step q).bit F.TB_STAT_WARM]
      cases s.bit F.TB_STAT_WARM <;> simp
    · exact .inr (.inr ⟨rfl, hf, hr⟩)

/-- WARM falls only as T_INBAND is released. -/
theorem State.inbandFollows_loses (bad : Bool) (err : Int) : s.bit F.TB_STAT_WARM = false ∨
    (s.inbandFollows bad err).bit F.TB_STAT_WARM = true ∨
    ((s.inbandFollows bad err).bit F.TB_STAT_T_INBAND = false ∧ Ev.WARM_LOST ∈ (s.inbandFollows bad err).raised) := by
  refine or_iff_not_imp_left.2 fun hw => ?_
  have hwarm : ∀ q, (s.setInband q).bit F.TB_STAT_WARM = true := fun q =>
    ((s.setInband_step q).bit F.TB_STAT_WARM).trans (Bool.eq_true_of_not_eq_false hw)
  rcases s.inbandFollows_cases bad err with ⟨q, hq, h, -⟩ | ⟨q, -, h, -⟩ <;> rw [h]
  · rw [(State.loseWarm_step _).bit F.TB_STAT_T_INBAND, s.setInband_inband, hq]
    exact .inr ⟨rfl, State.loseWarm_raises _ (hwarm q)⟩
  · rw [State.gainWarm_kept _ (hwarm q)]
    exact .inl (hwarm q)

end warm

end Sys2Proof.Machine
end


section
/-! The oven: its samples, its ramp, its slow warm-up and OVEN_EN (O37). -/

-- As in the tests: elaborated in parallel, these proofs' thread stacks would exceed the check's memory limit.
set_option Elab.async false

namespace Sys2Proof.Machine

/-! ### OVEN_SAMPLE (R57 to R65) -/

theorem State.val_setIval_self (s : State) (a : Nat) (i : Int) : (s.setIval a i).val a = codeOf 32 i := by
  rw [State.setIval, State.val, State.rd_wr_self, wordOfInt, BitVec.toNat_ofNat, Nat.mod_eq_of_lt (codeOf_lt 32 i)]

/-- A sample's counts: the hidden ones, OVEN_HOURS at a full hour, and WARM_AGE. -/
theorem State.ovenTimers_eq (s : State) : ∃ h w k n, ∃ t : State,
    t = { s with tb := { s.tb with heatSamples := h, warmSamples := w, hourSamples := k } } ∧
    s.ovenTimers = (if n = 14400 then t.count (wordFld A.TB_OVEN_HOURS) 1 else t).setVal A.TB_WARM_AGE (w / 4) :=
  ⟨_, _, _, _, _, rfl, rfl⟩

theorem State.ovenTimers_step (s : State) : s.OvenStep s.ovenTimers [] [A.TB_OVEN_HOURS, A.TB_WARM_AGE] := by
  obtain ⟨h, w, k, n, t, ht, heq⟩ := s.ovenTimers_eq
  have hhidden : s.OvenStep t [] [A.TB_OVEN_HOURS, A.TB_WARM_AGE] :=
    ht ▸ (State.OvenStep.withTb s _).mono (by simp) (by simp)
  rw [heq]
  split
  · exact (hhidden.next (.setVal _ A.TB_OVEN_HOURS _)).next (.setVal _ A.TB_WARM_AGE _)
  · exact hhidden.next (.setVal _ A.TB_WARM_AGE _)

theorem State.ovenTimers_tb (s : State) : ∃ h w k,
    s.ovenTimers.tb = { s.tb with heatSamples := h, warmSamples := w, hourSamples := k } := by
  obtain ⟨h, w, k, n, t, rfl, heq⟩ := s.ovenTimers_eq
  exact ⟨h, w, k, by rw [heq]; split <;> rfl⟩

section sample
variable (s : State) (a b : Int) (vheat drive commanded : Nat)

/-- The sensor fault's qualifier after a sample: eight samples beyond 0.5 K assert it, eight within 0.3 K release it. -/
def State.sensorNext : Qual :=
  Qual.sample .upper { assertAt := 5000, releaseAt := 3000, assertDwell := 8, releaseDwell := 8 } |a - b| s.tb.sensorBad

/-- The temperature measured: the mean, or the higher thermistor while they disagree. -/
def State.measuredTemp : Int := if (s.sensorNext a b).on then max a b else (a + b) / 2

/-- The hidden state with the sample's fault qualifiers. -/
def State.faultsSampled : TimeBaseState :=
  let err := s.measuredTemp a b - Config.ovenSetpoint
  let limit := s.val A.TB_HEAT_ILIM
  { s.tb with
    sensorBad := s.sensorNext a b
    overtemp := Qual.sample .upper
      { assertAt := 50000, releaseAt := 30000, assertDwell := 1, releaseDwell := 8 } err s.tb.overtemp
    vheatLow := Qual.sample .lower
      { assertAt := 4500, releaseAt := 4650, assertDwell := 8, releaseDwell := 8 } vheat s.tb.vheatLow
    heaterOpen := heaterOpenSample (min drive limit) (min commanded limit) s.tb.heaterOpen }

/-- The temperature and its deviation are recorded, the counts advance, and the heater follows what the loop wants. -/
def State.heaterSampled : State :=
  ((({ s with tb := s.faultsSampled a b vheat drive commanded }).setIval A.TB_OVEN_TEMP (s.measuredTemp a b)).setIval
    A.TB_OVEN_ERR (s.measuredTemp a b - Config.ovenSetpoint)).ovenTimers.heatFollows

/-- The drive that a sample records. -/
def State.driveNow (t : State) (drive limit : Nat) : Nat :=
  if t.bit F.TB_STAT_OVEN_ON || t.tb.ramp == .down then min drive limit else 0

/-- The drive is recorded and FREQ_SETTLED follows its history. -/
def State.driveSampled (t : State) (drive limit : Nat) : State :=
  let t1 := t.setVal A.TB_HEAT_DRIVE (t.driveNow drive limit)
  let t2 : State := if t.bit F.TB_STAT_OVEN_ON then
      { t1 with tb := { t1.tb with drives := (min drive limit :: t1.tb.drives).take 240 } } else t1
  t2.setBit F.TB_STAT_FREQ_SETTLED t2.freqSettled

/-- The state of a sample once its temperature, drive and FREQ_SETTLED stand. -/
def State.ovenSampled : State :=
  (s.heaterSampled a b vheat drive commanded).driveSampled drive (s.val A.TB_HEAT_ILIM)

theorem State.ovenSample_eq (hup : s.up .oven = true) : s.ovenSample a b vheat drive commanded =
    ((s.ovenSampled a b vheat drive commanded).inbandFollows ((s.sensorNext a b).on || s.tb.sensorBad.on)
      (s.measuredTemp a b - Config.ovenSetpoint)).faultFollows := by
  simp only [State.inbandFollows, Bool.or_eq_true]
  rw [State.ovenSample, if_neg (by simp [hup])]
  rfl

theorem State.driveSampled_step (t : State) (limit : Nat) :
    t.OvenStep (t.driveSampled drive limit) [3] [A.TB_HEAT_DRIVE] := by
  have hdrive : t.OvenStep (t.setVal A.TB_HEAT_DRIVE (t.driveNow drive limit)) [3] [A.TB_HEAT_DRIVE] :=
    (State.OvenStep.refl t _ _).next (.setVal t A.TB_HEAT_DRIVE _)
  unfold State.driveSampled
  dsimp only
  split
  · exact (hdrive.next (.withTb _ _)).next (.setBit _ 3 _)
  · exact hdrive.next (.setBit _ 3 _)

theorem State.driveSampled_tb (t : State) (limit : Nat) :
    ∃ d, (t.driveSampled drive limit).tb = { t.tb with drives := d } := by
  unfold State.driveSampled
  dsimp only
  split <;> exact ⟨_, rfl⟩

theorem State.driveSampled_drive (t : State) (limit : Nat) :
    (t.driveSampled drive limit).val A.TB_HEAT_DRIVE = t.driveNow drive limit % 2 ^ 32 := by
  have hstat := fun (x : State) (c : Bool) => (State.OvenStep.setBit x 3 c).val A.TB_HEAT_DRIVE
  unfold State.driveSampled
  dsimp only
  rw [show F.TB_STAT_FREQ_SETTLED = ⟨A.TB_STAT, 3, 1⟩ from rfl, hstat]
  split <;> exact State.val_setVal_self _ _ _

theorem State.heaterSampled_step : s.OvenStep (s.heaterSampled a b vheat drive commanded) [1, 3]
    [A.TB_OVEN_TEMP, A.TB_OVEN_ERR, A.TB_OVEN_HOURS, A.TB_WARM_AGE] :=
  (((((State.OvenStep.refl s _ _).next (.withTb s _)).next (.setVal _ A.TB_OVEN_TEMP _)).next
    (.setVal _ A.TB_OVEN_ERR _)).next (State.ovenTimers_step _)).next (State.heatFollows_step _)

/-- The faults stand as the sample's qualifiers say. -/
theorem State.heaterSampled_tb : ∃ h w k r d, (s.heaterSampled a b vheat drive commanded).tb =
    { s.faultsSampled a b vheat drive commanded with
      heatSamples := h, warmSamples := w, hourSamples := k, ramp := r, drives := d } := by
  unfold State.heaterSampled
  set t := (({ s with tb := s.faultsSampled a b vheat drive commanded }).setIval A.TB_OVEN_TEMP
    (s.measuredTemp a b)).setIval A.TB_OVEN_ERR (s.measuredTemp a b - Config.ovenSetpoint) with ht
  obtain ⟨h, w, k, hk⟩ := t.ovenTimers_tb
  obtain ⟨r, d, hr⟩ := t.ovenTimers.heatFollows_tb
  exact ⟨h, w, k, r, d, by rw [hr, hk, ht]; rfl⟩

theorem State.heaterSampled_temp :
    (s.heaterSampled a b vheat drive commanded).val A.TB_OVEN_TEMP = codeOf 32 (s.measuredTemp a b) := by
  rw [State.heaterSampled, (State.heatFollows_step _).val A.TB_OVEN_TEMP, (State.ovenTimers_step _).val A.TB_OVEN_TEMP,
    State.setIval, State.setIval, State.val, State.rd_wr_ne _ (by decide)]
  exact State.val_setIval_self _ _ _

theorem State.heaterSampled_err : (s.heaterSampled a b vheat drive commanded).val A.TB_OVEN_ERR =
    codeOf 32 (s.measuredTemp a b - Config.ovenSetpoint) := by
  rw [State.heaterSampled, (State.heatFollows_step _).val A.TB_OVEN_ERR, (State.ovenTimers_step _).val A.TB_OVEN_ERR]
  exact State.val_setIval_self _ _ _

theorem State.ovenSampled_step : s.OvenStep (s.ovenSampled a b vheat drive commanded) [1, 3]
    [A.TB_OVEN_TEMP, A.TB_OVEN_ERR, A.TB_OVEN_HOURS, A.TB_WARM_AGE, A.TB_HEAT_DRIVE] :=
  ((State.OvenStep.refl s _ _).next (s.heaterSampled_step a b vheat drive commanded)).next
    (State.driveSampled_step _ _ _)

theorem State.ovenSampled_tb : (s.ovenSampled a b vheat drive commanded).tb.sensorBad = s.sensorNext a b := by
  obtain ⟨_, hd⟩ := (s.heaterSampled a b vheat drive commanded).driveSampled_tb drive (s.val A.TB_HEAT_ILIM)
  obtain ⟨_, _, _, _, _, hh⟩ := s.heaterSampled_tb a b vheat drive commanded
  rw [State.ovenSampled, hd, hh]
  rfl

/-- The heater is still on as the loop wants it, and the drive is that of the heater's state. -/
theorem State.ovenSampled_heat : ∀ t, t = s.ovenSampled a b vheat drive commanded →
    t.bit F.TB_STAT_OVEN_ON = t.wantsHeat ∧
    t.val A.TB_HEAT_DRIVE = t.driveNow drive (s.val A.TB_HEAT_ILIM) % 2 ^ 32 := by
  rintro _ rfl
  have hstep := State.driveSampled_step drive (s.heaterSampled a b vheat drive commanded) (s.val A.TB_HEAT_ILIM)
  obtain ⟨_, hd⟩ := (s.heaterSampled a b vheat drive commanded).driveSampled_tb drive (s.val A.TB_HEAT_ILIM)
  unfold State.ovenSampled
  refine ⟨?_, ?_⟩
  · rw [hstep.bit F.TB_STAT_OVEN_ON, hstep.wantsHeat (by decide) (by decide) (by rw [hd]) (by rw [hd]) (by rw [hd])]
    exact State.heatFollows_on _
  · rw [State.driveSampled_drive, State.driveNow, State.driveNow, hstep.bit F.TB_STAT_OVEN_ON, hd]

end sample

section sampled
variable {s u : State} {a b : Int} {vheat drive commanded : Nat} (hup : s.up .oven = true)
  (hu : u = s.ovenSample a b vheat drive commanded)
include hup hu

/-- T_INBAND, WARM and OVEN_FAULT follow last. -/
theorem State.ovenSample_after : (s.ovenSampled a b vheat drive commanded).OvenStep u [0, 2, 8, 9, 10, 16]
    (A.TB_WARM_AGE :: A.TB_WARMUP_LAST :: ledgerWords) := by
  rw [hu, State.ovenSample_eq s a b vheat drive commanded hup]
  exact ((State.OvenStep.refl _ _ _).next (State.inbandFollows_step _ _ _)).next (State.faultFollows_step _)

theorem State.ovenSample_step : s.OvenStep u [0, 1, 2, 3, 8, 9, 10, 16]
    ([A.TB_OVEN_TEMP, A.TB_OVEN_ERR, A.TB_OVEN_HOURS, A.TB_WARM_AGE, A.TB_HEAT_DRIVE, A.TB_WARMUP_LAST] ++ ledgerWords) :=
  ((State.OvenStep.refl s _ _).next (s.ovenSampled_step a b vheat drive commanded)).next (State.ovenSample_after hup hu)

theorem State.ovenSample_tb : ∃ q k c l, u.tb = { (s.ovenSampled a b vheat drive commanded).tb with
    inband := q, warmSamples := k, slow := c, faultLogged := l } := by
  obtain ⟨q, k, c, hq⟩ := (s.ovenSampled a b vheat drive commanded).inbandFollows_tb
    ((s.sensorNext a b).on || s.tb.sensorBad.on) (s.measuredTemp a b - Config.ovenSetpoint)
  obtain ⟨l, hl⟩ := State.faultFollows_tb ((s.ovenSampled a b vheat drive commanded).inbandFollows
    ((s.sensorNext a b).on || s.tb.sensorBad.on) (s.measuredTemp a b - Config.ovenSetpoint))
  exact ⟨q, k, c, l, by rw [hu, State.ovenSample_eq s a b vheat drive commanded hup, hl, hq]⟩

theorem State.ovenSample_sensor : u.tb.sensorBad = s.sensorNext a b := by
  obtain ⟨_, _, _, _, hq⟩ := State.ovenSample_tb hup hu
  rw [hq, ← s.ovenSampled_tb a b vheat drive commanded]

theorem State.ovenSample_temp : u.val A.TB_OVEN_TEMP = codeOf 32 (s.measuredTemp a b) := by
  rw [(State.ovenSample_after hup hu).val A.TB_OVEN_TEMP, State.ovenSampled,
    (State.driveSampled_step _ _ _).val A.TB_OVEN_TEMP, State.heaterSampled_temp]

theorem State.ovenSample_err : u.val A.TB_OVEN_ERR = codeOf 32 (s.measuredTemp a b - Config.ovenSetpoint) := by
  rw [(State.ovenSample_after hup hu).val A.TB_OVEN_ERR, State.ovenSampled,
    (State.driveSampled_step _ _ _).val A.TB_OVEN_ERR, State.heaterSampled_err]

theorem State.ovenSample_drive : u.val A.TB_HEAT_DRIVE =
    if u.bit F.TB_STAT_OVEN_ON = true ∨ u.tb.ramp = .down then min drive (s.val A.TB_HEAT_ILIM) % 2 ^ 32 else 0 := by
  have hafter := State.ovenSample_after hup hu
  obtain ⟨_, _, _, _, hq⟩ := State.ovenSample_tb hup hu
  rw [hafter.val A.TB_HEAT_DRIVE, (s.ovenSampled_heat a b vheat drive commanded _ rfl).2,
    hafter.bit F.TB_STAT_OVEN_ON, hq, State.driveNow, apply_ite (· % 2 ^ 32)]
  simp only [Bool.or_eq_true, beq_iff_eq, Nat.zero_mod]

theorem State.ovenSample_on : u.bit F.TB_STAT_OVEN_ON = u.wantsHeat := by
  have hafter := State.ovenSample_after hup hu
  obtain ⟨_, _, _, _, hq⟩ := State.ovenSample_tb hup hu
  rw [hafter.bit F.TB_STAT_OVEN_ON, hafter.wantsHeat (by decide) (by decide) (by rw [hq]) (by rw [hq]) (by rw [hq])]
  exact (s.ovenSampled_heat a b vheat drive commanded _ rfl).1

/-- What follows OVEN_FAULT's rule last keeps T_INBAND, WARM and FREQ_SETTLED. -/
theorem State.ovenSample_inband : ∃ t, t = (s.ovenSampled a b vheat drive commanded).inbandFollows
      ((s.sensorNext a b).on || s.tb.sensorBad.on) (s.measuredTemp a b - Config.ovenSetpoint) ∧
    t.OvenStep u [8, 9, 10, 16] ledgerWords ∧ u.tb.inband = t.tb.inband := by
  obtain ⟨_, hl⟩ := State.faultFollows_tb ((s.ovenSampled a b vheat drive commanded).inbandFollows
    ((s.sensorNext a b).on || s.tb.sensorBad.on) (s.measuredTemp a b - Config.ovenSetpoint))
  rw [hu, State.ovenSample_eq s a b vheat drive commanded hup]
  exact ⟨_, rfl, State.faultFollows_step _, by rw [hl]⟩

theorem State.ovenSample_released
    (h : s.bit F.TB_CTL_OVEN_EN = false ∨ s.tb.sensorBad.on = true ∨ u.tb.sensorBad.on = true) :
    u.bit F.TB_STAT_T_INBAND = false ∧ u.tb.inband = {} ∧ u.bit F.TB_STAT_WARM = false := by
  obtain ⟨t, ht, hstep, hin⟩ := State.ovenSample_inband hup hu
  rw [State.ovenSample_sensor hup hu] at h
  rw [hstep.bit F.TB_STAT_T_INBAND, hstep.bit F.TB_STAT_WARM, hin, ht]
  refine State.inbandFollows_released _ _ ?_
  rw [(s.ovenSampled_step a b vheat drive commanded).bit F.TB_CTL_OVEN_EN, Bool.or_eq_true]
  tauto

theorem State.ovenSample_gains : s.bit F.TB_STAT_WARM = true ∨ u.bit F.TB_STAT_WARM = false ∨
    (u.bit F.TB_STAT_T_INBAND = true ∧ u.bit F.TB_STAT_FREQ_SETTLED = true ∧ Ev.WARM_SET ∈ u.raised) := by
  obtain ⟨t, ht, hstep, -⟩ := State.ovenSample_inband hup hu
  rw [hstep.bit F.TB_STAT_T_INBAND, hstep.bit F.TB_STAT_FREQ_SETTLED, hstep.bit F.TB_STAT_WARM, ht,
    ← (s.ovenSampled_step a b vheat drive commanded).bit F.TB_STAT_WARM]
  refine (State.inbandFollows_gains _ _ _).imp_right (Or.imp_right fun h => ?_)
  exact ⟨h.1, h.2.1, hstep.raised (ht ▸ h.2.2)⟩

theorem State.ovenSample_loses : s.bit F.TB_STAT_WARM = false ∨ u.bit F.TB_STAT_WARM = true ∨
    (u.bit F.TB_STAT_T_INBAND = false ∧ Ev.WARM_LOST ∈ u.raised) := by
  obtain ⟨t, ht, hstep, -⟩ := State.ovenSample_inband hup hu
  rw [hstep.bit F.TB_STAT_T_INBAND, hstep.bit F.TB_STAT_WARM, ht,
    ← (s.ovenSampled_step a b vheat drive commanded).bit F.TB_STAT_WARM]
  refine (State.inbandFollows_loses _ _ _).imp_right (Or.imp_right fun h => ?_)
  exact ⟨h.1, hstep.raised (ht ▸ h.2)⟩

theorem State.ovenSample_fault : u.get F.TB_STAT_OVEN_FAULT = u.faultCode ∧
    (u.get F.TB_STAT_OVEN_FAULT = s.get F.TB_STAT_OVEN_FAULT ∨ Ev.OVEN_FAULT ∈ u.raised) := by
  have hbefore := ((State.inbandFollows_step _ ((s.sensorNext a b).on || s.tb.sensorBad.on)
    (s.measuredTemp a b - Config.ovenSetpoint)).get F.TB_STAT_OVEN_FAULT).trans
    ((s.ovenSampled_step a b vheat drive commanded).get F.TB_STAT_OVEN_FAULT)
  rw [hu, State.ovenSample_eq s a b vheat drive commanded hup]
  exact ⟨State.faultFollows_code _, hbefore ▸ State.faultFollows_raises _⟩

end sampled

/-! ### The slow warm-up and the ramp (R58, R86, R88) -/

theorem State.slowWarm_not {s : State}
    (h : s.up .oven = false ∨ s.bit F.TB_CTL_OVEN_EN = false ∨ s.bit F.TB_STAT_WARM = true) : s.slowWarm = s :=
  if_neg (by rintro ⟨hup, hen, hwarm⟩; simp [hup, hen, hwarm] at h)

/-- Heating for 15 min without WARM is a fault. -/
theorem State.slowWarm_spec {s u : State} (hup : s.up .oven = true) (hen : s.bit F.TB_CTL_OVEN_EN = true)
    (hwarm : s.bit F.TB_STAT_WARM = false) (hu : u = s.slowWarm) :
    u.tb.slow = true ∧ u.get F.TB_STAT_OVEN_FAULT = u.faultCode ∧
      s.keptBut u (fun a => a == A.TB_STAT || a / 256 == 22) := by
  have heq : s.slowWarm = ({ s with tb := { s.tb with slow := true } } : State).faultFollows :=
    if_pos ⟨hup, hen, hwarm⟩
  obtain ⟨_, hl⟩ := ({ s with tb := { s.tb with slow := true } } : State).faultFollows_tb
  have hstep : s.OvenStep u [8, 9, 10, 16] ledgerWords := by
    rw [hu, heq]
    exact ((State.OvenStep.refl s _ _).next (.withTb s _)).next (State.faultFollows_step _)
  refine ⟨by rw [hu, heq, hl], by rw [hu, heq]; exact State.faultFollows_code _, ?_⟩
  exact State.wordsKept.keptBut (l := [A.TB_STAT]) hstep.words (by simp) (by simp +contextual)

theorem State.rampDone_up {s : State} (h : s.tb.ramp ≠ .down) :
    s.rampDone = { s with tb := { s.tb with ramp := .none } } := by
  unfold State.rampDone
  split
  · next hr => rw [← hr]
  · rfl
  · next hr => exact absurd hr h

/-- A ramp down has reached 0: the latched enable is taken, and the drive is 0. -/
def State.rampEnded (s : State) : State :=
  ({ s with tb := { s.tb with ramp := .none, latched := false } }).setVal A.TB_HEAT_DRIVE 0

theorem State.rampDone_spec {s u : State} (h : s.tb.ramp = .down) (hoff : s.bit F.TB_STAT_OVEN_ON = false)
    (hu : u = s.rampDone) : u.tb.ramp ≠ .down ∧ u.ovenDraining = false ∧ u.val A.TB_HEAT_DRIVE = 0 ∧
      u.bit F.TB_STAT_OVEN_ON = u.wantsHeat ∧ (u.bit F.TB_STAT_OVEN_ON = true → u.tb.ramp = .up) ∧
      s.wordsKept u [A.TB_STAT, A.TB_HEAT_DRIVE] ∧ u = { s with regs := u.regs, tb := u.tb } := by
  have hended : s.OvenStep s.rampEnded [] [A.TB_HEAT_DRIVE] :=
    ((State.OvenStep.refl s _ _).next (.withTb s _)).next (.setVal _ A.TB_HEAT_DRIVE 0)
  have heq : u = s.rampEnded.heatFollows := by rw [hu, State.rampDone, h]; rfl
  have hstep := heq ▸ s.rampEnded.heatFollows_step
  have hstill : s.rampEnded.bit F.TB_STAT_OVEN_ON = false := (hended.bit F.TB_STAT_OVEN_ON).trans hoff
  have hramp : u.tb.latched = false ∧ (u.tb.ramp = .up ∨ u.tb.ramp = .none ∧ u.bit F.TB_STAT_OVEN_ON = false) ∧
      u = { s with regs := u.regs, tb := u.tb } := by
    rcases s.rampEnded.heatFollows_cases with ⟨-, hc⟩ | ⟨-, -, hc⟩ | ⟨-, hon, -⟩
    · rw [heq, hc]; exact ⟨rfl, .inr ⟨rfl, hstill⟩, rfl⟩
    · rw [heq, hc]; exact ⟨rfl, .inl rfl, rfl⟩
    · exact absurd hon (by simp [hstill])
  obtain ⟨hlatched, hup, hframe⟩ := hramp
  refine ⟨?_, by simp [State.ovenDraining, hlatched], (hstep.val A.TB_HEAT_DRIVE).trans (State.val_setVal_self _ _ _),
    heq ▸ State.heatFollows_on _, fun hon => ?_, (((State.OvenStep.refl s [1, 3] _).next hended).next hstep).words, hframe⟩
  · rcases hup with hup | ⟨hnone, -⟩
    · simp [hup]
    · simp [hnone]
  · exact hup.resolve_right fun hno => absurd hon (by simp [hno.2])

/-! ### OVEN_EN (R65, R829, R831) -/

/-- The state in which OVEN_EN is set or cleared, before the heater follows. -/
def State.ovenEnStored (s : State) (on : Bool) : State :=
  let t := s.setBit F.TB_CTL_OVEN_EN on
  { t with tb := if on then { t.tb with heatSamples := 0, latched := t.tb.ramp == HeaterRamp.down }
    else { t.tb with slow := false, latched := false } }

theorem State.ovenEnStored_true (s : State) : s.ovenEnStored true =
    let t := s.setBit F.TB_CTL_OVEN_EN true
    { t with tb := { t.tb with heatSamples := 0, latched := t.tb.ramp == HeaterRamp.down } } := rfl

theorem State.ovenEnStored_false (s : State) : s.ovenEnStored false =
    let t := s.setBit F.TB_CTL_OVEN_EN false
    { t with tb := { t.tb with slow := false, latched := false } } := rfl

/-- The heater follows OVEN_EN, and a release of OVEN_EN releases T_INBAND and WARM. -/
theorem State.setOvenEn_eq {s : State} {on : Bool} (h : on ≠ s.bit F.TB_CTL_OVEN_EN) :
    s.setOvenEn on = if on then (s.ovenEnStored on).heatFollows
      else (s.ovenEnStored on).heatFollows.releaseInband.faultFollows := by
  rw [State.setOvenEn, if_neg h]
  cases on with
  | true => rw [State.ovenEnStored_true, if_pos rfl, if_pos rfl]
  | false => rw [State.ovenEnStored_false, if_neg Bool.false_ne_true, if_neg Bool.false_ne_true]

theorem State.setOvenEn_step {s : State} {on : Bool} (h : on ≠ s.bit F.TB_CTL_OVEN_EN) :
    (s.ovenEnStored on).OvenStep (s.setOvenEn on) [0, 1, 2, 3, 8, 9, 10, 16] (A.TB_WARM_AGE :: ledgerWords) := by
  have hheat := (State.OvenStep.refl (s.ovenEnStored on) [0, 1, 2, 3, 8, 9, 10, 16]
    (A.TB_WARM_AGE :: ledgerWords)).next (State.heatFollows_step _)
  rw [State.setOvenEn_eq h]
  split
  · exact hheat
  · exact (hheat.next (State.releaseInband_step _)).next (State.faultFollows_step _)

theorem State.ovenEnStored_bit (s : State) (on : Bool) : (s.ovenEnStored on).bit F.TB_CTL_OVEN_EN = on :=
  State.bit_setBit_self s F.TB_CTL_OVEN_EN on rfl (by decide)

theorem State.setOvenEn_bit {s : State} {on : Bool} (h : on ≠ s.bit F.TB_CTL_OVEN_EN) :
    (s.setOvenEn on).bit F.TB_CTL_OVEN_EN = on :=
  ((State.setOvenEn_step h).bit F.TB_CTL_OVEN_EN).trans (s.ovenEnStored_bit on)

/-- With OVEN_EN cleared the heater goes off and WARM is lost. -/
theorem State.setOvenEn_off {s : State} (h : false ≠ s.bit F.TB_CTL_OVEN_EN) :
    (s.setOvenEn false).bit F.TB_STAT_WARM = false ∧ (s.setOvenEn false).bit F.TB_STAT_OVEN_ON = false := by
  have heq : s.setOvenEn false = (s.ovenEnStored false).heatFollows.releaseInband.faultFollows := State.setOvenEn_eq h
  generalize ht : s.ovenEnStored false = t at heq
  have hen : t.bit F.TB_CTL_OVEN_EN = false := ht ▸ s.ovenEnStored_bit false
  have hfault := State.faultFollows_step t.heatFollows.releaseInband
  rw [heq, hfault.bit F.TB_STAT_WARM, hfault.bit F.TB_STAT_OVEN_ON, (State.releaseInband_step _).bit F.TB_STAT_OVEN_ON,
    t.heatFollows_on]
  refine ⟨State.loseWarm_warm _, ?_⟩
  rw [State.wantsHeat, t.heatFollows_step.bit F.TB_CTL_OVEN_EN, hen]
  simp

/-- The flags of TB.CTL but OVEN_EN take a write. -/
def State.ctlFlags (s : State) (v : Nat) : State :=
  (s.setBit F.TB_CTL_SETTLE_REF (bitOf v 1)).setBit F.TB_CTL_TIM_REF_EN (bitOf v 2)

/-- All fields of TB.CTL but OVEN_EN take a write. -/
def State.ctlStoredAll (s : State) (v : Nat) : State := (s.ctlFlags v).put F.TB_CTL_TIM_REF_SRC (bitsAt v 4 4)

section fields
variable (s : State) (v : Nat)

theorem State.tbCtlFields_both : s.tbCtlFields true true v =
    if 12 < bitsAt v 4 4 then (s.ctlFlags v).rejected .range else (s.ctlStoredAll v).ok := rfl

theorem State.ctlFlags_words : s.wordsKept (s.ctlFlags v) [A.TB_CTL] :=
  (s.wordsKept_setBit F.TB_CTL_SETTLE_REF _).trans (State.wordsKept_setBit _ F.TB_CTL_TIM_REF_EN _)

theorem State.ctlStoredAll_words : s.wordsKept (s.ctlStoredAll v) [A.TB_CTL] :=
  (s.ctlFlags_words v).trans (State.wordsKept_put _ F.TB_CTL_TIM_REF_SRC _)

theorem State.ctlFlags_bits : (s.ctlFlags v).bit F.TB_CTL_SETTLE_REF = bitOf v 1 ∧
    (s.ctlFlags v).bit F.TB_CTL_TIM_REF_EN = bitOf v 2 ∧
    (s.ctlFlags v).bit F.TB_CTL_OVEN_EN = s.bit F.TB_CTL_OVEN_EN ∧
    (s.ctlFlags v).get F.TB_CTL_TIM_REF_SRC = s.get F.TB_CTL_TIM_REF_SRC := by
  have hapart : ∀ (t : State) (f : Fld) (b : Bool), f = F.TB_CTL_SETTLE_REF ∨ f = F.TB_CTL_TIM_REF_EN →
      (t.setBit f b).get F.TB_CTL_TIM_REF_SRC = t.get F.TB_CTL_TIM_REF_SRC := by
    rintro t f b (rfl | rfl) <;> exact State.get_put_apart t _ rfl (by decide) (by decide)
  refine ⟨?_, State.bit_setBit_self _ _ _ rfl (by decide), ?_, ?_⟩
  · rw [State.ctlFlags, State.bit_setBit_apart _ _ (by decide) (by decide), State.bit_setBit_self _ _ _ rfl (by decide)]
  · rw [State.ctlFlags, State.bit_setBit_apart _ _ (by decide) (by decide),
      State.bit_setBit_apart _ _ (by decide) (by decide)]
  · rw [State.ctlFlags, hapart _ _ _ (.inr rfl), hapart _ _ _ (.inl rfl)]

theorem State.ctlStoredAll_fields : (s.ctlStoredAll v).bit F.TB_CTL_SETTLE_REF = bitOf v 1 ∧
    (s.ctlStoredAll v).bit F.TB_CTL_TIM_REF_EN = bitOf v 2 ∧
    (s.ctlStoredAll v).get F.TB_CTL_TIM_REF_SRC = bitsAt v 4 4 ∧
    (s.ctlStoredAll v).bit F.TB_CTL_OVEN_EN = s.bit F.TB_CTL_OVEN_EN := by
  have hapart : ∀ f : Fld, f.addr = A.TB_CTL → f.lo + f.width ≤ 4 →
      (s.ctlStoredAll v).bit f = (s.ctlFlags v).bit f := fun f ha hlo => by
    rw [State.bit, State.bit, State.ctlStoredAll, State.get_put_apart _ _ ha (by decide) (.inl hlo)]
  obtain ⟨hsettle, href, hen, -⟩ := s.ctlFlags_bits v
  refine ⟨(hapart _ rfl (by decide)).trans hsettle, (hapart _ rfl (by decide)).trans href, ?_,
    (hapart _ rfl (by decide)).trans hen⟩
  rw [State.ctlStoredAll, State.get_put_self _ _ _ (by decide)]
  exact Nat.mod_mod _ _

end fields

section ovenEn
variable {s : State} {p : HostPort} {v : Word}

/-- TB.CTL follows its own rule while both its domains take writes (R831). -/
theorem State.paramWrite_tbCtl (hoven : s.takesWrites .oven = true) (htime : s.takesWrites .time = true) :
    s.paramWrite p A.TB_CTL v = s.tbCtlWrite p true true v.toNat := by
  simp only [State.paramWrite, hoven, htime]
  rfl

/-- A write that leaves OVEN_EN asks for no arming. -/
theorem State.tbCtlWrite_same (h : bitOf v.toNat 0 = s.bit F.TB_CTL_OVEN_EN) :
    s.tbCtlWrite p true true v.toNat = s.tbCtlFields true true v.toNat := by
  rw [State.tbCtlWrite, if_neg (by simp [h])]

theorem State.tbCtlWrite_unarmed (h : bitOf v.toNat 0 ≠ s.bit F.TB_CTL_OVEN_EN) (ha : s.armedFor p .tb = false) :
    s.tbCtlWrite p true true v.toNat = s.rejected .unarmed := by
  rw [State.tbCtlWrite, if_pos (by simp [h]), State.useArm, ha]
  rfl

theorem State.tbCtlWrite_armed (h : bitOf v.toNat 0 ≠ s.bit F.TB_CTL_OVEN_EN) (ha : s.armedFor p .tb = true) :
    s.tbCtlWrite p true true v.toNat =
      ((s.disarm .tb).setOvenEn (bitOf v.toNat 0)).tbCtlFields true true v.toNat := by
  rw [State.tbCtlWrite, if_pos (by simp [h]), State.useArm, ha]
  rfl

/-- An armed write that moves OVEN_EN consumes the arming. -/
theorem State.ovenEn_armed (h : bitOf v.toNat 0 ≠ s.bit F.TB_CTL_OVEN_EN) {u : State}
    (hu : u = ((s.disarm .tb).setOvenEn (bitOf v.toNat 0)).ctlStoredAll v.toNat) : u.armedBy .tb = none ∧
      u.bit F.TB_CTL_OVEN_EN = bitOf v.toNat 0 ∧ u.bit F.TB_CTL_SETTLE_REF = bitOf v.toNat 1 ∧
      u.bit F.TB_CTL_TIM_REF_EN = bitOf v.toNat 2 ∧ u.get F.TB_CTL_TIM_REF_SRC = bitsAt v.toNat 4 4 ∧
      (bitOf v.toNat 0 = false → u.bit F.TB_STAT_WARM = false ∧ u.bit F.TB_STAT_OVEN_ON = false) := by
  have hne : bitOf v.toNat 0 ≠ (s.disarm .tb).bit F.TB_CTL_OVEN_EN := h
  have hwords := State.ctlStoredAll_words ((s.disarm .tb).setOvenEn (bitOf v.toNat 0)) v.toNat
  obtain ⟨hsettle, href, hsrc, hen⟩ :=
    State.ctlStoredAll_fields ((s.disarm .tb).setOvenEn (bitOf v.toNat 0)) v.toNat
  rw [← hu] at hwords hsettle href hsrc hen
  refine ⟨?_, hen.trans (State.setOvenEn_bit hne), hsettle, href, hsrc, fun hoff => ?_⟩
  · have harmed : u.armedBy .tb = ((s.disarm .tb).setOvenEn (bitOf v.toNat 0)).armedBy .tb := by rw [hu]; rfl
    rw [harmed, (State.setOvenEn_step hne).frame]
    exact s.armedBy_disarm .tb
  · rw [hwords.bit (by decide), hwords.bit (by decide), hoff]
    exact State.setOvenEn_off (hoff ▸ hne)

end ovenEn

/-! ### The commands -/

theorem exec_ovenEnWrite (s : State) (p : HostPort) (v : Word) :
    exec (.ovenEnWrite p v) s = .next (s.after (s.hostParam p A.TB_CTL v)) := rfl

theorem exec_slowWarmTimeout (s : State) : exec .slowWarmTimeout s = .next (s.after s.slowWarm) := rfl

/-- Settles O37: the sample's qualifiers decide what the heater, T_INBAND, WARM and OVEN_FAULT follow, and TB.CTL follows
its rule through the port. -/
theorem ovenFollowsItsSamples : Obligations.OvenFollowsItsSamples := by
  intro s
  simp only [exec_ovenEnWrite, exec_slowWarmTimeout]
  refine ⟨fun hup a b vheat drive commanded u hu => ?_, fun hup hen hwarm u hu => ?_, fun h => ?_, fun hup hr => ?_,
    fun hup hr hoff u hu => ?_, fun p v hready hoven htime => ?_⟩
  · have hstep := State.ovenSample_step hup hu
    have htemp : (if u.tb.sensorBad.on then max a b else (a + b) / 2) = s.measuredTemp a b := by
      rw [State.ovenSample_sensor hup hu]; rfl
    have hfault := State.ovenSample_fault hup hu
    rw [htemp]
    refine ⟨hu ▸ happen_inside hup rfl (fun s => s.ovenSample a b vheat drive commanded), State.ovenSample_temp hup hu,
      State.ovenSample_err hup hu, State.ovenSample_drive hup hu, State.ovenSample_on hup hu,
      State.ovenSample_released hup hu, hfault.1, hfault.2, State.ovenSample_gains hup hu,
      State.ovenSample_loses hup hu, fun x hx => hstep.words x ?_, hstep.bit F.TB_STAT_PLL_LOCK, hstep.slots,
      hstep.frame⟩
    intro hmem
    have hbanks : ∀ y ∈ A.TB_STAT :: ([A.TB_OVEN_TEMP, A.TB_OVEN_ERR, A.TB_OVEN_HOURS, A.TB_WARM_AGE, A.TB_HEAT_DRIVE,
        A.TB_WARMUP_LAST] ++ ledgerWords), y / 256 ∈ [3, 22] := by decide
    exact hx (hbanks x hmem)
  · exact ⟨by rw [hu], State.slowWarm_spec hup hen hwarm hu⟩
  · rw [State.slowWarm_not h]
  · rw [← State.rampDone_up hr]
    exact happen_inside hup rfl State.rampDone
  · exact ⟨hu ▸ happen_inside hup rfl State.rampDone, State.rampDone_spec hr hoff hu⟩
  · have hrule : s.paramWrite p A.TB_CTL v = s.tbCtlWrite p true true v.toNat := State.paramWrite_tbCtl hoven htime
    refine ⟨fun hne harm => ?_, fun hsame hv u hu => ?_, fun hsame hv u hu => ?_, fun hne harm hv u hu => ?_⟩
    · rw [State.hostParam_rejected hready (hrule.trans (State.tbCtlWrite_unarmed hne harm))]
    · have hok : s.tbCtlWrite p true true v.toNat = (s.ctlStoredAll v.toNat).ok := by
        rw [State.tbCtlWrite_same hsame, State.tbCtlFields_both, if_neg (not_lt.2 hv)]
      obtain ⟨hsettle, href, hsrc, hen⟩ := s.ctlStoredAll_fields v.toNat
      rw [hok] at hu
      subst hu
      exact ⟨by rw [State.hostParam_ok hready (hrule.trans hok)]; rfl, hen.trans hsame.symm, hsettle, href, hsrc,
        s.ctlStoredAll_words _, rfl⟩
    · have hno : s.tbCtlWrite p true true v.toNat = (s.ctlFlags v.toNat).rejected .range := by
        rw [State.tbCtlWrite_same hsame, State.tbCtlFields_both, if_pos hv]
      obtain ⟨hsettle, href, -, hsrc⟩ := s.ctlFlags_bits v.toNat
      rw [hno] at hu
      subst hu
      exact ⟨by rw [State.hostParam_rejected hready (hrule.trans hno)]; rfl, hsrc, hsettle, href, s.ctlFlags_words _⟩
    · have hok : s.tbCtlWrite p true true v.toNat =
          (((s.disarm .tb).setOvenEn (bitOf v.toNat 0)).ctlStoredAll v.toNat).ok := by
        rw [State.tbCtlWrite_armed hne harm, State.tbCtlFields_both, if_neg (not_lt.2 hv)]
      rw [hok] at hu
      exact ⟨by rw [State.hostParam_ok hready (hrule.trans hok), hu]; rfl, State.ovenEn_armed hne hu⟩

end Sys2Proof.Machine
end


section
/-! SUPPORT. What capture, calibration, the reference manager and the servo leave alone: the words of AON, events, TB and
below, the Tally, and every event that is raised (R117, R130, R164 to R174, R196 to R198). -/

-- As in the tests: elaborated in parallel, these proofs' thread stacks would exceed the check's memory limit.
set_option Elab.async false

namespace Sys2Proof.Machine

/-- What a switch that leaves HOLDOVER aside makes of the servo: it acquires anew, or drops its last measurements. -/
def State.servoRestarted (s : State) (pass : Bool) : State :=
  if s.srvState = srvHoldover then s.enterAcquire s.srv.i
  else if s.srvState = srvLocked ∧ pass = true then s.enterAcquire s.srv.i
  else if s.srvState = srvAcquire then s.enterAcquire s.srv.i
  else { s with srv := { s.srv with lastE := none, rejects := 0, meas := [], freqs := [] } }

theorem State.servoSwitched_eq (s : State) (pass : Bool) : s.servoSwitched pass =
    let t : State := { s with srv := { s.srv with ivSwitch := true } }
    let u := t.servoRestarted pass
    if t.srvState = srvHoldover ∧ t.srvJump = false then (if t.bit F.SRV_CTL_HO_EXIT then t else t.leaveHoldover)
    else if u.baseMode = .grand ∨ u.baseMode = .follow then u.autoMode (slotMode u.selSlot) 8 else u := rfl

/-! ### The reach of an operation of a disciplined unit -/

/-- `u` follows `s` by operations that write no word below 0x400, where the words of HIF, AON, EVT and TB lie, leave the
Tally, and keep every raised event; unless they may move a Face, they leave STR and the Ledger too. -/
structure State.TickStep (s u : State) (faces : Bool) : Prop where
  words : ∀ a, a < 0x400 → u.rd a = s.rd a
  raised : s.raised ⊆ u.raised
  tally : u.tally = s.tally
  still : faces = false → u.str = s.str ∧ u.ldg = s.ldg

namespace State.TickStep
variable {s t u : State} {b : Bool}

theorem refl (s : State) (b : Bool) : s.TickStep s b := ⟨fun _ _ => rfl, List.Subset.refl _, rfl, fun _ => ⟨rfl, rfl⟩⟩

theorem trans (h : s.TickStep t b) (h' : t.TickStep u b) : s.TickStep u b :=
  ⟨fun a ha => (h'.words a ha).trans (h.words a ha), List.Subset.trans h.raised h'.raised, h'.tally.trans h.tally,
    fun hb => ⟨(h'.still hb).1.trans (h.still hb).1, (h'.still hb).2.trans (h.still hb).2⟩⟩

/-- An update of hidden state outside STR and the Ledger. -/
theorem hidden (h : s.TickStep t b) (hregs : u.regs = t.regs := by rfl) (hraised : u.raised = t.raised := by rfl)
    (htally : u.tally = t.tally := by rfl) (hstr : u.str = t.str := by rfl) (hldg : u.ldg = t.ldg := by rfl) :
    s.TickStep u b :=
  h.trans ⟨fun a _ => State.rd_of_regs hregs a, hraised ▸ List.Subset.refl _, htally, fun _ => ⟨hstr, hldg⟩⟩

theorem setChan (h : s.TickStep t b) (n : Nat) (c : Channel) : s.TickStep (t.setChan n c) b := h.hidden

theorem setCalib (h : s.TickStep t b) (n : Nat) (c : CalChannel) : s.TickStep (t.setCalib n c) b := h.hidden

theorem withServo (h : s.TickStep t b) (x : ServoState) : s.TickStep { t with srv := x } b := h.hidden

theorem withRef (h : s.TickStep t b) (x : RefmState) : s.TickStep { t with refm := x } b := h.hidden

theorem setVal (h : s.TickStep t b) (a n : Nat) (ha : 0x400 ≤ a := by exact Nat.le_add_right_of_le (by decide)) :
    s.TickStep (t.setVal a n) b :=
  h.trans ⟨fun _ hc => State.rd_setVal_ne t (by omega) n, List.Subset.refl _, rfl, fun _ => ⟨rfl, rfl⟩⟩

theorem put (h : s.TickStep t b) (f : Fld) (n : Nat)
    (hf : 0x400 ≤ f.addr := by exact Nat.le_add_right_of_le (by decide)) : s.TickStep (t.put f n) b :=
  h.setVal f.addr _ hf

theorem setBit (h : s.TickStep t b) (f : Fld) (c : Bool)
    (hf : 0x400 ≤ f.addr := by exact Nat.le_add_right_of_le (by decide)) : s.TickStep (t.setBit f c) b :=
  h.put f _ hf

theorem setMulti (h : s.TickStep t b) (a n k : Nat) (ha : 0x400 ≤ a := by exact Nat.le_add_right_of_le (by decide)) :
    s.TickStep (t.setMulti a n k) b := by
  induction k generalizing n with
  | zero => exact h
  | succ k ih => exact (ih (n / 2 ^ 32)).setVal (a + k) n (Nat.le_add_right_of_le ha)

theorem raise (h : s.TickStep t b) (e : EventId) : s.TickStep (t.raise e) b :=
  h.trans ⟨fun _ _ => rfl, List.subset_append_left _ _, rfl, fun _ => ⟨rfl, rfl⟩⟩

theorem raiseIf (h : s.TickStep t b) (c : Bool) (e : EventId) : s.TickStep (t.raiseIf c e) b := by
  cases c
  · exact h
  · exact h.raise e

/-- What writes only listed words, all of them from 0x400 on, and may change STR and the Ledger. -/
theorem within (h : s.TickStep t true) {l : List Nat} (hw : t.wordsKept u l) (hl : ∀ a ∈ l, 0x400 ≤ a)
    (hraised : t.raised ⊆ u.raised) (htally : u.tally = t.tally) : s.TickStep u true :=
  h.trans ⟨fun a ha => hw a fun hm => absurd (hl a hm) (by omega), hraised, htally, nofun⟩

theorem ledger (h : s.TickStep t true) (src evt : Nat) (data : List Byte) (cont : Option (List Byte)) :
    s.TickStep (t.ledger src evt data cont) true := by
  refine h.within (State.wordsKept_ledger t src evt data cont) (by decide)
    (fun e he => State.mem_raised_ledger he src evt data cont) ?_
  obtain ⟨_, _, _, _, hl⟩ := State.ledger_eq t src evt data cont
  rw [hl]

theorem each {α : Type} {l : List α} {f : α → State → State} (h : s.TickStep t b)
    (hf : ∀ a ∈ l, ∀ u, s.TickStep u b → s.TickStep (f a u) b) : s.TickStep (t.each l f) b :=
  State.each_keeps (P := fun u => s.TickStep u b) hf h

theorem bit (h : s.TickStep t b) (f : Fld) (hf : f.addr < 0x400 := by decide) : t.bit f = s.bit f := by
  rw [State.bit, State.bit, State.get, State.get, State.val, State.val, h.words _ hf]

/-! ### Queues and markers (R97 to R103) -/

theorem vqLevel (h : s.TickStep t b) (n : Nat) : s.TickStep (t.vqLevel n) b := h.hidden.raiseIf _ _

theorem vqStore (h : s.TickStep t b) (n : Nat) (e : BitVec 64) : s.TickStep (t.vqStore n e) b := by
  unfold State.vqStore
  dsimp only
  split
  · exact (h.setChan n _).vqLevel n
  · split
    · split
      · exact h.hidden
      · exact (((h.setChan n _).vqLevel n).setBit _ true).raise _
    · exact h

theorem vqPush (h : s.TickStep t b) (n : Nat) (e : BitVec 64) : s.TickStep (t.vqPush n e) b := by
  unfold State.vqPush
  dsimp only
  split
  · exact ((h.setChan n _).each fun r _ u hu => hu.vqStore n r.entry).vqStore n e
  · exact h.vqStore n e

theorem mark (h : s.TickStep t b) (n tag : Nat) : s.TickStep (t.mark n tag) b := by
  unfold State.mark State.vqMarker
  dsimp only
  split
  · split
    · exact h.vqPush n _
    · exact h
  · exact h.hidden

/-! ### Channels (R112, R114) -/

theorem channelStarts (h : s.TickStep t b) (n : Nat) : s.TickStep (t.channelStarts n) b :=
  (((h.setChan n _).setBit (F.VC_Vn_STAT_ACTIVE n) true).setBit (F.VC_Vn_STAT_DRAINING n) false).mark n _

theorem applyVcCtl (h : s.TickStep t b) (n v : Nat) : s.TickStep (t.applyVcCtl n v) b := by
  have hset := (h.setVal (A.VC_Vn_CTL n) (v % 2 ^ 20)).setBit (F.VC_Vn_STAT_LOOPED n) (bitOf v 15)
  unfold State.applyVcCtl
  dsimp only
  split
  · split
    · exact hset.mark n _
    · split
      · exact hset.setBit _ true
      · exact hset.channelStarts n
  · split
    · split
      · exact hset.setBit _ false
      · exact (hset.setChan n _).mark n _
    · exact hset

theorem applyDelay (h : s.TickStep t b) (n v : Nat) : s.TickStep (t.applyDelay n v) b := by
  have hset := h.setVal (A.VC_Vn_DELAY_OFS n) v
  unfold State.applyDelay
  dsimp only
  split
  · exact hset.mark n _
  · exact hset

theorem applyHeldVc (h : s.TickStep t b) (n : Nat) (w : Nat × Word) : s.TickStep (t.applyHeldVc n w) b := by
  unfold State.applyHeldVc
  split
  · split
    · exact h.applyVcCtl n _
    · exact h.applyDelay n _
  · exact h.hidden

/-! ### Calibration runs (R117, R125, R126, R143) -/

theorem calAborted (h : s.TickStep t b) (n reason test bin quarter : Nat) :
    s.TickStep (t.calAborted n reason test bin quarter) b :=
  (((h.setVal (A.VCAL_Vn_RESULT n) _).setVal (A.VCAL_Vn_RUNS n) _).setBit _ true).raise _

theorem startRun (h : s.TickStep t b) (n : Nat) (full held : Bool) : s.TickStep (t.startRun n full held) b := by
  unfold State.startRun
  dsimp only
  split
  · exact h
  · split
    · exact (h.setCalib n _).calAborted n _ _ _ _
    · have hrun := fun c => ((((h.mark n tagCalStart).setCalib n c).setBit (F.VC_Vn_STAT_ACTIVE n) true).put
        (F.VCAL_Vn_CAL_STAT_BUSY n) 1).put (F.VCAL_Vn_CAL_STAT_DEFERRED n) 0
      split
      · exact (hrun _).setBit (F.REFM_Sn_STAT_CAL_HOLD n) true
      · exact hrun _

theorem startPlanned (h : s.TickStep t b) (n : Nat) (full held : Bool) : s.TickStep (t.startPlanned n full held) b :=
  ((h.setCalib n _).startRun n full held).setCalib n _

theorem autoRun (h : s.TickStep t b) (n : Nat) : s.TickStep (t.autoRun n) b := by
  unfold State.autoRun
  split
  · exact h
  · split
    · exact h
    · split
      · exact h.startPlanned n _ true
      · split
        · exact h.startPlanned n _ false
        · exact h
      · exact h.put _ 1

theorem riseRuns (h : s.TickStep t b) : s.TickStep t.riseRuns b := by
  unfold State.riseRuns
  split
  · exact h.each fun n _ u hu => hu.autoRun n
  · exact h

/-! ### The Faces (R35 to R38) -/

theorem refuseChange (h : s.TickStep t true) (f : MainFace) (src : StepSource) (rate : Bool) (d : Int) :
    s.TickStep (t.refuseChange f src rate d) true := by
  rw [State.refuseChange_eq]
  refine TickStep.ledger (TickStep.raise (TickStep.setBit ((h.setMulti A.STR_LAST_REFUSED_HI _ 3).setVal
    A.STR_LAST_REFUSED_INFO _) (refusedFld rate) true ?_) _) _ _ _ _
  cases rate <;> decide

theorem setRate (h : s.TickStep t true) (f : MainFace) (src : StepSource) (rate : Int) :
    s.TickStep (t.setRate f src rate) true := by
  by_cases hrate : |rate - (t.face f).rate| ≤ t.rateLimit
  · refine h.within (State.setRate_words hrate) (by decide) ?_ ?_ <;> rw [State.setRate_frame hrate]
    exact List.Subset.refl _
  · rw [State.setRate]
    exact (if_neg hrate) ▸ h.refuseChange f src true _

theorem stepFace (h : s.TickStep t true) (f : MainFace) (src : StepSource) (d : Int) :
    s.TickStep (t.stepFace f src d) true := by
  unfold State.stepFace
  split
  · by_cases hfits : t.stepFits f d = true
    · refine h.within (State.moveFace_words hfits) (by decide) ?_ ?_ <;> rw [State.moveFace_frame hfits]
      exact List.Subset.refl _
    · rw [State.moveFace, if_neg hfits]
      exact h.raise _
  · exact h.refuseChange f src false d

/-! ### The servo and the mode (R196 to R198, R216, R740) -/

theorem autoMode (h : s.TickStep t b) (m : Mode) (cause : Nat) : s.TickStep (t.autoMode m cause) b := by
  unfold State.autoMode State.enterMode
  split
  · split
    · exact h
    · exact TickStep.raise (TickStep.hidden h) _
  · split
    · exact h
    · exact TickStep.raise (TickStep.hidden h) _

theorem submitRate (h : s.TickStep t true) (target : Rat) : s.TickStep (t.submitRate target) true := by
  unfold State.submitRate
  dsimp only
  split
  · exact ((h.setRate _ _ _).raiseIf _ _).setBit _ true
  · exact (h.setRate _ _ _).raiseIf _ _

theorem enterHoldover (h : s.TickStep t true) (jump : Bool) : s.TickStep (t.enterHoldover jump) true := by
  unfold State.enterHoldover
  dsimp only
  split
  · split
    · exact TickStep.setBit (TickStep.hidden h) _ false
    · exact h.setBit _ jump
  · have hdrawn : s.TickStep (if t.entryError.isSome then t else t.drawn) true := by
      split
      · exact h
      · exact h.hidden
    exact ((((hdrawn.withServo _).put F.SRV_STAT_STATE _).setBit F.SRV_STAT_CAUSE jump).setVal A.SRV_HO_TIME 0).submitRate _

theorem lossOfSelection (h : s.TickStep t true) : s.TickStep t.lossOfSelection true := by
  unfold State.lossOfSelection
  split
  · exact ((h.enterHoldover false).autoMode _ _).raise _
  · exact h

theorem enterAcquire (h : s.TickStep t b) (i : Rat) : s.TickStep (t.enterAcquire i) b :=
  (h.withServo _).put F.SRV_STAT_STATE _

theorem servoRestarted (h : s.TickStep t b) (pass : Bool) : s.TickStep (t.servoRestarted pass) b := by
  unfold State.servoRestarted
  split_ifs
  · exact h.enterAcquire _
  · exact h.enterAcquire _
  · exact h.enterAcquire _
  · exact h.withServo _

theorem servoSwitched (h : s.TickStep t b) (pass : Bool) : s.TickStep (t.servoSwitched pass) b := by
  have hnoted := h.withServo { t.srv with ivSwitch := true }
  rw [State.servoSwitched_eq]
  dsimp only
  split
  · split
    · exact hnoted
    · exact ((hnoted.enterAcquire _).autoMode _ _).raise _
  · have hserved := hnoted.servoRestarted pass
    split
    · exact hserved.autoMode _ _
    · exact hserved

/-! ### The reference manager (R164 to R174) -/

theorem setSel (h : s.TickStep t true) (n : Nat) : s.TickStep (t.setSel n) true := by
  unfold State.setSel
  dsimp only
  split
  · exact h
  · have hsel := fun x => ((h.put F.REFM_SEL_NOW_SLOT n).raise Ev.SEL_CHANGE).withServo x
    split
    · exact (((hsel _).put F.REFM_SEL_NOW_ABSORBING 0).put F.REFM_SEL_NOW_MANUAL 0).lossOfSelection
    · exact hsel _

theorem abandonHeld (h : s.TickStep t b) : s.TickStep t.abandonHeld b :=
  ((h.put F.REFM_SEL_NOW_PENDING 15).put F.REFM_SEL_NOW_HELD 0).put F.REFM_STAT_HELD 0

theorem completeSwitch (h : s.TickStep t true) (n : Nat) (manual pass : Bool) (ofs : Int) :
    s.TickStep (t.completeSwitch n manual pass ofs) true :=
  ((TickStep.setMulti (((TickStep.abandonHeld (h.withRef _)).setBit F.REFM_SEL_NOW_MANUAL manual).setBit
    F.REFM_SEL_NOW_ABSORBING (!pass)) (A.REFM_Sn_ABS_OFS_HI n) _ 3).setSel n).servoSwitched pass

theorem holdSwitch (h : s.TickStep t true) (n : Nat) (manual : Bool) : s.TickStep (t.holdSwitch n manual) true := by
  have hheld := fun x again => ((((((h.put F.REFM_SEL_NOW_PENDING n).put F.REFM_SEL_NOW_HELD 1).put
    F.REFM_STAT_HELD 1).setBit F.REFM_STAT_HELD_SEEN true).setBit (F.REFM_Sn_STAT_SWITCH_REFUSED_SEEN n) true).withRef
      x).raiseIf again Ev.SWITCH_HELD
  unfold State.holdSwitch
  dsimp only
  split
  · exact hheld _ _
  · exact (hheld _ _).setSel 15

theorem switchTo (h : s.TickStep t true) (n : Nat) (manual : Bool) : s.TickStep (t.switchTo n manual) true := by
  have hphase := h.setMulti A.REFM_SEL_PHASE_HI (codeOf 96 (t.deltaOf n)) 3
  unfold State.switchTo
  dsimp only
  split
  · exact h.completeSwitch n _ _ _
  · split
    · exact hphase.completeSwitch n _ _ _
    · split
      · exact (hphase.stepFace _ _ _).completeSwitch n _ _ _
      · exact (hphase.stepFace _ _ _).holdSwitch n _

theorem scan (h : s.TickStep t true) (failed : Nat) : s.TickStep (t.scan failed) true := by
  unfold State.scan
  split
  · exact h.abandonHeld.setSel 15
  · split
    · exact h
    · split
      · exact h.hidden
      · exact h.switchTo _ false

theorem calHoldEnds (h : s.TickStep t true) (n : Nat) : s.TickStep (t.calHoldEnds n) true := by
  have hended := h.put (F.REFM_Sn_STAT_CAL_HOLD n) 0
  unfold State.calHoldEnds
  dsimp only
  split
  · exact hended
  · split
    · exact (hended.withRef _).scan 15
    · split
      · exact hended
      · split
        · exact (hended.withRef _).switchTo _ true
        · exact ((hended.withRef _).setBit F.REFM_STAT_SEL_REFUSED_SEEN true).raise _

/-! ### Every run ends (R125, R130) -/

theorem endRun (h : s.TickStep t true) (n : Nat) : s.TickStep (t.endRun n) true := by
  unfold State.endRun
  dsimp only
  have hwords := fun c on x => TickStep.each (l := (t.calib n).heldWords) (f := fun w t => t.applyHeldVc n w)
    (((((h.mark n tagCalEnd).setCalib n c).setBit (F.VC_Vn_STAT_ACTIVE n) on).put
      (F.VCAL_Vn_CAL_STAT_BUSY n) 0).setChan n x)
    (fun w _ u hu => hu.applyHeldVc n w)
  split
  · exact (hwords _ _ _).calHoldEnds n
  · exact hwords _ _ _

theorem abortRun (h : s.TickStep t true) (n reason test bin quarter : Nat) :
    s.TickStep (t.abortRun n reason test bin quarter) true := by
  unfold State.abortRun
  split
  · exact h
  · exact (h.endRun n).calAborted n reason test bin quarter

theorem dllLose (h : s.TickStep t b) (d : Nat) : s.TickStep (t.dllLose d) b := by
  unfold State.dllLose
  split
  · exact ((h.put _ 0).setBit (F.VCAL_DLL_LOST_SEEN d) true).raise _
  · exact h

theorem noTick (h : s.TickStep t true) : s.TickStep t.noTick true :=
  (h.each fun n _ _ hu => hu.abortRun n calNoTick 0 0 0).each fun d _ _ hu =>
    (hu.dllLose d).put (F.VCAL_DLL_REASON d) calNoTick

theorem dllAcquire (h : s.TickStep t b) : s.TickStep t.dllAcquire b :=
  h.each fun d _ _ hu => hu.put (F.VCAL_DLL_REASON d) 0

end State.TickStep

end Sys2Proof.Machine
end


section
/-! SUPPORT. A sample of a Guard source: what it leaves as it was (R545 to R551, R577, R758). -/

-- As in the tests: elaborated in parallel, these proofs' thread stacks would exceed the check's memory limit.
set_option Elab.async false

namespace Sys2Proof.Machine

/-- `u` follows `s` by samples of Guard sources: no word outside bank GRD, which holds the Ledger's words, is written, no
committed Ledger entry and no raised event is lost, and of the other blocks only the mode, the power votes and the trace
records may change. -/
structure State.GuardStep (s u : State) : Prop where
  words : s.banksKept u [22]
  raised : s.raised ⊆ u.raised
  slots : u.ldg.slots = s.ldg.slots
  frame : u = { s with
    regs := u.regs, raised := u.raised, obs := u.obs, ldg := u.ldg, grd := u.grd, pwr := u.pwr, mode := u.mode }

namespace State.GuardStep
variable {s t u : State}

theorem refl (s : State) : s.GuardStep s := ⟨fun _ _ => rfl, List.Subset.refl _, rfl, rfl⟩

theorem trans (h : s.GuardStep t) (h' : t.GuardStep u) : s.GuardStep u :=
  ⟨fun a ha => (h'.words a ha).trans (h.words a ha), List.Subset.trans h.raised h'.raised, h'.slots.trans h.slots,
    by rw [h'.frame, h.frame]⟩

theorem setVal (h : s.GuardStep t) (a n : Nat) (ha : a / 256 = 22 := by decide) : s.GuardStep (t.setVal a n) :=
  h.trans ⟨fun c hc => State.rd_setVal_ne t (fun he => hc (by simp [he, ha])) n, List.Subset.refl _, rfl, rfl⟩

theorem put (h : s.GuardStep t) (f : Fld) (n : Nat) (hf : f.addr / 256 = 22 := by decide) : s.GuardStep (t.put f n) :=
  h.setVal f.addr _ hf

theorem raise (h : s.GuardStep t) (e : EventId) : s.GuardStep (t.raise e) :=
  h.trans ⟨fun _ _ => rfl, List.subset_append_left _ _, rfl, rfl⟩

theorem withGuard (h : s.GuardStep t) (x : GuardState) : s.GuardStep { t with grd := x } :=
  h.trans ⟨fun _ _ => rfl, List.Subset.refl _, rfl, rfl⟩

theorem withMode (h : s.GuardStep t) (x : PowerState) (y : ModeState) : s.GuardStep { t with pwr := x, mode := y } :=
  h.trans ⟨fun _ _ => rfl, List.Subset.refl _, rfl, rfl⟩

theorem trace (h : s.GuardStep t) (k : Nat) (l : List Word) : s.GuardStep (t.trace k l) := by
  rw [State.trace_eq]
  exact h.trans ⟨fun _ _ => rfl, List.Subset.refl _, rfl, rfl⟩

theorem ledger (h : s.GuardStep t) (src evt : Nat) (data : List Byte) (cont : Option (List Byte)) :
    s.GuardStep (t.ledger src evt data cont) := by
  have hkept := State.wordsKept_ledger t src evt data cont
  obtain ⟨_, _, _, _, hl⟩ := State.ledger_eq t src evt data cont
  refine h.trans ⟨fun a ha => hkept a fun hm => ha (by simp [ledgerWords_bank hm]),
    fun e he => State.mem_raised_ledger he src evt data cont, ?_, ?_⟩ <;> rw [hl]

theorem enterSafe (h : s.GuardStep t) (cause : Nat) : s.GuardStep (t.enterSafe cause) := by
  unfold State.enterSafe
  split
  · exact h
  · exact h.withMode t.pwr _
  · exact ((h.withMode _ _).raise _).raise _

theorem ite {c : Prop} [Decidable c] (h : s.GuardStep t) (h' : s.GuardStep u) : s.GuardStep (if c then t else u) := by
  split
  · exact h
  · exact h'

theorem trip (h : s.GuardStep t) {x : Nat} (hx : x < 25) (v : Int) : s.GuardStep (t.trip x v) := by
  have hcount : A.GRD_Sx_COUNT x / 256 = 22 := by unfold A.GRD_Sx_COUNT; omega
  unfold State.trip
  extract_lets sev t1 writes seq t2 source t3 t4 t5 t6
  have h1 : s.GuardStep t1 := (h.setVal A.GRD_TRIPPED _).put (F.GRD_Sx_COUNT_TRIPS x) _ hcount
  have h2 : s.GuardStep t2 := ite (h1.ledger _ _ _ _) h1
  have h3 : s.GuardStep t3 := (h2.withGuard _).trace _ _
  split
  · exact h3.raise _
  · have h4 : s.GuardStep t4 := h3.raise _
    have h5 : s.GuardStep t5 := ite (h4.put F.GRD_STAT_THERMAL_ONLY _) (h4.put F.GRD_STAT_THERMAL_ONLY 0)
    have h6 : s.GuardStep t6 := ite (h5.put F.GRD_STAT_SAFE_PEND 1) (h5.enterSafe _)
    exact ite (h6.put F.GRD_STAT_FSM _) h6

theorem guardSample (h : s.GuardStep t) {x : Nat} (hx : x < 25) (event : Bool) (v : Int) :
    s.GuardStep (t.guardSample x event v) := by
  have hcount : A.GRD_Sx_COUNT x / 256 = 22 := by unfold A.GRD_Sx_COUNT; omega
  unfold State.guardSample
  extract_lets g recent t1
  have h1 : s.GuardStep t1 := h.withGuard _
  split
  · exact ite ((h1.put (F.GRD_Sx_COUNT_EVENTS x) _ hcount).trip hx v) (h1.put (F.GRD_Sx_COUNT_EVENTS x) _ hcount)
  · exact h1

theorem tbVerdict (h : s.GuardStep t) (x : Option Nat) : s.GuardStep (t.tbVerdict x) := by
  unfold State.tbVerdict
  refine ite h (State.each_keeps (P := fun u => s.GuardStep u) (fun y hy u hu => hu.guardSample ?_ _ 0) (h.withGuard _))
  have hsources : ∀ y ∈ [18, 19, 20, 21], y < 25 := by decide
  exact hsources y hy

/-- Words outside the Guard's bank keep their fields. -/
theorem bit (h : s.GuardStep u) (f : Fld) (hf : f.addr / 256 ∉ [22] := by decide) : u.bit f = s.bit f := by
  rw [State.bit, State.bit, State.get, State.get, State.val, State.val, h.words _ hf]

end State.GuardStep

/-- A sound verdict raises nothing. -/
theorem State.tbVerdict_sound (s : State) : (s.tbVerdict none).raised = s.raised := by
  unfold State.tbVerdict
  split
  · rfl
  · exact State.each_keeps (P := fun u => u.raised = s.raised) (f := fun y t => t.guardSample y (none == some y) 0)
      (fun _ _ _ hu => hu) rfl

end Sys2Proof.Machine
end


section
/-! The tick: its lock, its checks, and the descriptors that the checks follow (O38). -/

-- As in the tests: elaborated in parallel, these proofs' thread stacks would exceed the check's memory limit.
set_option Elab.async false

namespace Sys2Proof.Machine

/-! ### The lock (R72 to R74) -/

/-- The PLL is locked, and a Tally that stood starts at 0. -/
def State.tickLocked (s : State) : State :=
  let t := s.setBit F.TB_STAT_PLL_LOCK true
  if s.tallyRun then t else ({ t with tally := 0 }).setBit F.TB_STAT_TALLY_RUN true

/-- At the first lock an anchor is recorded. -/
def State.lockAnchored (s : State) : State := if s.tallyRun then s.tickLocked else s.tickLocked.anchor false

theorem State.tickLocked_spec (s : State) : s.tickLocked.bit F.TB_STAT_PLL_LOCK = true ∧ s.tickLocked.tallyRun = true ∧
    s.tickLocked.tally = (if s.tallyRun then s.tally else 0) ∧ s.tickLocked.str = s.str ∧ s.tickLocked.ldg = s.ldg := by
  have hlock : (s.setBit F.TB_STAT_PLL_LOCK true).bit F.TB_STAT_PLL_LOCK = true :=
    State.bit_setBit_self _ _ _ rfl (by decide)
  have hapart : (s.setBit F.TB_STAT_PLL_LOCK true).tallyRun = s.tallyRun :=
    State.bit_setBit_apart _ _ (by decide) (by decide)
  unfold State.tickLocked
  dsimp only
  split
  · next hrun => exact ⟨hlock, hapart.trans hrun, rfl, rfl, rfl⟩
  · exact ⟨(State.bit_setBit_apart _ _ (by decide) (by decide)).trans hlock,
      State.bit_setBit_self _ _ _ rfl (by decide), rfl, rfl, rfl⟩

/-- An anchor is recorded in words of AON (R642). -/
theorem State.anchor_kept (s : State) (stop : Bool) : s.banksKept (s.anchor stop) [1] := by
  intro a ha
  have hne : ∀ w, w / 256 = 1 → a ≠ w := by rintro w hw rfl; exact ha (by simp [hw])
  rw [State.anchor, State.setBit, State.rd_put_ne _ (hne _ (by decide))]
  simp only [State.setMulti]
  rw [State.rd_setVal_ne _ (hne _ (by decide)), State.rd_setVal_ne _ (hne _ (by decide)),
    State.rd_setVal_ne _ (hne _ (by decide)), State.rd_setVal_ne _ (hne _ (by decide)),
    State.rd_setVal_ne _ (hne _ (by decide))]

theorem State.lockAnchored_spec (s : State) : s.lockAnchored.bit F.TB_STAT_PLL_LOCK = true ∧
    s.lockAnchored.tallyRun = true ∧ s.lockAnchored.tally = (if s.tallyRun then s.tally else 0) ∧
    s.lockAnchored.str = s.str ∧ s.lockAnchored.ldg = s.ldg := by
  have hspec := s.tickLocked_spec
  generalize (if s.tallyRun then s.tally else 0) = tally at hspec ⊢
  unfold State.lockAnchored
  split
  · exact hspec
  · have hstat : (s.tickLocked.anchor false).rd A.TB_STAT = s.tickLocked.rd A.TB_STAT :=
      State.anchor_kept _ _ _ (by decide)
    have hbit : ∀ f : Fld, f.addr = A.TB_STAT → (s.tickLocked.anchor false).bit f = s.tickLocked.bit f :=
      fun f hf => by rw [State.bit, State.bit, State.get, State.get, State.val, State.val, hf, hstat]
    exact ⟨(hbit _ rfl).trans hspec.1, (hbit _ rfl).trans hspec.2.1, hspec.2.2⟩

theorem State.lockRises_eq {s : State} (htime : s.dom .time ≠ 0) (hlock : s.bit F.TB_STAT_PLL_LOCK = false) :
    s.lockRises = s.lockAnchored.dllAcquire.riseRuns := by
  have hlocked : s.pllLocked = s.tickLocked := if_pos ⟨htime, hlock⟩
  rw [State.lockRises, if_neg (by simp [hlock])]
  dsimp only
  rw [hlocked, if_pos s.tickLocked_spec.1]
  rfl

/-- The DLLs and the runs that follow a lock leave the tick alone. -/
theorem State.lockRises_spec {s : State} (htime : s.dom .time ≠ 0) (hlock : s.bit F.TB_STAT_PLL_LOCK = false) :
    s.lockRises.bit F.TB_STAT_PLL_LOCK = true ∧ s.lockRises.tallyRun = true ∧
      s.lockRises.tally = (if s.tallyRun then s.tally else 0) ∧ s.lockRises.str = s.str ∧ s.lockRises.ldg = s.ldg := by
  obtain ⟨hl, hrun, htally, hstr, hldg⟩ := s.lockAnchored_spec
  have hstep := (State.TickStep.refl s.lockAnchored false).dllAcquire.riseRuns
  rw [State.lockRises_eq htime hlock]
  exact ⟨(hstep.bit F.TB_STAT_PLL_LOCK).trans hl, (hstep.bit F.TB_STAT_TALLY_RUN).trans hrun, hstep.tally.trans htally,
    (hstep.still rfl).1.trans hstr, (hstep.still rfl).2.trans hldg⟩

/-- The loss of the lock, noted: with the Tally running it is TICK_UNLOCK. -/
def State.unlockNoted (s : State) : State :=
  let t := s.setBit F.TB_STAT_PLL_LOCK false
  if s.tallyRun then (t.setBit F.TB_STAT_UNLOCK_SEEN true).raise Ev.TICK_UNLOCK else t

theorem State.unlockNoted_spec (s : State) : s.unlockNoted.bit F.TB_STAT_PLL_LOCK = false ∧
    s.unlockNoted.tally = s.tally ∧
    (s.tallyRun = true → s.unlockNoted.bit F.TB_STAT_UNLOCK_SEEN = true ∧ Ev.TICK_UNLOCK ∈ s.unlockNoted.raised) := by
  have hlock : (s.setBit F.TB_STAT_PLL_LOCK false).bit F.TB_STAT_PLL_LOCK = false :=
    State.bit_setBit_self _ _ _ rfl (by decide)
  unfold State.unlockNoted
  dsimp only
  split
  · exact ⟨(State.bit_raise _ _ _).trans ((State.bit_setBit_apart _ _ (by decide) (by decide)).trans hlock),
      by rw [State.raise_tally, State.setBit_tally, State.setBit_tally], fun _ =>
      ⟨(State.bit_raise _ _ _).trans (State.bit_setBit_self _ _ _ rfl (by decide)),
        List.mem_append_right _ (List.mem_singleton_self _)⟩⟩
  · next hrun => exact ⟨hlock, rfl, fun h => absurd h hrun⟩

/-- The Guard's sample of the loss leaves what was noted of it. -/
theorem State.pllUnlock_step {s : State} (hlock : s.bit F.TB_STAT_PLL_LOCK = true) :
    s.unlockNoted.GuardStep s.pllUnlock := by
  rw [State.pllUnlock, if_pos hlock, State.unlockNoted]
  dsimp only
  split
  · split
    · exact .refl _
    · exact (State.GuardStep.refl _).guardSample (by decide) _ _
  · exact .refl _

theorem State.unlocked_spec {s : State} (hlock : s.bit F.TB_STAT_PLL_LOCK = true) :
    s.pllUnlock.noTick.bit F.TB_STAT_PLL_LOCK = false ∧ s.pllUnlock.noTick.tally = s.tally ∧
    (s.tallyRun = true → s.pllUnlock.noTick.bit F.TB_STAT_UNLOCK_SEEN = true ∧
      Ev.TICK_UNLOCK ∈ s.pllUnlock.noTick.raised) := by
  obtain ⟨hl, htally, hnoted⟩ := s.unlockNoted_spec
  have hguard := State.pllUnlock_step hlock
  have hruns := (State.TickStep.refl s.pllUnlock true).noTick
  have hsame : s.pllUnlock.tally = s.unlockNoted.tally := by rw [hguard.frame]
  refine ⟨(hruns.bit F.TB_STAT_PLL_LOCK).trans ((hguard.bit F.TB_STAT_PLL_LOCK).trans hl),
    hruns.tally.trans (hsame.trans htally), fun hrun => ⟨?_, hruns.raised (hguard.raised (hnoted hrun).2)⟩⟩
  exact (hruns.bit F.TB_STAT_UNLOCK_SEEN).trans ((hguard.bit F.TB_STAT_UNLOCK_SEEN).trans (hnoted hrun).1)

/-! ### The verdicts (R78) -/

/-- The sticky bit of a verdict other than sound. -/
def Verdict.seen : Verdict → Fld
  | .slip => F.TB_STAT_SLIP_SEEN
  | .suspect => F.TB_STAT_SUSPECT_SEEN
  | .crystal => F.TB_STAT_SUSPECT_SEEN
  | _ => F.TB_STAT_REF_SEEN

/-- The event of a verdict other than sound. -/
def Verdict.event : Verdict → EventId
  | .slip => Ev.TICK_SLIP
  | .suspect => Ev.TICK_SUSPECT
  | .crystal => Ev.X32_SUSPECT
  | _ => Ev.TICK_REF_DISAGREE

/-- The source of the Guard that a verdict is reported to. -/
def Verdict.source : Verdict → Option Nat
  | .slip => some 18
  | .suspect => some 19
  | .crystal => some 20
  | .refDisagrees => some 21
  | .sound => none

/-- A verdict noted in TB, before the Guard has it. -/
def State.verdictNoted (s : State) (v : Verdict) : State :=
  match v with
  | .sound => s
  | v => (s.setBit v.seen true).raise v.event

section verdict
variable (s : State) (v : Verdict)

theorem State.verdict_eq : s.verdict v = (s.verdictNoted v).tbVerdict v.source := by cases v <;> rfl

theorem State.verdictNoted_reports (hv : v ≠ .sound) : s.verdictNoted v = (s.setBit v.seen true).raise v.event := by
  cases v
  case sound => exact absurd rfl hv
  all_goals rfl

/-- The Guard's samples of a verdict leave what was noted of it. -/
theorem State.verdict_step : (s.verdictNoted v).GuardStep (s.verdict v) := by
  rw [State.verdict_eq]
  exact (State.GuardStep.refl _).tbVerdict _

theorem Verdict.seen_addr : v.seen.addr = A.TB_STAT := by cases v <;> rfl

theorem State.verdict_words {a : Nat} (hstat : a ≠ A.TB_STAT) (hguard : a / 256 ≠ 22) : (s.verdict v).rd a = s.rd a := by
  rw [(s.verdict_step v).words a (by simpa using hguard)]
  by_cases hv : v = .sound
  · rw [hv]; rfl
  · rw [s.verdictNoted_reports v hv]
    exact State.wordsKept_setBit s v.seen true a (by simpa [v.seen_addr] using hstat)

theorem State.verdict_frame : s.verdict v = { s with
    regs := (s.verdict v).regs, raised := (s.verdict v).raised, obs := (s.verdict v).obs, ldg := (s.verdict v).ldg
    grd := (s.verdict v).grd, pwr := (s.verdict v).pwr, mode := (s.verdict v).mode } := by
  have hnoted : s.verdictNoted v =
      { s with regs := (s.verdictNoted v).regs, raised := (s.verdictNoted v).raised } := by
    by_cases hv : v = .sound
    · rw [hv]; rfl
    · rw [s.verdictNoted_reports v hv]; rfl
  rw [(s.verdict_step v).frame, hnoted]

variable {v}

/-- A verdict other than sound sets its bit and raises its event. -/
theorem State.verdict_reports (hv : v ≠ .sound) :
    (s.verdict v).bit v.seen = true ∧ v.event ∈ (s.verdict v).raised := by
  have hstep := s.verdict_step v
  rw [hstep.bit v.seen (by rw [v.seen_addr]; decide)]
  rw [s.verdictNoted_reports v hv] at hstep ⊢
  exact ⟨(State.bit_raise _ _ _).trans (State.bit_setBit_self _ _ _ (by cases v <;> rfl) (by cases v <;> decide)),
    hstep.raised (List.mem_append_right _ (List.mem_singleton_self _))⟩

theorem State.verdict_sound : (s.verdict .sound).raised = s.raised := s.tbVerdict_sound

end verdict

/-! ### The X32 window (R78, R641, R830) -/

theorem State.x32Learn_words (s : State) (ticks : Nat) :
    s.wordsKept (s.x32Learn ticks) [A.PWR_X32_OFS, A.PWR_TCLK_STAT] := by
  intro a ha
  simp only [List.mem_cons, List.not_mem_nil, or_false, not_or] at ha
  unfold State.x32Learn
  dsimp only
  split
  · rw [State.rd_put_ne _ ha.2]
    exact State.rd_wr_ne _ ha.1 _
  · exact State.rd_wr_ne _ ha.1 _

theorem State.x32Learn_frame (s : State) (ticks : Nat) :
    s.x32Learn ticks = { s with regs := (s.x32Learn ticks).regs, pwr := (s.x32Learn ticks).pwr } := by
  unfold State.x32Learn
  dsimp only
  split <;> rfl

/-- What a window records before its verdict. -/
def State.windowRecorded (s : State) (ticks : Nat) (done : Bool) (slips : Nat) : State :=
  (({ s with tb := { s.tb with x32 := (s.windowVerdict ticks done slips).2 } }).setVal A.TB_TIM_X32_TICKS
    (if done then ticks else 0)).countSat (wordFld A.TB_TIM_SLIP_COUNT) slips

theorem State.x32Window_eq {s : State} (hrun : s.tallyRun = true) (ticks : Nat) (done : Bool) (slips : Nat) :
    s.x32Window ticks done slips =
      (s.windowRecorded ticks done slips).verdict (s.windowVerdict ticks done slips).1 :=
  if_neg (by simp [hrun])

/-- A window's whole effect: its record, its verdict, and what a sound crystal teaches. -/
def State.windowEnded (s : State) (ticks : Nat) (done : Bool) (slips : Nat) : State :=
  if done && (s.windowVerdict ticks done slips).1.crystalSound then (s.x32Window ticks done slips).x32Learn ticks
  else s.x32Window ticks done slips

section window
variable {s : State} {ticks : Nat} {done : Bool} {slips : Nat}

theorem State.windowEnded_words : (s.x32Window ticks done slips).wordsKept (s.windowEnded ticks done slips)
    [A.PWR_X32_OFS, A.PWR_TCLK_STAT] := by
  unfold State.windowEnded
  split
  · exact State.x32Learn_words _ _
  · exact State.wordsKept_refl _ _

theorem State.windowEnded_frame : s.windowEnded ticks done slips = { s.x32Window ticks done slips with
    regs := (s.windowEnded ticks done slips).regs, pwr := (s.windowEnded ticks done slips).pwr } := by
  unfold State.windowEnded
  split
  · exact State.x32Learn_frame _ _
  · rfl

theorem State.windowEnded_raised :
    (s.windowEnded ticks done slips).raised = (s.x32Window ticks done slips).raised := by
  rw [State.windowEnded_frame]

variable (hrun : s.tallyRun = true)
include hrun

theorem State.windowEnded_hidden :
    (s.windowEnded ticks done slips).tb = { s.tb with x32 := (s.windowVerdict ticks done slips).2 } ∧
    (s.windowEnded ticks done slips).tally = s.tally ∧ (s.windowEnded ticks done slips).str = s.str := by
  rw [State.windowEnded_frame, State.x32Window_eq hrun, State.verdict_frame]
  exact ⟨rfl, rfl, rfl⟩

theorem State.windowEnded_ticks :
    (s.windowEnded ticks done slips).val A.TB_TIM_X32_TICKS = (if done then ticks else 0) % 2 ^ 32 := by
  rw [State.windowEnded_words.val (by decide), State.x32Window_eq hrun, State.val,
    State.verdict_words _ _ (by decide) (by decide), State.windowRecorded, State.countSat,
    State.rd_put_ne _ (by decide)]
  exact State.val_setVal_self _ _ _

/-- A window whose verdict is not sound reports it. -/
theorem State.windowEnded_reports {v : Verdict} (hv : (s.windowVerdict ticks done slips).1 = v) (hne : v ≠ .sound) :
    (s.windowEnded ticks done slips).bit v.seen = true ∧ v.event ∈ (s.windowEnded ticks done slips).raised := by
  rw [State.windowEnded_words.bit (by rw [v.seen_addr]; decide), State.windowEnded_raised, State.x32Window_eq hrun, hv]
  exact State.verdict_reports _ hne

/-- A sound window raises nothing. -/
theorem State.windowEnded_sound (hv : (s.windowVerdict ticks done slips).1 = .sound) :
    (s.windowEnded ticks done slips).raised = s.raised := by
  rw [State.windowEnded_raised, State.x32Window_eq hrun, hv]
  exact State.verdict_sound _

end window

end Sys2Proof.Machine
end


section
/-! The reference gate, the threshold descriptors, and O38 (R70, R75, R78). -/

-- As in the tests: elaborated in parallel, these proofs' thread stacks would exceed the check's memory limit.
set_option Elab.async false

namespace Sys2Proof.Machine

/-! ### The reference gate (R63, R75, R78) -/

/-- The REF qualifier after a gate of this deviation. -/
def State.refNext (s : State) (dev : Int) : Qual :=
  Qual.sample .upper (s.descriptor A.TB_TIM_REF_ASSERT) |dev| s.tb.ref

/-- What a gate records before its verdict. -/
def State.gateRecorded (s : State) (dev : Int) : State :=
  ({ s with tb := { s.tb with ref := s.refNext dev, gates := (dev :: s.tb.gates).take 2 } }).setIval A.TB_TIM_REF_DEV dev

section gate
variable {s : State} (hact : s.refActive = true) (dev : Int)
include hact

theorem State.refGate_eq : s.refGate dev =
    (s.gateRecorded dev).verdict (Machine.verdictOf false s.tb.x32.on (some (s.refNext dev).on)) := if_pos hact

theorem State.refGate_dev : (s.refGate dev).val A.TB_TIM_REF_DEV = codeOf 32 dev := by
  rw [State.refGate_eq hact, State.val, State.verdict_words _ _ (by decide) (by decide)]
  exact State.val_setIval_self _ _ _

theorem State.refGate_hidden :
    (s.refGate dev).tb = { s.tb with ref := s.refNext dev, gates := (dev :: s.tb.gates).take 2 } ∧
    (s.refGate dev).tally = s.tally ∧ (s.refGate dev).str = s.str := by
  rw [State.refGate_eq hact, State.verdict_frame]
  exact ⟨rfl, rfl, rfl⟩

theorem State.refGate_reports {v : Verdict} (hv : Machine.verdictOf false s.tb.x32.on (some (s.refNext dev).on) = v)
    (hne : v ≠ .sound) : (s.refGate dev).bit v.seen = true ∧ v.event ∈ (s.refGate dev).raised := by
  rw [State.refGate_eq hact, hv]
  exact State.verdict_reports _ hne

theorem State.refGate_words :
    s.keptBut (s.refGate dev) (fun a => a == A.TB_TIM_REF_DEV || a == A.TB_STAT || a / 256 == 0x16) := by
  intro a ha
  simp only [Bool.or_eq_false_iff, beq_eq_false_iff_ne] at ha
  obtain ⟨⟨hdev, hstat⟩, hguard⟩ := ha
  rw [State.refGate_eq hact, State.verdict_words _ _ hstat hguard]
  exact State.rd_wr_ne _ hdev _

end gate

/-! ### Threshold descriptors (R70, R71) -/

/-- A descriptor lies in TIM_REF's words of TB, or outside TB. -/
theorem descriptorAt_bank {a : Nat} {d : Nat × Limit} (h : descriptorAt a = some d) (ha : a = d.1 + 2) :
    a / 256 < 24 ∧ (a / 256 = 3 → a = A.TB_TIM_REF_DWELL) := by
  unfold descriptorAt at h
  dsimp only at h
  split at h
  · next x hx =>
    obtain rfl := Option.some.inj h
    have hmem := List.mem_of_find?_eq_some hx
    have hbanks : ∀ y ∈ ([(A.PWR_TCAP_ASSERT, .upper), (A.TB_TIM_REF_ASSERT, .upper), (A.VCAL_DRIFT_ASSERT, .upper),
        (A.REFM_ANT_TEMP_ASSERT, .upper), (A.SRV_LOCK_ASSERT, .lower), (A.ARR_RECAL_T_ASSERT, .upper)] :
          List (Nat × Limit)), (y.1 + 2) / 256 < 24 ∧ ((y.1 + 2) / 256 = 3 → y.1 + 2 = A.TB_TIM_REF_DWELL) := by decide
    exact ha ▸ hbanks x hmem
  · split at h
    · next hr => omega
    · exact absurd h (by simp)

theorem State.resetRun_regs (s : State) (base : Nat) : (s.resetRun base).regs = s.regs := by
  unfold State.resetRun
  split_ifs
  case neg => exact State.setSource_regs _ _ _
  all_goals rfl

/-- Holds that were emptied are empty. -/
theorem State.dropHolds_dropHolds (s : State) (p : HostPort) (l : List Nat) :
    (s.dropHolds p l).dropHolds p l = s.dropHolds p l := by
  have hfold : ∀ (l : List Nat) (m : List (Nat × Word)),
      l.foldl (fun l a => eraseKey a l) m = m.filter (fun x => x.1 ∉ l) := by
    intro l
    induction l with
    | nil => intro m; simp
    | cons b l ih =>
      intro m
      rw [List.foldl_cons, ih, eraseKey, List.filter_filter]
      refine List.filter_congr fun x _ => ?_
      by_cases hx : x.1 = b <;> simp [hx]
  cases p <;> simp [State.dropHolds, State.setPort, State.port, hfold, List.filter_filter]

section descriptor
variable {s : State} {p : HostPort} {a : Nat} {v : Word} {d : Nat × Limit} (hmay : s.mayWrite p a = true)
  (hwr : (rowOf a).writable ≠ 0) (hd : descriptorAt a = some d) (ha : a = d.1 + 2)
include hmay hwr hd ha

/-- The write of a DWELL word comes to the descriptor's rule. -/
theorem State.paramWrite_descriptor : s.paramWrite p a v =
    if ((s.descriptorWrite p d.1 d.2 a v).rej.isSome) then
      { s.descriptorWrite p d.1 d.2 a v with
        state := (s.descriptorWrite p d.1 d.2 a v).state.dropHolds p [d.1, d.1 + 1] }
    else s.descriptorWrite p d.1 d.2 a v := by
  simp only [State.mayWrite, Bool.and_eq_true, Bool.not_eq_true'] at hmay
  obtain ⟨⟨-, htakes⟩, hopen⟩ := hmay
  obtain ⟨hbank, htb⟩ := descriptorAt_bank hd ha
  have hjudged : s.wordJudged p a v = s.descriptorWrite p d.1 d.2 a v := by
    unfold rowOf at hwr
    unfold State.wordJudged
    cases hrow : rowAt a with
    | none => exact absurd (by rw [hrow]; rfl) hwr
    | some r =>
      have hr : r.writable ≠ 0 := by rw [hrow] at hwr; exact hwr
      dsimp only
      rw [if_neg hr, if_neg (by simp [hopen]), hd]
  have happlied : appliedHolds a = [d.1, d.1 + 1] := by
    rw [appliedHolds, hd]
    exact if_pos ha
  have hword : s.paramWrite p a v = s.wordWrite p a v := by
    rw [State.paramWrite]
    dsimp only
    rw [if_neg (by omega)]
    by_cases hthree : a / 256 = 3
    · have htime : s.takesWrites .time = true := by rw [hthree] at htakes; exact htakes
      rw [if_pos hthree, htime, Bool.or_true, if_pos rfl, htb hthree]
      rfl
    · rw [if_neg hthree, if_pos htakes]
  rw [hword, State.wordWrite, hjudged, happlied]
  simp

variable {up down : Word} (hup : up = (s.heldWord p d.1).getD (s.rd d.1))
  (hdown : down = (s.heldWord p (d.1 + 1)).getD (s.rd (d.1 + 1)))

omit hmay hwr hd in
include hup hdown in
/-- A DWELL word applies the three words together, or none of them. -/
theorem State.descriptorWrite_dwell : s.descriptorWrite p d.1 d.2 a v =
    if (Descriptor.ofWords up down v).ok d.2 then
      (((((s.dropHolds p [d.1, d.1 + 1]).wr d.1 up).wr (d.1 + 1) down).wr (d.1 + 2) v).resetRun d.1).ok
    else (s.dropHolds p [d.1, d.1 + 1]).rejected .range := by
  rw [State.descriptorWrite, if_neg (by omega), hup, hdown]

include hup hdown

/-- A sound descriptor is stored. -/
theorem State.hostParam_descriptor (hok : (Descriptor.ofWords up down v).ok d.2 = true) : s.hostParam p a v =
    (((((s.dropHolds p [d.1, d.1 + 1]).wr d.1 up).wr (d.1 + 1) down).wr (d.1 + 2) v).resetRun d.1).written p a v := by
  refine State.hostParam_ok (State.ready_of_mayWrite hmay) ?_
  rw [State.paramWrite_descriptor hmay hwr hd ha, State.descriptorWrite_dwell ha hup hdown, if_pos hok]
  rfl

/-- Any other is discarded. -/
theorem State.hostParam_descriptor_rejected (hok : (Descriptor.ofWords up down v).ok d.2 = false) :
    s.hostParam p a v = (s.dropHolds p [d.1, d.1 + 1]).turnedAway p a v .range := by
  have hrule : s.descriptorWrite p d.1 d.2 a v = (s.dropHolds p [d.1, d.1 + 1]).rejected .range := by
    rw [State.descriptorWrite_dwell ha hup hdown, if_neg (by simp [hok])]
  refine State.hostParam_rejected (State.ready_of_mayWrite hmay) ?_
  rw [State.paramWrite_descriptor hmay hwr hd ha, hrule, State.rejected_state, State.dropHolds_dropHolds]
  rfl

end descriptor

/-- The words of a stored descriptor. -/
theorem State.descriptorStored_words (s : State) (p : HostPort) (base : Nat) (up down v : Word) (l : List Nat) :
    ∀ u : State, u = ((((s.dropHolds p l).wr base up).wr (base + 1) down).wr (base + 2) v).resetRun base →
    u.rd base = up ∧ u.rd (base + 1) = down ∧ u.rd (base + 2) = v ∧
      s.wordsKept u [base, base + 1, base + 2] := by
  rintro _ rfl
  have hrd := fun (t : State) (a : Nat) => State.rd_of_regs (t.resetRun_regs base) a
  refine ⟨?_, ?_, ?_, fun a hne => ?_⟩
  · rw [hrd, State.rd_wr_ne _ (by omega), State.rd_wr_ne _ (by omega), State.rd_wr_self]
  · rw [hrd, State.rd_wr_ne _ (by omega), State.rd_wr_self]
  · rw [hrd, State.rd_wr_self]
  · simp only [List.mem_cons, List.not_mem_nil, or_false, not_or] at hne
    obtain ⟨h0, h1, h2⟩ := hne
    rw [hrd, State.rd_wr_ne _ h2, State.rd_wr_ne _ h1, State.rd_wr_ne _ h0, State.rd_dropHolds]

/-! ### The verdict table (R78) -/

section table
variable {s : State} {ticks : Nat} {done : Bool} {slips : Nat}

theorem State.windowVerdict_eq : (s.windowVerdict ticks done slips).1 = Machine.verdictOf (decide (0 < slips))
    ((s.windowVerdict ticks done slips).2.on || !done) (if s.refActive then some s.tb.ref.on else none) := rfl

theorem State.windowVerdict_slip (h : 0 < slips) : (s.windowVerdict ticks done slips).1 = .slip := by
  simp [State.windowVerdict, Machine.verdictOf, h]

theorem State.windowVerdict_suspect (h : slips = 0)
    (hx : (s.windowVerdict ticks done slips).2.on = true ∨ done = false) : (s.windowVerdict ticks done slips).1 =
      if s.refActive = true ∧ s.tb.ref.on = false then .crystal else .suspect := by
  have hor : ((s.windowVerdict ticks done slips).2.on || !done) = true := by simpa using hx
  rw [State.windowVerdict_eq, hor, h]
  cases s.refActive <;> cases s.tb.ref.on <;> rfl

theorem State.windowVerdict_done (h : slips = 0) (hx : (s.windowVerdict ticks done slips).2.on = false)
    (hdone : done = true) : (s.windowVerdict ticks done slips).1 =
      if s.refActive = true ∧ s.tb.ref.on = true then .refDisagrees else .sound := by
  have hor : ((s.windowVerdict ticks done slips).2.on || !done) = false := by rw [hx, hdone]; rfl
  rw [State.windowVerdict_eq, hor, h]
  cases s.refActive <;> cases s.tb.ref.on <;> rfl

variable (hrun : s.tallyRun = true)
include hrun

/-- A window that was cut off, or after which X32 stands, is a finding. -/
theorem State.windowEnded_suspects (h : slips = 0)
    (hx : (s.windowVerdict ticks done slips).2.on = true ∨ done = false) :
    (s.windowEnded ticks done slips).bit F.TB_STAT_SUSPECT_SEEN = true ∧
      (if s.refActive = true ∧ s.tb.ref.on = false then Ev.X32_SUSPECT ∈ (s.windowEnded ticks done slips).raised
        else Ev.TICK_SUSPECT ∈ (s.windowEnded ticks done slips).raised) := by
  have hverdict := State.windowVerdict_suspect h hx
  by_cases hgood : s.refActive = true ∧ s.tb.ref.on = false
  · rw [if_pos hgood] at hverdict ⊢
    exact State.windowEnded_reports (v := .crystal) hrun hverdict (by decide)
  · rw [if_neg hgood] at hverdict ⊢
    exact State.windowEnded_reports (v := .suspect) hrun hverdict (by decide)

/-- A whole window with X32 released reports what the reference finds. -/
theorem State.windowEnded_disagrees (h : slips = 0) (hx : (s.windowVerdict ticks done slips).2.on = false)
    (hdone : done = true) (href : s.refActive = true ∧ s.tb.ref.on = true) :
    Ev.TICK_REF_DISAGREE ∈ (s.windowEnded ticks done slips).raised ∧
      (s.windowEnded ticks done slips).bit F.TB_STAT_REF_SEEN = true := by
  have hverdict := State.windowVerdict_done h hx hdone
  rw [if_pos href] at hverdict
  exact (State.windowEnded_reports hrun hverdict (by decide)).symm

theorem State.windowEnded_quiet (h : slips = 0) (hx : (s.windowVerdict ticks done slips).2.on = false)
    (hdone : done = true) (href : ¬ (s.refActive = true ∧ s.tb.ref.on = true)) :
    (s.windowEnded ticks done slips).raised = s.raised := by
  have hverdict := State.windowVerdict_done h hx hdone
  rw [if_neg href] at hverdict
  exact State.windowEnded_sound hrun hverdict

end table

/-- A gate with X32 standing blames the crystal where the reference agrees. -/
theorem State.refGate_suspects {s : State} (hact : s.refActive = true) (dev : Int) (hx : s.tb.x32.on = true) :
    (s.refGate dev).bit F.TB_STAT_SUSPECT_SEEN = true ∧
      (if (s.refNext dev).on then Ev.TICK_SUSPECT ∈ (s.refGate dev).raised
        else Ev.X32_SUSPECT ∈ (s.refGate dev).raised) := by
  by_cases href : (s.refNext dev).on = true
  · rw [if_pos href]
    exact State.refGate_reports hact dev (v := .suspect) (by rw [hx, href]; rfl) (by decide)
  · rw [if_neg href]
    exact State.refGate_reports hact dev (v := .crystal) (by rw [hx, Bool.eq_false_iff.2 href]; rfl) (by decide)

/-! ### The commands -/

theorem exec_pllLocked (s : State) : exec .pllLocked s = .next (s.after s.lockRises) := rfl

theorem exec_tickUnlock {s : State} (hup : s.up .time = true) (hlock : s.bit F.TB_STAT_PLL_LOCK = true) :
    exec .tickUnlock s = .next (s.after s.pllUnlock.noTick) :=
  happen_inside hup hlock fun s => s.pllUnlock.noTick

theorem exec_x32WindowEnd {s : State} (hup : s.up .time = true) (hrun : s.tallyRun = true) (ticks : Nat) (done : Bool)
    (slips : Nat) : exec (.x32WindowEnd ticks done slips) s = .next (s.after (s.windowEnded ticks done slips)) :=
  happen_inside hup hrun fun s => s.windowEnded ticks done slips

theorem exec_refGateEnd {s : State} (hup : s.up .time = true) (dev : Int) :
    exec (.refGateEnd dev) s = .next (s.after (s.refGate dev)) :=
  happen_inside hup rfl fun s => s.refGate dev

theorem exec_thresholdDescriptorWrite (s : State) (p : HostPort) (a : Nat) (v : Word) :
    exec (.thresholdDescriptorWrite p a v) s = .next (s.after (s.hostParam p a v)) := rfl

/-- Settles O38: the units that follow a lock and its loss leave the tick's words alone, a window and a gate report the
first verdict of the table that applies, and a DWELL word passes the engine as its descriptor's rule. -/
theorem tickIsLockedAndChecked : Obligations.TickIsLockedAndChecked := by
  intro s
  refine ⟨fun htime hlock u hu => ?_, fun hup hlock u hu => ?_, fun ticks done slips hup hrun u hu v hv w hw => ?_,
    fun dev hup hact u hu q hq => ?_, fun p a v hmay hwr d hd ha up hupper down hlower => ?_⟩
  · subst hu
    exact ⟨exec_pllLocked s, State.lockRises_spec htime hlock⟩
  · subst hu
    exact ⟨exec_tickUnlock hup hlock, State.unlocked_spec hlock⟩
  · subst hu hv
    obtain rfl : w = s.windowEnded ticks done slips := hw
    obtain ⟨htb, htally, hstr⟩ := State.windowEnded_hidden (ticks := ticks) (done := done) (slips := slips) hrun
    have hx32 : (s.windowEnded ticks done slips).tb.x32 = (s.windowVerdict ticks done slips).2 := by rw [htb]
    rw [hx32]
    refine ⟨exec_x32WindowEnd hup hrun ticks done slips,
      fun h => (State.windowEnded_reports hrun (State.windowVerdict_slip h) (by decide)).symm,
      State.windowEnded_suspects hrun,
      fun h hx hdone hact href => State.windowEnded_disagrees hrun h hx hdone ⟨hact, href⟩,
      fun h hx hdone href => ?_, State.windowEnded_ticks hrun, htally, hstr⟩
    rw [State.windowEnded_quiet hrun h hx hdone href]
    exact ⟨Iff.rfl, Iff.rfl, htb⟩
  · obtain ⟨htb, htally, hstr⟩ := State.refGate_hidden hact dev
    obtain rfl : q = s.refNext dev := hq
    subst hu
    exact ⟨exec_refGateEnd hup dev, State.refGate_dev hact dev, htb, State.refGate_suspects hact dev,
      fun hx href => State.refGate_reports hact dev (v := .refDisagrees) (by rw [hx, href]; rfl) (by decide),
      State.refGate_words hact dev, htally, hstr⟩
  · rw [exec_thresholdDescriptorWrite]
    refine ⟨fun hok u hu => ?_, fun hok => ?_⟩
    · rw [State.hostParam_descriptor hmay hwr hd ha hupper hlower hok, ← hu]
      exact ⟨rfl, State.descriptorStored_words s p d.1 up down v _ u hu⟩
    · rw [State.hostParam_descriptor_rejected hmay hwr hd ha hupper hlower hok]

end Sys2Proof.Machine
end

section
/-! SUPPORT. A channel of Vernier Capture: what an operation on it touches, and what its queue does with an entry (R92
to R103). -/

-- As in the tests: elaborated in parallel, these proofs' thread stacks would exceed the check's memory limit.
set_option Elab.async false

namespace Sys2Proof.Machine

/-! ### The reach of an operation on a channel -/

/-- Word `k` of channel `n` in bank VC. -/
def channelWord (n k : Nat) : Nat := 0x500 + (0x20 + 0x10 * n + k)

/-- Flag `k` of Vn_STAT. -/
def channelFlag (n k : Nat) : Fld := ⟨channelWord n 1, k, 1⟩

/-- What a channel holds for its coarse line: the last edge, the conversions in progress, and whether it stops. -/
def Channel.line (c : Channel) : Option Int × List Conversion × Bool := (c.prevEdge, c.conv, c.stopping)

theorem channelWord_ne {n j k : Nat} (h : j ≠ k) : channelWord n j ≠ channelWord n k := by
  unfold channelWord; omega

theorem channelWord_bank {n k : Nat} (hn : n < 8) (hk : k < 16) : channelWord n k / 256 = 5 := by
  unfold channelWord; omega

theorem State.chan_setChan_self (s : State) {n : Nat} (hn : n < 8) (c : Channel) : (s.setChan n c).chan n = c := by
  rw [State.chan_setChan s hn, if_pos rfl]

/-- There is no channel from 8 on. -/
theorem State.setChan_beyond (s : State) {n : Nat} (hn : ¬ n < 8) (c : Channel) : s.setChan n c = s := by
  have hvc : s.vc.setIfInBounds n c = s.vc := Vector.ext fun i hi => by
    rw [Vector.getElem_setIfInBounds, if_neg (by omega)]
  rw [State.setChan, hvc]

theorem State.chan_setChan_ne (s : State) {n m : Nat} (h : m ≠ n) (c : Channel) :
    (s.setChan n c).chan m = s.chan m := by
  by_cases hn : n < 8
  · rw [State.chan_setChan s hn, if_neg h]
  · rw [State.setChan_beyond s hn]

/-- A flag of Vn_STAT reads what was written to it. -/
theorem State.flag_setBit_self (s : State) (n k : Nat) (b : Bool) (hk : k < 32 := by decide) :
    (s.setBit (channelFlag n k) b).bit (channelFlag n k) = b := State.bit_setBit_self s _ b rfl hk

theorem State.flag_setBit_ne (s : State) (n k : Nat) {j : Nat} (b : Bool) (h : j ≠ k := by decide)
    (hk : k < 32 := by decide) : (s.setBit (channelFlag n k) b).bit (channelFlag n j) = s.bit (channelFlag n j) :=
  State.bit_setBit_apart s b (by simp only [channelFlag]; omega) (Or.inr (by simp only [channelFlag]; omega))

/-- `u` follows `s` by an operation on channel `n` that writes only the listed words of the channel, and of its STAT
only the listed flags; no other channel's state changes, every event raised stays raised, and with `edges` the channel's
line is as it was. -/
structure State.ChanStep (s u : State) (n : Nat) (flags words : List Nat) (edges : Bool) : Prop where
  words : ∀ a, (∀ k ∈ words, a ≠ channelWord n k) → u.rd a = s.rd a
  flags : ∀ k, k ∉ flags → u.bit (channelFlag n k) = s.bit (channelFlag n k)
  others : ∀ m, m ≠ n → u.chan m = s.chan m
  line : edges = true → (u.chan n).line = (s.chan n).line
  raised : s.raised ⊆ u.raised
  frame : u = { s with regs := u.regs, raised := u.raised, vc := u.vc }

namespace State.ChanStep
variable {s t u : State} {n : Nat} {fs ws : List Nat} {b : Bool}

theorem refl (s : State) (n : Nat) (fs ws : List Nat) (b : Bool) : s.ChanStep s n fs ws b :=
  ⟨fun _ _ => rfl, fun _ _ => rfl, fun _ _ => rfl, fun _ => rfl, List.Subset.refl _, rfl⟩

theorem trans (h : s.ChanStep t n fs ws b) (h' : t.ChanStep u n fs ws b) : s.ChanStep u n fs ws b :=
  ⟨fun a ha => (h'.words a ha).trans (h.words a ha), fun k hk => (h'.flags k hk).trans (h.flags k hk),
    fun m hm => (h'.others m hm).trans (h.others m hm), fun hb => (h'.line hb).trans (h.line hb),
    List.Subset.trans h.raised h'.raised, by rw [h'.frame, h.frame]⟩

/-- A further step of no wider reach. -/
theorem next {gs vs : List Nat} (h : s.ChanStep t n fs ws b) (h' : t.ChanStep u n gs vs b) (hf : gs ⊆ fs := by decide)
    (hw : vs ⊆ ws := by decide) : s.ChanStep u n fs ws b :=
  h.trans ⟨fun a ha => h'.words a fun k hk => ha k (hw hk), fun k hk => h'.flags k fun hm => hk (hf hm), h'.others,
    h'.line, h'.raised, h'.frame⟩

/-! What a step keeps. -/

theorem val (h : s.ChanStep u n fs ws b) (k : Nat) (hk : k ∉ ws := by decide) :
    u.val (channelWord n k) = s.val (channelWord n k) :=
  congrArg BitVec.toNat (h.words _ fun _ hm => channelWord_ne fun he => hk (he ▸ hm))

theorem get (h : s.ChanStep u n fs ws b) (k lo width : Nat) (hk : k ∉ ws := by decide) :
    u.get ⟨channelWord n k, lo, width⟩ = s.get ⟨channelWord n k, lo, width⟩ := by
  rw [State.get, State.get, h.val k hk]

theorem bit (h : s.ChanStep u n fs ws b) (k lo width : Nat) (hk : k ∉ ws := by decide) :
    u.bit ⟨channelWord n k, lo, width⟩ = s.bit ⟨channelWord n k, lo, width⟩ := by
  rw [State.bit, State.bit, h.get k lo width hk]

theorem flag (h : s.ChanStep u n fs ws b) (k : Nat) (hk : k ∉ fs := by decide) :
    u.bit (channelFlag n k) = s.bit (channelFlag n k) := h.flags k hk

/-- A word outside bank VC. -/
theorem valOutside (h : s.ChanStep u n fs ws b) (hn : n < 8) {a : Nat} (ha : a / 256 ≠ 5)
    (hw : ∀ k ∈ ws, k < 16 := by decide) : u.val a = s.val a :=
  congrArg BitVec.toNat (h.words a fun k hk he => ha (by rw [he, channelWord_bank hn (hw k hk)]))

theorem wordsKept (h : s.ChanStep u n fs ws b) : s.wordsKept u (ws.map (channelWord n)) :=
  fun a ha => h.words a fun _ hk he => ha (List.mem_map.2 ⟨_, hk, he.symm⟩)

theorem prevEdge (h : s.ChanStep u n fs ws true) : (u.chan n).prevEdge = (s.chan n).prevEdge :=
  congrArg Prod.fst (h.line rfl)

theorem conv (h : s.ChanStep u n fs ws true) : (u.chan n).conv = (s.chan n).conv :=
  congrArg (·.2.1) (h.line rfl)

theorem stopping (h : s.ChanStep u n fs ws true) : (u.chan n).stopping = (s.chan n).stopping :=
  congrArg (·.2.2) (h.line rfl)

/-! The updates it is built from. -/

/-- Another state of the channel; one that leaves its line, unless the step may change it. -/
theorem setChan (h : s.ChanStep t n fs ws b) (c : Channel)
    (hc : b = true → c.line = (t.chan n).line := by exact fun _ => rfl) : s.ChanStep (t.setChan n c) n fs ws b := by
  refine h.trans ⟨fun _ _ => rfl, fun _ _ => rfl, fun m hm => t.chan_setChan_ne hm c, fun hb => ?_,
    List.Subset.refl _, rfl⟩
  by_cases hn : n < 8
  · rw [t.chan_setChan_self hn, hc hb]
  · rw [t.setChan_beyond hn]

theorem setVal (h : s.ChanStep t n fs ws b) (k v : Nat) (hk : k ∈ ws ∧ k ≠ 1 := by decide) :
    s.ChanStep (t.setVal (channelWord n k) v) n fs ws b := by
  refine h.trans ⟨fun a ha => t.rd_setVal_ne (ha k hk.1) v, fun j _ => ?_, fun _ _ => rfl, fun _ => rfl,
    List.Subset.refl _, rfl⟩
  have hval : (t.setVal (channelWord n k) v).val (channelFlag n j).addr = t.val (channelFlag n j).addr :=
    t.val_setVal_ne (channelWord_ne hk.2.symm) v
  rw [State.bit, State.bit, State.get, State.get, hval]

theorem countSat (h : s.ChanStep t n fs ws b) (k i : Nat) (hk : k ∈ ws ∧ k ≠ 1 := by decide) :
    s.ChanStep (t.countSat (wordFld (channelWord n k)) i) n fs ws b := h.setVal k _ hk

theorem count (h : s.ChanStep t n fs ws b) (k i : Nat) (hk : k ∈ ws ∧ k ≠ 1 := by decide) :
    s.ChanStep (t.count (wordFld (channelWord n k)) i) n fs ws b := h.setVal k _ hk

/-- A number in two words (R16). -/
theorem setPair (h : s.ChanStep t n fs ws b) (k v : Nat) (hk : k ∈ ws ∧ k ≠ 1 := by decide)
    (hlow : k + 1 ∈ ws ∧ k + 1 ≠ 1 := by decide) : s.ChanStep (t.setMulti (channelWord n k) v 2) n fs ws b :=
  (h.setVal k (v / 2 ^ 32) hk).setVal (k + 1) v hlow

theorem setBit (h : s.ChanStep t n fs ws b) (k : Nat) (c : Bool) (hk : k ∈ fs ∧ k < 32 := by decide)
    (hw : 1 ∈ ws := by decide) : s.ChanStep (t.setBit (channelFlag n k) c) n fs ws b := by
  refine h.trans ⟨fun a ha => t.rd_put_ne (ha 1 hw) _, fun j hj => ?_, fun _ _ => rfl, fun _ => rfl,
    List.Subset.refl _, rfl⟩
  exact t.flag_setBit_ne n k c (fun he => hj (he ▸ hk.1)) hk.2

theorem raise (h : s.ChanStep t n fs ws b) (e : EventId) : s.ChanStep (t.raise e) n fs ws b :=
  h.trans ⟨fun _ _ => rfl, fun _ _ => rfl, fun _ _ => rfl, fun _ => rfl, List.subset_append_left _ _, rfl⟩

theorem raiseIf (h : s.ChanStep t n fs ws b) (c : Bool) (e : EventId) : s.ChanStep (t.raiseIf c e) n fs ws b := by
  cases c
  · exact h
  · exact h.raise e

/-! ### The queue of a channel (R97 to R103) -/

theorem vqLevel (h : s.ChanStep t n fs ws b) : s.ChanStep (t.vqLevel n) n fs ws b := (h.setChan _).raiseIf _ _

theorem vqStore (h : s.ChanStep t n fs ws b) (e : BitVec 64) (hk : 9 ∈ fs ∧ 9 < 32 := by decide)
    (hw : 1 ∈ ws := by decide) : s.ChanStep (t.vqStore n e) n fs ws b := by
  unfold State.vqStore
  dsimp only
  split
  · exact (h.setChan _).vqLevel
  · split
    · split
      · exact h.setChan _
      · exact ((h.setChan _).vqLevel.setBit 9 true hk hw).raise _
    · exact h

theorem vqPush (h : s.ChanStep t n fs ws b) (e : BitVec 64) (hk : 9 ∈ fs ∧ 9 < 32 := by decide)
    (hw : 1 ∈ ws := by decide) : s.ChanStep (t.vqPush n e) n fs ws b := by
  unfold State.vqPush
  dsimp only
  split
  · refine vqStore ?_ e hk hw
    exact State.each_keeps (P := fun u => s.ChanStep u n fs ws b) (fun r _ u hu => hu.vqStore r.entry hk hw)
      (h.setChan _)
  · exact h.vqStore e hk hw

theorem mark (h : s.ChanStep t n fs ws b) (tag : Nat) (hk : 9 ∈ fs ∧ 9 < 32 := by decide)
    (hw : 1 ∈ ws := by decide) : s.ChanStep (t.mark n tag) n fs ws b := by
  unfold State.mark State.vqMarker
  dsimp only
  split
  · split
    · exact h.vqPush _ hk hw
    · exact h
  · exact h.setChan _

/-- An edge that the rate limit withholds (R100). -/
theorem withhold (h : s.ChanStep t n fs ws b) (tick : Nat) (hk : 7 ∈ ws ∧ 7 ≠ 1 := by decide) :
    s.ChanStep (t.withhold n tick) n fs ws b := by
  have hcount := h.countSat 7 1 hk
  unfold State.withhold
  dsimp only
  split
  · exact hcount.setChan _
  · exact hcount.setChan _

theorem offerEdge (h : s.ChanStep t n fs ws b) (e : BitVec 64) (hk : 9 ∈ fs ∧ 9 < 32 := by decide)
    (hw : 1 ∈ ws ∧ 7 ∈ ws := by decide) : s.ChanStep (t.offerEdge n e) n fs ws b := by
  unfold State.offerEdge
  dsimp only
  split
  · exact h
  · split
    · exact h.withhold _ ⟨hw.2, by decide⟩
    · exact (h.setChan _).vqPush e hk hw.1

end State.ChanStep

/-! ### What an entry finds -/

theorem State.vqLevel_eq (s : State) (n : Nat) :
    s.vqLevel n = { s with raised := (s.vqLevel n).raised, vc := (s.vqLevel n).vc } := by
  unfold State.vqLevel State.raiseIf
  dsimp only
  split <;> rfl

theorem State.vqLevel_words (s : State) (n : Nat) : s.wordsKept (s.vqLevel n) [] :=
  State.wordsKept_of_regs (by rw [State.vqLevel_eq]) []

/-- The store of a queue with room takes the entry (R101). -/
theorem State.vqStore_room {s : State} {n : Nat} (hroom : (s.chan n).queue.length ≤ 4094) (e : BitVec 64) :
    s.vqStore n e = (s.setChan n { s.chan n with queue := (s.chan n).queue ++ [e] }).vqLevel n := by
  rw [State.vqStore, if_pos hroom]

/-- A channel whose RANGE entries have all been written: the runs that go on keep their records (R99, R100). -/
def Channel.reported (c : Channel) : Channel :=
  { c with ranges := (c.ranges.filter (·.running)).map (fun r => { r with edges := 0 }) }

/-- With no RANGE entry to come and room in the queue, an entry goes behind every other (R97, R101). -/
theorem State.vqPush_room {s : State} {n : Nat} (hn : n < 8) (hroom : (s.chan n).queue.length ≤ 4094)
    (hranges : (s.chan n).ranges.any (fun r => decide (0 < r.edges)) = false) (e : BitVec 64) :
    ((s.vqPush n e).chan n).queue = (s.chan n).queue ++ [e] ∧ s.wordsKept (s.vqPush n e) [] := by
  have hdue : (s.chan n).ranges.filter (fun r => decide (0 < r.edges)) = [] := by
    simpa [List.filter_eq_nil_iff] using hranges
  have hpush : s.vqPush n e = (s.setChan n (s.chan n).reported).vqStore n e := by
    rw [State.vqPush, if_pos hroom, hdue]
    rfl
  have hself := s.chan_setChan_self hn (s.chan n).reported
  rw [hpush, State.vqStore_room (by rw [hself]; exact hroom), hself]
  refine ⟨?_, State.vqLevel_words _ n⟩
  rw [State.vqLevel_queue _ hn, State.chan_setChan_self _ hn]
  rfl

end Sys2Proof.Machine
end

section
/-! SUPPORT. An edge at a channel: lost or taken (R92 to R94, R99, R112). -/

-- As in the tests: elaborated in parallel, these proofs' thread stacks would exceed the check's memory limit.
set_option Elab.async false

namespace Sys2Proof.Machine

/-! ### Counters of a whole word -/

theorem State.get_wordFld (s : State) (a : Nat) : s.get (wordFld a) = s.val a := by
  simp only [State.get, wordFld, bitsAt, pow_zero, Nat.div_one]
  exact Nat.mod_eq_of_lt (s.val_lt a)

theorem State.val_count_word (s : State) (a k : Nat) :
    (s.count (wordFld a) k).val a = (s.val a + k) % 2 ^ 32 := by
  rw [← State.get_wordFld, State.get_count_self _ _ _ (le_refl 32), State.get_wordFld]
  rfl

theorem State.val_countSat_word (s : State) (a k : Nat) :
    (s.countSat (wordFld a) k).val a = min (2 ^ 32 - 1) (s.val a + k) := by
  rw [← State.get_wordFld, State.countSat, State.get_put_self _ _ _ (le_refl 32), State.get_wordFld]
  exact Nat.mod_eq_of_lt (lt_of_le_of_lt (min_le_left _ _) (by decide : 2 ^ 32 - 1 < 2 ^ 32))

/-! ### A lost edge (R94, R99) -/

section lost
variable (s : State) (n cause : Nat)

/-- A loss of a cause whose run goes on. -/
def Channel.loses (c : Channel) (cause : Nat) : Bool := c.ranges.any (fun r => r.running && r.cause == cause)

/-- Behind the count of LOST, only RANGE_SEEN is written. -/
theorem State.loseEdge_counted :
    (s.countSat (wordFld (A.VC_Vn_LOST n)) 1).ChanStep (s.loseEdge n cause) n [8] [1] true := by
  have h := State.ChanStep.refl (s.countSat (wordFld (A.VC_Vn_LOST n)) 1) n [8] [1] true
  unfold State.loseEdge
  dsimp only
  split
  · exact h.setChan _
  · exact ((h.setChan _).setBit 8 true).raise _

theorem State.loseEdge_step : s.ChanStep (s.loseEdge n cause) n [8] [1, 6] true :=
  ((State.ChanStep.refl s n _ _ true).countSat 6 1).next (s.loseEdge_counted n cause)

theorem State.loseEdge_lost :
    (s.loseEdge n cause).val (A.VC_Vn_LOST n) = min (2 ^ 32 - 1) (s.val (A.VC_Vn_LOST n) + 1) :=
  ((s.loseEdge_counted n cause).val 6).trans (s.val_countSat_word _ 1)

/-- The first loss of a run is reported (R99). -/
theorem State.loseEdge_first (h : (s.chan n).loses cause = false) :
    (s.loseEdge n cause).bit (F.VC_Vn_STAT_RANGE_SEEN n) = true ∧ Ev.VC_RANGE ∈ (s.loseEdge n cause).raised := by
  have hany : ((s.countSat (wordFld (A.VC_Vn_LOST n)) 1).chan n).ranges.any
      (fun r => r.running && r.cause == cause) = false := h
  rw [State.loseEdge, hany, if_neg (by decide), State.bit_raise, State.raised_raise]
  exact ⟨State.flag_setBit_self _ n 8 true, List.mem_append_right _ (List.mem_singleton_self _)⟩

end lost

/-! ### A taken edge (R89, R92, R93) -/

/-- What is fixed of a conversion as its edge is taken in bin `k` (R89, R91). -/
def State.conversionOf (s : State) (n k : Nat) (falling coarse : Bool) : Conversion :=
  { tally := s.tally, falling := falling, coarse := coarse
    suspect := !s.bit F.TB_STAT_PLL_LOCK || !s.bit (F.VC_Vn_STAT_TABLE_VALID n)
    edgeEnd := s.binEdge n (k + 1), width := s.binWidth n k, sq := s.val (A.VCAL_Vn_SQ n)
    delays := s.pathDelay n + s.ival (A.VC_Vn_DELAY_OFS n)
    prescaled := s.get (F.VC_Vn_CTL_PRESC n) != 0 }

theorem State.takeEdge_spec (s : State) {n : Nat} (hn : n < 8) (k : Nat) (i : Int) (falling coarse : Bool) :
    ∀ u, u = s.takeEdge n k i falling coarse →
      (u.chan n).conv = (s.chan n).conv ++ [s.conversionOf n k falling coarse] ∧ (u.chan n).prevEdge = some i ∧
        u = { s with vc := u.vc } := by
  rintro u rfl
  have hruns : ((s.endRuns n).chan n).conv = (s.chan n).conv := by rw [State.endRuns, State.chan_setChan_self _ hn]
  rw [State.takeEdge, State.chan_setChan_self _ hn, hruns]
  exact ⟨rfl, rfl, rfl⟩

/-- A conversion is fixed by the Tally, the lock and the channel's words: a step that writes LEVEL at most leaves it. -/
theorem State.ChanStep.conversionOf {s u : State} {n : Nat} {b : Bool} (h : s.ChanStep u n [2] [1] b) (hn : n < 8)
    (k : Nat) (falling coarse : Bool) : u.conversionOf n k falling coarse = s.conversionOf n k falling coarse := by
  have hlock : u.bit F.TB_STAT_PLL_LOCK = s.bit F.TB_STAT_PLL_LOCK := by
    rw [State.bit, State.bit, State.get, State.get, h.valOutside hn (by decide)]
  have hwidth : ∀ j, u.binWidth n j = s.binWidth n j := by
    intro j
    have hw : A.VCAL_Vn_W n (j / 2) / 256 ≠ 5 := by
      unfold A.VCAL_Vn_W; omega
    rw [State.binWidth, State.binWidth, h.valOutside hn hw]
  have hedge : u.binEdge n (k + 1) = s.binEdge n (k + 1) := by
    rw [State.binEdge, State.binEdge, funext hwidth]
  have hsq : u.val (A.VCAL_Vn_SQ n) = s.val (A.VCAL_Vn_SQ n) :=
    h.valOutside hn (by unfold A.VCAL_Vn_SQ; omega)
  have hvalid : u.bit (F.VC_Vn_STAT_TABLE_VALID n) = s.bit (F.VC_Vn_STAT_TABLE_VALID n) := h.flag 4
  have hsrc : u.bit (F.VC_Vn_CTL_SRC n) = s.bit (F.VC_Vn_CTL_SRC n) := h.bit 0 15 1
  have hout : u.get (F.VC_Vn_CTL_LOOP_OUT n) = s.get (F.VC_Vn_CTL_LOOP_OUT n) := h.get 0 16 4
  have hpresc : u.get (F.VC_Vn_CTL_PRESC n) = s.get (F.VC_Vn_CTL_PRESC n) := h.get 0 4 4
  have hofs : u.val (A.VC_Vn_DELAY_OFS n) = s.val (A.VC_Vn_DELAY_OFS n) := h.val 2
  have htally : u.tally = s.tally := by rw [h.frame]
  simp only [State.conversionOf, State.pathDelay, State.ival, hlock, hwidth, hedge, hsq, hvalid, hsrc, hout, hpresc,
    hofs, htally]

/-! ### REF_EDGE (R92 to R94, R99, R112) -/

/-- The conditioner shows an edge: LEVEL, and what REFM keeps of it. -/
def State.edgeSeen (s : State) (n : Nat) (falling : Bool) : State :=
  (s.setBit (F.VC_Vn_STAT_LEVEL n) !falling).levelChanged n

/-- The instant of an edge at subtick `sub` of the present tick. -/
def State.edgeInstant (s : State) (sub : Nat) : Int := s.nowSub + (sub % 65536 : Nat)

/-- Whether an edge at `i` follows the channel's previous edge by less than `gap`. -/
def Channel.within (c : Channel) (i gap : Int) : Bool := c.prevEdge.any (fun e => decide (i - e < gap))

theorem Channel.within_iff (c : Channel) (i gap : Int) :
    c.within i gap = true ↔ ∃ e, c.prevEdge = some e ∧ i - e < gap := by
  simp [Channel.within, Option.any_eq_true]

section seen
variable (s : State) (n : Nat) (falling : Bool)

theorem State.level_step : s.ChanStep (s.setBit (F.VC_Vn_STAT_LEVEL n) !falling) n [2] [1] true :=
  (State.ChanStep.refl s n [2] [1] true).setBit 2 _

theorem State.edgeSeen_words : s.wordsKept (s.edgeSeen n falling) [A.VC_Vn_STAT n] := (s.level_step n falling).wordsKept

theorem State.edgeSeen_chan (m : Nat) : (s.edgeSeen n falling).chan m = s.chan m := rfl

theorem State.edgeSeen_level : (s.edgeSeen n falling).bit (F.VC_Vn_STAT_LEVEL n) = !falling :=
  State.flag_setBit_self s n 2 _

theorem State.edgeSeen_conversion (hn : n < 8) (k : Nat) (coarse : Bool) :
    (s.edgeSeen n falling).conversionOf n k falling coarse = s.conversionOf n k falling coarse :=
  (s.level_step n falling).conversionOf hn k falling coarse

theorem State.edgeSeen_takes (hn : n < 8) : (s.edgeSeen n falling).takesEdges n = s.takesEdges n := by
  have hrun : (s.edgeSeen n falling).tallyRun = s.tallyRun :=
    (s.edgeSeen_words n falling).bit (by simp [F.TB_STAT_TALLY_RUN, A.TB_STAT, A.VC_Vn_STAT]; omega)
  have hactive : (s.edgeSeen n falling).bit (F.VC_Vn_STAT_ACTIVE n) = s.bit (F.VC_Vn_STAT_ACTIVE n) :=
    (s.level_step n falling).flag 0
  rw [State.takesEdges, State.takesEdges, hrun, hactive]
  rfl

theorem State.edgeSeen_passes : (s.edgeSeen n falling).passes n falling = s.passes n falling := by
  have hedge : (s.edgeSeen n falling).get (F.VC_Vn_CTL_EDGE n) = s.get (F.VC_Vn_CTL_EDGE n) :=
    (s.level_step n falling).get 0 2 2
  rw [State.passes, State.passes, hedge]

end seen

section refEdge
variable {s : State} {n : Nat} (hup : s.up .time = true) (hn : n < 8) {falling : Bool}
  (htakes : s.takesEdges n = true) (hpasses : s.passes n falling = true)
include hup hn htakes hpasses

/-- An edge that reaches the coarse line is judged by its pulse, the channel's settings and the dead time. -/
theorem State.refEdge_eq (sub k : Nat) (short : Bool) : s.refEdge n sub k falling short =
    if short then (s.edgeSeen n falling).loseEdge n abovePrescaler
    else if (s.chan n).changing || (s.chan n).within (s.edgeInstant sub) coarseDead then
      (s.edgeSeen n falling).loseEdge n tooFast
    else (s.edgeSeen n falling).takeEdge n (k % 32) (s.edgeInstant sub) falling
      ((s.chan n).within (s.edgeInstant sub) fullDead) := by
  have hreach : ((s.edgeSeen n falling).takesEdges n && (s.edgeSeen n falling).passes n falling) = true := by
    rw [State.edgeSeen_takes s n falling hn, State.edgeSeen_passes, htakes, hpasses]; rfl
  have hchan := s.edgeSeen_chan n falling n
  rw [State.edgeSeen] at hreach hchan
  simp only [State.refEdge, State.edgeInstant, State.edgeSeen, Channel.within, hn, hup, and_self, if_true, hreach,
    hchan]
  cases short with
  | true => rfl
  | false =>
    cases hc : (s.chan n).changing with
    | true => simp
    | false =>
      obtain hp | ⟨e, hp⟩ := (s.chan n).prevEdge.eq_none_or_eq_some
      · simp [hp, subticks]
      · by_cases hgap : s.nowSub + ((sub % 65536 : Nat) : Int) - e < coarseDead
        · simp only [hp, subticks, Option.any_some, hgap, if_true, decide_true, Bool.or_true, Bool.false_eq_true,
            if_false]
        · simp only [hp, subticks, Option.any_some, hgap, if_false, decide_false, Bool.or_false, Bool.false_eq_true]
          rfl

/-- An edge of a pulse or rate beyond the prescaler is lost (R99). -/
theorem State.refEdge_short (sub k : Nat) :
    s.refEdge n sub k falling true = (s.edgeSeen n falling).loseEdge n abovePrescaler := by
  rw [State.refEdge_eq hup hn htakes hpasses, if_pos rfl]

/-- An edge during a change of settings, or too close to the last one, is lost (R94, R112). -/
theorem State.refEdge_tooFast {sub : Nat}
    (h : (s.chan n).changing = true ∨ (s.chan n).within (s.edgeInstant sub) coarseDead = true) (k : Nat) :
    s.refEdge n sub k falling false = (s.edgeSeen n falling).loseEdge n tooFast := by
  rw [State.refEdge_eq hup hn htakes hpasses, if_neg (by decide), if_pos (by rwa [Bool.or_eq_true])]

/-- Any other edge is taken (R92, R93). -/
theorem State.refEdge_taken {sub : Nat} (hsettled : (s.chan n).changing = false)
    (hfar : (s.chan n).within (s.edgeInstant sub) coarseDead = false) (k : Nat) :
    s.refEdge n sub k falling false = (s.edgeSeen n falling).takeEdge n (k % 32) (s.edgeInstant sub) falling
      ((s.chan n).within (s.edgeInstant sub) fullDead) := by
  rw [State.refEdge_eq hup hn htakes hpasses, if_neg (by decide), hsettled, hfar, if_neg (by decide)]

end refEdge

end Sys2Proof.Machine
end

section
/-! Edges become stamps (O39). -/

-- As in the tests: elaborated in parallel, these proofs' thread stacks would exceed the check's memory limit.
set_option Elab.async false

namespace Sys2Proof.Machine

/-! ### What an edge leaves (R92 to R94, R99) -/

section edge
variable {s u : State} {n : Nat} {falling : Bool}

/-- A lost edge. -/
theorem State.edgeLost_spec {cause : Nat} (hu : u = (s.edgeSeen n falling).loseEdge n cause) :
    u.bit (F.VC_Vn_STAT_LEVEL n) = !falling ∧ (u.chan n).conv = (s.chan n).conv ∧
      (u.chan n).prevEdge = (s.chan n).prevEdge ∧
      u.val (A.VC_Vn_LOST n) = min (2 ^ 32 - 1) (s.val (A.VC_Vn_LOST n) + 1) ∧
      s.wordsKept u [A.VC_Vn_STAT n, A.VC_Vn_LOST n] ∧
      ((s.chan n).loses cause = false → u.bit (F.VC_Vn_STAT_RANGE_SEEN n) = true ∧ Ev.VC_RANGE ∈ u.raised) ∧
      u = { s with regs := u.regs, raised := u.raised, vc := u.vc, refm := u.refm } := by
  subst hu
  have hstep := (s.edgeSeen n falling).loseEdge_step n cause
  have hlost : (s.edgeSeen n falling).val (A.VC_Vn_LOST n) = s.val (A.VC_Vn_LOST n) := (s.level_step n falling).val 6
  refine ⟨(hstep.flag 2).trans (s.edgeSeen_level n falling), hstep.conv, hstep.prevEdge, ?_,
    ((s.edgeSeen_words n falling).mono (by simp)).trans hstep.wordsKept, fun hrun => ?_, ?_⟩
  · rw [State.loseEdge_lost, hlost]
  · exact State.loseEdge_first _ n cause (by rwa [State.edgeSeen_chan])
  · rw [hstep.frame]; rfl

/-- A taken edge. -/
theorem State.edgeTaken_spec (hn : n < 8) {k : Nat} {i : Int} {coarse : Bool}
    (hu : u = (s.edgeSeen n falling).takeEdge n k i falling coarse) :
    u.bit (F.VC_Vn_STAT_LEVEL n) = !falling ∧
      (u.chan n).conv = (s.chan n).conv ++ [s.conversionOf n k falling coarse] ∧ (u.chan n).prevEdge = some i ∧
      s.wordsKept u [A.VC_Vn_STAT n] ∧
      u = { s with regs := u.regs, raised := u.raised, vc := u.vc, refm := u.refm } := by
  obtain ⟨hconv, hprev, hframe⟩ := State.takeEdge_spec (s.edgeSeen n falling) hn k i falling coarse u hu
  have hregs : u.regs = (s.edgeSeen n falling).regs := by rw [hframe]
  rw [State.edgeSeen_conversion s n falling hn] at hconv
  refine ⟨?_, hconv, hprev, (s.edgeSeen_words n falling).trans (State.wordsKept_of_regs hregs _), ?_⟩
  · rw [← s.edgeSeen_level n falling, State.bit, State.bit, State.get, State.get, State.val, State.val,
      State.rd_of_regs hregs]
  · rw [hframe]; rfl

end edge

/-! ### What a stamp leaves (R89, R96, R104, R105) -/

section stamp
variable (s : State) (n : Nat) (v : Conversion) (st : Stamp) (overrun : Bool)

/-- A stamp is counted and shown, and the channel is not idle. -/
def State.stampShown : State :=
  ((s.count (wordFld (A.VC_Vn_EDGES n)) 1).setMulti (A.VC_Vn_LAST_HI n) (stampEntry st v.prescaled).toNat 2).setBit
    (F.VC_Vn_STAT_IDLE n) false

/-- A coarse stamp sets LATE_SEEN. -/
def State.stampLate : State :=
  if st.late then (s.stampShown n v st).setBit (F.VC_Vn_STAT_LATE_SEEN n) true else s.stampShown n v st

/-- A vernier that met no coincidence is reported. -/
def State.stampNoted : State :=
  if overrun then ((s.stampLate n v st).setBit (F.VC_Vn_STAT_VERN_OVR_SEEN n) true).raise Ev.VC_VERN_OVR
  else s.stampLate n v st

theorem State.stamped_eq : s.stamped n v st overrun =
    (s.stampNoted n v st overrun).offerEdge n (stampEntry st v.prescaled) := rfl

theorem State.stampShown_step : s.ChanStep (s.stampShown n v st) n [3] [1, 5, 9, 10] true :=
  (((State.ChanStep.refl s n _ _ true).count 5 1).setPair 9 _).setBit 3 false

theorem State.stampLate_step : (s.stampShown n v st).ChanStep (s.stampLate n v st) n [12] [1] true := by
  unfold State.stampLate
  split
  · exact (State.ChanStep.refl _ n _ _ true).setBit 12 true
  · exact State.ChanStep.refl _ n _ _ true

theorem State.stampNoted_step : (s.stampLate n v st).ChanStep (s.stampNoted n v st overrun) n [10] [1] true := by
  unfold State.stampNoted
  split
  · exact ((State.ChanStep.refl _ n _ _ true).setBit 10 true).raise _
  · exact State.ChanStep.refl _ n _ _ true

theorem State.stamped_offered : (s.stampNoted n v st overrun).ChanStep (s.stamped n v st overrun) n [9] [1, 7] true :=
  (State.ChanStep.refl (s.stampNoted n v st overrun) n [9] [1, 7] true).offerEdge _

theorem State.stamped_late : (s.stampLate n v st).ChanStep (s.stamped n v st overrun) n [9, 10] [1, 7] true :=
  ((State.ChanStep.refl _ n _ _ true).next (s.stampNoted_step n v st overrun)).next (s.stamped_offered n v st overrun)

theorem State.stamped_shown : (s.stampShown n v st).ChanStep (s.stamped n v st overrun) n [9, 10, 12] [1, 7] true :=
  ((State.ChanStep.refl _ n _ _ true).next (s.stampLate_step n v st)).next (s.stamped_late n v st overrun)

theorem State.stamped_step : s.ChanStep (s.stamped n v st overrun) n [3, 9, 10, 12] [1, 5, 7, 9, 10] true :=
  ((State.ChanStep.refl _ n _ _ true).next (s.stampShown_step n v st)).next (s.stamped_shown n v st overrun)

/-! The words of a stamp. -/

theorem State.stamped_edges :
    (s.stamped n v st overrun).val (A.VC_Vn_EDGES n) = (s.val (A.VC_Vn_EDGES n) + 1) % 2 ^ 32 := by
  have hshown : (s.count (wordFld (A.VC_Vn_EDGES n)) 1).ChanStep (s.stampShown n v st) n [3] [1, 9, 10] true :=
    ((State.ChanStep.refl _ n _ _ true).setPair 9 _).setBit 3 false
  have hcount : (s.stampShown n v st).val (A.VC_Vn_EDGES n) =
      (s.count (wordFld (A.VC_Vn_EDGES n)) 1).val (A.VC_Vn_EDGES n) := hshown.val 5
  have hlast : (s.stamped n v st overrun).val (A.VC_Vn_EDGES n) = (s.stampShown n v st).val (A.VC_Vn_EDGES n) :=
    (s.stamped_shown n v st overrun).val 5
  rw [hlast, hcount, State.val_count_word]

/-- A pair of words that a step does not list reads as before. -/
theorem State.ChanStep.pair {s u : State} {n : Nat} {fs ws : List Nat} {b : Bool} (h : s.ChanStep u n fs ws b) (k : Nat)
    (hk : k ∉ ws ∧ k + 1 ∉ ws := by decide) : u.multi (channelWord n k) 2 = s.multi (channelWord n k) 2 :=
  State.multi_congr _ fun i hi => by
    obtain rfl | rfl : i = 0 ∨ i = 1 := by omega
    · exact h.val k hk.1
    · exact h.val (k + 1) hk.2

theorem State.stamped_last :
    (s.stamped n v st overrun).multi (A.VC_Vn_LAST_HI n) 2 = (stampEntry st v.prescaled).toNat := by
  have hlast : (s.stamped n v st overrun).multi (A.VC_Vn_LAST_HI n) 2 =
      (s.stampShown n v st).multi (A.VC_Vn_LAST_HI n) 2 := (s.stamped_shown n v st overrun).pair 9
  have hset : (s.stampShown n v st).multi (A.VC_Vn_LAST_HI n) 2 = ((s.count (wordFld (A.VC_Vn_EDGES n)) 1).setMulti
      (A.VC_Vn_LAST_HI n) (stampEntry st v.prescaled).toNat 2).multi (A.VC_Vn_LAST_HI n) 2 :=
    State.ChanStep.pair (fs := [3]) (ws := [1]) (b := true) ((State.ChanStep.refl _ n _ _ true).setBit 3 false) 9
  rw [hlast, hset, State.multi_setMulti_self]
  exact Nat.mod_eq_of_lt (stampEntry st v.prescaled).isLt

theorem State.stamped_idle : (s.stamped n v st overrun).bit (F.VC_Vn_STAT_IDLE n) = false :=
  ((s.stamped_shown n v st overrun).flag 3).trans (State.flag_setBit_self _ n 3 false)

theorem State.stamped_lateSeen (h : st.late = true) :
    (s.stamped n v st overrun).bit (F.VC_Vn_STAT_LATE_SEEN n) = true := by
  refine ((s.stamped_late n v st overrun).flag 12).trans ?_
  rw [State.stampLate, if_pos h]
  exact State.flag_setBit_self _ n 12 true

theorem State.stamped_reports (h : overrun = true) : Ev.VC_VERN_OVR ∈ (s.stamped n v st overrun).raised := by
  refine (s.stamped_offered n v st overrun).raised ?_
  rw [State.stampNoted, if_pos h]
  exact List.mem_append_right _ (List.mem_singleton_self _)

@[simp] theorem State.setMulti_vc (s : State) (a m k : Nat) : (s.setMulti a m k).vc = s.vc := by
  induction k generalizing m with
  | zero => rfl
  | succ k ih => rw [State.setMulti, State.setVal_vc, ih]

theorem State.stampNoted_vc : (s.stampNoted n v st overrun).vc = s.vc := by
  have hshown : (s.stampShown n v st).vc = s.vc := by
    rw [State.stampShown, State.setBit_vc, State.setMulti_vc, State.count_vc]
  have hlate : (s.stampLate n v st).vc = s.vc := by
    unfold State.stampLate
    split
    · rw [State.setBit_vc, hshown]
    · exact hshown
  unfold State.stampNoted
  split
  · rw [State.raise_vc, State.setBit_vc, hlate]
  · exact hlate

/-- With QEN = 0 no stamp reaches the queue (R97). -/
theorem State.stamped_unqueued (h : s.bit (F.VC_Vn_CTL_QEN n) = false) :
    (s.stamped n v st overrun).chan n = s.chan n := by
  have hqen : (s.stampNoted n v st overrun).bit (F.VC_Vn_CTL_QEN n) = s.bit (F.VC_Vn_CTL_QEN n) :=
    ((((State.ChanStep.refl _ n [3, 10, 12] [1, 5, 9, 10] true).next (s.stampShown_step n v st)).next
      (s.stampLate_step n v st)).next (s.stampNoted_step n v st overrun)).bit 0 1 1
  rw [State.stamped_eq, State.offerEdge, if_pos (hqen.trans h), State.chan, State.chan, State.stampNoted_vc]

end stamp

/-! ### The commands -/

theorem exec_refEdge (s : State) (n sub k : Nat) (falling short : Bool) :
    exec (.refEdge n sub k falling short) s = .next (s.after (s.refEdge n sub k falling short)) := rfl

theorem exec_stampCompose {s : State} (hup : s.up .time = true) {n : Nat} (hn : n < 8) (cnt : Nat) (met : Bool) :
    exec (.stampCompose n cnt met) s = .next (s.after (s.composeStamp n cnt met)) :=
  happen_inside hup (decide_eq_true hn) (fun s => s.composeStamp n cnt met)

theorem State.composeStamp_none {s : State} {n : Nat} (h : (s.chan n).conv = []) (cnt : Nat) (met : Bool) :
    s.composeStamp n cnt met = s := by
  simp only [State.composeStamp, State.endConversion, h]

/-- The channel without its oldest conversion. -/
def State.convEnded (s : State) (n : Nat) : State := s.setChan n { s.chan n with conv := (s.chan n).conv.tail }

theorem State.convEnded_chan (s : State) {n : Nat} (hn : n < 8) :
    (s.convEnded n).chan n = { s.chan n with conv := (s.chan n).conv.tail } := State.chan_setChan_self s hn _

/-- The oldest conversion ends: its stamp goes to the channel's words, the queue and the tap; what waited follows. -/
theorem State.composeStamp_ends {s : State} {n : Nat} {v : Conversion} (h : (s.chan n).conv.head? = some v) (cnt : Nat)
    (met : Bool) : s.composeStamp n cnt met =
      (((s.convEnded n).stamped n v (v.stamp cnt met) (!met && !v.coarse)).tap n (v.stamp cnt met)).flushLater n := by
  obtain ⟨rest, hconv⟩ := List.head?_eq_some_iff.1 h
  simp only [State.composeStamp, State.endConversion, State.convEnded, hconv, List.tail_cons]

/-- The late flag as the dead time gives it (R92, R93). -/
theorem Channel.within_fullDead (c : Channel) (i : Int) : c.within i fullDead = (match c.prevEdge with
    | none => false
    | some e => decide (i - e < 524288)) := by
  unfold Channel.within
  split
  · next h => rw [h]; rfl
  · next h => rw [h]; rfl

/-- Settles O39: an edge is judged by its pulse, the settings and the dead time, and a conversion ends in its stamp. -/
theorem edgesBecomeStamps : Obligations.EdgesBecomeStamps := by
  intro s n hup hn
  refine ⟨fun sub k falling short htakes hpasses u hu => ?_, fun cnt met hnone => ?_,
    fun cnt met v hv st hst u hu => ?_⟩
  · rw [exec_refEdge, ← hu]
    cases short with
    | true =>
      rw [State.refEdge_short hup hn htakes hpasses] at hu
      obtain ⟨hlevel, hconv, hprev, hlost, hwords, hfirst, hframe⟩ := State.edgeLost_spec hu
      exact ⟨rfl, hlevel, fun _ _ _ h => absurd h (by decide), fun _ => ⟨hconv, hprev, hlost, hwords⟩, fun _ => hfirst,
        fun h => absurd h (by decide), hframe⟩
    | false =>
      cases hloses : (s.chan n).changing || (s.chan n).within (s.edgeInstant sub) coarseDead with
      | true =>
        have hclose := Bool.or_eq_true_iff.1 hloses
        rw [State.refEdge_tooFast hup hn htakes hpasses hclose] at hu
        obtain ⟨hlevel, hconv, hprev, hlost, -, hfirst, hframe⟩ := State.edgeLost_spec hu
        refine ⟨rfl, hlevel, fun _ _ hsettled _ hfar => ?_, fun h => absurd h (by decide),
          fun h => absurd h (by decide), fun _ _ => ⟨hconv, hprev, hlost, hfirst⟩, hframe⟩
        obtain ⟨e, he, hgap⟩ := (Channel.within_iff _ _ _).1 (hclose.resolve_left (by simp [hsettled]))
        exact absurd (hfar e he) (not_le.2 hgap)
      | false =>
        obtain ⟨hsettled, hfar⟩ := Bool.or_eq_false_iff.1 hloses
        rw [State.refEdge_taken hup hn htakes hpasses hsettled hfar] at hu
        obtain ⟨hlevel, hconv, hprev, hwords, hframe⟩ := State.edgeTaken_spec hn hu
        refine ⟨rfl, hlevel, fun late hlate _ _ _ => ?_, fun h => absurd h (by decide),
          fun h => absurd h (by decide), fun _ h => ?_, hframe⟩
        · rw [Channel.within_fullDead] at hconv
          rw [hlate, hconv, List.length_append, List.getLast?_concat]
          exact ⟨rfl, hprev, rfl, hwords⟩
        · rcases h with h | h
          · exact absurd h (by simp [hsettled])
          · have hnear : (s.chan n).within (s.edgeInstant sub) coarseDead = true := (Channel.within_iff _ _ _).2 h
            exact absurd (hfar.symm.trans hnear) (by decide)
  · rw [exec_stampCompose hup hn, State.composeStamp_none hnone]
  · obtain rfl : u = (s.convEnded n).stamped n v st (!met && !v.coarse) := hu
    subst hst
    rw [exec_stampCompose hup hn, State.composeStamp_ends hv]
    refine ⟨rfl, rfl, rfl, State.stamped_edges _ n v _ _, State.stamped_last _ n v _ _, State.stamped_idle _ n v _ _,
      fun hmet hfine => ⟨State.stamped_reports _ n v _ _ (by rw [hmet, hfine]; rfl), ?_⟩,
      fun hlate => State.stamped_lateSeen _ n v (v.stamp cnt met) _ hlate, ?_, fun hqen => ?_⟩
    · simp [Conversion.stamp, hmet, hfine]
    · rw [(State.stamped_step _ n v _ _).conv, State.convEnded_chan s hn]
    · rw [State.stamped_unqueued (s.convEnded n) n v _ _ hqen, State.convEnded_chan s hn]

end Sys2Proof.Machine
end

section
/-! SUPPORT. The host's writes of a channel's words, its queue's flush and markers, and the rate windows (R97, R100,
R103, R112, R113). -/

-- As in the tests: elaborated in parallel, these proofs' thread stacks would exceed the check's memory limit.
set_option Elab.async false

namespace Sys2Proof.Machine

/-! ### The words and their rules -/

theorem ruledWord_channel {n : Nat} (hn : n < 8) {a : Nat}
    (ha : a ∈ [A.VQ_Vn_FLUSH n, A.VC_Vn_MARK n, A.VC_Vn_CTL n, A.VC_Vn_DELAY_OFS n]) :
    ruledWord a = true ∧ appliedHolds a = [] := by
  have key : ∀ n < 8, ∀ a ∈ [A.VQ_Vn_FLUSH n, A.VC_Vn_MARK n, A.VC_Vn_CTL n, A.VC_Vn_DELAY_OFS n],
      ruledWord a = true ∧ appliedHolds a = [] := by decide
  exact key n hn a ha

section rules
variable (s : State) (p : HostPort) {n : Nat} (hn : n < 8) (v : Nat)
include hn

theorem State.bankWrite_flush : s.bankWrite p (A.VQ_Vn_FLUSH n / 256) (A.VQ_Vn_FLUSH n % 256) v =
    some (if v = 1 then s.vqFlush n else s).ok := by
  interval_cases n <;> rfl

theorem State.bankWrite_mark : s.bankWrite p (A.VC_Vn_MARK n / 256) (A.VC_Vn_MARK n % 256) v =
    some (s.hostMarker n v) := by
  interval_cases n <;> rfl

theorem State.bankWrite_vcCtl : s.bankWrite p (A.VC_Vn_CTL n / 256) (A.VC_Vn_CTL n % 256) v =
    some (s.vcCtlWrite n v) := by
  interval_cases n <;> rfl

theorem State.bankWrite_delayOfs : s.bankWrite p (A.VC_Vn_DELAY_OFS n / 256) (A.VC_Vn_DELAY_OFS n % 256) v =
    some (s.delayWrite n v).ok := by
  interval_cases n <;> rfl

end rules

section writes
variable {s t : State} {p : HostPort} {n : Nat} (hn : n < 8) {v : Word}
include hn

theorem State.hostParam_flush (hw : s.mayWrite p (A.VQ_Vn_FLUSH n) = true) :
    s.hostParam p (A.VQ_Vn_FLUSH n) v = (if v.toNat = 1 then s.vqFlush n else s).written p (A.VQ_Vn_FLUSH n) v :=
  State.hostParam_ruled hw (ruledWord_channel hn (by simp)).1 (State.bankWrite_flush s p hn _)

theorem State.hostParam_mark (hw : s.mayWrite p (A.VC_Vn_MARK n) = true) (hv : v.toNat < 0xFF00) :
    s.hostParam p (A.VC_Vn_MARK n) v = (s.mark n v.toNat).written p (A.VC_Vn_MARK n) v :=
  State.hostParam_ruled hw (ruledWord_channel hn (by simp)).1
    (by rw [State.bankWrite_mark s p hn, State.hostMarker, if_neg (by omega)])

/-- The device's own tags are not the host's (R98). -/
theorem State.hostParam_mark_range (hw : s.mayWrite p (A.VC_Vn_MARK n) = true) (hv : 0xFF00 ≤ v.toNat) :
    s.hostParam p (A.VC_Vn_MARK n) v = s.turnedAway p (A.VC_Vn_MARK n) v .range :=
  State.hostParam_ruled_rejected_unheld hw (ruledWord_channel hn (by simp)).1 (ruledWord_channel hn (by simp)).2
    (by rw [State.bankWrite_mark s p hn, State.hostMarker, if_pos hv])

theorem State.hostParam_delayOfs (hw : s.mayWrite p (A.VC_Vn_DELAY_OFS n) = true) :
    s.hostParam p (A.VC_Vn_DELAY_OFS n) v = (s.delayWrite n v.toNat).written p (A.VC_Vn_DELAY_OFS n) v :=
  State.hostParam_ruled hw (ruledWord_channel hn (by simp)).1 (State.bankWrite_delayOfs s p hn _)

/-- A write of Vn_CTL whose effect is `t`: a field out of range is recorded as its discard (R15). -/
theorem State.hostParam_vcCtl (hw : s.mayWrite p (A.VC_Vn_CTL n) = true)
    (ht : s.vcCtlWrite n v.toNat = if vcCtlOk v.toNat then t.ok else t.rejected .range) :
    s.hostParam p (A.VC_Vn_CTL n) v =
      if vcCtlOk v.toNat then t.written p (A.VC_Vn_CTL n) v else t.turnedAway p (A.VC_Vn_CTL n) v .range := by
  have hrule := ruledWord_channel hn (a := A.VC_Vn_CTL n) (by simp)
  have hbank := State.bankWrite_vcCtl s p hn v.toNat
  rw [ht] at hbank
  split
  · next hok =>
    rw [hok, if_pos rfl] at hbank
    exact State.hostParam_ruled hw hrule.1 hbank
  · next hok =>
    rw [if_neg hok] at hbank
    exact State.hostParam_ruled_rejected_unheld hw hrule.1 hrule.2 hbank

/-- A write that may not loop the channel (R106). -/
theorem State.hostParam_vcCtl_loop (hw : s.mayWrite p (A.VC_Vn_CTL n) = true) (hloop : bitOf v.toNat 15 = true)
    (hmay : s.mayLoop n = false) :
    s.hostParam p (A.VC_Vn_CTL n) v = s.turnedAway p (A.VC_Vn_CTL n) v .range :=
  State.hostParam_ruled_rejected_unheld hw (ruledWord_channel hn (by simp)).1 (ruledWord_channel hn (by simp)).2
    (by rw [State.bankWrite_vcCtl s p hn, State.vcCtlWrite, if_pos ⟨hloop, hmay⟩])

end writes

/-! ### Flush and markers (R97, R103, R113) -/

section queue
variable {s u : State} {n : Nat} (hn : n < 8)

include hn in
theorem State.vqFlush_spec (hu : u = s.vqFlush n) : (u.chan n).queue = [] ∧ (∀ m, m < 8 → m ≠ n → u.chan m = s.chan m) ∧
    s.wordsKept u [] ∧ u = { s with raised := u.raised, vc := u.vc } := by
  have hstep : s.ChanStep (s.vqFlush n) n [] [] true := ((State.ChanStep.refl s n _ _ true).setChan _).vqLevel
  subst hu
  refine ⟨?_, fun m _ hm => hstep.others m hm, hstep.wordsKept, ?_⟩
  · rw [State.vqFlush, State.vqLevel_queue _ hn, State.chan_setChan_self s hn]
  · rw [State.vqFlush, State.vqLevel_eq]; rfl

theorem State.mark_pushes {tag : Nat} (hqen : s.bit (F.VC_Vn_CTL_QEN n) = true) (hlater : (s.chan n).later = [])
    (hnext : (s.chan n).markerNext s.tally = true) : s.mark n tag = s.vqPush n (vqEntry kindMarker 0 s.tally tag) := by
  simp [State.mark, State.vqMarker, hqen, hlater, hnext]

theorem State.mark_waits {tag : Nat} (h : (s.chan n).later ≠ [] ∨ (s.chan n).markerNext s.tally = false) :
    s.mark n tag = s.setChan n { s.chan n with later := (s.chan n).later ++ [.mark s.tally tag] } := by
  rw [State.mark, if_neg]
  rw [Bool.and_eq_true, List.isEmpty_iff, not_and, Bool.not_eq_true]
  exact fun hlater => h.resolve_left (not_not.2 hlater)

end queue

/-! ### Rate windows (R100) -/

/-- What one application brings about and every other keeps holds after the whole list. -/
theorem State.each_reaches {α : Type} {P : State → Prop} {f : α → State → State} {l : List α} {a : α} (ha : a ∈ l)
    (hf : ∀ t, P (f a t)) (hk : ∀ b ∈ l, ∀ t, P t → P (f b t)) (s : State) : P (s.each l f) := by
  obtain ⟨l₁, l₂, rfl⟩ := List.append_of_mem ha
  rw [State.each, List.foldl_append, List.foldl_cons]
  exact State.each_keeps (fun b hb => hk b (List.mem_append_right _ (List.mem_cons_of_mem _ hb))) (hf _)

section window
variable {s u : State}

theorem State.rateWindowEnd_idle (h : s.tallyRun = false ∨ s.tally % 1250000 ≠ 0) : s.rateWindowEnd = s := by
  rw [State.rateWindowEnd, if_neg]
  rintro ⟨hrun, htick⟩
  exact h.elim (fun h => by simp [hrun] at h) (fun h => h htick)

/-- At a window's end every channel counts afresh, and its queue stays. -/
theorem State.rateWindowEnd_spec {n : Nat} (hn : n < 8) (hrun : s.tallyRun = true) (htick : s.tally % 1250000 = 0)
    (hu : u = s.rateWindowEnd) : (u.chan n).windowCount = 0 ∧ (u.chan n).queue = (s.chan n).queue ∧
      u = { s with vc := u.vc } := by
  rw [State.rateWindowEnd, if_pos ⟨hrun, htick⟩] at hu
  subst hu
  have hchan : ∀ (m : Nat), m ∈ List.range 8 → ∀ t : State, ∀ c : Channel,
      (t.setChan m c).chan n = if n = m then c else t.chan n :=
    fun m hm t c => t.chan_setChan (List.mem_range.1 hm) n c
  refine ⟨?_, ?_, ?_⟩
  · refine State.each_reaches (P := fun t => (t.chan n).windowCount = 0) (List.mem_range.2 hn) (fun t => ?_)
      (fun m hm t ht => ?_) s
    · rw [State.chan_setChan_self t hn]
    · rw [hchan m hm]
      split
      · rfl
      · exact ht
  · refine State.each_keeps (P := fun t => (t.chan n).queue = (s.chan n).queue) (fun m hm t ht => ?_) rfl
    rw [hchan m hm]
    split
    · next h => rw [← h]; exact ht
    · exact ht
  · exact State.each_keeps (P := fun t => t = { s with vc := t.vc }) (fun m _ t ht => by rw [ht]; rfl) rfl

end window

end Sys2Proof.Machine
end

section
/-! SUPPORT. A channel's settings, its stop and its silence (R15, R104, R112, R114, R140). -/

-- As in the tests: elaborated in parallel, these proofs' thread stacks would exceed the check's memory limit.
set_option Elab.async false

namespace Sys2Proof.Machine

/-! ### The word that a write leaves (R15, R829) -/

theorem vcCtlFit_lt (old v : Nat) : vcCtlFit old v < 2 ^ 20 := Nat.mod_lt _ (by decide)

theorem vcCtlFit_ok {v : Nat} (h : vcCtlOk v = true) (old : Nat) : vcCtlFit old v = v % 2 ^ 20 := by
  simp only [vcCtlOk, Bool.and_eq_true, decide_eq_true_eq, Bool.not_eq_true', Bool.and_eq_false_iff, 
    beq_eq_false_iff_ne, bne_eq_false_iff_eq] at h
  obtain ⟨⟨⟨⟨hedge, hpair⟩, hpresc⟩, hthresh⟩, hout⟩ := h
  have hboth : ¬ (bitsAt v 2 2 = 2 ∧ bitsAt v 4 4 ≠ 0) := fun hc => hpair.elim (fun h => h hc.1) (fun h => hc.2 h)
  simp only [vcCtlFit, if_neg (show ¬ bitsAt v 2 2 = 3 by omega), if_neg (show ¬ 10 < bitsAt v 4 4 by omega),
    if_neg hboth, hthresh, if_true, if_pos hout]

theorem wordOf_toNat (v : Word) : wordOf v.toNat = v := BitVec.ofNat_toNat 32 v |>.trans (BitVec.setWidth_eq v)

theorem wordOf_val {w : Nat} (h : w < 2 ^ 32) : (wordOf w).toNat = w := Nat.mod_eq_of_lt h

/-! ### A new value of CTL (R112, R114) -/

theorem State.ChanStep.channelStarts {s t : State} {n : Nat} {fs ws : List Nat} (h : s.ChanStep t n fs ws false)
    (hk : 0 ∈ fs ∧ 1 ∈ fs ∧ 9 ∈ fs := by decide) (hw : 1 ∈ ws := by decide) :
    s.ChanStep (t.channelStarts n) n fs ws false :=
  (((h.setChan _ nofun).setBit 0 true ⟨hk.1, by decide⟩ hw).setBit 1 false ⟨hk.2.1, by decide⟩ hw).mark _
    ⟨hk.2.2, by decide⟩ hw

/-- The channel as it starts, before its ENABLED marker. -/
def State.channelCleared (s : State) (n : Nat) : State :=
  ((s.setChan n { s.chan n with prevEdge := none, stopping := false }).setBit (F.VC_Vn_STAT_ACTIVE n) true).setBit
    (F.VC_Vn_STAT_DRAINING n) false

/-- CTL and LOOPED take a value; what it does to the channel follows. -/
def State.ctlTaken (s : State) (n w : Nat) : State :=
  (s.setVal (A.VC_Vn_CTL n) (w % 2 ^ 20)).setBit (F.VC_Vn_STAT_LOOPED n) (bitOf w 15)

section control
variable (s : State) {n : Nat} (w : Nat)

theorem State.channelStarts_marked (n : Nat) :
    (s.channelCleared n).ChanStep (s.channelStarts n) n [9] [1] true :=
  (State.ChanStep.refl (s.channelCleared n) n [9] [1] true).mark tagEnabled

theorem State.channelStarts_spec (hn : n < 8) : (s.channelStarts n).bit (F.VC_Vn_STAT_ACTIVE n) = true ∧
    ((s.channelStarts n).chan n).stopping = false ∧ ((s.channelStarts n).chan n).prevEdge = none := by
  have hmarked := s.channelStarts_marked n
  have hchan : (s.channelCleared n).chan n = { s.chan n with prevEdge := none, stopping := false } :=
    s.chan_setChan_self hn _
  refine ⟨(hmarked.flag 0).trans ?_, hmarked.stopping.trans (by rw [hchan]), hmarked.prevEdge.trans (by rw [hchan])⟩
  exact (State.flag_setBit_ne _ n 1 false).trans (State.flag_setBit_self _ n 0 true)

theorem State.ctlTaken_chan (n m : Nat) : (s.ctlTaken n w).chan m = s.chan m := by
  rw [State.chan, State.chan, State.ctlTaken, State.setBit_vc, State.setVal_vc]

/-- Behind CTL and LOOPED, a new value writes ACTIVE and DRAINING, and marks the queue. -/
theorem State.applyVcCtl_step (n : Nat) : (s.ctlTaken n w).ChanStep (s.applyVcCtl n w) n [0, 1, 9] [1] false := by
  have h := State.ChanStep.refl (s.ctlTaken n w) n [0, 1, 9] [1] false
  unfold State.applyVcCtl
  dsimp only
  split
  · split
    · exact h.mark _
    · split
      · exact h.setBit 1 true
      · exact h.channelStarts
  · split
    · split
      · exact h.setBit 1 false
      · exact (h.setChan _ nofun).mark _
    · exact h

theorem State.applyVcCtl_enables (hoff : s.bit (F.VC_Vn_CTL_EN n) = false) (hon : bitOf w 0 = true)
    (hstop : (s.chan n).stopping = false) : s.applyVcCtl n w = (s.ctlTaken n w).channelStarts n := by
  have hchan := s.ctlTaken_chan w n n
  rw [← hchan, State.ctlTaken] at hstop
  simp only [State.applyVcCtl, hon, hoff, hstop, if_true, Bool.false_eq_true, if_false, State.ctlTaken]

theorem State.applyVcCtl_disables (hwas : s.bit (F.VC_Vn_CTL_EN n) = true) (hoff : bitOf w 0 = false)
    (hstop : (s.chan n).stopping = false) : s.applyVcCtl n w =
      ((s.ctlTaken n w).setChan n { (s.ctlTaken n w).chan n with stopping := true }).mark n tagConfig := by
  have hchan := s.ctlTaken_chan w n n
  rw [← hchan, State.ctlTaken] at hstop
  simp only [State.applyVcCtl, hwas, hoff, hstop, if_true, Bool.false_eq_true, if_false, State.ctlTaken]

theorem State.applyVcCtl_spec (hn : n < 8) (hw : w < 2 ^ 20) : ∀ t, t = s.applyVcCtl n w →
    t.val (A.VC_Vn_CTL n) = w ∧ t.bit (F.VC_Vn_STAT_LOOPED n) = bitOf w 15 ∧
      (s.bit (F.VC_Vn_CTL_EN n) = false → bitOf w 0 = true → (s.chan n).stopping = false →
        t.bit (F.VC_Vn_STAT_ACTIVE n) = true) ∧
      (s.bit (F.VC_Vn_CTL_EN n) = true → bitOf w 0 = false → (s.chan n).stopping = false →
        (t.chan n).stopping = true) ∧ (∀ m, m < 8 → m ≠ n → t.chan m = s.chan m) := by
  rintro t rfl
  have hstep := s.applyVcCtl_step w n
  refine ⟨(hstep.val 0).trans ?_, (hstep.flag 5).trans ?_, fun hoff hon hstop => ?_, fun hwas hoff hstop => ?_,
    fun m _ hm => (hstep.others m hm).trans (s.ctlTaken_chan w n m)⟩
  · have hval : (s.ctlTaken n w).val (A.VC_Vn_CTL n) = (s.setVal (A.VC_Vn_CTL n) (w % 2 ^ 20)).val (A.VC_Vn_CTL n) :=
      State.ChanStep.val (fs := [5]) (ws := [1]) (b := true) ((State.ChanStep.refl _ n _ _ true).setBit 5 _) 0
    refine hval.trans ?_
    rw [State.val_setVal_self]
    omega
  · exact State.flag_setBit_self _ n 5 _
  · rw [State.applyVcCtl_enables s w hoff hon hstop]
    exact (State.channelStarts_spec _ hn).1
  · have hmark : ∀ x : State, ((x.mark n tagConfig).chan n).stopping = (x.chan n).stopping := fun x =>
      ((State.ChanStep.refl x n [9] [1] true).mark tagConfig).stopping
    rw [State.applyVcCtl_disables s w hwas hoff hstop, hmark, State.chan_setChan_self _ hn]

end control

/-! ### DELAY_OFS (R112) -/

/-- DELAY_OFS takes its value, and a converting channel is marked. -/
theorem State.applyDelay_spec (s : State) {n : Nat} (v : Word) : ∀ u, u = s.applyDelay n v.toNat →
    u.rd (A.VC_Vn_DELAY_OFS n) = v ∧ (∀ m, m < 8 → m ≠ n → u.chan m = s.chan m) := by
  rintro u rfl
  have hset : (s.setVal (A.VC_Vn_DELAY_OFS n) v.toNat).rd (A.VC_Vn_DELAY_OFS n) = v := by
    rw [State.setVal, State.rd_wr_self, wordOf_toNat]
  have hstep : (s.setVal (A.VC_Vn_DELAY_OFS n) v.toNat).ChanStep (s.applyDelay n v.toNat) n [9] [1] true := by
    unfold State.applyDelay
    dsimp only
    split
    · exact (State.ChanStep.refl _ n [9] [1] true).mark _
    · exact State.ChanStep.refl _ n [9] [1] true
  refine ⟨?_, fun m _ hm => hstep.others m hm⟩
  rw [hstep.words _ (by simp [A.VC_Vn_DELAY_OFS, channelWord]), hset]

/-! ### A write that acts now, waits, or is held (R112, R140) -/

section write
variable {s : State} {n : Nat}

/-- With nothing in progress a write acts at once. -/
theorem State.takeLater_now (hlater : (s.chan n).later = []) (hconv : (s.chan n).conv = []) (k : Nat) (v : Word) :
    s.takeLater n (.write k v) = s.applyChannelWrite n k v := by
  simp [State.takeLater, hlater, hconv]

/-- With a conversion in progress a write waits. -/
theorem State.takeLater_waits (hconv : (s.chan n).conv ≠ []) (k : Nat) (v : Word) : s.takeLater n (.write k v) =
    s.setChan n { s.chan n with later := (s.chan n).later ++ [.write k v] } := by
  simp [State.takeLater, hconv]

theorem State.writeVcCtl_now (hlater : (s.chan n).later = []) (hconv : (s.chan n).conv = []) {w : Nat}
    (hw : w < 2 ^ 20) : s.writeVcCtl n w = s.applyVcCtl n w := by
  rw [State.writeVcCtl, hconv, State.takeLater_now hlater hconv]
  exact congrArg (s.applyVcCtl n) (wordOf_val (by omega))

theorem State.writeVcCtl_waits (hn : n < 8) (hconv : (s.chan n).conv ≠ []) (w : Nat) : ∀ t, t = s.writeVcCtl n w →
    (t.chan n).later = (s.chan n).later ++ [.write 0 (wordOf w)] ∧ s.wordsKept t [A.VC_Vn_STAT n] ∧
      t = { s with regs := t.regs, vc := t.vc } := by
  rintro t rfl
  have hchan := s.chan_setChan_self hn { s.chan n with later := (s.chan n).later ++ [.write 0 (wordOf w)] }
  have hwords : ∀ b, s.wordsKept ((s.setChan n { s.chan n with
      later := (s.chan n).later ++ [.write 0 (wordOf w)] }).setBit (F.VC_Vn_STAT_DRAINING n) b) [A.VC_Vn_STAT n] :=
    fun b => (((State.ChanStep.refl s n [1] [1] true).setChan _).setBit 1 b).wordsKept
  rw [State.writeVcCtl, State.takeLater_waits hconv]
  dsimp only
  rw [if_neg (by rw [List.isEmpty_iff]; exact hconv)]
  split
  · exact ⟨congrArg Channel.later hchan, hwords true, rfl⟩
  · split
    · exact ⟨congrArg Channel.later hchan, hwords false, rfl⟩
    · exact ⟨congrArg Channel.later hchan, State.wordsKept_of_regs rfl _, rfl⟩

/-- A write of Vn_CTL outside a run. -/
theorem State.vcCtlWrite_free {v : Nat} (hloop : bitOf v 15 = true → s.mayLoop n = true)
    (hrun : (s.calib n).run = none) : s.vcCtlWrite n v =
      if vcCtlOk v then (s.writeVcCtl n (vcCtlFit (s.val (A.VC_Vn_CTL n)) v)).ok
      else (s.writeVcCtl n (vcCtlFit (s.val (A.VC_Vn_CTL n)) v)).rejected .range := by
  rw [State.vcCtlWrite, if_neg (fun h => absurd (hloop h.1) (by simp [h.2])), hrun]
  rfl

/-- A write of Vn_CTL during a run that leaves EN set is held (R140). -/
theorem State.vcCtlWrite_held {v w : Nat} (hloop : bitOf v 15 = true → s.mayLoop n = true)
    (hrun : (s.calib n).run.isSome = true) (hw : w = vcCtlFit (s.val (A.VC_Vn_CTL n)) v) (hen : bitOf w 0 = true) :
    ∀ t, t = s.setCalib n { s.calib n with heldWords := (s.calib n).heldWords ++ [(0, wordOf w)] } →
    s.vcCtlWrite n v = if vcCtlOk v then t.ok else t.rejected .range := by
  rintro t rfl
  rw [State.vcCtlWrite, if_neg (fun h => absurd (hloop h.1) (by simp [h.2])), ← hw]
  simp only [hrun, hen, if_true]

theorem State.delayWrite_now (hrun : (s.calib n).run = none) (hlater : (s.chan n).later = [])
    (hconv : (s.chan n).conv = []) (v : Word) : s.delayWrite n v.toNat = s.applyDelay n v.toNat := by
  rw [State.delayWrite, hrun, if_neg (by simp), State.takeLater_now hlater hconv, wordOf_toNat]
  rfl

theorem State.delayWrite_held (hn : n < 8) (hrun : (s.calib n).run.isSome = true) (v : Word) :
    ∀ u, u = s.delayWrite n v.toNat →
      (u.calib n).heldWords = (s.calib n).heldWords ++ [(2, v)] ∧ u = { s with cal := u.cal } := by
  rintro u rfl
  rw [State.delayWrite, if_pos hrun, State.calib_setCalib s hn, if_pos rfl, wordOf_toNat]
  exact ⟨rfl, rfl⟩

end write

/-! ### A stop that completes, and silence (R104, R114) -/

section drain
variable {s u : State} {n : Nat}

theorem State.vcDrained_not (h : (s.chan n).stopping = false ∨ (s.chan n).conv ≠ []) : s.vcDrained n = s := by
  rw [State.vcDrained, if_neg]
  rintro ⟨hstop, hconv⟩
  exact h.elim (fun h => by simp [hstop] at h) (fun h => h (List.isEmpty_iff.1 hconv))

/-- The channel as its stop completes, before a latched enable restarts it. -/
def State.channelStopped (s : State) (n : Nat) : State :=
  (s.setChan n { s.chan n with stopping := false, prevEdge := none }).setBit (F.VC_Vn_STAT_ACTIVE n) false

theorem State.vcDrained_eq (hstop : (s.chan n).stopping = true) (hconv : (s.chan n).conv = []) : s.vcDrained n =
    if s.bit (F.VC_Vn_STAT_DRAINING n) then (s.channelStopped n).channelStarts n else s.channelStopped n := by
  have hdrain : (s.channelStopped n).bit (F.VC_Vn_STAT_DRAINING n) = s.bit (F.VC_Vn_STAT_DRAINING n) :=
    (((State.ChanStep.refl s n [0] [1] false).setChan _ nofun).setBit 0 false).flag 1
  rw [State.vcDrained, if_pos ⟨hstop, by rw [hconv]; rfl⟩, ← hdrain]
  rfl

theorem State.vcDrained_spec (hn : n < 8) (hstop : (s.chan n).stopping = true) (hconv : (s.chan n).conv = [])
    (hu : u = s.vcDrained n) : (u.chan n).stopping = false ∧
      u.bit (F.VC_Vn_STAT_ACTIVE n) = s.bit (F.VC_Vn_STAT_DRAINING n) ∧ (u.chan n).prevEdge = none := by
  rw [State.vcDrained_eq hstop hconv] at hu
  subst hu
  split
  · next hdrain =>
    obtain ⟨hactive, hstopped, hprev⟩ := State.channelStarts_spec (s.channelStopped n) hn
    exact ⟨hstopped, hactive.trans hdrain.symm, hprev⟩
  · next hdrain =>
    have hchan : (s.channelStopped n).chan n = { s.chan n with stopping := false, prevEdge := none } :=
      s.chan_setChan_self hn _
    rw [hchan]
    refine ⟨rfl, ?_, rfl⟩
    rw [Bool.not_eq_true] at hdrain
    rw [hdrain]
    exact State.flag_setBit_self _ n 0 false

theorem State.vcIdle_spec (hactive : s.bit (F.VC_Vn_STAT_ACTIVE n) = true) (hlimit : s.val (A.VC_Vn_IDLE_LIMIT n) ≠ 0)
    (hidle : s.bit (F.VC_Vn_STAT_IDLE n) = false) (hu : u = s.vcIdle n) : u.bit (F.VC_Vn_STAT_IDLE n) = true ∧
      u.bit (F.VC_Vn_STAT_IDLE_SEEN n) = true ∧ Ev.VC_IDLE ∈ u.raised ∧ s.wordsKept u [A.VC_Vn_STAT n] ∧
      u = { s with regs := u.regs, raised := u.raised } := by
  rw [State.vcIdle, if_pos ⟨hactive, hlimit, hidle⟩] at hu
  have hstep : s.ChanStep u n [3, 11] [1] true :=
    hu ▸ (((State.ChanStep.refl s n [3, 11] [1] true).setBit 3 true).setBit 11 true).raise Ev.VC_IDLE
  have hframe := hstep.frame
  rw [show u.vc = s.vc by rw [hu, State.raise_vc, State.setBit_vc, State.setBit_vc]] at hframe
  refine ⟨?_, ?_, ?_, hstep.wordsKept, hframe⟩
  · rw [hu, State.bit_raise]
    exact (State.flag_setBit_ne _ n 11 true).trans (State.flag_setBit_self s n 3 true)
  · rw [hu, State.bit_raise]
    exact State.flag_setBit_self _ n 11 true
  · rw [hu]
    exact List.mem_append_right _ (List.mem_singleton_self _)

end drain

end Sys2Proof.Machine
end

section
/-! The measure units' gates, and O40 (R108 to R110). -/

-- As in the tests: elaborated in parallel, these proofs' thread stacks would exceed the check's memory limit.
set_option Elab.async false

namespace Sys2Proof.Machine

/-! ### A number in several words -/

theorem State.rd_setMulti_ne (s : State) {a b k : Nat} (h : b < a ∨ a + k ≤ b) (x : Nat) :
    (s.setMulti a x k).rd b = s.rd b := by
  induction k generalizing x with
  | zero => rfl
  | succ k ih => rw [State.setMulti, State.rd_setVal_ne _ (by omega), ih (by omega)]

/-- `u` follows `s` by writes of words and by free values alone. -/
def State.wordsOnly (s u : State) : Prop := ∃ regs draws, u = { s with regs := regs, draws := draws }

namespace State.wordsOnly
variable {s t : State}

theorem refl (s : State) : s.wordsOnly s := ⟨s.regs, s.draws, rfl⟩

theorem setVal (h : s.wordsOnly t) (a x : Nat) : s.wordsOnly (t.setVal a x) := by
  obtain ⟨regs, draws, rfl⟩ := h
  exact ⟨_, draws, rfl⟩

theorem setBit (h : s.wordsOnly t) (f : Fld) (b : Bool) : s.wordsOnly (t.setBit f b) := h.setVal f.addr _

theorem setMulti (h : s.wordsOnly t) (a x k : Nat) : s.wordsOnly (t.setMulti a x k) := by
  induction k generalizing x with
  | zero => exact h
  | succ k ih => exact (ih (x / 2 ^ 32)).setVal (a + k) x

theorem drawn (h : s.wordsOnly t) : s.wordsOnly t.drawn := by
  obtain ⟨regs, draws, rfl⟩ := h
  exact ⟨regs, draws + 1, rfl⟩

theorem meas (h : s.wordsOnly t) : t.meas = s.meas := by
  obtain ⟨regs, draws, rfl⟩ := h
  rfl

end State.wordsOnly

/-! ### The words of a gate (R109, R110) -/

section gate
variable (s : State) {m : Nat}

/-- COUNT and SUM of a gate. -/
def State.gateSummed (s : State) (m f : Nat) : State :=
  (s.setVal (A.VC_Mm_COUNT m) ((s.unit m).count f)).setMulti (A.VC_Mm_SUM_HI m)
    (codeOf 64 ((s.unit m).pairing f).samples.sum) 2

/-- MIN, MAX and RMS of a gate whose samples are `all`; `xs` are those that the function shows. -/
def State.gateSpread (s : State) (m : Nat) (xs all : List Int) : State :=
  match xs with
  | x :: l =>
    ((s.setMulti (A.VC_Mm_MIN_HI m) (codeOf 64 (l.foldl min x)) 2).setMulti (A.VC_Mm_MAX_HI m)
      (codeOf 64 (l.foldl max x)) 2).setVal (A.VC_Mm_RMS m) (rmsDeviation all)
  | [] =>
    let t1 := (s.setMulti (A.VC_Mm_MIN_HI m) s.freeNat 2).drawn
    let t2 := (t1.setMulti (A.VC_Mm_MAX_HI m) t1.freeNat 2).drawn
    (t2.setVal (A.VC_Mm_RMS m) t2.freeNat).drawn

/-- A gate's words before its last two. -/
def State.gateShown (s : State) (m f : Nat) : State :=
  (s.gateSummed m f).gateSpread m (if f = 2 then [] else ((s.unit m).pairing f).samples) ((s.unit m).pairing f).samples

theorem State.measureGate_eq (h : s.measuring m = true) : s.measureGate m =
    (((s.gateShown m (s.get (F.VC_Mm_CTL_FUNC m))).setVal (A.VC_Mm_UNPAIRED m)
      ((s.unit m).pairing (s.get (F.VC_Mm_CTL_FUNC m))).unpaired).setBit (F.VC_Mm_STAT_GATE_DONE m) true).setUnit m
        {} := by
  rw [State.measureGate, if_neg (by simp [h])]
  rfl

theorem State.gateSpread_words (m : Nat) (xs all : List Int) {a : Nat} (ha : a < A.VC_Mm_MIN_HI m ∨ A.VC_Mm_RMS m < a) :
    (s.gateSpread m xs all).rd a = s.rd a := by
  have hmin : a < A.VC_Mm_MIN_HI m ∨ A.VC_Mm_MIN_HI m + 2 ≤ a := by
    unfold A.VC_Mm_MIN_HI A.VC_Mm_RMS at *; omega
  have hmax : a < A.VC_Mm_MAX_HI m ∨ A.VC_Mm_MAX_HI m + 2 ≤ a := by
    unfold A.VC_Mm_MIN_HI A.VC_Mm_MAX_HI A.VC_Mm_RMS at *; omega
  have hrms : a ≠ A.VC_Mm_RMS m := by
    unfold A.VC_Mm_MIN_HI A.VC_Mm_RMS at *; omega
  unfold State.gateSpread
  split
  · rw [State.rd_setVal_ne _ hrms, State.rd_setMulti_ne _ hmax, State.rd_setMulti_ne _ hmin]
  · simp only [State.rd_drawn, State.rd_setVal_ne _ hrms, State.rd_setMulti_ne _ hmax, State.rd_setMulti_ne _ hmin]

theorem State.gateShown_only (m f : Nat) : s.wordsOnly (s.gateShown m f) := by
  have hsummed : s.wordsOnly (s.gateSummed m f) := ((State.wordsOnly.refl s).setVal _ _).setMulti _ _ 2
  unfold State.gateShown State.gateSpread
  split
  · exact ((hsummed.setMulti _ _ 2).setMulti _ _ 2).setVal _ _
  · exact ((((hsummed.setMulti _ _ 2).drawn).setMulti _ _ 2).drawn.setVal _ _).drawn

theorem State.gateShown_words (f : Nat) {a : Nat} (ha : a < A.VC_Mm_COUNT m ∨ A.VC_Mm_RMS m < a) :
    (s.gateShown m f).rd a = s.rd a := by
  unfold A.VC_Mm_COUNT A.VC_Mm_RMS at ha
  rw [State.gateShown, State.gateSpread_words, State.gateSummed, State.rd_setMulti_ne, State.rd_setVal_ne]
  all_goals
    simp only [A.VC_Mm_COUNT, A.VC_Mm_SUM_HI, A.VC_Mm_MIN_HI, A.VC_Mm_RMS]
    omega

theorem State.gateShown_count (m f : Nat) :
    (s.gateShown m f).val (A.VC_Mm_COUNT m) = (s.unit m).count f % 2 ^ 32 := by
  have hspread : A.VC_Mm_COUNT m < A.VC_Mm_MIN_HI m := by unfold A.VC_Mm_COUNT A.VC_Mm_MIN_HI; omega
  have hsum : A.VC_Mm_COUNT m < A.VC_Mm_SUM_HI m := by unfold A.VC_Mm_COUNT A.VC_Mm_SUM_HI; omega
  rw [State.val, State.gateShown, State.gateSpread_words _ m _ _ (Or.inl hspread), State.gateSummed,
    State.rd_setMulti_ne _ (Or.inl hsum)]
  exact State.val_setVal_self s _ _

theorem State.gateShown_sum (m f : Nat) :
    (s.gateShown m f).multi (A.VC_Mm_SUM_HI m) 2 = codeOf 64 ((s.unit m).pairing f).samples.sum := by
  have hspread : ∀ i < 2,
      (s.gateShown m f).val (A.VC_Mm_SUM_HI m + i) = (s.gateSummed m f).val (A.VC_Mm_SUM_HI m + i) := by
    intro i hi
    refine congrArg BitVec.toNat (State.gateSpread_words _ m _ _ (Or.inl ?_))
    unfold A.VC_Mm_SUM_HI A.VC_Mm_MIN_HI; omega
  rw [State.multi_congr _ hspread, State.gateSummed, State.multi_setMulti_self]
  exact Nat.mod_eq_of_lt (codeOf_lt 64 _)

/-- Behind the gate's results, only UNPAIRED, STAT and the unit's stamps are written. -/
theorem State.measureGate_rest (h : s.measuring m = true) {a : Nat} (ha : a < A.VC_Mm_UNPAIRED m ∨ A.VC_Mm_STAT m < a) :
    (s.measureGate m).rd a = (s.gateShown m (s.get (F.VC_Mm_CTL_FUNC m))).rd a := by
  unfold A.VC_Mm_UNPAIRED A.VC_Mm_STAT at ha
  rw [State.measureGate_eq s h, State.rd_setUnit, State.setBit, State.rd_put_ne, State.rd_setVal_ne]
  all_goals
    simp only [A.VC_Mm_UNPAIRED, F.VC_Mm_STAT_GATE_DONE, A.VC_Mm_STAT]
    omega

theorem State.unit_setUnit (hm : m < 4) (k : Nat) (x : MeasureUnit) :
    (s.setUnit m x).unit k = if k = m then x else s.unit k := getD_setIfInBounds _ _ _ _ _ hm

theorem State.measureGate_unit (hm : m < 4) (h : s.measuring m = true) (k : Nat) :
    (s.measureGate m).unit k = if k = m then {} else s.unit k := by
  rw [State.measureGate_eq s h, State.unit_setUnit _ hm]
  split
  · rfl
  · rw [State.unit, State.setBit_meas, State.setVal_meas, (s.gateShown_only m _).meas, State.unit]

theorem State.measureGate_frame (h : s.measuring m = true) : s.measureGate m =
    { s with regs := (s.measureGate m).regs, draws := (s.measureGate m).draws, meas := (s.measureGate m).meas } := by
  obtain ⟨regs, draws, hdone⟩ := ((s.gateShown_only m (s.get (F.VC_Mm_CTL_FUNC m))).setVal (A.VC_Mm_UNPAIRED m)
    ((s.unit m).pairing (s.get (F.VC_Mm_CTL_FUNC m))).unpaired).setBit (F.VC_Mm_STAT_GATE_DONE m) true
  rw [State.measureGate_eq s h, hdone]
  rfl

theorem State.measureGate_spec (hm : m < 4) (h : s.measuring m = true) :
    ∀ f, f = s.get (F.VC_Mm_CTL_FUNC m) → ∀ u, u = s.measureGate m →
      u.unit m = {} ∧ u.bit (F.VC_Mm_STAT_GATE_DONE m) = true ∧
        u.val (A.VC_Mm_COUNT m) = (s.unit m).count f % 2 ^ 32 ∧
        u.multi (A.VC_Mm_SUM_HI m) 2 = codeOf 64 ((s.unit m).pairing f).samples.sum ∧
        u.val (A.VC_Mm_UNPAIRED m) = ((s.unit m).pairing f).unpaired % 2 ^ 32 ∧
        (∀ k, k < 4 → k ≠ m → u.unit k = s.unit k) ∧ s.banksKept u [5] ∧
        u = { s with regs := u.regs, draws := u.draws, meas := u.meas } := by
  rintro f rfl u rfl
  have hcount : A.VC_Mm_COUNT m < A.VC_Mm_UNPAIRED m := by unfold A.VC_Mm_COUNT A.VC_Mm_UNPAIRED; omega
  have hsum : ∀ i < 2, A.VC_Mm_SUM_HI m + i < A.VC_Mm_UNPAIRED m := by
    intro i hi
    unfold A.VC_Mm_SUM_HI A.VC_Mm_UNPAIRED; omega
  have hstat : A.VC_Mm_UNPAIRED m ≠ (F.VC_Mm_STAT_GATE_DONE m).addr := by
    simp only [F.VC_Mm_STAT_GATE_DONE, A.VC_Mm_STAT, A.VC_Mm_UNPAIRED]; omega
  refine ⟨by rw [State.measureGate_unit s hm h, if_pos rfl], ?_, ?_, ?_, ?_,
    fun k _ hk => by rw [State.measureGate_unit s hm h, if_neg hk], fun a ha => ?_, State.measureGate_frame s h⟩
  · rw [State.measureGate_eq s h, State.bit_setUnit]
    exact State.bit_setBit_self _ _ true rfl (by decide : 8 < 32)
  · rw [← State.gateShown_count]
    exact congrArg BitVec.toNat (State.measureGate_rest s h (Or.inl hcount))
  · rw [← State.gateShown_sum]
    exact State.multi_congr _ fun i hi => congrArg BitVec.toNat (State.measureGate_rest s h (Or.inl (hsum i hi)))
  · rw [State.measureGate_eq s h, State.val_setUnit, State.val, State.setBit, State.rd_put_ne _ hstat]
    exact State.val_setVal_self _ _ _
  · have hbank : a / 256 ≠ 5 := by simpa using ha
    have hunit : a < A.VC_Mm_COUNT m ∨ A.VC_Mm_STAT m < a := by unfold A.VC_Mm_COUNT A.VC_Mm_STAT; omega
    have hrest : a < A.VC_Mm_UNPAIRED m ∨ A.VC_Mm_STAT m < a := hunit.imp_left (fun ha => ha.trans hcount)
    have hshown : a < A.VC_Mm_COUNT m ∨ A.VC_Mm_RMS m < a :=
      hunit.imp_right (fun ha => lt_trans (by unfold A.VC_Mm_RMS A.VC_Mm_STAT; omega) ha)
    rw [State.measureGate_rest s h hrest, State.gateShown_words s _ hshown]

end gate

/-! ### The commands -/

/-- An effect inside a domain that is up, its condition met, on which no other unit acts. -/
theorem calm_inside {s : State} {d : Domain} {ok : Bool} (hd : s.up d = true) (hok : ok = true) (f : State → State) :
    calm s (fun s => s.inside d ok f) = .next (s.still (f s)) := by rw [calm, State.inside_of hd hok]

theorem exec_vqFlush (s : State) (p : HostPort) (n : Nat) (v : Word) :
    exec (.vqFlush p n v) s = .next (s.still (s.hostParam p (A.VQ_Vn_FLUSH n) v)) := rfl

theorem exec_vcMark (s : State) (p : HostPort) (n : Nat) (v : Word) :
    exec (.vcMark p n v) s = .next (s.still (s.hostParam p (A.VC_Vn_MARK n) v)) := rfl

theorem exec_vcCtlWrite (s : State) (p : HostPort) (a : Nat) (v : Word) :
    exec (.vcCtlWrite p a v) s = .next (s.after (s.hostParam p a v)) := rfl

section instructions
variable {s : State} {n : Nat} (hup : s.up .time = true)
include hup

theorem exec_vqRateWindowEnd : exec .vqRateWindowEnd s = .next (s.still s.rateWindowEnd) :=
  calm_inside hup rfl State.rateWindowEnd

theorem exec_vcDrainDone (hn : n < 8) : exec (.vcDrainDone n) s = .next (s.after (s.vcDrained n)) :=
  happen_inside hup (decide_eq_true hn) (fun s => s.vcDrained n)

theorem exec_vcIdle (hn : n < 8) : exec (.vcIdle n) s = .next (s.after (s.vcIdle n)) :=
  happen_inside hup (decide_eq_true hn) (fun s => s.vcIdle n)

theorem exec_measureGateEnd (hn : n < 4) : exec (.measureGateEnd n) s = .next (s.still (s.measureGate n)) :=
  calm_inside hup (decide_eq_true hn) (fun s => s.measureGate n)

end instructions

/-- Settles O40, clause by clause: the host's writes follow their words' rules, and each other command is its part. -/
theorem queuesMarkersAndChannels : Obligations.QueuesMarkersAndChannels := by
  intro s n hup hn
  refine ⟨fun p hw u hu => ?_, fun p v hw hv => ?_,
    fun p v hw => ⟨fun hv => ?_, fun hv hqen hlater hnext hranges hroom u hu => ?_, fun hv hwait u hu => ?_⟩,
    fun hrun htick u hu => ?_, fun hidle => ?_, fun p v hw hloop hmay => ?_,
    fun p v hw hloop w hfit => ⟨fun hok => ?_, fun t told htold =>
      ⟨fun hrun hlater hconv ht => ?_, fun hrun hconv ht => ?_, fun hrun hen ht => ?_⟩⟩,
    fun p v hw => ⟨fun hrun hlater hconv u hu => ?_, fun hrun u hu => ?_⟩,
    fun hstop hconv u hu => ?_, fun hstop => ?_, fun hactive hlimit hidle u hu => ?_, fun hm hon f hf u hu => ?_⟩
  · rw [exec_vqFlush, State.hostParam_flush hn hw, if_pos (by decide), ← hu]
    exact ⟨rfl, State.vqFlush_spec hn hu⟩
  · have hone : v.toNat ≠ 1 := fun h => hv (BitVec.eq_of_toNat_eq h)
    rw [exec_vqFlush, State.hostParam_flush hn hw, if_neg hone]
  · rw [exec_vcMark, State.hostParam_mark_range hn hw hv]
  · rw [exec_vcMark, State.hostParam_mark hn hw hv, State.mark_pushes hqen hlater hnext, hu]
    exact ⟨rfl, State.vqPush_room hn hroom hranges _⟩
  · rw [exec_vcMark, State.hostParam_mark hn hw hv, State.mark_waits hwait, hu]
  · rw [exec_vqRateWindowEnd hup, ← hu]
    exact ⟨rfl, State.rateWindowEnd_spec hn hrun htick hu⟩
  · rw [exec_vqRateWindowEnd hup, State.rateWindowEnd_idle hidle]
  · rw [exec_vcCtlWrite, State.hostParam_vcCtl_loop hn hw hloop hmay]
  · rw [hfit, vcCtlFit_ok hok]
  · have hlt : w < 2 ^ 20 := hfit ▸ vcCtlFit_lt _ _
    have hwrite := State.vcCtlWrite_free hloop hrun
    rw [← hfit, State.writeVcCtl_now hlater hconv hlt, ← ht] at hwrite
    rw [exec_vcCtlWrite, State.hostParam_vcCtl hn hw hwrite, htold]
    exact ⟨rfl, State.applyVcCtl_spec s w hn hlt t ht⟩
  · have hwrite := State.vcCtlWrite_free hloop hrun
    rw [← hfit, ← ht] at hwrite
    rw [exec_vcCtlWrite, State.hostParam_vcCtl hn hw hwrite, htold]
    exact ⟨rfl, State.writeVcCtl_waits hn hconv w t ht⟩
  · rw [exec_vcCtlWrite, State.hostParam_vcCtl hn hw (State.vcCtlWrite_held hloop hrun hfit hen t ht), htold]
  · rw [exec_vcCtlWrite, State.hostParam_delayOfs hn hw, State.delayWrite_now hrun hlater hconv, ← hu]
    exact ⟨rfl, State.applyDelay_spec s v u hu⟩
  · rw [exec_vcCtlWrite, State.hostParam_delayOfs hn hw, ← hu]
    exact ⟨rfl, State.delayWrite_held hn hrun v u hu⟩
  · rw [exec_vcDrainDone hup hn, ← hu]
    exact ⟨rfl, State.vcDrained_spec hn hstop hconv hu⟩
  · rw [exec_vcDrainDone hup hn, State.vcDrained_not hstop]
  · rw [exec_vcIdle hup hn, ← hu]
    exact ⟨rfl, State.vcIdle_spec hactive hlimit hidle hu⟩
  · rw [exec_measureGateEnd hup hm, ← hu]
    exact ⟨rfl, State.measureGate_spec s hm hon f hf u hu⟩

end Sys2Proof.Machine
end

section
/-! The delay lines of the time-stamping units (O42). -/

-- As in the tests: elaborated in parallel, these proofs' thread stacks would exceed the check's memory limit.
set_option Elab.async false

namespace Sys2Proof.Machine

/-! ### The words -/

theorem dllWord_ne {t d : Nat} (h : t ≠ d) : A.VCAL_DLL t ≠ A.VCAL_DLL d := by
  unfold A.VCAL_DLL; omega

/-- The word of a port's link is no DLL's word. -/
theorem linkWord_ne_dllWord (q : Nat) {d : Nat} (hd : d < 8) : (F.MAC_STAT_LINK_UP q).addr ≠ A.VCAL_DLL d := by
  simp only [F.MAC_STAT_LINK_UP, A.MAC_STAT, A.VCAL_DLL]; omega

/-- REASON and LOCKED lie apart. -/
theorem State.locked_put_reason (s : State) (t n : Nat) :
    (s.put (F.VCAL_DLL_REASON t) n).bit (F.VCAL_DLL_LOCKED t) = s.bit (F.VCAL_DLL_LOCKED t) := by
  rw [State.bit, State.bit, State.get_put_apart s (f := F.VCAL_DLL_REASON t) (g := F.VCAL_DLL_LOCKED t) n rfl
    (by decide : 1 + 3 ≤ 32) (Or.inl (by decide : 0 + 1 ≤ 1))]

/-- An event changes no word. -/
theorem State.wordsKept_raise (s : State) (e : EventId) (l : List Nat) : s.wordsKept (s.raise e) l :=
  State.wordsKept_of_regs rfl l

/-- Two fields and an event: no part of the state but the words and the events. -/
theorem State.fieldsAndEvent_frame (s : State) (f g : Fld) (n : Nat) (b : Bool) (e : EventId) :
    ((s.put f n).setBit g b).raise e = { s with
      regs := (((s.put f n).setBit g b).raise e).regs, raised := (((s.put f n).setBit g b).raise e).raised } := rfl

/-! ### A DLL locks (R129) -/

section lock
variable (s : State) {t : Nat}

theorem State.dllLocked_unmet (h : s.bit F.TB_STAT_PLL_LOCK = false ∨ s.bit (F.VCAL_DLL_LOCKED t) = true) :
    s.dllLocked t = s := by
  rw [State.dllLocked, if_neg]
  rintro ⟨-, hpll, hfree⟩
  rcases h with h | h
  · simp [hpll] at h
  · simp [hfree] at h

variable (ht : t < 8) (hpll : s.bit F.TB_STAT_PLL_LOCK = true) (hfree : s.bit (F.VCAL_DLL_LOCKED t) = false)
include ht hpll hfree

theorem State.dllLocked_eq : s.dllLocked t =
    (((s.put (F.VCAL_DLL_LOCKED t) 1).put (F.VCAL_DLL_REASON t) 0).put (F.VCAL_DLL_CODE t) s.freeNat).drawn :=
  if_pos ⟨ht, hpll, hfree⟩

/-- The code that the lock stores leaves the fields below it. -/
theorem State.dllLocked_get {f : Fld} (ha : f.addr = A.VCAL_DLL t) (hf : f.lo + f.width ≤ 16) : (s.dllLocked t).get f =
    ((s.put (F.VCAL_DLL_LOCKED t) 1).put (F.VCAL_DLL_REASON t) 0).get f := by
  rw [s.dllLocked_eq ht hpll hfree, State.get_drawn,
    State.get_put_apart _ (f := F.VCAL_DLL_CODE t) _ ha (by decide : 16 + 8 ≤ 32) (Or.inl hf)]

theorem State.dllLocked_locks : (s.dllLocked t).bit (F.VCAL_DLL_LOCKED t) = true := by
  rw [State.bit, s.dllLocked_get ht hpll hfree rfl (by decide : 0 + 1 ≤ 16), ← State.bit, State.locked_put_reason]
  exact s.bit_setBit_self (F.VCAL_DLL_LOCKED t) true rfl (by decide : 0 < 32)

theorem State.dllLocked_reason : (s.dllLocked t).get (F.VCAL_DLL_REASON t) = 0 := by
  rw [s.dllLocked_get ht hpll hfree rfl (by decide : 1 + 3 ≤ 16)]
  exact State.get_put_self _ _ 0 (by decide : 1 + 3 ≤ 32)

theorem State.dllLocked_words : s.wordsKept (s.dllLocked t) [A.VCAL_DLL t] := by
  rw [s.dllLocked_eq ht hpll hfree]
  exact ((s.wordsKept_put (F.VCAL_DLL_LOCKED t) 1).trans (State.wordsKept_put _ (F.VCAL_DLL_REASON t) 0)).trans
    ((State.wordsKept_put _ (F.VCAL_DLL_CODE t) _).trans (State.wordsKept_of_regs rfl _))

theorem State.dllLocked_frame : (s.dllLocked t).draws = s.draws + 1 ∧
    s.dllLocked t = { s with regs := (s.dllLocked t).regs, draws := (s.dllLocked t).draws } := by
  rw [s.dllLocked_eq ht hpll hfree]
  exact ⟨rfl, rfl⟩

end lock

/-! ### A DLL loses its lock (R131) -/

section lose
variable (s : State) {t : Nat}

theorem State.dllLose_unlocked (h : s.bit (F.VCAL_DLL_LOCKED t) = false) : s.dllLose t = s := by
  simp [State.dllLose, h]

theorem State.dllLose_locked (h : s.bit (F.VCAL_DLL_LOCKED t) = true) : s.dllLose t =
    ((s.put (F.VCAL_DLL_LOCKED t) 0).setBit (F.VCAL_DLL_LOST_SEEN t) true).raise Ev.DLL_UNLOCK := if_pos h

theorem State.dllLose_words (t : Nat) : s.wordsKept (s.dllLose t) [A.VCAL_DLL t] := by
  cases h : s.bit (F.VCAL_DLL_LOCKED t)
  · rw [s.dllLose_unlocked h]
    exact s.wordsKept_refl _
  · rw [s.dllLose_locked h]
    exact ((s.wordsKept_put (F.VCAL_DLL_LOCKED t) 0).trans
      (State.wordsKept_setBit _ (F.VCAL_DLL_LOST_SEEN t) true)).trans (State.wordsKept_raise _ _ _)

theorem State.dllLose_frame (t : Nat) :
    s.dllLose t = { s with regs := (s.dllLose t).regs, raised := (s.dllLose t).raised } := by
  cases h : s.bit (F.VCAL_DLL_LOCKED t)
  · rw [s.dllLose_unlocked h]
  · rw [s.dllLose_locked h]
    exact s.fieldsAndEvent_frame _ _ _ _ _

/-- A lock that was held is noted as lost. -/
theorem State.dllLose_notes (h : s.bit (F.VCAL_DLL_LOCKED t) = true) :
    (s.dllLose t).bit (F.VCAL_DLL_LOST_SEEN t) = true ∧ Ev.DLL_UNLOCK ∈ (s.dllLose t).raised := by
  rw [s.dllLose_locked h, State.bit_raise, State.raised_raise]
  exact ⟨State.bit_setBit_self _ (F.VCAL_DLL_LOST_SEEN t) true rfl (by decide : 8 < 32), by simp⟩

end lose

/-! ### A DLL is made to acquire again (R132) -/

section force
variable (s : State) (d : Nat)

theorem State.dllForce_words : s.wordsKept (s.dllForce d) [A.VCAL_DLL d] := by
  unfold State.dllForce
  split
  · exact (s.wordsKept_put (F.VCAL_DLL_REASON d) calRefused).trans (State.wordsKept_raise _ _ _)
  · exact s.dllLose_words d

theorem State.dllForce_frame :
    s.dllForce d = { s with regs := (s.dllForce d).regs, raised := (s.dllForce d).raised } := by
  unfold State.dllForce
  split
  · rfl
  · exact s.dllLose_frame d

/-- No link comes up or goes down by it. -/
theorem State.link_dllForce {d : Nat} (hd : d < 8) (q : Nat) :
    (s.dllForce d).bit (F.MAC_STAT_LINK_UP q) = s.bit (F.MAC_STAT_LINK_UP q) :=
  (s.dllForce_words d).bit (by simpa using linkWord_ne_dllWord q hd)

/-- A port in service refuses: the TSU keeps its lock. -/
theorem State.dllForce_linked {d : Nat} (h : s.bit (F.MAC_STAT_LINK_UP (d / 2)) = true) :
    (s.dllForce d).get (F.VCAL_DLL_REASON d) = 7 ∧
      (s.dllForce d).bit (F.VCAL_DLL_LOCKED d) = s.bit (F.VCAL_DLL_LOCKED d) := by
  rw [State.dllForce, if_pos h, State.get_raise, State.bit_raise, State.locked_put_reason]
  exact ⟨State.get_put_self _ _ _ (by decide : 1 + 3 ≤ 32), rfl⟩

/-- Another TSU's lock is left alone. -/
theorem State.locked_dllForce (j : Nat) : (s.dllForce d).bit (F.VCAL_DLL_LOCKED j) =
    if j = d ∧ s.bit (F.MAC_STAT_LINK_UP (d / 2)) = false then false else s.bit (F.VCAL_DLL_LOCKED j) := by
  cases h : s.bit (F.MAC_STAT_LINK_UP (d / 2))
  · rw [State.dllForce, h, if_neg (by decide), State.locked_dllLose]
    simp
  · rw [if_neg (by simp)]
    by_cases hj : j = d
    · rw [hj, (s.dllForce_linked h).2]
    · exact (s.dllForce_words d).bit (by simpa [F.VCAL_DLL_LOCKED] using dllWord_ne hj)

end force

/-! ### A write of DLL_CMD -/

theorem mem_setBits {v n t : Nat} : t ∈ setBits v n ↔ t < n ∧ bitOf v t = true := by simp [setBits]

section cmd
variable (s : State) (v : Nat) {t : Nat}

theorem State.dllCmd_words : s.wordsKept (s.dllCmd v) ((List.range 8).map A.VCAL_DLL) :=
  State.each_keeps (P := fun u => s.wordsKept u ((List.range 8).map A.VCAL_DLL))
    (fun d hd u hu => hu.trans ((u.dllForce_words d).mono (by simpa using ⟨d, (mem_setBits.1 hd).1, rfl⟩)))
    (s.wordsKept_refl _)

theorem State.link_dllCmd (q : Nat) : (s.dllCmd v).bit (F.MAC_STAT_LINK_UP q) = s.bit (F.MAC_STAT_LINK_UP q) :=
  (s.dllCmd_words v).bit (by simpa using fun d hd => (linkWord_ne_dllWord q hd).symm)

theorem State.dllCmd_frame : s.dllCmd v = { s with regs := (s.dllCmd v).regs, raised := (s.dllCmd v).raised } :=
  State.each_keeps (P := fun u => u = { s with regs := u.regs, raised := u.raised })
    (fun d _ u hu => (u.dllForce_frame d).trans (by rw [hu])) rfl

theorem State.dllCmd_unnamed (h : bitOf v t = false) : (s.dllCmd v).val (A.VCAL_DLL t) = s.val (A.VCAL_DLL t) := by
  refine State.each_keeps (P := fun u => u.val (A.VCAL_DLL t) = s.val (A.VCAL_DLL t)) (fun d hd u hu => ?_) rfl
  have hne : t ≠ d := fun e => by simp [← e, mem_setBits, h] at hd
  rw [(u.dllForce_words d).val (by simpa using dllWord_ne hne), hu]

/-- The lock of a TSU whose port is in service stays, named or not. -/
theorem State.dllCmd_keepsLock (hl : s.bit (F.MAC_STAT_LINK_UP (t / 2)) = true) :
    (s.dllCmd v).bit (F.VCAL_DLL_LOCKED t) = s.bit (F.VCAL_DLL_LOCKED t) := by
  refine (State.each_keeps (P := fun u => u.bit (F.MAC_STAT_LINK_UP (t / 2)) = true ∧
    u.bit (F.VCAL_DLL_LOCKED t) = s.bit (F.VCAL_DLL_LOCKED t)) (fun d hd u ⟨hlink, hlock⟩ => ?_) ⟨hl, rfl⟩).2
  rw [u.link_dllForce (mem_setBits.1 hd).1, u.locked_dllForce, if_neg]
  · exact ⟨hlink, hlock⟩
  · rintro ⟨rfl, hdown⟩
    simp [hlink] at hdown

variable (ht : t < 8) (h : bitOf v t = true)
include ht h

/-- A TSU named whose port has no link loses its lock. -/
theorem State.dllCmd_unlocks (hl : s.bit (F.MAC_STAT_LINK_UP (t / 2)) = false) :
    (s.dllCmd v).bit (F.VCAL_DLL_LOCKED t) = false := by
  refine State.each_reaches (P := fun u => u.bit (F.MAC_STAT_LINK_UP (t / 2)) = false →
    u.bit (F.VCAL_DLL_LOCKED t) = false) (mem_setBits.2 ⟨ht, h⟩) (fun u hu => ?_) (fun d hd u hu hdown => ?_) s
    ((s.link_dllCmd v _).trans hl)
  · rw [u.link_dllForce ht] at hu
    rw [u.locked_dllForce, if_pos ⟨rfl, hu⟩]
  · rw [u.link_dllForce (mem_setBits.1 hd).1] at hdown
    rw [u.locked_dllForce, hu hdown, ite_self]

/-- A TSU named whose port is in service reports REFUSED. -/
theorem State.dllCmd_refuses (hl : s.bit (F.MAC_STAT_LINK_UP (t / 2)) = true) :
    (s.dllCmd v).get (F.VCAL_DLL_REASON t) = 7 := by
  refine State.each_reaches (P := fun u => u.bit (F.MAC_STAT_LINK_UP (t / 2)) = true →
    u.get (F.VCAL_DLL_REASON t) = 7) (mem_setBits.2 ⟨ht, h⟩) (fun u hu => ?_) (fun d hd u hu hup => ?_) s
    ((s.link_dllCmd v _).trans hl)
  · rw [u.link_dllForce ht] at hu
    exact (u.dllForce_linked hu).1
  · rw [u.link_dllForce (mem_setBits.1 hd).1] at hup
    by_cases htd : t = d
    · subst htd
      exact (u.dllForce_linked hup).1
    · rw [(u.dllForce_words d).get (by simpa [F.VCAL_DLL_REASON] using dllWord_ne htd), hu hup]

end cmd

/-! ### The commands -/

theorem State.hostParam_dllCmd {s : State} {p : HostPort} {v : Word} (hw : s.mayWrite p A.VCAL_DLL_CMD = true) :
    s.hostParam p A.VCAL_DLL_CMD v = (s.dllCmd v.toNat).written p A.VCAL_DLL_CMD v :=
  State.hostParam_ruled hw (by decide) rfl

theorem exec_dllReacquire (s : State) (p : HostPort) (v : Word) :
    exec (.dllReacquire p v) s = .next (s.after (s.hostParam p A.VCAL_DLL_CMD v)) := rfl

section instructions
variable {s : State} {t : Nat} (hup : s.up .time = true) (ht : t < 8)
include hup ht

theorem exec_dllLocked : exec (.dllLocked t) s = .next (s.after (s.dllLocked t)) :=
  happen_inside hup (decide_eq_true ht) (fun s => s.dllLocked t)

theorem exec_dllUnlock : exec (.dllUnlock t) s = .next (s.after (s.dllLose t)) :=
  happen_inside hup (decide_eq_true ht) (fun s => s.dllLose t)

end instructions

/-- Settles O42: what a lock, a loss and a forced acquisition do, each by the rule of its own effect. That a new lock
puts REASON back to 0, over REFUSED too, is the model's choice (log 95). -/
theorem dllsLockAndLose : Obligations.DllsLockAndLose := by
  intro s t hup ht
  refine ⟨fun hpll hfree u hu => ?_, fun h => ?_, fun hlock u hu => ?_, fun hfree => ?_, fun p v hw u hu => ?_⟩
  · subst hu
    obtain ⟨hdraws, hframe⟩ := s.dllLocked_frame ht hpll hfree
    exact ⟨exec_dllLocked hup ht, s.dllLocked_locks ht hpll hfree, s.dllLocked_reason ht hpll hfree, hdraws,
      s.dllLocked_words ht hpll hfree, hframe⟩
  · rw [exec_dllLocked hup ht, s.dllLocked_unmet h]
  · subst hu
    obtain ⟨hseen, hraised⟩ := s.dllLose_notes hlock
    exact ⟨exec_dllUnlock hup ht, by rw [s.locked_dllLose, if_pos rfl], hseen, hraised, s.dllLose_words t,
      s.dllLose_frame t⟩
  · rw [exec_dllUnlock hup ht, s.dllLose_unlocked hfree]
  · subst hu
    exact ⟨by rw [exec_dllReacquire, State.hostParam_dllCmd hw], s.dllCmd_unnamed _, s.dllCmd_unlocks _ ht,
      fun hbit hl => ⟨s.dllCmd_refuses _ ht hbit hl, s.dllCmd_keepsLock _ hl⟩, s.dllCmd_words _, s.dllCmd_frame _⟩

end Sys2Proof.Machine
end

section
/-! SUPPORT. The reference manager: what its operations touch, and what a field of a word reads after another field of
that word has been written (R144 to R185). -/

-- As in the tests: elaborated in parallel, these proofs' thread stacks would exceed the check's memory limit.
set_option Elab.async false

namespace Sys2Proof.Machine

/-! ### Fields of one word -/

/-- A field write leaves a field of the same word that lies beside it. -/
theorem State.get_put_beside (s : State) (a lo w x : Nat) {i k : Nat} (h : i + k ≤ lo ∨ lo + w ≤ i := by decide)
    (hw : lo + w ≤ 32 := by decide) : (s.put ⟨a, lo, w⟩ x).get ⟨a, i, k⟩ = s.get ⟨a, i, k⟩ :=
  State.get_put_apart s (f := ⟨a, lo, w⟩) (g := ⟨a, i, k⟩) x rfl hw h

theorem State.bit_put_beside (s : State) (a lo w x : Nat) {i k : Nat} (h : i + k ≤ lo ∨ lo + w ≤ i := by decide)
    (hw : lo + w ≤ 32 := by decide) : (s.put ⟨a, lo, w⟩ x).bit ⟨a, i, k⟩ = s.bit ⟨a, i, k⟩ := by
  rw [State.bit, State.bit, s.get_put_beside a lo w x h hw]

/-- A one-bit field that is written 0 or 1. -/
theorem State.bit_put_one (s : State) (a lo x : Nat) (hw : lo < 32 := by decide) :
    (s.put ⟨a, lo, 1⟩ x).bit ⟨a, lo, 1⟩ = (x % 2 != 0) := by
  exact congrArg (· != 0) (State.get_put_self s ⟨a, lo, 1⟩ x (Nat.succ_le_of_lt hw))

@[simp] theorem State.slot_put (s : State) (f : Fld) (x m : Nat) : (s.put f x).slot m = s.slot m := rfl
@[simp] theorem State.slot_setBit (s : State) (f : Fld) (b : Bool) (m : Nat) : (s.setBit f b).slot m = s.slot m := rfl
@[simp] theorem State.slot_raise (s : State) (e : EventId) (m : Nat) : (s.raise e).slot m = s.slot m := rfl

/-! ### The reach of an operation of REFM -/

/-- `u` follows `s` by an operation of the reference manager that writes only the listed words; every event raised stays
raised, and a quiet one raises none. -/
structure State.RefStep (s u : State) (words : List Nat) (quiet : Bool) : Prop where
  words : s.wordsKept u words
  raised : s.raised ⊆ u.raised
  still : quiet = true → u.raised = s.raised
  frame : u = { s with regs := u.regs, raised := u.raised, refm := u.refm }

namespace State.RefStep
variable {s t u : State} {words : List Nat} {quiet : Bool}

theorem refl (s : State) (words : List Nat) (quiet : Bool) : s.RefStep s words quiet :=
  ⟨s.wordsKept_refl _, List.Subset.refl _, fun _ => rfl, rfl⟩

theorem trans (h : s.RefStep t words quiet) (h' : t.RefStep u words quiet) : s.RefStep u words quiet :=
  ⟨h.words.trans h'.words, List.Subset.trans h.raised h'.raised, fun hq => (h'.still hq).trans (h.still hq), by
    rw [h'.frame, h.frame]⟩

theorem setVal (h : s.RefStep t words quiet) (a n : Nat) (ha : a ∈ words := by exact .head _) :
    s.RefStep (t.setVal a n) words quiet :=
  h.trans ⟨(t.wordsKept_setVal a n).mono (by simpa using ha), List.Subset.refl _, fun _ => rfl, rfl⟩

theorem put (h : s.RefStep t words quiet) (f : Fld) (n : Nat) (ha : f.addr ∈ words := by exact .head _) :
    s.RefStep (t.put f n) words quiet := h.setVal f.addr _ ha

theorem setBit (h : s.RefStep t words quiet) (f : Fld) (b : Bool) (ha : f.addr ∈ words := by exact .head _) :
    s.RefStep (t.setBit f b) words quiet := h.put f _ ha

theorem count (h : s.RefStep t words quiet) (f : Fld) (k : Nat) (ha : f.addr ∈ words := by exact .head _) :
    s.RefStep (t.count f k) words quiet := h.put f _ ha

theorem withRef (h : s.RefStep t words quiet) (x : RefmState) : s.RefStep { t with refm := x } words quiet :=
  h.trans ⟨State.wordsKept_of_regs rfl _, List.Subset.refl _, fun _ => rfl, rfl⟩

theorem setSlot (h : s.RefStep t words quiet) (n : Nat) (x : RefSlot) : s.RefStep (t.setSlot n x) words quiet :=
  h.withRef _

theorem setUart (h : s.RefStep t words quiet) (g : Nat) (x : Uart) : s.RefStep (t.setUart g x) words quiet :=
  h.withRef _

theorem raise (h : s.RefStep t words false) (e : EventId) : s.RefStep (t.raise e) words false :=
  h.trans ⟨t.wordsKept_raise e _, List.subset_append_left _ _, nofun, rfl⟩

theorem each {α : Type} {l : List α} {f : α → State → State} (h : s.RefStep t words quiet)
    (hf : ∀ a ∈ l, ∀ u, s.RefStep u words quiet → s.RefStep (f a u) words quiet) :
    s.RefStep (t.each l f) words quiet :=
  State.each_keeps (P := fun u => s.RefStep u words quiet) hf h

/-- A quiet step: the words and the hidden state of REFM alone. -/
theorem quietFrame (h : s.RefStep u words true) : u = { s with regs := u.regs, refm := u.refm } := by
  rw [h.frame, h.still rfl]

end State.RefStep

end Sys2Proof.Machine
end

section
/-! The slots' losses and verdicts, and the sentences of the UARTs (O43). -/

-- As in the tests: elaborated in parallel, these proofs' thread stacks would exceed the check's memory limit.
set_option Elab.async false

namespace Sys2Proof.Machine

/-! ### Loss of signal (R148 to R150) -/

section loss
variable (s : State) (n : Nat)

/-- A QUALIFIED slot that is lost counts a fault. -/
def State.faultCounted : State :=
  if s.slotState n = slotQualified then s.count (wordFld (A.REFM_Sn_FAULTS n)) 1 else s

/-- The marks of a loss in the slot's STAT. -/
def State.lossMarked (x : RefSlot) : State :=
  ((((s.faultCounted n).setSlot n x).put (F.REFM_Sn_STAT_STATE n) slotAcquiring).put (F.REFM_Sn_STAT_WTR_RUN n) 0).setBit
    (F.REFM_Sn_STAT_LOS_SEEN n) true

/-- The loss of a slot, but for the level at which its pin is stuck. -/
def State.slotLost (x y : RefSlot) : State := ((s.lossMarked n x).raise Ev.REF_LOS).setSlot n y

theorem State.faultCounted_val : (s.faultCounted n).val (A.REFM_Sn_FAULTS n) =
    if s.slotState n = 2 then (s.val (A.REFM_Sn_FAULTS n) + 1) % 2 ^ 32 else s.val (A.REFM_Sn_FAULTS n) := by
  unfold State.faultCounted
  split
  · next h => exact (s.val_count_word _ 1).trans (if_pos h).symm
  · next h => exact (if_neg h).symm

theorem State.faultCounted_step : s.RefStep (s.faultCounted n) [A.REFM_Sn_STAT n, A.REFM_Sn_FAULTS n] false := by
  unfold State.faultCounted
  split
  · exact (State.RefStep.refl s _ _).count _ 1 (.tail _ (.head _))
  · exact .refl _ _ _

/-- A slot is lost and its timer stands; one whose pin has not moved is stuck at its level besides. -/
theorem State.lossOfSignal_cases : ∃ x y, y.losArmed = false ∧ (s.lossOfSignal n = s.slotLost n x y ∨
    ∃ k, s.lossOfSignal n =
      ((s.slotLost n x y).setBit (F.REFM_Sn_STAT_STUCK_SEEN n) true).put (F.REFM_Sn_STAT_STUCK_LVL n) k) := by
  unfold State.lossOfSignal
  dsimp only
  split
  · exact ⟨_, _, rfl, .inr ⟨_, rfl⟩⟩
  · exact ⟨_, _, rfl, .inl rfl⟩

theorem State.slotLost_val (x y : RefSlot) (a : Nat) : (s.slotLost n x y).val a = (s.lossMarked n x).val a := by
  rw [State.slotLost, State.val_setSlot, State.val_raise]

theorem State.slotLost_get (x y : RefSlot) (f : Fld) : (s.slotLost n x y).get f = (s.lossMarked n x).get f :=
  congrArg (bitsAt · f.lo f.width) (s.slotLost_val n x y f.addr)

theorem State.slotLost_step (x y : RefSlot) :
    s.RefStep (s.slotLost n x y) [A.REFM_Sn_STAT n, A.REFM_Sn_FAULTS n] false :=
  ((((((s.faultCounted_step n).setSlot n x).put (F.REFM_Sn_STAT_STATE n) _).put (F.REFM_Sn_STAT_WTR_RUN n)
    0).setBit (F.REFM_Sn_STAT_LOS_SEEN n) true).raise _).setSlot n y

theorem State.lossOfSignal_step : s.RefStep (s.lossOfSignal n) [A.REFM_Sn_STAT n, A.REFM_Sn_FAULTS n] false := by
  obtain ⟨x, y, -, h | ⟨k, h⟩⟩ := s.lossOfSignal_cases n <;> rw [h]
  · exact s.slotLost_step n x y
  · exact ((s.slotLost_step n x y).setBit (F.REFM_Sn_STAT_STUCK_SEEN n) true).put (F.REFM_Sn_STAT_STUCK_LVL n) k

/-- The bits of a stuck pin, 10 and 17 of STAT, lie apart from the marks. -/
theorem State.lossOfSignal_get : ∃ x, ∀ i w, (i + w ≤ 10 ∨ 10 + 1 ≤ i) → (i + w ≤ 17 ∨ 17 + 1 ≤ i) →
    (s.lossOfSignal n).get ⟨A.REFM_Sn_STAT n, i, w⟩ = (s.lossMarked n x).get ⟨A.REFM_Sn_STAT n, i, w⟩ := by
  obtain ⟨x, y, -, h⟩ := s.lossOfSignal_cases n
  refine ⟨x, fun i w h10 h17 => ?_⟩
  rw [← s.slotLost_get n x y]
  rcases h with h | ⟨k, h⟩ <;> rw [h]
  exact (State.get_put_beside _ _ 10 1 k h10).trans (State.get_put_beside _ _ 17 1 _ h17)

theorem State.lossOfSignal_state : (s.lossOfSignal n).slotState n = 1 := by
  obtain ⟨x, hx⟩ := s.lossOfSignal_get n
  refine (hx 0 2 (by decide) (by decide)).trans ?_
  exact (State.get_put_beside _ _ 16 1 _).trans <| (State.get_put_beside _ _ 4 1 _).trans <|
    State.get_put_self _ (F.REFM_Sn_STAT_STATE n) slotAcquiring (by decide : 0 + 2 ≤ 32)

theorem State.lossOfSignal_wtr : (s.lossOfSignal n).bit (F.REFM_Sn_STAT_WTR_RUN n) = false := by
  obtain ⟨x, hx⟩ := s.lossOfSignal_get n
  refine (congrArg (· != 0) (hx 4 1 (by decide) (by decide))).trans ?_
  exact (State.bit_put_beside _ _ 16 1 _).trans (State.bit_put_one _ _ 4 0)

theorem State.lossOfSignal_seen : (s.lossOfSignal n).bit (F.REFM_Sn_STAT_LOS_SEEN n) = true := by
  obtain ⟨x, hx⟩ := s.lossOfSignal_get n
  exact (congrArg (· != 0) (hx 16 1 (by decide) (by decide))).trans (State.bit_put_one _ _ 16 1)

theorem State.lossOfSignal_raises : Ev.REF_LOS ∈ (s.lossOfSignal n).raised := by
  obtain ⟨x, y, -, h | ⟨k, h⟩⟩ := s.lossOfSignal_cases n <;> rw [h] <;>
    exact List.mem_append_right _ (List.mem_singleton_self _)

theorem State.lossOfSignal_faults : (s.lossOfSignal n).val (A.REFM_Sn_FAULTS n) =
    if s.slotState n = 2 then (s.val (A.REFM_Sn_FAULTS n) + 1) % 2 ^ 32 else s.val (A.REFM_Sn_FAULTS n) := by
  have hput : ∀ (t : State) (lo w k : Nat), (t.put ⟨A.REFM_Sn_STAT n, lo, w⟩ k).val (A.REFM_Sn_FAULTS n) =
      t.val (A.REFM_Sn_FAULTS n) := fun t lo w k =>
    t.val_setVal_ne (by simp [A.REFM_Sn_FAULTS, A.REFM_Sn_STAT]) _
  have hmarked : ∀ x, (s.lossMarked n x).val (A.REFM_Sn_FAULTS n) = (s.faultCounted n).val (A.REFM_Sn_FAULTS n) :=
    fun x => (hput _ 16 1 1).trans ((hput _ 4 1 0).trans (hput _ 0 2 1))
  obtain ⟨x, y, -, h⟩ := s.lossOfSignal_cases n
  rw [← s.faultCounted_val, ← hmarked x, ← s.slotLost_val n x y]
  rcases h with h | ⟨k, h⟩ <;> rw [h]
  exact (hput _ 10 1 k).trans (hput _ 17 1 1)

variable {n}

theorem State.lossOfSignal_slots (hn : n < 12) : ((s.lossOfSignal n).slot n).losArmed = false ∧
    ∀ m, m ≠ n → (s.lossOfSignal n).slot m = s.slot m := by
  have hfault : ∀ m, (s.faultCounted n).slot m = s.slot m := fun m => by unfold State.faultCounted; split <;> rfl
  obtain ⟨x, y, hy, h⟩ := s.lossOfSignal_cases n
  have hlost : ∀ m, (s.lossOfSignal n).slot m = if m = n then y else s.slot m := fun m => by
    have hmarked : (s.lossMarked n x).slot m = if m = n then x else s.slot m := by
      rw [State.lossMarked, State.slot_setBit, State.slot_put, State.slot_put, State.slot_setSlot _ hn, hfault]
    trans (s.slotLost n x y).slot m
    · rcases h with h | ⟨k, h⟩ <;> rw [h]
      rw [State.slot_put, State.slot_setBit]
    · rw [State.slotLost, State.slot_setSlot _ hn, State.slot_raise, hmarked]
      split_ifs <;> rfl
  exact ⟨by rw [hlost, if_pos rfl, hy], fun m hm => by rw [hlost, if_neg hm]⟩

end loss

/-! ### Which losses count (R149, R150) -/

section armed
variable {s : State} {n : Nat}

theorem State.pinLoss_idle (h : s.bit (F.REFM_Sn_CTL_EN n) = false ∨ (s.slot n).losArmed = false) :
    s.pinLoss n = s := by
  rcases h with h | h <;> simp [State.pinLoss, h]

theorem State.netLoss_idle (h : s.bit (F.REFM_Sn_CTL_EN n) = false ∨ (s.slot n).losArmed = false) :
    s.netLoss n = s := by
  rcases h with h | h <;> simp [State.netLoss, h]

theorem State.pinLoss_armed (hn : n < 8) (hen : s.bit (F.REFM_Sn_CTL_EN n) = true)
    (harmed : (s.slot n).losArmed = true) : s.pinLoss n = s.lossOfSignal n := if_pos ⟨hn, hen, harmed⟩

theorem State.netLoss_armed (hup : s.up .time = true) (hen : s.bit (F.REFM_Sn_CTL_EN n) = true)
    (harmed : (s.slot n).losArmed = true) : s.netLoss n = s.lossOfSignal n := if_pos ⟨hup, hen, harmed⟩

end armed

/-! ### Verdicts and the wait to restore (R161, R163, R166) -/

section verdicts
variable {s : State} {n : Nat}

/-- Without a verdict, a slot whose verdicts count is UNKNOWN, and so is one that is OFF. -/
theorem State.integOf_unknown (hen : s.bit (F.REFM_Sn_CTL_INTEG_EN n) = true) (hjob : (s.slot n).job = 3) :
    s.integOf n = 3 := by
  by_cases hoff : s.slotState n = slotOff
  · exact if_pos hoff
  · simp [State.integOf, hoff, hen, hjob]

theorem State.wtrExpired_running (h : s.bit (F.REFM_Sn_STAT_WTR_RUN n) = true) :
    s.wtrExpired n = s.put (F.REFM_Sn_STAT_WTR_RUN n) 0 := if_pos h

variable (h : s.bit (F.REFM_Sn_STAT_WTR_RUN n) = false)
include h

theorem State.wtrExpired_stays (hno : s.bit F.REFM_CTL_REVERT = false ∨ s.eligible n = false) : s.wtrExpired n = s := by
  rcases hno with hno | hno <;> simp [State.wtrExpired, h, hno]

theorem State.wtrExpired_reverts (hrev : s.bit F.REFM_CTL_REVERT = true) (hel : s.eligible n = true)
    (hmem : s.selSlot ∈ s.ladder) (hsel : s.selSlot < 12) (hrung : s.ladder.idxOf n < s.ladder.idxOf s.selSlot)
    (hpend : s.get F.REFM_SEL_NOW_PENDING ≠ n) : s.wtrExpired n = s.switchTo n false := by
  rw [State.wtrExpired, if_neg (by simp [h])]
  exact if_pos ⟨hrev, hel, by omega, hmem, hrung, hpend⟩

end verdicts

/-! ### Sentences (R155 to R160) -/

section sentences
variable {s : State} {g : Nat} {line : List Nat}

theorem State.nmea_off (hoff : s.bit (F.REFM_GRXg_CTL_EN g) = false) : s.nmea g line = s := if_pos hoff

variable (hon : s.bit (F.REFM_GRXg_CTL_EN g) = true)
include hon

theorem State.nmea_broken (h : nmeaFields line (s.bit (F.REFM_GRXg_CTL_REQ_CSUM g)) = none) :
    s.nmea g line = s.count (wordFld (A.REFM_GRXg_ERR g)) 1 := by
  rw [State.nmea, if_neg (by simp [hon]), h]

variable {fs : List (List Nat)} (hfs : nmeaFields line (s.bit (F.REFM_GRXg_CTL_REQ_CSUM g)) = some fs)
include hfs

theorem State.nmea_unknown (hname : fs.getD 0 [] ≠ [80, 77, 81, 83, 84]) (h : knownType (fs.getD 0 []) = false) :
    s.nmea g line = s.count (wordFld (A.REFM_GRXg_IGNORED g)) 1 := by
  simp only [State.nmea, hon, hfs, hname, h, Bool.true_eq_false, Bool.false_eq_true, if_false]

theorem State.nmea_standard (hname : fs.getD 0 [] ≠ [80, 77, 81, 83, 84]) (h : knownType (fs.getD 0 []) = true) :
    s.nmea g line = (s.standardSentence g fs).count (wordFld (A.REFM_GRXg_GOOD g)) 1 := by
  simp only [State.nmea, hon, hfs, hname, h, Bool.true_eq_false, if_false, if_true]

variable (hname : fs.getD 0 [] = [80, 77, 81, 83, 84])
include hname

theorem State.nmea_illFormed (h : pmqst fs = none) :
    s.nmea g line = s.count (wordFld (A.REFM_GRXg_IGNORED g)) 1 := by
  simp only [State.nmea, hon, hfs, hname, h, Bool.true_eq_false, if_false, if_true]

theorem State.nmea_stated {x : Pmqst} (h : pmqst fs = some x) : s.nmea g line =
    (s.setUart g { s.refm.uarts.getD g {} with pmqst := some x }).count (wordFld (A.REFM_GRXg_GOOD g)) 1 := by
  simp only [State.nmea, hon, hfs, hname, h, Bool.true_eq_false, if_false, if_true]

end sentences

/-- The words that a standard sentence on UART `g` may write besides its counter: the satellites in view, and STAT and IQ
of the PIN slots. -/
def sentenceWords (g : Nat) : List Nat :=
  A.REFM_GRXg_GSV g :: ((List.range 8).map A.REFM_Sn_STAT ++ (List.range 8).map A.REFM_Sn_IQ)

theorem stat_mem_sentenceWords {n : Nat} (hn : n < 8) (g : Nat) : A.REFM_Sn_STAT n ∈ sentenceWords g :=
  List.mem_cons_of_mem _ (List.mem_append_left _ (List.mem_map_of_mem (List.mem_range.2 hn)))

theorem iq_mem_sentenceWords {n : Nat} (hn : n < 8) (g : Nat) : A.REFM_Sn_IQ n ∈ sentenceWords g :=
  List.mem_cons_of_mem _ (List.mem_append_right _ (List.mem_map_of_mem (List.mem_range.2 hn)))

/-- The counter of good sentences is none of these words, and they all lie in bank REFM. -/
theorem sentenceWords_bank {g : Nat} (hg : g < 2) {a : Nat} (ha : a ∈ sentenceWords g) :
    a / 256 = 8 ∧ a ≠ A.REFM_GRXg_GOOD g := by
  simp only [sentenceWords, List.mem_cons, List.mem_append, List.mem_map, List.mem_range, A.REFM_GRXg_GSV,
    A.REFM_Sn_STAT, A.REFM_Sn_IQ, A.REFM_GRXg_GOOD] at ha ⊢
  rcases ha with rfl | ⟨n, hn, rfl⟩ | ⟨n, hn, rfl⟩ <;> omega

theorem State.mem_uartSlots {s : State} {g n : Nat} (h : n ∈ s.uartSlots g) : n < 8 :=
  List.mem_range.1 (List.mem_of_mem_filter h)

namespace State.RefStep
variable {s t : State} {g : Nat}

/-- A label touches TOD_VALID and TOD_SEEN of its slot. -/
theorem labelled (h : s.RefStep t (sentenceWords g) true) {n : Nat} (hn : n < 8) (e l : Int) :
    s.RefStep (t.labelled n e l) (sentenceWords g) true := by
  have hstat := stat_mem_sentenceWords hn g
  unfold State.labelled
  dsimp only
  split_ifs
  · exact h
  · exact (h.setSlot n _).put (F.REFM_Sn_STAT_TOD_VALID n) 1 hstat
  · exact h.setSlot n _
  · exact ((h.setSlot n _).put (F.REFM_Sn_STAT_TOD_VALID n) 0 hstat).setBit (F.REFM_Sn_STAT_TOD_SEEN n) true hstat
  · exact h.setSlot n _

theorem timeOfDay (h : s.RefStep t (sentenceWords g) true) (utc : Int) (leap : Bool) :
    s.RefStep (t.timeOfDay g utc leap) (sentenceWords g) true := by
  unfold State.timeOfDay
  refine RefStep.each ?_ fun n hn u hu => ?_
  · split
    · exact h
    · exact h.setUart g _
  · have hn8 : n < 8 := State.mem_uartSlots hn
    split
    · exact hu
    · split
      · exact hu.setSlot n _
      · split
        · exact hu
        · exact hu.labelled hn8 _ _

theorem standardSentence (h : s.RefStep t (sentenceWords g) true) (fs : List (List Nat)) :
    s.RefStep (t.standardSentence g fs) (sentenceWords g) true := by
  unfold State.standardSentence
  extract_lets u name _ _ _ _ _ _ s1
  have h1 : s.RefStep s1 (sentenceWords g) true := by
    unfold s1
    split
    · exact h.setUart g _
    · split
      · exact (h.setUart g _).each fun n hn u hu =>
          hu.put (F.REFM_Sn_IQ_RAW n) _ (iq_mem_sentenceWords (State.mem_uartSlots hn) g)
      · split
        · exact h.setUart g _
        · split
          · exact h.setVal (A.REFM_GRXg_GSV g) _
          · exact h
  split
  · exact h1
  · exact h1.timeOfDay _ _

end State.RefStep

/-- A standard sentence counts one more good one, and leaves every other bank. -/
theorem State.standardSentence_spec (s : State) {g : Nat} (hg : g < 2) (fs : List (List Nat)) {u : State}
    (hu : u = (s.standardSentence g fs).count (wordFld (A.REFM_GRXg_GOOD g)) 1) :
    u.val (A.REFM_GRXg_GOOD g) = (s.val (A.REFM_GRXg_GOOD g) + 1) % 2 ^ 32 ∧ s.banksKept u [8] ∧
      u = { s with regs := u.regs, refm := u.refm } := by
  have hstep := (State.RefStep.refl s (sentenceWords g) true).standardSentence fs
  have hgood : (s.standardSentence g fs).val (A.REFM_GRXg_GOOD g) = s.val (A.REFM_GRXg_GOOD g) :=
    hstep.words.val fun hm => (sentenceWords_bank hg hm).2 rfl
  have hcount := (State.RefStep.refl (s.standardSentence g fs) [A.REFM_GRXg_GOOD g] true).count
    (wordFld (A.REFM_GRXg_GOOD g)) 1
  subst hu
  refine ⟨by rw [State.val_count_word, hgood], fun a ha => ?_, by rw [hcount.quietFrame, hstep.quietFrame]⟩
  have hbank : a / 256 ≠ 8 := by simpa using ha
  refine (hcount.words a fun hm => hbank ?_).trans (hstep.words a fun hm => hbank (sentenceWords_bank hg hm).1)
  rw [List.mem_singleton.1 hm, A.REFM_GRXg_GOOD]
  omega

/-- A $PMQST in range becomes the UART's statement, and counts. -/
theorem State.statement_spec (s : State) {g : Nat} (hg : g < 2) (x : Pmqst) {u : State}
    (hu : u = (s.setUart g { s.refm.uarts.getD g {} with pmqst := some x }).count (wordFld (A.REFM_GRXg_GOOD g)) 1) :
    (u.refm.uarts.getD g {}).pmqst = some x ∧
      u.val (A.REFM_GRXg_GOOD g) = (s.val (A.REFM_GRXg_GOOD g) + 1) % 2 ^ 32 ∧
      s.wordsKept u [A.REFM_GRXg_GOOD g] ∧ u = { s with regs := u.regs, refm := u.refm } := by
  have hstep := ((State.RefStep.refl s [A.REFM_GRXg_GOOD g] true).setUart g
    { s.refm.uarts.getD g {} with pmqst := some x }).count (wordFld (A.REFM_GRXg_GOOD g)) 1
  subst hu
  refine ⟨?_, State.val_count_word _ _ 1, hstep.words, hstep.quietFrame⟩
  rw [State.count_refm, State.uart_setUart s hg, if_pos rfl]

/-! ### The commands -/

section commands
variable {s : State} (hup : s.up .time = true)
include hup

theorem exec_refLos {n : Nat} (hn : n < 8) : exec (.refLos n) s = .next (s.after (s.pinLoss n)) :=
  happen_inside hup (decide_eq_true hn) (fun s => s.pinLoss n)

theorem exec_netSyncTimeout {n : Nat} (h8 : 8 ≤ n) (hn : n ≤ 11) :
    exec (.netSyncTimeout n) s = .next (s.after (s.netLoss n)) :=
  happen_inside hup (by simp [Machine.within, h8, hn]) (fun s => s.netLoss n)

theorem exec_esmcTimeout {n : Nat} (h8 : 8 ≤ n) (hn : n ≤ 11) :
    exec (.esmcTimeout n) s = .next (s.after (s.put (F.REFM_Sn_IQ_SYNCE_QL n) 15)) :=
  happen_inside hup (by simp [Machine.within, h8, hn]) (fun s => s.put (F.REFM_Sn_IQ_SYNCE_QL n) 15)

theorem exec_integVerdictTimeout {n : Nat} (hn : n < 12) :
    exec (.integVerdictTimeout n) s = .next (s.after (s.setSlot n { s.slot n with job := 3 })) :=
  happen_inside hup (decide_eq_true hn) (fun s => s.setSlot n { s.slot n with job := 3 })

theorem exec_wtrExpired {n : Nat} (hn : n < 12) : exec (.wtrExpired n) s = .next (s.after (s.wtrExpired n)) :=
  happen_inside hup (decide_eq_true hn) (fun s => s.wtrExpired n)

theorem exec_nmeaSentence {g : Nat} (hg : g < 2) (hpin : s.pwr.vioH.isSome = true) (line : List Nat) :
    exec (.nmeaSentence g line) s = .next (s.after (s.nmea g line)) :=
  happen_inside hup (by simp [hg, hpin]) (fun s => s.nmea g line)

theorem exec_nmeaVerdictExpired {g : Nat} (hg : g < 2) (k : Nat) :
    exec (.nmeaVerdictExpired g k) s = .next (s.after (s.setUart g ((s.refm.uarts.getD g {}).expire k))) :=
  happen_inside hup (decide_eq_true hg) (fun s => s.setUart g ((s.refm.uarts.getD g {}).expire k))

end commands

/-- A pin without its bank hears nothing (R791). -/
theorem exec_nmeaSentence_dead {s : State} (hpin : s.pwr.vioH = none) (g : Nat) (line : List Nat) :
    exec (.nmeaSentence g line) s = .next (s.after s) := by
  have hok : (decide (g < 2) && s.pwr.vioH.isSome) = false := by simp [hpin]
  have hstill : s.inside .time (decide (g < 2) && s.pwr.vioH.isSome) (fun s => s.nmea g line) = s := by
    rw [hok, State.inside_unmet]
  exact congrArg (fun u => Host.Outcome.next (s.after u)) hstill

/-- Settles O43: a loss marks its slot alone, each verdict and wait ends by its own rule, and a sentence writes its UART's
words and its slots'. That WTR_EXPIRED of a slot that does not wait is R166's second wait, and that a sentence comes without
its line end, are the model's readings (log 29, 32). -/
theorem slotsLoseAndRestore : Obligations.SlotsLoseAndRestore := by
  intro s hup
  refine ⟨fun n hn u hu => ⟨fun hen harmed => ?_, fun hidle => ?_⟩, fun n h8 hn => exec_esmcTimeout hup h8 hn,
    fun n hn u hu => ?_, fun n hn hrun => ?_, fun n hn hrun hno => ?_, fun n hn hrun hrev hel hmem hsel hrung hpend => ?_,
    fun g line hg => ⟨fun hdead => ?_, fun hon hpin hfs => ?_, fun hon hpin fs hfs hname hun => ?_,
      fun hon hpin fs hfs hname hknown u hu => ?_, fun hon hpin fs hfs hname => ⟨fun hill => ?_, fun x hx u hu => ?_⟩,
      fun k u hu => ?_⟩⟩
  · subst hu
    have hstep := s.lossOfSignal_step n
    obtain ⟨hoff, hothers⟩ := s.lossOfSignal_slots hn
    exact ⟨fun h8 => by rw [exec_refLos hup h8, State.pinLoss_armed h8 hen harmed],
      fun h8 => by rw [exec_netSyncTimeout hup h8 (by omega), State.netLoss_armed hup hen harmed],
      s.lossOfSignal_state n, s.lossOfSignal_seen n, s.lossOfSignal_wtr n, s.lossOfSignal_raises n, hoff,
      s.lossOfSignal_faults n, fun m _ hm => hothers m hm, hstep.words, hstep.frame⟩
  · exact ⟨fun h8 => by rw [exec_refLos hup h8, State.pinLoss_idle hidle],
      fun h8 => by rw [exec_netSyncTimeout hup h8 (by omega), State.netLoss_idle hidle]⟩
  · subst hu
    exact ⟨exec_integVerdictTimeout hup hn, fun hen => State.integOf_unknown hen (by rw [s.slot_setSlot hn, if_pos rfl])⟩
  · rw [exec_wtrExpired hup hn, State.wtrExpired_running hrun]
  · rw [exec_wtrExpired hup hn, State.wtrExpired_stays hrun hno]
  · rw [exec_wtrExpired hup hn, State.wtrExpired_reverts hrun hrev hel hmem hsel hrung hpend]
  · by_cases hpin : s.pwr.vioH = none
    · exact exec_nmeaSentence_dead hpin g line
    · rw [exec_nmeaSentence hup hg (Option.isSome_iff_ne_none.2 hpin), State.nmea_off (hdead.resolve_right hpin)]
  · rw [exec_nmeaSentence hup hg hpin, State.nmea_broken hon hfs]
  · rw [exec_nmeaSentence hup hg hpin, State.nmea_unknown hon hfs hname hun]
  · exact ⟨by rw [exec_nmeaSentence hup hg hpin, hu],
      s.standardSentence_spec hg fs (hu.trans (State.nmea_standard hon hfs hname hknown))⟩
  · rw [exec_nmeaSentence hup hg hpin, State.nmea_illFormed hon hfs hname hill]
  · exact ⟨by rw [exec_nmeaSentence hup hg hpin, hu],
      s.statement_spec hg x (hu.trans (State.nmea_stated hon hfs hname hx))⟩
  · subst hu
    exact ⟨exec_nmeaVerdictExpired hup hg k, rfl, rfl⟩

end Sys2Proof.Machine
end

section
/-! A held switch that is refused again (O44). -/

-- As in the tests: elaborated in parallel, these proofs' thread stacks would exceed the check's memory limit.
set_option Elab.async false

namespace Sys2Proof.Machine

/-- F0 stands far from slot 0, whose last stamp has its master's time, and a switch into slot 0 is held already: PENDING is
0 with HELD set, and nothing is selected. -/
def heldAgain : State :=
  { regs := [(A.REFM_SEL_NOW, 0x10F)], str := { f0 := { ofs := 39321600000000000 } }
    refm := { slots := (Vector.replicate 12 {}).setIfInBounds 0 { resid := [(1200, some 960)] } } }

/-- The offset of slot 0 is beyond the limit, and it is switched into without SW_POL. -/
theorem heldAgain_beyond : heldAgain.slotKind 0 ≠ 2 ∧ heldAgain.bit (F.REFM_Sn_CTL_SW_POL 0) = false ∧
    heldAgain.stepLimit < |heldAgain.deltaOf 0| := by decide +kernel

/-- The switch stays held as it was; the refused step alone is reported (R170). -/
theorem heldAgain_reports : (heldAgain.switchTo 0 false).get F.REFM_SEL_NOW_PENDING = 0 ∧
    (heldAgain.switchTo 0 false).bit F.REFM_SEL_NOW_HELD = true ∧
    (heldAgain.switchTo 0 false).raised = [Ev.STEP_REFUSED] := by decide +kernel

/-- Refutes O44: its clause on a held switch has SWITCH_HELD raised by every switch beyond the limit, and a re-evaluation
that finds a held switch refused again does not raise it. -/
theorem not_selectionsSwitch : ¬ Obligations.SelectionsSwitch := by
  intro h
  obtain ⟨hkind, hpol, hlimit⟩ := heldAgain_beyond
  obtain ⟨hswitch, -, -⟩ := h heldAgain
  obtain ⟨-, hstep⟩ := hswitch 0 false (by decide) (.inr hkind) _ rfl _ rfl
  obtain ⟨-, hheld⟩ := hstep (.inl hpol)
  obtain ⟨-, -, -, -, hraised, -⟩ := hheld hlimit
  rw [heldAgain_reports.2.2] at hraised
  exact absurd hraised (by decide)

end Sys2Proof.Machine
end

section
/-! The antenna feed: its states, a ramp that starts, a failure, a write of ANT_CTL, and its samples (O45). -/

-- As in the tests: elaborated in parallel, these proofs' thread stacks would exceed the check's memory limit.
set_option Elab.async false

namespace Sys2Proof.Machine

/-! ### The state of the switch -/

theorem State.ant_setAnt (s : State) {x : Nat} (hx : x < 8 := by decide) : (s.setAnt x).ant = x :=
  (State.get_put_self s F.REFM_ANT_STAT_STATE x (by decide)).trans (Nat.mod_eq_of_lt hx)

/-- The fields of ANT_STAT above STATE are none of the switch's state. -/
theorem State.ant_put_above (s : State) (lo w x : Nat) (h : 3 ≤ lo := by decide) (hw : lo + w ≤ 32 := by decide) :
    (s.put ⟨A.REFM_ANT_STAT, lo, w⟩ x).ant = s.ant :=
  s.get_put_beside A.REFM_ANT_STAT lo w x (.inl h) hw

theorem State.get_setAnt_above (s : State) (x i k : Nat) (h : 3 ≤ i := by decide) :
    (s.setAnt x).get ⟨A.REFM_ANT_STAT, i, k⟩ = s.get ⟨A.REFM_ANT_STAT, i, k⟩ :=
  s.get_put_beside A.REFM_ANT_STAT 0 3 x (.inr h)

/-- The state that a start leads to: VHEAT absent, the switch too hot, or the ramp (R175, R179, R180). -/
def State.antStartState (s : State) : Nat :=
  if s.get F.TB_STAT_OVEN_FAULT = 1 then 7 else if s.refm.antTemp.on then 6 else 1

theorem State.antStart_eq (s : State) : s.antStart = s.setAnt s.antStartState := by
  unfold State.antStart State.antStartState
  split_ifs <;> rfl

theorem State.antStartState_lt (s : State) : s.antStartState < 8 := by
  unfold State.antStartState
  split_ifs <;> decide

theorem State.ant_antStart (s : State) : s.antStart.ant = s.antStartState := by
  rw [State.antStart_eq, State.ant_setAnt _ s.antStartState_lt]

namespace State.RefStep
variable {s t : State} {words : List Nat} {quiet : Bool}

theorem mono {words' : List Nat} (h : s.RefStep t words quiet) (hw : words ⊆ words') : s.RefStep t words' quiet :=
  ⟨h.words.mono hw, h.raised, h.still, h.frame⟩

theorem setAnt (h : s.RefStep t words quiet) (x : Nat) (ha : A.REFM_ANT_STAT ∈ words := by decide) :
    s.RefStep (t.setAnt x) words quiet := h.put F.REFM_ANT_STAT_STATE x ha

theorem antStart (h : s.RefStep t words quiet) (ha : A.REFM_ANT_STAT ∈ words := by decide) :
    s.RefStep t.antStart words quiet := by
  rw [State.antStart_eq]
  exact h.setAnt _ ha

end State.RefStep

/-! ### A failure (R176 to R178) -/

/-- Whether the failures since the count began have been logged. -/
def State.antLogs (s : State) (b : Bool) : State := { s with refm := { s.refm with antLogged := b } }

/-- The tick at which the wait ends. -/
def State.antWaits (s : State) (ends : Nat) : State := { s with refm := { s.refm with antEnds := ends } }

section failure
variable (s : State)

/-- A failure as ANT_STAT and the slot's STAT show it. -/
def State.antFailNoted : State :=
  (((s.put F.REFM_ANT_STAT_FAILS (s.get F.REFM_ANT_STAT_FAILS + 1)).setBit F.REFM_ANT_STAT_ANT_FAULT true).setBit
    (F.REFM_Sn_STAT_ANT_SEEN (s.get F.REFM_ANT_CTL_SLOT)) true).raise Ev.ANT_FAULT

/-- The first failure since the count began goes to the Ledger. -/
def State.antLedger (data : List Byte) : State :=
  if s.refm.antLogged then s else (s.antLogs true).ledger 35 1 data none

/-- A failure latches the switch at the eighth, and starts its wait before. -/
def State.antFailEnds (k ends : Nat) : State := if 8 ≤ k then s.setAnt antLatched else (s.antWaits ends).setAnt antWait

theorem State.antFailEnds_eq (k ends : Nat) : s.antFailEnds k ends = if 8 ≤ k then s.setAnt antLatched
    else { s with refm := { s.refm with antEnds := ends } }.setAnt antWait := rfl

/-- What the Ledger gets of a failure. -/
def State.antFailData : List Byte := beBytes 1 (s.get F.REFM_ANT_CTL_SLOT) ++ beBytes 2 (s.val A.REFM_ANT_IMA)

theorem State.antFail_logged : s.antFail =
    (let k := s.get F.REFM_ANT_STAT_FAILS + 1
    let t := s.antFailNoted.antLedger s.antFailData
    if 8 ≤ k then t.setAnt antLatched
    else { t with refm := { t.refm with antEnds := s.tally + 2 ^ (k - 1) * ticksPerSec } }.setAnt antWait) := rfl

theorem State.antFail_eq : s.antFail = (s.antFailNoted.antLedger s.antFailData).antFailEnds
    (s.get F.REFM_ANT_STAT_FAILS + 1) (s.tally + 2 ^ (s.get F.REFM_ANT_STAT_FAILS + 1 - 1) * ticksPerSec) :=
  s.antFail_logged.trans (State.antFailEnds_eq _ _ _).symm

theorem State.antFailNoted_parts : Ev.ANT_FAULT ∈ s.antFailNoted.raised ∧ s.antFailNoted.ldg = s.ldg ∧
    s.antFailNoted.str = s.str ∧ s.antFailNoted.tally = s.tally := by
  refine ⟨List.mem_append_right _ (List.mem_singleton_self _), ?_, ?_, ?_⟩ <;> rw [State.antFailNoted]
  · rw [State.raise_ldg, State.setBit_ldg, State.setBit_ldg, State.put_ldg]
  · rw [State.raise_str, State.setBit_str, State.setBit_str, State.put_str]
  · rw [State.raise_tally, State.setBit_tally, State.setBit_tally, State.put_tally]

/-- The count and the fault stand. -/
theorem State.antFailNoted_stat (h : s.get F.REFM_ANT_STAT_FAILS + 1 ≤ 8) :
    s.antFailNoted.get F.REFM_ANT_STAT_FAILS = s.get F.REFM_ANT_STAT_FAILS + 1 ∧
    s.antFailNoted.bit F.REFM_ANT_STAT_ANT_FAULT = true := by
  have hslot : A.REFM_ANT_STAT ≠ A.REFM_Sn_STAT (s.get F.REFM_ANT_CTL_SLOT) := by
    simp only [A.REFM_ANT_STAT, A.REFM_Sn_STAT]; omega
  rw [State.antFailNoted, State.get_raise, State.bit_raise]
  constructor
  · refine (State.get_put_ne _ hslot _).trans ((State.get_put_beside _ _ 16 1 _).trans ?_)
    exact (State.get_put_self s _ _ (by decide)).trans (Nat.mod_eq_of_lt (Nat.lt_of_le_of_lt h (by decide)))
  · refine (congrArg (· != 0) (State.get_put_ne _ hslot _)).trans ?_
    exact State.bit_setBit_self _ _ _ rfl (by decide)

variable {s}

/-- The Ledger leaves ANT_STAT, and what is raised. -/
theorem State.antLedger_kept {data : List Byte} {u : State} (hu : u = s.antLedger data) :
    s.wordsKept u ledgerWords ∧ (∀ e ∈ s.raised, e ∈ u.raised) ∧ u.ldg.slots = s.ldg.slots ∧ u.str = s.str ∧
      u.tally = s.tally := by
  rw [State.antLedger] at hu
  split at hu
  · subst hu
    exact ⟨State.wordsKept_refl _ _, fun _ he => he, rfl, rfl, rfl⟩
  · have hkept : s.wordsKept (s.antLogs true) ledgerWords := State.wordsKept_of_regs rfl _
    have hledger := State.wordsKept_ledger (s.antLogs true) 35 1 data none
    have hraised := fun e (he : e ∈ s.raised) => State.mem_raised_ledger (s := s.antLogs true) he 35 1 data none
    obtain ⟨_, _, _, _, hl⟩ := (s.antLogs true).ledger_eq 35 1 data none
    rw [← hu] at hledger hraised hl
    refine ⟨hkept.trans hledger, hraised, ?_⟩
    rw [hl]
    exact ⟨rfl, rfl, rfl⟩

/-- The end of a failure writes the state of the switch alone, and the end of its wait. -/
theorem State.antFailEnds_spec {k ends : Nat} {u : State} (hu : u = s.antFailEnds k ends) :
    u.get F.REFM_ANT_STAT_FAILS = s.get F.REFM_ANT_STAT_FAILS ∧
      u.bit F.REFM_ANT_STAT_ANT_FAULT = s.bit F.REFM_ANT_STAT_ANT_FAULT ∧ u.raised = s.raised ∧
      u.ant = (if 8 ≤ k then antLatched else antWait) ∧ (k < 8 → u.refm.antEnds = ends) ∧
      u.ldg = s.ldg ∧ u.str = s.str ∧ u.tally = s.tally := by
  rw [State.antFailEnds] at hu
  split at hu <;> subst hu
  · next h =>
    exact ⟨s.get_setAnt_above _ 4 4, congrArg (· != 0) (s.get_setAnt_above _ 16 1), rfl,
      (s.ant_setAnt (x := antLatched)).trans (if_pos h).symm,
      fun hlt => absurd h (Nat.not_le.2 hlt), rfl, rfl, rfl⟩
  · next h =>
    exact ⟨(s.antWaits ends).get_setAnt_above _ 4 4, congrArg (· != 0) ((s.antWaits ends).get_setAnt_above _ 16 1), rfl,
      ((s.antWaits ends).ant_setAnt (x := antWait)).trans (if_neg h).symm, fun _ => rfl, rfl, rfl, rfl⟩

end failure

/-- A wait of whole seconds shows them all at its start. -/
theorem wholeSecs_left (now secs : Nat) :
    (now + secs * ticksPerSec - now + ticksPerSec - 1) / ticksPerSec = secs := by
  rw [Nat.add_sub_cancel_left, ticksPerSec]
  omega

/-- What a failure leaves: the count, the fault, its event, and the wait of 2^(k-1) s or the latch. -/
theorem State.antFail_spec {s : State} {k : Nat} (hk : k = s.get F.REFM_ANT_STAT_FAILS + 1) (h8 : k ≤ 8) {u : State}
    (hu : u = s.antFail) : u.get F.REFM_ANT_STAT_FAILS = k ∧ u.bit F.REFM_ANT_STAT_ANT_FAULT = true ∧
      Ev.ANT_FAULT ∈ u.raised ∧ u.ant = (if k = 8 then 4 else 3) ∧ (k < 8 → u.antWaitSecs = 2 ^ (k - 1)) ∧
      u.ldg.slots = s.ldg.slots ∧ u.str = s.str := by
  obtain ⟨hraised, hldg, hstr, htally⟩ := s.antFailNoted_parts
  obtain ⟨hfails, hfault⟩ := s.antFailNoted_stat (hk ▸ h8)
  rw [State.antFail_eq, ← hk] at hu
  obtain ⟨hlkept, hlraised, hlslots, hlstr, hltally⟩ :=
    State.antLedger_kept (s := s.antFailNoted) (data := s.antFailData) rfl
  obtain ⟨hufails, hufault, huraised, huant, huends, huldg, hustr, hutally⟩ := State.antFailEnds_spec hu
  have hant : u.ant = if k = 8 then antLatched else antWait := by
    rw [huant]
    exact if_congr ⟨fun h => Nat.le_antisymm h8 h, fun h => h.ge⟩ rfl rfl
  refine ⟨?_, ?_, ?_, hant, fun hlt => ?_, ?_, ?_⟩
  · rw [hufails, hlkept.get (by decide), hfails, hk]
  · rw [hufault, hlkept.bit (by decide), hfault]
  · rw [huraised]
    exact hlraised _ hraised
  · rw [State.antWaitSecs, if_pos (hant.trans (if_neg hlt.ne)), huends hlt, hutally, hltally, htally]
    exact wholeSecs_left _ _
  · rw [huldg, hlslots, hldg]
  · rw [hustr, hlstr, hstr]

/-! ### The commands and ANT_CTL (R175, R177, R185) -/

section control
variable (s : State) (v : Nat)

/-- The word of ANT_CTL as its ranges leave it (R15). -/
def antCtlWord (old v : Nat) : Nat := fitted old v (antCtlFields v)

/-- ANT_CTL stored, and the count cleared by CLR, before the switch follows. -/
def State.antStored : State :=
  (s.setVal A.REFM_ANT_CTL (bitsAt (antCtlWord (s.val A.REFM_ANT_CTL) v) 0 2 +
    bitsAt (antCtlWord (s.val A.REFM_ANT_CTL) v) 4 4 * 16)).when (bitOf v 2) State.antClear

/-- The state after a write of ANT_CTL. -/
def State.antWritten : State := (s.antStored v).antSwitched (s.bit F.REFM_ANT_CTL_EN) (bitOf v 0) (bitOf v 2)

theorem State.antCtlWrite_eq : s.antCtlWrite v = (s.antWritten v).ok.judged (allFit (antCtlFields v)) := rfl

theorem State.antCtlWrite_state : (s.antCtlWrite v).state = s.antWritten v := by
  rw [State.antCtlWrite_eq, Written.judged_state]
  rfl

variable {v}

theorem allFit_antCtlFields : allFit (antCtlFields v) = decide (bitsAt v 4 4 ≤ 7) := by
  simp [allFit, antCtlFields]

theorem antCtlWord_inRange (old : Nat) (h : bitsAt v 4 4 ≤ 7) : antCtlWord old v = v :=
  fitted_all old v (allFit_antCtlFields.trans (decide_eq_true h))

theorem antCtlWord_outOfRange (old : Nat) (h : 7 < bitsAt v 4 4) : antCtlWord old v = withBits v 4 4 (bitsAt old 4 4) := by
  simp [antCtlWord, fitted, antCtlFields, Nat.not_le.2 h]

/-- EN and VSEL have no range. -/
theorem antCtlWord_low (old : Nat) : bitsAt (antCtlWord old v) 0 2 = bitsAt v 0 2 := by
  rcases Nat.lt_or_ge 7 (bitsAt v 4 4) with h | h
  · rw [antCtlWord_outOfRange old h, withBits_eq]
    simp only [bitsAt]
    omega
  · rw [antCtlWord_inRange old h]

end control

theorem State.antClear_eq (s : State) :
    s.antClear = ((s.antLogs false).put F.REFM_ANT_STAT_ANT_FAULT 0).put F.REFM_ANT_STAT_FAILS 0 := rfl

theorem State.antClear_clears (s : State) : s.antClear.get F.REFM_ANT_STAT_FAILS = 0 ∧
    s.antClear.bit F.REFM_ANT_STAT_ANT_FAULT = false ∧ s.antClear.refm.antLogged = false ∧
    s.antClear.refm.antTemp = s.refm.antTemp ∧ s.antClear.ant = s.ant := by
  rw [State.antClear_eq]
  exact ⟨State.get_put_self _ F.REFM_ANT_STAT_FAILS 0 (by decide),
    (State.bit_put_beside _ _ 4 4 0).trans (State.bit_put_one _ _ 16 0), rfl, rfl,
    (State.ant_put_above _ 4 4 0).trans (State.ant_put_above _ 16 1 0)⟩

theorem State.antClear_step (s : State) : s.RefStep s.antClear [A.REFM_ANT_STAT] true :=
  (((State.RefStep.refl s _ _).withRef _).put F.REFM_ANT_STAT_ANT_FAULT 0).put F.REFM_ANT_STAT_FAILS 0

/-- The write of the word, CLR with it, leaves the state of the switch. -/
theorem State.antStored_spec {s : State} {v : Nat} {x : Nat} (hx : x = bitsAt (antCtlWord (s.val A.REFM_ANT_CTL) v) 0 2 +
    bitsAt (antCtlWord (s.val A.REFM_ANT_CTL) v) 4 4 * 16) {t : State} (ht : t = s.antStored v) :
    s.RefStep t [A.REFM_ANT_CTL, A.REFM_ANT_STAT] true ∧ t.val A.REFM_ANT_CTL = x % 2 ^ 32 ∧ t.ant = s.ant ∧
      t.refm.antTemp = s.refm.antTemp ∧ (bitOf v 2 = true → t.get F.REFM_ANT_STAT_FAILS = 0 ∧
        t.bit F.REFM_ANT_STAT_ANT_FAULT = false ∧ t.refm.antLogged = false) := by
  rw [State.antStored, ← hx] at ht
  have hstore := (State.RefStep.refl s [A.REFM_ANT_CTL, A.REFM_ANT_STAT] true).setVal A.REFM_ANT_CTL x
  have hval := s.val_setVal_self A.REFM_ANT_CTL x
  have hant : (s.setVal A.REFM_ANT_CTL x).ant = s.ant :=
    (s.wordsKept_setVal A.REFM_ANT_CTL x).get (f := F.REFM_ANT_STAT_STATE) (by decide)
  have htemp : (s.setVal A.REFM_ANT_CTL x).refm.antTemp = s.refm.antTemp := congrArg _ (s.setVal_refm _ _)
  generalize s.setVal A.REFM_ANT_CTL x = r at *
  cases hclr : bitOf v 2
  · rw [hclr, State.when_false] at ht
    subst ht
    exact ⟨hstore, hval, hant, htemp, nofun⟩
  · rw [hclr, State.when_true] at ht
    obtain ⟨hfails, hfault, hlogged, hctemp, hcant⟩ := r.antClear_clears
    have hclear := r.antClear_step
    rw [← ht] at hfails hfault hlogged hctemp hcant hclear
    exact ⟨hstore.trans (hclear.mono (by decide)), (hclear.words.val (by decide)).trans hval, hcant.trans hant,
      hctemp.trans htemp, fun _ => ⟨hfails, hfault, hlogged⟩⟩

/-! ### How the switch follows EN and CLR -/

section switch
variable (s : State)

/-- The switch stays, or moves to another state. -/
theorem State.antSwitched_cases (was now clr : Bool) :
    s.antSwitched was now clr = s ∨ ∃ x, s.antSwitched was now clr = s.setAnt x := by
  have hmove : ∀ x, s.setAnt x = s ∨ ∃ y, s.setAnt x = s.setAnt y := fun x => .inr ⟨x, rfl⟩
  unfold State.antSwitched
  rw [State.antStart_eq]
  split_ifs
  exacts [.inl rfl, hmove _, hmove _, .inl rfl, hmove _, .inl rfl, hmove _]

theorem State.antSwitched_rises (clr : Bool) : (s.antSwitched false true clr).ant =
    if s.ant = 5 ∨ (s.ant = 4 ∧ clr = false) then s.ant else s.antStartState := by
  have hrise : s.antSwitched false true clr = if s.ant = 5 ∨ (s.ant = 4 ∧ clr = false) then s else s.antStart := rfl
  rw [hrise, apply_ite State.ant, State.ant_antStart]

theorem State.antSwitched_stays (clr : Bool) : (s.antSwitched true true clr).ant =
    if clr = true ∧ (s.ant = 3 ∨ s.ant = 4) then s.antStartState else s.ant := by
  have hstay : s.antSwitched true true clr = if clr = true ∧ (s.ant = 3 ∨ s.ant = 4) then s.antStart else s := rfl
  rw [hstay, apply_ite State.ant, State.ant_antStart]

theorem State.antSwitched_falls (was clr : Bool) : (s.antSwitched was false clr).ant =
    if s.ant = 1 ∨ s.ant = 2 ∨ s.ant = 5 then 5 else if s.ant = 4 ∧ clr = false then 4 else 0 := by
  have hfall : s.antSwitched was false clr = if s.ant = 1 ∨ s.ant = 2 then s.setAnt 5
      else if s.ant = 5 ∨ (s.ant = 4 ∧ clr = false) then s else s.setAnt 0 := rfl
  rw [hfall]
  split
  · next h => rw [State.ant_setAnt _, if_pos (by tauto)]
  · next hon =>
    split
    · next h =>
      rcases h with h | h
      · rw [h, if_pos (by tauto)]
      · rw [if_neg (by omega), if_pos h, h.1]
    · next h => rw [State.ant_setAnt _, if_neg (by tauto), if_neg (by tauto)]

end switch

/-- The switch that follows ANT_CTL leaves the fields above STATE. -/
theorem State.antSwitched_spec {s : State} {was now clr : Bool} {u : State} (hu : u = s.antSwitched was now clr) :
    s.RefStep u [A.REFM_ANT_STAT] true ∧ u.get F.REFM_ANT_STAT_FAILS = s.get F.REFM_ANT_STAT_FAILS ∧
      u.bit F.REFM_ANT_STAT_ANT_FAULT = s.bit F.REFM_ANT_STAT_ANT_FAULT ∧ u.refm = s.refm := by
  rcases s.antSwitched_cases was now clr with h | ⟨x, h⟩ <;> rw [h] at hu <;> subst hu
  · exact ⟨.refl _ _ _, rfl, rfl, rfl⟩
  · exact ⟨(State.RefStep.refl s _ _).setAnt x, s.get_setAnt_above x 4 4,
      congrArg (· != 0) (s.get_setAnt_above x 16 1), rfl⟩

/-- A start depends on VHEAT and on the switch's temperature. -/
theorem State.antStartState_congr {s t : State} (hstat : t.val A.TB_STAT = s.val A.TB_STAT)
    (htemp : t.refm.antTemp = s.refm.antTemp) : t.antStartState = s.antStartState := by
  have hfault : t.get F.TB_STAT_OVEN_FAULT = s.get F.TB_STAT_OVEN_FAULT := congrArg (bitsAt · _ _) hstat
  rw [State.antStartState, State.antStartState, hfault, htemp]

/-- A one-bit field as a flag. -/
theorem bitsAt_ne_zero (v k : Nat) : (bitsAt v k 1 != 0) = bitOf v k := by
  rcases Nat.mod_two_eq_zero_or_one (v / 2 ^ k) with h | h <;> simp [bitsAt, bitOf, h]

/-- The EN and the SLOT that a write of ANT_CTL leaves. -/
theorem antCtlWord_fields {x old v : Nat} (hx : x = bitsAt (antCtlWord old v) 0 2 + bitsAt (antCtlWord old v) 4 4 * 16) :
    x < 2 ^ 32 ∧ bitsAt x 0 1 = bitsAt v 0 1 ∧ bitsAt x 4 4 = bitsAt (antCtlWord old v) 4 4 := by
  rw [antCtlWord_low] at hx
  simp only [bitsAt] at hx ⊢
  omega

/-- A write of ANT_CTL: the word, the count that CLR clears, and the state of the switch after. -/
theorem State.antWritten_spec {s : State} {v x : Nat} (hx : x = bitsAt (antCtlWord (s.val A.REFM_ANT_CTL) v) 0 2 +
    bitsAt (antCtlWord (s.val A.REFM_ANT_CTL) v) 4 4 * 16) {u : State} (hu : u = s.antWritten v) :
    u.val A.REFM_ANT_CTL = x ∧
      (bitOf v 2 = true → u.get F.REFM_ANT_STAT_FAILS = 0 ∧ u.bit F.REFM_ANT_STAT_ANT_FAULT = false ∧
        u.refm.antLogged = false) ∧
      (s.bit F.REFM_ANT_CTL_EN = false → bitOf v 0 = true →
        u.ant = if s.ant = 5 ∨ (s.ant = 4 ∧ bitOf v 2 = false) then s.ant else s.antStartState) ∧
      (s.bit F.REFM_ANT_CTL_EN = true → bitOf v 0 = true →
        u.ant = if bitOf v 2 = true ∧ (s.ant = 3 ∨ s.ant = 4) then s.antStartState else s.ant) ∧
      (bitOf v 0 = false → u.ant = if s.ant = 1 ∨ s.ant = 2 ∨ s.ant = 5 then 5
        else if s.ant = 4 ∧ bitOf v 2 = false then 4 else 0) ∧
      s.wordsKept u [A.REFM_ANT_CTL, A.REFM_ANT_STAT] ∧ u = { s with regs := u.regs, refm := u.refm } := by
  obtain ⟨hstep, hval, hant, htemp, hclear⟩ := State.antStored_spec hx (v := v) rfl
  rw [State.antWritten] at hu
  generalize s.antStored v = t at *
  obtain ⟨hmove, hfails, hfault, hrefm⟩ := State.antSwitched_spec hu
  have hstart : t.antStartState = s.antStartState := State.antStartState_congr (hstep.words.val (by decide)) htemp
  have hall := hstep.trans (hmove.mono (by decide))
  refine ⟨?_, fun hclr => ?_, fun hoff hon => ?_, fun hwas hon => ?_, fun hoff => ?_, hall.words, hall.quietFrame⟩
  · rw [hmove.words.val (by decide), hval, Nat.mod_eq_of_lt (antCtlWord_fields hx).1]
  · rw [hfails, hfault, hrefm]
    exact hclear hclr
  · rw [hu, hoff, hon, State.antSwitched_rises, hant, hstart]
  · rw [hu, hwas, hon, State.antSwitched_stays, hant, hstart]
  · rw [hu, hoff, State.antSwitched_falls, hant]

/-! ### Temperature and current samples (R179, R180) -/

section samples
variable (s : State)

/-- The switch temperature's qualifier. -/
def State.antQualified (q : Qual) : State := { s with refm := { s.refm with antTemp := q } }

/-- What the switch does as its temperature's qualifier becomes `q`. -/
def State.antTempTurned (q : Qual) : State :=
  if s.refm.antTemp.on = false ∧ q.on = true then
    (if s.ant = 1 ∨ s.ant = 2 ∨ s.ant = 3 then ((s.antQualified q).raise Ev.ANT_THERMAL).setAnt 6
      else (s.antQualified q).raise Ev.ANT_THERMAL)
  else if s.refm.antTemp.on = true ∧ q.on = false ∧ s.ant = 6 then (s.antQualified q).antStart
  else s.antQualified q

theorem State.antTempSample_eq (t : Int) : s.antTempSample t =
    s.antTempTurned (Qual.sample .upper (s.descriptor A.REFM_ANT_TEMP_ASSERT) t s.refm.antTemp) := rfl

theorem State.antQualified_step (q : Qual) (quiet : Bool) : s.RefStep (s.antQualified q) [A.REFM_ANT_STAT] quiet :=
  (State.RefStep.refl s _ _).withRef _

/-- Once cool, a start depends on VHEAT alone. -/
theorem State.antStartState_cool {q : Qual} (hq : q.on = false) : (s.antQualified q).antStartState =
    if s.get F.TB_STAT_OVEN_FAULT = 1 then 7 else 1 := by
  have htemp : (s.antQualified q).refm.antTemp.on = false := hq
  have hfault : (s.antQualified q).get F.TB_STAT_OVEN_FAULT = s.get F.TB_STAT_OVEN_FAULT := rfl
  rw [State.antStartState, htemp, hfault, if_neg (by decide : ¬ false = true)]

/-- The sample and its turn: the qualifier, the thermal cut-out, and the release. -/
theorem State.antTempTurned_spec {s : State} {q : Qual} {u : State} (hu : u = s.antTempTurned q) :
    u.refm.antTemp = q ∧
      (s.refm.antTemp.on = false → u.refm.antTemp.on = true → Ev.ANT_THERMAL ∈ u.raised ∧
        u.ant = if s.ant = 1 ∨ s.ant = 2 ∨ s.ant = 3 then 6 else s.ant) ∧
      (s.refm.antTemp.on = true → u.refm.antTemp.on = false → u.raised = s.raised ∧
        u.ant = if s.ant = 6 then (if s.get F.TB_STAT_OVEN_FAULT = 1 then 7 else 1) else s.ant) ∧
      s.RefStep u [A.REFM_ANT_STAT] false := by
  have hstep := s.antQualified_step q false
  have hant : (s.antQualified q).ant = s.ant := rfl
  have hraised : (s.antQualified q).raised = s.raised := rfl
  have htemp : (s.antQualified q).refm.antTemp = q := rfl
  have hcool := s.antStartState_cool (q := q)
  rw [State.antTempTurned] at hu
  generalize s.antQualified q = t at *
  have hthermal : Ev.ANT_THERMAL ∈ (t.raise Ev.ANT_THERMAL).raised := List.mem_append_right _ (List.mem_singleton_self _)
  split at hu
  · next h =>
    obtain ⟨hwas, hon⟩ := h
    split at hu <;> subst hu
    · next hcut =>
      exact ⟨htemp, fun _ _ => ⟨hthermal, (State.ant_setAnt _).trans (if_pos hcut).symm⟩,
        fun hcon => absurd (hwas.symm.trans hcon) (by decide), (hstep.raise _).setAnt 6⟩
    · next hcut =>
      exact ⟨htemp, fun _ _ => ⟨hthermal, hant.trans (if_neg hcut).symm⟩,
        fun hcon => absurd (hwas.symm.trans hcon) (by decide), hstep.raise _⟩
  · next hrise =>
    have hnorise : ∀ {u : State}, u.refm = t.refm → s.refm.antTemp.on = false → u.refm.antTemp.on = true → False :=
      fun hrefm hwas hon => hrise ⟨hwas, by rwa [hrefm, htemp] at hon⟩
    split at hu
    · next h =>
      obtain ⟨-, hoff, hsix⟩ := h
      have hstart := hu.trans t.antStart_eq
      have hrefm : u.refm = t.refm := by rw [hstart]; rfl
      refine ⟨by rw [hrefm, htemp], fun hwas hon => (hnorise hrefm hwas hon).elim, fun _ _ => ⟨?_, ?_⟩, ?_⟩
      · rw [hstart, ← hraised]
        rfl
      · rw [hu, State.ant_antStart, hcool hoff, if_pos hsix]
      · rw [hu]
        exact hstep.antStart
    · next hrelease =>
      subst hu
      exact ⟨htemp, fun hwas hon => (hnorise rfl hwas hon).elim, fun hwas hoff => ⟨hraised, hant.trans
        (if_neg fun hsix => hrelease ⟨hwas, by rwa [htemp] at hoff, hsix⟩).symm⟩, hstep⟩

/-- A current sample taken, with the run of low ones. -/
def State.antCurrent (i run : Nat) : State :=
  { s.setVal A.REFM_ANT_IMA i with refm := { s.refm with ima := (i :: s.refm.ima).take 3600000, lowRun := run } }

theorem State.antCurrentSample_eq (i : Nat) : s.antCurrentSample i =
    if s.ant = 2 ∧ i < 20 then
      (if s.refm.lowRun + 1 = 8 then
        ((s.antCurrent i (s.refm.lowRun + 1)).setBit F.REFM_ANT_STAT_OPEN_SEEN true).raise Ev.ANT_OPEN
        else s.antCurrent i (s.refm.lowRun + 1))
    else s.antCurrent i 0 := rfl

theorem State.antCurrent_step (i run : Nat) (quiet : Bool) :
    s.RefStep (s.antCurrent i run) [A.REFM_ANT_IMA, A.REFM_ANT_STAT] quiet :=
  ((State.RefStep.refl s _ _).setVal A.REFM_ANT_IMA i).withRef _

theorem State.antCurrent_val (i run : Nat) : (s.antCurrent i run).val A.REFM_ANT_IMA = i % 2 ^ 32 :=
  s.val_setVal_self A.REFM_ANT_IMA i

/-- A current sample: its word, the eighth low one, and the run that another one ends. -/
theorem State.antCurrentSample_spec {s : State} {i : Nat} {u : State} (hu : u = s.antCurrentSample i) :
    u.val A.REFM_ANT_IMA = i % 2 ^ 32 ∧
      (s.ant = 2 → i < 20 → s.refm.lowRun = 7 → Ev.ANT_OPEN ∈ u.raised ∧ u.bit F.REFM_ANT_STAT_OPEN_SEEN = true) ∧
      (20 ≤ i ∨ s.ant ≠ 2 → u.refm.lowRun = 0 ∧ u.raised = s.raised) ∧
      s.RefStep u [A.REFM_ANT_IMA, A.REFM_ANT_STAT] false := by
  rw [State.antCurrentSample_eq] at hu
  split at hu
  · next h =>
    obtain ⟨hon, hlow⟩ := h
    have hstep := s.antCurrent_step i (s.refm.lowRun + 1) false
    have hval := s.antCurrent_val i (s.refm.lowRun + 1)
    generalize s.antCurrent i (s.refm.lowRun + 1) = t at *
    have hnot : ¬ (20 ≤ i ∨ s.ant ≠ 2) := by omega
    split at hu <;> subst hu
    · refine ⟨?_, fun _ _ _ => ⟨List.mem_append_right _ (List.mem_singleton_self _), ?_⟩, fun hc => absurd hc hnot,
        (hstep.setBit F.REFM_ANT_STAT_OPEN_SEEN true (by decide)).raise _⟩
      · rw [State.val_raise, ← hval]
        exact t.val_setVal_ne (by decide : A.REFM_ANT_IMA ≠ A.REFM_ANT_STAT) _
      · rw [State.bit_raise, State.bit_setBit_self _ _ _ rfl (by decide)]
    · next hfew => exact ⟨hval, fun _ _ hrun => absurd (by rw [hrun]) hfew, fun hc => absurd hc hnot, hstep⟩
  · next h =>
    subst hu
    exact ⟨s.antCurrent_val i 0, fun hon hlow => absurd ⟨hon, hlow⟩ h, fun _ => ⟨rfl, rfl⟩,
      s.antCurrent_step i 0 false⟩

end samples

/-! ### The commands -/

theorem State.bankWrite_antCtl (s : State) (p : HostPort) (v : Nat) :
    s.bankWrite p (A.REFM_ANT_CTL / 256) (A.REFM_ANT_CTL % 256) v = some (s.antCtlWrite v) := rfl

theorem exec_antCtlWrite (s : State) (p : HostPort) (v : Word) :
    exec (.antCtlWrite p v) s = .next (s.after (s.hostParam p A.REFM_ANT_CTL v)) := rfl

theorem exec_antClr (s : State) (p : HostPort) (v : Word) :
    exec (.antClr p v) s = .next (s.after (s.hostParam p A.REFM_ANT_CTL v)) := rfl

section control
variable {s : State} {p : HostPort} {v : Word} (hw : s.mayWrite p A.REFM_ANT_CTL = true)
include hw

theorem State.hostParam_antCtl (h : bitsAt v.toNat 4 4 ≤ 7) :
    s.hostParam p A.REFM_ANT_CTL v = (s.antWritten v.toNat).written p A.REFM_ANT_CTL v := by
  have hfit : allFit (antCtlFields v.toNat) = true := allFit_antCtlFields.trans (decide_eq_true h)
  refine State.hostParam_ruled hw (by decide) ((s.bankWrite_antCtl p _).trans (congrArg some ?_))
  rw [State.antCtlWrite_eq, hfit]
  rfl

theorem State.hostParam_antCtl_range (h : 7 < bitsAt v.toNat 4 4) :
    s.hostParam p A.REFM_ANT_CTL v = (s.antWritten v.toNat).turnedAway p A.REFM_ANT_CTL v .range := by
  have hfit : allFit (antCtlFields v.toNat) = false :=
    allFit_antCtlFields.trans (decide_eq_false (Nat.not_le.2 h))
  refine State.hostParam_ruled_rejected_unheld hw (by decide) (by decide)
    ((s.bankWrite_antCtl p _).trans (congrArg some ?_))
  rw [State.antCtlWrite_eq, hfit]
  rfl

end control

/-- An effect of a number's one value. -/
theorem State.inside_beq {s : State} {d : Domain} (hup : s.up d = true) (x y : Nat) (f : State → State) :
    s.inside d (x == y) f = if x = y then f s else s := by
  by_cases h : x = y
  · rw [if_pos h, State.inside_of hup (beq_iff_eq.2 h)]
  · rw [if_neg h, beq_false_of_ne h, State.inside_unmet]

section commands
variable {s : State} (hup : s.up .time = true)
include hup

/-- A command that acts in one state of the switch. -/
theorem happen_antState (x : Nat) (f : State → State) :
    happen s (fun s => s.inside .time (s.ant == x) f) = .next (s.after (if s.ant = x then f s else s)) := by
  rw [happen, State.inside_beq hup]

theorem exec_antRampDone : exec .antRampDone s = .next (s.after (if s.ant = 1 then s.setAnt 2 else s)) :=
  happen_antState hup 1 (fun s => s.setAnt 2)

theorem exec_antRampLimitFail : exec .antRampLimitFail s = .next (s.after (if s.ant = 1 then s.antFail else s)) :=
  happen_antState hup 1 State.antFail

theorem exec_antShortTrip : exec .antShortTrip s = .next (s.after (if s.ant = 2 then s.antFail else s)) :=
  happen_antState hup 2 State.antFail

theorem exec_antRetry : exec .antRetry s = .next (s.after (if s.ant = 3 then s.antStart else s)) :=
  happen_antState hup 3 State.antStart

theorem exec_antCountReset : exec .antCountReset s = .next (s.after (if s.ant = 2 then
    (s.put F.REFM_ANT_STAT_FAILS 0).put F.REFM_ANT_STAT_ANT_FAULT 0 else s)) :=
  happen_antState hup 2 (fun s => (s.put F.REFM_ANT_STAT_FAILS 0).put F.REFM_ANT_STAT_ANT_FAULT 0)

theorem exec_antDischargeDone : exec .antDischargeDone s = .next (s.after
    (if s.ant = 5 then (if s.bit F.REFM_ANT_CTL_EN then s.antStart else s.setAnt 0) else s)) :=
  happen_inside hup rfl State.antDischarged

theorem exec_antTempSample (t : Int) : exec (.antTempSample t) s = .next (s.after (s.antTempSample t)) :=
  happen_inside hup rfl (fun s => s.antTempSample t)

theorem exec_antCurrentSample (i : Nat) : exec (.antCurrentSample i) s = .next (s.after (s.antCurrentSample i)) :=
  happen_inside hup rfl (fun s => s.antCurrentSample i)

end commands

/-- Settles O45: each write, report and sample leads to its state of the switch. That a switch which is on or ramps goes on
as it is under CLR is the model's choice (log 96). -/
theorem antennaFeedStates : Obligations.AntennaFeedStates := by
  intro s hup
  refine ⟨fun p v hw u hu => ?_, exec_antRampDone hup, exec_antRampLimitFail hup, exec_antShortTrip hup,
    fun k hk h8 u hu => State.antFail_spec hk h8 hu, exec_antRetry hup, exec_antDischargeDone hup, exec_antCountReset hup,
    fun t u hu => ?_, fun i u hu => ?_⟩
  · rw [State.antCtlWrite_state] at hu
    obtain ⟨hval, hclear, hrise, hstay, hfall, hwords, hframe⟩ := State.antWritten_spec rfl hu
    refine ⟨fun h => ?_, fun h => ?_, hclear, hrise, hstay, hfall, hwords, hframe⟩
    · obtain ⟨-, hen, hslot⟩ := antCtlWord_fields (old := s.val A.REFM_ANT_CTL) (v := v.toNat) rfl
      rw [← hval] at hen hslot
      refine ⟨?_, ?_, ?_, ?_⟩
      · rw [exec_antCtlWrite, State.hostParam_antCtl_range hw h, hu]
      · rw [exec_antClr, State.hostParam_antCtl_range hw h, hu]
      · refine hslot.trans ?_
        rw [antCtlWord_outOfRange _ h, bitsAt_withBits]
        exact Nat.mod_eq_of_lt (Nat.mod_lt _ (by decide))
      · exact (congrArg (· != 0) hen).trans (bitsAt_ne_zero _ 0)
    · refine ⟨?_, ?_, ?_⟩
      · rw [exec_antCtlWrite, State.hostParam_antCtl hw h, hu]
      · rw [exec_antClr, State.hostParam_antCtl hw h, hu]
      · rw [hval, antCtlWord_inRange _ h]
  · obtain ⟨htemp, hrise, hfall, hstep⟩ := State.antTempTurned_spec (hu.trans (s.antTempSample_eq t))
    exact ⟨by rw [exec_antTempSample hup, hu], htemp, hrise, hfall, hstep.words, hstep.frame⟩
  · obtain ⟨hval, hopen, hreset, hstep⟩ := State.antCurrentSample_spec hu
    exact ⟨by rw [exec_antCurrentSample hup, hu], hval, hopen, hreset, hstep.words, hstep.frame⟩

end Sys2Proof.Machine
end

section
/-! SUPPORT. How a job ends: its words in bank ARR, and what its consumer's part leaves (R535 to R537). -/

-- As in the tests: elaborated in parallel, these proofs' thread stacks would exceed the check's memory limit.
set_option Elab.async false

namespace Sys2Proof.Machine

/-! ### The consumer's part of an end -/

/-- `u` follows `s` by the consumer's part of an end: of bank ARR it may write USER_STAT alone, and jobs and tiles stand. -/
structure State.EndStep (s u : State) : Prop where
  words : ∀ a, a / 256 = 20 → a ≠ A.ARR_USER_STAT → u.rd a = s.rd a
  arr : u.arr = s.arr

namespace State.EndStep
variable {s t u : State}

theorem refl (s : State) : s.EndStep s := ⟨fun _ _ _ => rfl, rfl⟩

theorem trans (h : s.EndStep t) (h' : t.EndStep u) : s.EndStep u :=
  ⟨fun a ha hstat => (h'.words a ha hstat).trans (h.words a ha hstat), h'.arr.trans h.arr⟩

theorem of_regs (hregs : u.regs = s.regs) (harr : u.arr = s.arr) : s.EndStep u :=
  ⟨fun _ _ _ => by rw [State.rd, State.rd, hregs], harr⟩

theorem wr (h : s.EndStep t) (a : Nat) (v : Word) (ha : a / 256 ≠ 20 ∨ a = A.ARR_USER_STAT) : s.EndStep (t.wr a v) :=
  h.trans ⟨fun b hb hstat => by
    have hab : b ≠ a := fun hab => ha.elim (fun hne => hne (by rw [← hab, hb])) fun heq => hstat (hab.trans heq)
    exact t.rd_wr_ne hab v, rfl⟩

theorem put (h : s.EndStep t) (f : Fld) (x : Nat) (ha : f.addr / 256 ≠ 20 ∨ f.addr = A.ARR_USER_STAT) :
    s.EndStep (t.put f x) := h.wr f.addr _ ha

theorem val (h : s.EndStep u) {a : Nat} (ha : a / 256 = 20 := by decide) (hstat : a ≠ A.ARR_USER_STAT := by decide) :
    u.val a = s.val a := by rw [State.val, State.val, h.words a ha hstat]

end State.EndStep

section ends
variable (s : State) (j : ArrJob)

theorem State.prediction_ends (p : Option Int) : s.EndStep (s.prediction p) := by
  unfold State.prediction
  split
  · split
    · exact .of_regs rfl rfl
    · exact .refl s
  · exact .refl s

theorem State.scoreFlow_ends (tag v : Nat) : s.EndStep (s.scoreFlow tag v) := by
  unfold State.scoreFlow
  split
  · exact (State.EndStep.refl s).put (wordFld A.ADM_CNT_SCORE_DROPPED) _ (.inl (by decide))
  · exact .of_regs rfl rfl

theorem State.seenOnce_ends {f : Fld} (hf : f.addr / 256 ≠ 20) (e : EventId) : s.EndStep (s.seenOnce f e) := by
  have hbit : s.EndStep (s.setBit f true) := (State.EndStep.refl s).put f _ (.inl hf)
  unfold State.seenOnce State.raiseIf
  split
  · exact hbit.trans (.of_regs rfl rfl)
  · exact hbit

theorem State.scoresVoid_ends (tags : List Nat) : s.EndStep (s.scoresVoid tags) := by
  have hvoid : ∀ x, s.EndStep (s.setAdm x) := fun x => .of_regs rfl rfl
  exact (hvoid _).trans (State.seenOnce_ends _ (by decide) _)

theorem State.deliver_ends (values : Option (List Int)) : s.EndStep (s.deliver j values) := by
  unfold State.deliver
  split
  · exact s.prediction_ends _
  · exact .of_regs rfl rfl
  · split
    · exact State.each_keeps (P := fun u => s.EndStep u) (fun _ _ u hu => hu.trans (u.scoreFlow_ends _ _)) (.refl s)
    · exact s.scoresVoid_ends _
  · exact .refl s

theorem State.userEnds_ends (reason : Nat) : s.EndStep (s.userEnds j reason) := by
  have hstat := ((State.EndStep.refl s).put F.ARR_USER_STAT_STATE 3 (.inr rfl)).put F.ARR_USER_STAT_REASON reason (.inr rfl)
  unfold State.userEnds
  split
  · dsimp only
    split
    · refine State.each_keeps (P := fun u => s.EndStep u) (fun i hi u hu => hu.wr (A.ARRW_OUT i) _ (.inl ?_)) hstat
      have hi128 : i < 128 := List.mem_range.1 hi
      rw [A.ARRW_OUT]
      omega
    · exact hstat
  · exact .refl s

/-- What follows the count of an end: its record, USER_STAT, and the consumer. -/
def State.jobEnds (reason : Nat) (body : List Word) : State :=
  ((s.trace 8 body).userEnds j reason).deliver j (if reason = 0 then some j.values else none)

theorem State.jobEnds_ends (reason : Nat) (body : List Word) : s.EndStep (s.jobEnds j reason body) := by
  have htrace : s.EndStep (s.trace 8 body) := by
    rw [State.trace_eq]
    exact .of_regs rfl rfl
  exact (htrace.trans (State.userEnds_ends _ j reason)).trans (State.deliver_ends _ j _)

/-- The count of an end VOID, and which job it was. -/
def State.jobVoided (reason name : Nat) : State :=
  (((s.count (wordFld A.ARR_JOB_VOID) 1).setMulti A.ARR_LAST_DESC_HI j.descriptor 2).setVal A.ARR_LAST_VOID
    (j.cls + j.model * 16 + reason * 256 + name * 65536)).seenOnce F.ARR_JOB_STAT_JOB_VOID_SEEN Ev.JOB_VOID

/-- The count of an end DONE, and which job it was. -/
def State.jobDone : State := (s.count (wordFld A.ARR_JOB_DONE) 1).setMulti A.ARR_LAST_DESC_HI j.descriptor 2

end ends

/-! ### The words of an end -/

section words
variable (s : State) (j : ArrJob)

theorem State.seenOnce_eq (f : Fld) (e : EventId) :
    s.seenOnce f e = s.setBit f true ∨ s.seenOnce f e = (s.setBit f true).raise e := by
  unfold State.seenOnce State.raiseIf
  split
  · exact .inr rfl
  · exact .inl rfl

theorem State.val_seenOnce_ne {f : Fld} {a : Nat} (ha : a ≠ f.addr) (e : EventId) : (s.seenOnce f e).val a = s.val a := by
  rcases s.seenOnce_eq f e with h | h <;> rw [h]
  · exact s.val_setVal_ne ha _
  · exact s.val_setVal_ne ha _

theorem State.seenOnce_arr (f : Fld) (e : EventId) : (s.seenOnce f e).arr = s.arr := by
  rcases s.seenOnce_eq f e with h | h <;> rw [h] <;> rfl

theorem State.setMulti_arr (a x k : Nat) : (s.setMulti a x k).arr = s.arr := by
  induction k generalizing x with
  | zero => rfl
  | succ k ih => rw [State.setMulti, State.setVal_arr, ih]

theorem State.val_setMulti_ne {a b k : Nat} (h : b < a ∨ a + k ≤ b) (x : Nat) : (s.setMulti a x k).val b = s.val b := by
  rw [State.val, State.val, State.rd_setMulti_ne s h x]

theorem State.val_count_ne {a b : Nat} (h : b ≠ a) (k : Nat) : (s.count (wordFld a) k).val b = s.val b :=
  s.val_setVal_ne h _

theorem State.jobDone_arr : (s.jobDone j).arr = s.arr := by rw [State.jobDone, State.setMulti_arr, State.count_arr]

theorem State.jobVoided_arr (reason name : Nat) : (s.jobVoided j reason name).arr = s.arr := by
  rw [State.jobVoided, State.seenOnce_arr, State.setVal_arr, State.setMulti_arr, State.count_arr]

theorem State.jobDone_done : (s.jobDone j).val A.ARR_JOB_DONE = (s.val A.ARR_JOB_DONE + 1) % 2 ^ 32 := by
  rw [State.jobDone, State.val_setMulti_ne _ (by decide), State.val_count_word]

theorem State.jobDone_void : (s.jobDone j).val A.ARR_JOB_VOID = s.val A.ARR_JOB_VOID := by
  rw [State.jobDone, State.val_setMulti_ne _ (by decide), State.val_count_ne _ (by decide)]

theorem State.jobVoided_void (reason name : Nat) :
    (s.jobVoided j reason name).val A.ARR_JOB_VOID = (s.val A.ARR_JOB_VOID + 1) % 2 ^ 32 := by
  rw [State.jobVoided, State.val_seenOnce_ne _ (by decide), State.val_setVal_ne _ (by decide),
    State.val_setMulti_ne _ (by decide), State.val_count_word]

theorem State.jobVoided_done (reason name : Nat) :
    (s.jobVoided j reason name).val A.ARR_JOB_DONE = s.val A.ARR_JOB_DONE := by
  rw [State.jobVoided, State.val_seenOnce_ne _ (by decide), State.val_setVal_ne _ (by decide),
    State.val_setMulti_ne _ (by decide), State.val_count_ne _ (by decide)]

theorem State.jobVoided_user (reason name : Nat) :
    (s.jobVoided j reason name).val A.ARR_USER_STAT = s.val A.ARR_USER_STAT := by
  rw [State.jobVoided, State.val_seenOnce_ne _ (by decide), State.val_setVal_ne _ (by decide),
    State.val_setMulti_ne _ (by decide), State.val_count_ne _ (by decide)]

theorem State.jobVoided_last (reason name : Nat) : (s.jobVoided j reason name).val A.ARR_LAST_VOID =
    (j.cls + j.model * 16 + reason * 256 + name * 65536) % 2 ^ 32 := by
  rw [State.jobVoided, State.val_seenOnce_ne _ (by decide), State.val_setVal_self]

theorem State.jobVoided_desc (reason name : Nat) :
    (s.jobVoided j reason name).multi A.ARR_LAST_DESC_HI 2 = j.descriptor % 2 ^ 64 := by
  rw [State.jobVoided, ← State.multi_setMulti_self (s.count (wordFld A.ARR_JOB_VOID) 1) A.ARR_LAST_DESC_HI j.descriptor 2]
  refine State.multi_congr _ fun i hi => ?_
  have hdesc : ∀ a, a = A.ARR_LAST_DESC_HI + i → a ≠ A.ARR_JOB_STAT ∧ a ≠ A.ARR_LAST_VOID := fun a ha => by
    simp only [ha, A.ARR_LAST_DESC_HI, A.ARR_JOB_STAT, A.ARR_LAST_VOID]
    omega
  rw [State.val_seenOnce_ne _ (hdesc _ rfl).1, State.val_setVal_ne _ (hdesc _ rfl).2]

end words

/-! ### The end of a job -/

section endJob
variable {s : State} {j : ArrJob} {reason : Nat} {tile : Option Nat}

/-- The free value that names no tile, or the tile. -/
def State.voidName (s : State) (tile : Option Nat) : Nat := tile.getD (s.freeNat % 32)

/-- The state in which an end VOID is counted: without a tile a value has been drawn. -/
def State.voidFrom (s : State) (tile : Option Nat) : State := if tile = none then s.drawn else s

theorem State.voidFrom_same (s : State) (tile : Option Nat) :
    (s.voidFrom tile).arr = s.arr ∧ (s.voidFrom tile).regs = s.regs := by
  unfold State.voidFrom
  split <;> exact ⟨rfl, rfl⟩

theorem State.endJob_done (hup : s.up .array = true) (j : ArrJob) :
    ∃ body, s.endJob j 0 tile = (s.jobDone j).jobEnds j 0 body := by
  unfold State.endJob
  simp only [ne_eq, not_true_eq_false, false_and, if_false, hup, if_true, true_and]
  exact ⟨_, rfl⟩

theorem State.endJob_void (hr : reason ≠ 0) : ∃ body, s.endJob j reason tile =
    (if s.up .array then (s.voidFrom tile).jobVoided j reason (s.voidName tile) else s.voidFrom tile).jobEnds j reason
      body := by
  have hup : (s.voidFrom tile).up .array = s.up .array := by rw [State.voidFrom]; split <;> rfl
  rw [← hup]
  unfold State.endJob State.jobEnds State.voidFrom State.voidName
  cases tile <;> simp only [hr, ne_eq, not_false_eq_true, true_and, if_true, if_false, Option.getD] <;> exact ⟨_, rfl⟩

/-- An end VOID leaves the jobs and the tiles, and with ARRAY up counts and names the job. -/
theorem State.endJob_void_spec (hr : reason ≠ 0) {u : State} (hu : u = s.endJob j reason tile) :
    u.arr = s.arr ∧ (s.up .array = true → u.val A.ARR_JOB_VOID = (s.val A.ARR_JOB_VOID + 1) % 2 ^ 32 ∧
      u.val A.ARR_JOB_DONE = s.val A.ARR_JOB_DONE ∧
      u.val A.ARR_LAST_VOID = (j.cls + j.model * 16 + reason * 256 + s.voidName tile * 65536) % 2 ^ 32 ∧
      u.multi A.ARR_LAST_DESC_HI 2 = j.descriptor % 2 ^ 64) := by
  obtain ⟨body, h⟩ := State.endJob_void (s := s) (j := j) (tile := tile) hr
  obtain ⟨harr, hregs⟩ := s.voidFrom_same tile
  have hval : ∀ a, (s.voidFrom tile).val a = s.val a := fun a => by rw [State.val, State.val, State.rd_of_regs hregs]
  generalize s.voidName tile = name at *
  generalize s.voidFrom tile = r at *
  rw [h] at hu
  have hends := State.jobEnds_ends (if s.up .array then r.jobVoided j reason name else r) j reason body
  rw [← hu] at hends
  refine ⟨?_, fun hup => ?_⟩
  · rw [hends.arr, ← harr]
    split
    · exact r.jobVoided_arr j reason name
    · rfl
  · rw [if_pos hup] at hends
    refine ⟨?_, ?_, ?_, ?_⟩
    · rw [hends.val, State.jobVoided_void, hval]
    · rw [hends.val, State.jobVoided_done, hval]
    · rw [hends.val, State.jobVoided_last]
    · rw [← r.jobVoided_desc j reason name]
      refine State.multi_congr _ fun i hi => hends.val ?_ ?_ <;>
        simp only [A.ARR_LAST_DESC_HI, A.ARR_USER_STAT] <;> omega

/-- An end DONE leaves the jobs and the tiles, and counts. -/
theorem State.endJob_done_spec (hup : s.up .array = true) {u : State} (hu : u = s.endJob j 0 tile) :
    u.arr = s.arr ∧ u.val A.ARR_JOB_DONE = (s.val A.ARR_JOB_DONE + 1) % 2 ^ 32 ∧
      u.val A.ARR_JOB_VOID = s.val A.ARR_JOB_VOID := by
  obtain ⟨body, h⟩ := State.endJob_done (tile := tile) hup j
  have hends := State.jobEnds_ends (s.jobDone j) j 0 body
  rw [← h, ← hu] at hends
  exact ⟨by rw [hends.arr, State.jobDone_arr], by rw [hends.val, State.jobDone_done], by rw [hends.val, State.jobDone_void]⟩

/-- USER_STAT of a USER job that ends VOID without results. -/
def State.userVoided (s : State) (reason : Nat) : State :=
  (s.put F.ARR_USER_STAT_STATE 3).put F.ARR_USER_STAT_REASON reason

theorem State.userVoided_stat (s : State) {reason : Nat} (h : reason < 16) :
    (s.userVoided reason).get F.ARR_USER_STAT_STATE = 3 ∧ (s.userVoided reason).get F.ARR_USER_STAT_REASON = reason ∧
      (s.userVoided reason).get F.ARR_USER_STAT_TAG = s.get F.ARR_USER_STAT_TAG :=
  ⟨(State.get_put_beside _ _ 8 4 reason).trans (State.get_put_self s F.ARR_USER_STAT_STATE 3 (by decide)),
    (State.get_put_self _ F.ARR_USER_STAT_REASON reason (by decide)).trans (Nat.mod_eq_of_lt h),
    (State.get_put_beside _ _ 8 4 reason).trans (State.get_put_beside s _ 0 2 3)⟩

theorem State.jobEnds_user (s : State) (hcls : j.cls = 3) (hr : reason ≠ 0) (h4 : reason ≠ 4) (body : List Word) :
    s.jobEnds j reason body = (s.trace 8 body).userVoided reason := by
  simp [State.jobEnds, State.userEnds, State.deliver, State.userVoided, hcls, hr, h4]

/-- A USER job that ends VOID without results shows its reason in USER_STAT, and keeps its TAG. -/
theorem State.endJob_user (hcls : j.cls = 3) (hr : reason ≠ 0) (h4 : reason ≠ 4) (hlt : reason < 16) {u : State}
    (hu : u = s.endJob j reason tile) : u.get F.ARR_USER_STAT_STATE = 3 ∧
      u.get F.ARR_USER_STAT_REASON = reason ∧ u.get F.ARR_USER_STAT_TAG = s.get F.ARR_USER_STAT_TAG := by
  obtain ⟨body, h⟩ := State.endJob_void (s := s) (j := j) (tile := tile) hr
  obtain ⟨-, hregs⟩ := s.voidFrom_same tile
  have hval : ∀ a, (s.voidFrom tile).val a = s.val a := fun a => by rw [State.val, State.val, State.rd_of_regs hregs]
  generalize s.voidName tile = name at *
  generalize s.voidFrom tile = r at *
  have hcount : (if s.up .array then r.jobVoided j reason name else r).val A.ARR_USER_STAT = s.val A.ARR_USER_STAT := by
    rw [← hval]
    split
    · exact r.jobVoided_user j reason name
    · rfl
  generalize (if s.up .array then r.jobVoided j reason name else r) = t at *
  obtain ⟨hstate, hreason, htag⟩ := (t.trace 8 body).userVoided_stat hlt
  have htrace : (t.trace 8 body).val A.ARR_USER_STAT = s.val A.ARR_USER_STAT := by
    rw [State.trace_eq, ← hcount]
    rfl
  rw [hu, h, t.jobEnds_user hcls hr h4]
  refine ⟨hstate, hreason, htag.trans ?_⟩
  rw [State.get, State.get]
  exact congrArg (bitsAt · 16 8) htrace

/-- An INTEG job that ends VOID leaves its slot the verdict UNKNOWN. -/
theorem State.endJob_integ (hcls : j.cls = 1) (hn : j.origin < 12) (hr : reason ≠ 0) :
    ((s.endJob j reason tile).slot j.origin).job = 3 := by
  obtain ⟨body, h⟩ := State.endJob_void (s := s) (j := j) (tile := tile) hr
  rw [h, State.jobEnds, if_neg hr]
  generalize State.userEnds _ j reason = t
  have hdeliver : t.deliver j none = t.setSlot j.origin { t.slot j.origin with job := 3 } := by
    simp [State.deliver, hcls]
  rw [hdeliver, State.slot_setSlot t hn, if_pos rfl]

end endJob

/-! ### Offers (R531, R535) -/

section offer
variable {s : State} {j : ArrJob}

/-- A job behind the others. -/
def State.jobQueued (s : State) (j : ArrJob) : State := { s with arr := { s.arr with queue := s.arr.queue ++ [j] } }

/-- With ARRAY up, room in its class, its model enabled and no load, a job joins the queue. -/
theorem State.offer_queued (hdom : s.dom .array = 2)
    (hroom : (s.arr.queue.filter (fun k => k.cls == j.cls)).length < classLimit j.cls)
    (hen : s.bit (F.ARR_Mm_CTL_EN j.model) = true) (hload : s.arr.load = none) : s.offer j = s.jobQueued j := by
  rw [State.offer, if_neg (not_not_intro hdom), if_neg (Nat.not_le.2 hroom), if_neg (by simp [hen]), hload]
  rfl

/-- Without one of the first three it ends VOID, a disabled model's by reason 2. -/
theorem State.offer_void (h : s.dom .array ≠ 2 ∨
    classLimit j.cls ≤ (s.arr.queue.filter (fun k => k.cls == j.cls)).length ∨
    s.bit (F.ARR_Mm_CTL_EN j.model) = false) : ∃ reason, reason ≠ 0 ∧ s.offer j = s.endJob j reason none := by
  unfold State.offer
  split
  · exact ⟨8, by decide, rfl⟩
  · next hdom =>
    split
    · exact ⟨1, by decide, rfl⟩
    · next hroom =>
      rw [if_pos ((h.resolve_left hdom).resolve_left hroom)]
      exact ⟨2, by decide, rfl⟩

theorem State.offer_disabled (hdom : s.dom .array = 2)
    (hroom : (s.arr.queue.filter (fun k => k.cls == j.cls)).length < classLimit j.cls)
    (hen : s.bit (F.ARR_Mm_CTL_EN j.model) = false) : s.offer j = s.endJob j 2 none := by
  rw [State.offer, if_neg (not_not_intro hdom), if_neg (Nat.not_le.2 hroom), if_pos hen]

/-- A job joins the queue, or ends VOID before it has rolled. -/
theorem State.offer_cases (s : State) (j : ArrJob) : s.offer j = s.jobQueued j ∨
    ∃ reason tile, reason ≠ 0 ∧ reason ≠ 4 ∧ reason < 16 ∧ s.offer j = s.endJob j reason tile := by
  unfold State.offer
  split
  · exact .inr ⟨8, none, by decide, by decide, by decide, rfl⟩
  · split
    · exact .inr ⟨1, none, by decide, by decide, by decide, rfl⟩
    · split
      · exact .inr ⟨2, none, by decide, by decide, by decide, rfl⟩
      · split
        · split
          · exact .inr ⟨6, _, by decide, by decide, by decide, rfl⟩
          · exact .inl rfl
        · exact .inl rfl

/-- An offer leaves the running jobs and the tiles; the queue is the same, or one longer. -/
theorem State.offer_arr (s : State) (j : ArrJob) :
    (s.offer j).arr = s.arr ∨ (s.offer j).arr = { s.arr with queue := s.arr.queue ++ [j] } := by
  rcases s.offer_cases j with h | ⟨reason, tile, hr, -, -, h⟩
  · exact .inr (by rw [h]; rfl)
  · exact .inl (State.endJob_void_spec hr h).1

end offer

end Sys2Proof.Machine
end

section
/-! SUPPORT. The tiles of a job: a roll starts on them, its vectors run, and they are free again (R533, R535). -/

-- As in the tests: elaborated in parallel, these proofs' thread stacks would exceed the check's memory limit.
set_option Elab.async false

namespace Sys2Proof.Machine

/-! ### One tile -/

section tile
variable (s : State)

theorem State.tile_setTile {t : Nat} (ht : tileSlot t < 16) (k : Nat) (x : Tile) :
    (s.setTile t x).tile k = if tileSlot k = tileSlot t then x else s.tile k := getD_setIfInBounds _ _ _ _ _ ht

/-- A code of no tile is written nowhere. -/
theorem State.tile_setTile_beyond {t : Nat} (ht : 16 ≤ tileSlot t) (k : Nat) (x : Tile) :
    (s.setTile t x).tile k = s.tile k := by
  unfold State.tile State.setTile
  rw [Vector.setIfInBounds_eq_of_size_le ht]

/-- A tile reads as it was, or as a write to its place left it. -/
theorem State.tile_setTile_cases (t k : Nat) (x : Tile) : (s.setTile t x).tile k = s.tile k ∨
    (tileSlot k = tileSlot t ∧ (s.setTile t x).tile k = x) := by
  rcases Nat.lt_or_ge (tileSlot t) 16 with ht | ht
  · rw [s.tile_setTile ht]
    split
    · next h => exact .inr ⟨h, rfl⟩
    · exact .inl rfl
  · exact .inl (s.tile_setTile_beyond ht k x)

/-- A tile written with its own operation leaves every tile's operation. -/
theorem State.op_setTile_same {t : Nat} {x : Tile} (hx : x.op = (s.tile t).op) (k : Nat) :
    ((s.setTile t x).tile k).op = (s.tile k).op := by
  rcases s.tile_setTile_cases t k x with h | ⟨hslot, h⟩
  · rw [h]
  · rw [h, hx, State.tile, State.tile, hslot]

end tile

/-! ### What rolls leave -/

/-- `u` follows `s` by the rolls of a job: the jobs stand, and every tile goes on with its operation. -/
structure State.RollStep (s u : State) : Prop where
  queue : u.arr.queue = s.arr.queue
  running : u.arr.running = s.arr.running
  op : ∀ k, (u.tile k).op = (s.tile k).op

namespace State.RollStep
variable {s t u : State}

theorem refl (s : State) : s.RollStep s := ⟨rfl, rfl, fun _ => rfl⟩

theorem trans (h : s.RollStep t) (h' : t.RollStep u) : s.RollStep u :=
  ⟨h'.queue.trans h.queue, h'.running.trans h.running, fun k => (h'.op k).trans (h.op k)⟩

theorem of_arr (h : u.arr = s.arr) : s.RollStep u :=
  ⟨by rw [h], by rw [h], fun k => by rw [State.tile, State.tile, h]⟩

theorem setTile (s : State) {k : Nat} {x : Tile} (hx : x.op = (s.tile k).op) : s.RollStep (s.setTile k x) :=
  ⟨rfl, rfl, s.op_setTile_same hx⟩

theorem eccEvent (s : State) (k row : Nat) (lost : Bool) : s.RollStep (s.eccEvent k row lost) := by
  unfold State.eccEvent
  split
  · exact refl s
  · split
    · exact (setTile s (k := k) (x := { s.tile k with img := (s.tile k).img.clearValid row }) rfl).trans
        (of_arr (by rw [State.raise_arr, State.setBit_arr, State.countSat_arr]))
    · exact of_arr (State.countSat_arr _ _ _)

theorem rollMarks (s : State) (k : Nat) (r : Roll) (codes : List Nat) : s.RollStep (s.rollMarks k r codes) := by
  refine of_arr ?_
  unfold State.rollMarks
  dsimp only
  split
  · rw [State.seenOnce_arr]
    split <;> rfl
  · split <;> rfl

theorem reload (s : State) (k layer : Nat) : s.RollStep (s.reload k layer) := setTile s rfl

theorem reloadFails (s : State) (k layer row : Nat) : s.RollStep (s.reloadFails k layer row) := setTile s rfl

theorem rollOn {r : JobRun} (h : s.RollStep r.state) (m stage split : Nat) (x : List Int) (tb : Nat × Nat)
    (ys : List (List Int)) : s.RollStep (r.rollOn m stage split x tb ys).1.state := by
  unfold JobRun.rollOn
  split
  · exact h
  · extract_lets k u rows input g o n v r1
    have hecc : s.RollStep u :=
      List.foldlRecOn (motive := fun u => s.RollStep u) _ _ h fun u hu _ _ => hu.trans (eccEvent u _ _ _)
    have hroll : s.RollStep v := hecc.trans (rollMarks u k o r.codes)
    clear_value u v
    split
    · exact h
    · split
      · exact hroll
      · split
        · exact hroll
        · exact hroll

theorem stage {r : JobRun} (h : s.RollStep r.state) (m k : Nat) : s.RollStep (r.stage m k).state := by
  unfold JobRun.stage
  split
  · exact h
  · extract_lets v tiles layer split x t0 r0 out y
    have h0 : s.RollStep r0.state := by
      unfold r0
      split
      · exact h
      · split
        · exact h.trans (reload _ _ _)
        · exact h.trans (reloadFails _ _ _ _)
    exact List.foldlRecOn (motive := fun a : JobRun × List (List Int) => s.RollStep a.1.state) _ _ h0
      fun a ha tb _ => ha.rollOn m k split x tb a.2

theorem vector {r : JobRun} (h : s.RollStep r.state) (m : Nat) (x : List Int) : s.RollStep (r.vector m x).state := by
  refine List.foldlRecOn (motive := fun a : JobRun => s.RollStep a.state) _ _ h fun a ha k _ => ?_
  dsimp only
  split
  · exact ha.stage m k
  · exact ha.stage m k

theorem vectors {r : JobRun} (h : s.RollStep r.state) (m : Nat) (xs : List (List Int)) :
    s.RollStep (r.vectors m xs).1.state := by
  induction xs generalizing r with
  | nil => exact h
  | cons x xs ih => exact ih (h.vector m x)

end State.RollStep

/-- A job has a result for each vector. -/
theorem JobRun.vectors_length (r : JobRun) (m : Nat) (xs : List (List Int)) : (r.vectors m xs).2.length = xs.length := by
  induction xs generalizing r with
  | nil => rfl
  | cons x xs ih => exact congrArg (· + 1) (ih (r.vector m x))

/-! ### The start of a job -/

/-- Tiles that take up a roll all roll, and the jobs stand. -/
theorem State.each_roll (s : State) (l : List Nat) {u : State}
    (hu : u = s.each l (fun t u => u.setTile t { u.tile t with op := .roll })) :
    u.arr.queue = s.arr.queue ∧ u.arr.running = s.arr.running ∧
      ∀ t ∈ l, tileSlot t < 16 → (u.tile t).op = .roll := by
  subst hu
  refine ⟨?_, ?_, fun t ht hslot => ?_⟩
  · refine State.each_keeps (P := fun u => u.arr.queue = s.arr.queue) (fun _ _ u hu => ?_) rfl
    exact hu
  · refine State.each_keeps (P := fun u => u.arr.running = s.arr.running) (fun _ _ u hu => ?_) rfl
    exact hu
  · refine State.each_reaches (P := fun u => (u.tile t).op = .roll) ht (fun u => ?_) (fun k _ u hu => ?_) s
    · rw [State.tile_setTile _ hslot, if_pos rfl]
    · rcases u.tile_setTile_cases k t { u.tile k with op := .roll } with h | ⟨-, h⟩
      · rw [h]
        exact hu
      · rw [h]

/-- `u` has the words and the jobs of `s`; its tiles and layer images may differ. -/
structure State.JobsKept (s u : State) : Prop where
  regs : u.regs = s.regs
  queue : u.arr.queue = s.arr.queue
  running : u.arr.running = s.arr.running

theorem State.JobsKept.trans {s t u : State} (h : s.JobsKept t) (h' : t.JobsKept u) : s.JobsKept u :=
  ⟨h'.regs.trans h.regs, h'.queue.trans h.queue, h'.running.trans h.running⟩

theorem State.get_of_regs {s u : State} (h : u.regs = s.regs) (f : Fld) : u.get f = s.get f := by
  rw [State.get, State.get, State.val, State.val, State.rd_of_regs h]

theorem State.JobsKept.val {s u : State} (h : s.JobsKept u) (a : Nat) : u.val a = s.val a := by
  rw [State.val, State.val, State.rd_of_regs h.regs]

theorem State.JobsKept.up {s u : State} (h : s.JobsKept u) (d : Domain) : u.up d = s.up d := by
  rw [State.up, State.up, State.dom, State.dom, State.get_of_regs h.regs]

theorem State.jobsKept_setTile (s : State) (t : Nat) (x : Tile) : s.JobsKept (s.setTile t x) := ⟨rfl, rfl, rfl⟩

section free
variable (s : State)

/-- An idle tile takes up no roll of its own. -/
theorem State.nextOp_ne_roll (t : Nat) : s.nextOp t ≠ .roll := by
  unfold State.nextOp
  dsimp only
  split
  · decide
  · split
    · decide
    · split
      · nofun
      · split
        · decide
        · decide

theorem State.kick_cases (t : Nat) : s.kick t = s ∨ ∃ x, x.op ≠ .roll ∧ s.kick t = s.setTile t x := by
  have hnext := s.nextOp_ne_roll t
  unfold State.kick
  dsimp only
  split
  · split
    · refine .inr ⟨_, ?_, rfl⟩
      exact TileOp.noConfusion
    · exact .inr ⟨_, hnext, rfl⟩
  · exact .inl rfl

variable {s}

/-- A write of another operation to some tile leaves a tile that does not roll so. -/
theorem State.setTile_unrolled {t k : Nat} {x : Tile} (hx : x.op ≠ .roll) (h : (s.tile k).op ≠ .roll) :
    ((s.setTile t x).tile k).op ≠ .roll := by
  rcases s.tile_setTile_cases t k x with hk | ⟨-, hk⟩ <;> rw [hk]
  · exact h
  · exact hx

theorem State.kick_unrolled {k : Nat} (h : (s.tile k).op ≠ .roll) (t : Nat) : ((s.kick t).tile k).op ≠ .roll := by
  rcases s.kick_cases t with hk | ⟨x, hx, hk⟩ <;> rw [hk]
  · exact h
  · exact State.setTile_unrolled hx h

theorem State.freeTile_unrolled {k : Nat} (h : (s.tile k).op ≠ .roll) (t : Nat) :
    ((s.freeTile t).tile k).op ≠ .roll :=
  State.kick_unrolled (State.setTile_unrolled (x := { s.tile t with op := .idle }) TileOp.noConfusion h) t

/-- A tile that is freed rolls no more. -/
theorem State.freeTile_frees {t : Nat} (ht : tileSlot t < 16) : ((s.freeTile t).tile t).op ≠ .roll := by
  refine State.kick_unrolled ?_ t
  rw [State.tile_setTile _ ht, if_pos rfl]
  exact TileOp.noConfusion

theorem State.freeTile_jobs (s : State) (t : Nat) : s.JobsKept (s.freeTile t) := by
  have hset : s.JobsKept (s.setTile t { s.tile t with op := .idle }) := s.jobsKept_setTile t _
  unfold State.freeTile
  rcases (s.setTile t { s.tile t with op := .idle }).kick_cases t with h | ⟨x, -, h⟩ <;> rw [h]
  · exact hset
  · exact hset.trans (State.jobsKept_setTile _ t x)

theorem State.freeTiles_jobs (s : State) (j : ArrJob) : s.JobsKept (s.freeTiles j) := by
  refine State.each_keeps (P := fun u => s.JobsKept u) (fun t _ u hu => ?_) ⟨rfl, rfl, rfl⟩
  split
  · exact hu.trans (u.freeTile_jobs t)
  · exact hu

theorem State.freeTiles_frees (s : State) {j : ArrJob} {t : Nat} (ht : t ∈ j.tiles) (hslot : tileSlot t < 16) :
    ((s.freeTiles j).tile t).op ≠ .roll := by
  refine State.each_reaches (P := fun u => (u.tile t).op ≠ .roll) ht (fun u => ?_) (fun k _ u hu => ?_) s
  · split
    · exact State.freeTile_frees hslot
    · next h => exact h
  · split
    · exact State.freeTile_unrolled hu k
    · exact hu

/-- The layer engine goes on with its load. -/
theorem State.layerKick_jobs (s : State) : s.JobsKept s.layerKick ∧ ∀ t, s.layerKick.tile t = s.tile t := by
  unfold State.layerKick
  split
  · dsimp only
    split
    · split
      · exact ⟨⟨rfl, rfl, rfl⟩, fun _ => rfl⟩
      · exact ⟨⟨rfl, rfl, rfl⟩, fun _ => rfl⟩
    · exact ⟨⟨rfl, rfl, rfl⟩, fun _ => rfl⟩
  · exact ⟨⟨rfl, rfl, rfl⟩, fun _ => rfl⟩

theorem tileSlot_lt {t : Nat} (h : isTile t = true) : tileSlot t < 16 := by
  simp only [isTile, analogTile, within, Bool.or_eq_true, Bool.and_eq_true, decide_eq_true_eq] at h
  rw [tileSlot]
  split <;> omega

end free

end Sys2Proof.Machine
end

section
/-! Jobs are offered, start, pass their deadline and complete (O60). -/

-- As in the tests: elaborated in parallel, these proofs' thread stacks would exceed the check's memory limit.
set_option Elab.async false

namespace Sys2Proof.Machine

/-! ### The start, the deadline and the completion -/

section run
variable {s : State}

/-- The next job leaves the queue. -/
def State.jobTaken (s : State) (j : ArrJob) : State :=
  { s with arr := { s.arr with queue := dropFirst j.cls s.arr.queue } }

/-- A job joins those that run. -/
def State.jobRuns (s : State) (j : ArrJob) : State := { s with arr := { s.arr with running := s.arr.running ++ [j] } }

/-- USER_STAT shows a USER job that runs. -/
def State.userRuns (s : State) (j : ArrJob) : State := if j.cls = 3 then s.put F.ARR_USER_STAT_STATE 2 else s

/-- The tiles of a job take up its rolls. -/
def State.jobRolls (s : State) (j : ArrJob) : State :=
  ((s.jobTaken j).each (s.modelTiles j.model) (fun t u => u.setTile t { u.tile t with op := .roll })).userRuns j

/-- The run of a job's vectors, and their results. -/
def State.jobRun (s : State) (j : ArrJob) (codes : List Nat) (ecc : List (Nat × Nat × Bool)) (reloads : List (Option Nat)) :
    JobRun × List (List Int) :=
  JobRun.vectors { state := s.jobRolls j, codes := codes, ecc := ecc, reloads := reloads, x := [] } j.model j.inputs

/-- A job with what its run `r` gave. -/
def State.jobRan (s : State) (j : ArrJob) (r : JobRun × List (List Int)) : ArrJob :=
  { j with
    tiles := s.modelTiles j.model
    layers := s.modelLayers j.model
    results := r.2
    values := r.2.map (s.outValue j.model)
    spoilt := r.1.stop <|> r.1.sat.map (fun t => (4, t)) }

theorem State.jobRun_rolls (s : State) (j : ArrJob) (codes : List Nat) (ecc : List (Nat × Nat × Bool))
    (reloads : List (Option Nat)) : (s.jobRolls j).RollStep (s.jobRun j codes ecc reloads).1.state := by
  refine State.RollStep.vectors ?_ j.model j.inputs
  exact .refl _

theorem State.jobStart_none (h : s.nextJob = none) (codes : List Nat) (ecc : List (Nat × Nat × Bool))
    (reloads : List (Option Nat)) : s.jobStart codes ecc reloads = s := by rw [State.jobStart, h]

variable {j : ArrJob} (hnext : s.nextJob = some j) (codes : List Nat) (ecc : List (Nat × Nat × Bool))
  (reloads : List (Option Nat))
include hnext

/-- A failed tile among the job's ends it VOID. -/
theorem State.jobStart_failed {t : Nat} (ht : (s.modelTiles j.model).find? (fun t => s.tileState t == 7) = some t) :
    s.jobStart codes ecc reloads = (s.jobTaken j).endJob j 3 (some t) := by
  simp only [State.jobStart, hnext, ht]
  rfl

/-- Otherwise it runs, and its results are those of its vectors. -/
theorem State.jobStart_runs (ht : (s.modelTiles j.model).find? (fun t => s.tileState t == 7) = none) :
    s.jobStart codes ecc reloads = (s.jobRun j codes ecc reloads).1.state.jobRuns
      (s.jobRan j (s.jobRun j codes ecc reloads)) := by
  simp only [State.jobStart, hnext, ht]
  rfl

end run

/-- What runs: the job behind the others, with a result for each vector, on tiles that all roll. -/
theorem State.jobStart_running {s : State} {j : ArrJob} (hnext : s.nextJob = some j)
    (hready : (s.modelTiles j.model).all (fun t => s.tileState t != 7) = true) (codes : List Nat)
    (ecc : List (Nat × Nat × Bool)) (reloads : List (Option Nat)) {u : State} (hu : u = s.jobStart codes ecc reloads) :
    u.arr.queue = dropFirst j.cls s.arr.queue ∧ u.arr.running.dropLast = s.arr.running ∧
      u.arr.running.length = s.arr.running.length + 1 ∧ u.arr.running.getLast?.map ArrJob.cls = some j.cls ∧
      u.arr.running.getLast?.map (fun k => k.results.length) = some j.inputs.length ∧
      u.arr.running.getLast?.map ArrJob.tiles = some (s.modelTiles j.model) ∧
      ∀ t, t < 20 → t ∈ s.modelTiles j.model → (u.tile t).op = .roll := by
  have hnone : (s.modelTiles j.model).find? (fun t => s.tileState t == 7) = none :=
    List.find?_eq_none.2 fun t ht => by simpa using List.all_eq_true.1 hready t ht
  have hlen : (s.jobRun j codes ecc reloads).2.length = j.inputs.length := JobRun.vectors_length _ _ _
  have hstep := s.jobRun_rolls j codes ecc reloads
  obtain ⟨hqueue, hrunning, hroll⟩ := (s.jobTaken j).each_roll (s.modelTiles j.model) rfl
  have harr : ∀ t : State, (t.userRuns j).arr = t.arr := fun t => by unfold State.userRuns; split <;> rfl
  rw [State.jobStart_runs hnext codes ecc reloads hnone] at hu
  rw [State.jobRolls] at hstep
  generalize s.jobRun j codes ecc reloads = r at *
  have hran : (s.jobRan j r).cls = j.cls ∧ (s.jobRan j r).results = r.2 ∧ (s.jobRan j r).tiles = s.modelTiles j.model :=
    ⟨rfl, rfl, rfl⟩
  obtain ⟨hcls, hresults, htiles⟩ := hran
  generalize s.jobRan j r = ran at *
  generalize (s.jobTaken j).each (s.modelTiles j.model) (fun t u => u.setTile t { u.tile t with op := .roll }) = v at *
  have hstart : u.arr.running = s.arr.running ++ [ran] := by
    rw [hu, State.jobRuns, hstep.running, harr, hrunning]
    rfl
  rw [hstart]
  refine ⟨?_, List.dropLast_concat, List.length_append, ?_, ?_, ?_, fun t ht hmem => ?_⟩
  · rw [hu, State.jobRuns, hstep.queue, harr, hqueue]
    rfl
  · rw [List.getLast?_concat, Option.map_some, hcls]
  · rw [List.getLast?_concat, Option.map_some, hresults, hlen]
  · rw [List.getLast?_concat, Option.map_some, htiles]
  · have hslot : tileSlot t < 16 := by rw [tileSlot]; split <;> omega
    have hop : (u.tile t).op = (r.1.state.tile t).op := by rw [hu]; rfl
    rw [hop, hstep.op, State.tile, harr]
    exact hroll t hmem hslot

/-- A job with a failed tile ends VOID in the place of a start. -/
theorem State.jobStart_voided {s : State} (hup : s.up .array = true) {j : ArrJob} (hnext : s.nextJob = some j)
    (hfailed : (s.modelTiles j.model).any (fun t => s.tileState t == 7) = true) (codes : List Nat)
    (ecc : List (Nat × Nat × Bool)) (reloads : List (Option Nat)) {u : State} (hu : u = s.jobStart codes ecc reloads) :
    u.arr.queue = dropFirst j.cls s.arr.queue ∧ u.arr.running = s.arr.running ∧
      u.val A.ARR_JOB_VOID = (s.val A.ARR_JOB_VOID + 1) % 2 ^ 32 := by
  obtain ⟨t, ht⟩ := Option.isSome_iff_exists.1 ((List.find?_isSome).2 (List.any_eq_true.1 hfailed))
  rw [State.jobStart_failed hnext codes ecc reloads ht] at hu
  obtain ⟨harr, hwords⟩ := State.endJob_void_spec (by decide) hu
  obtain ⟨hvoid, -⟩ := hwords hup
  exact ⟨by rw [harr]; rfl, by rw [harr]; rfl, hvoid⟩

/-- A queued job passes its deadline. -/
theorem State.jobDeadline_spec {s : State} (hup : s.up .array = true) {k : Nat} {j : ArrJob} (hk : s.arr.queue[k]? = some j)
    {u : State} (hu : u = s.jobDeadline k) : u.arr.queue = s.arr.queue.eraseIdx k ∧ u.arr.running = s.arr.running ∧
      u.val A.ARR_JOB_VOID = (s.val A.ARR_JOB_VOID + 1) % 2 ^ 32 ∧
      (∃ name, name < 32 ∧ u.val A.ARR_LAST_VOID = (j.cls + j.model * 16 + 7 * 256 + name * 65536) % 2 ^ 32) ∧
      u.multi A.ARR_LAST_DESC_HI 2 = j.descriptor % 2 ^ 64 := by
  have hend : s.jobDeadline k = ({ s with arr := { s.arr with queue := s.arr.queue.eraseIdx k } } : State).endJob j 7 none := by
    simp only [State.jobDeadline, hk]
  obtain ⟨harr, hwords⟩ := State.endJob_void_spec (by decide) (hu.trans hend)
  obtain ⟨hvoid, -, hlast, hdesc⟩ := hwords hup
  exact ⟨by rw [harr], by rw [harr], hvoid, ⟨_, Nat.mod_lt _ (by decide), hlast⟩, hdesc⟩

theorem State.jobDeadline_none {s : State} {k : Nat} (hk : s.arr.queue.length ≤ k) : s.jobDeadline k = s := by
  rw [State.jobDeadline, List.getElem?_eq_none hk]

/-! ### A completion -/

/-- The running job of a model is taken out. -/
def State.jobOver (s : State) (m : Nat) : State :=
  { s with arr := { s.arr with running := s.arr.running.filter (fun k => k.model != m) } }

/-- Its tiles are freed, and a load of a layer may go on. -/
def State.jobFreed (s : State) (m : Nat) (j : ArrJob) : State := ((s.jobOver m).freeTiles j).layerKick

section complete
variable {s : State} {m : Nat}

theorem State.jobComplete_none (h : s.arr.running.find? (fun j => j.model == m) = none) : s.jobComplete m = s := by
  rw [State.jobComplete, h]

variable {j : ArrJob} (h : s.arr.running.find? (fun j => j.model == m) = some j)
include h

theorem State.jobComplete_done (hj : j.spoilt = none) : s.jobComplete m = (s.jobFreed m j).endJob j 0 none := by
  simp only [State.jobComplete, h, hj]
  rfl

theorem State.jobComplete_void {x : Nat × Nat} (hj : j.spoilt = some x) :
    s.jobComplete m = (s.jobFreed m j).endJob j x.1 (some x.2) := by
  simp only [State.jobComplete, h, hj]
  rfl

end complete

/-- The job's tiles are free, and the other jobs run on. -/
theorem State.jobFreed_spec (s : State) (m : Nat) (j : ArrJob) : (s.jobOver m).JobsKept (s.jobFreed m j) ∧
    ∀ t, isTile t = true → t ∈ j.tiles → ((s.jobFreed m j).tile t).op ≠ .roll := by
  obtain ⟨hjobs, htiles⟩ := ((s.jobOver m).freeTiles j).layerKick_jobs
  refine ⟨((s.jobOver m).freeTiles_jobs j).trans hjobs, fun t ht hmem => ?_⟩
  rw [State.jobFreed, htiles]
  exact (s.jobOver m).freeTiles_frees hmem (tileSlot_lt ht)

/-- A completion frees the job's tiles, and counts it. -/
theorem State.jobComplete_spec {s : State} (hup : s.up .array = true) {m : Nat} {j : ArrJob}
    (h : s.arr.running.find? (fun j => j.model == m) = some j) {u : State} (hu : u = s.jobComplete m) :
    u.arr.running = s.arr.running.filter (fun k => k.model != m) ∧ u.arr.queue = s.arr.queue ∧
      (∀ t, isTile t = true → t ∈ j.tiles → (u.tile t).op ≠ .roll) ∧
      (j.spoilt = none → u.val A.ARR_JOB_DONE = (s.val A.ARR_JOB_DONE + 1) % 2 ^ 32 ∧
        u.val A.ARR_JOB_VOID = s.val A.ARR_JOB_VOID) ∧
      ∀ x, j.spoilt = some x → x.1 ≠ 0 →
        u.val A.ARR_LAST_VOID = (j.cls + j.model * 16 + x.1 * 256 + x.2 * 65536) % 2 ^ 32 ∧
        u.val A.ARR_JOB_VOID = (s.val A.ARR_JOB_VOID + 1) % 2 ^ 32 ∧ u.val A.ARR_JOB_DONE = s.val A.ARR_JOB_DONE := by
  obtain ⟨hjobs, hfree⟩ := s.jobFreed_spec m j
  have hover : ∀ a, (s.jobFreed m j).val a = s.val a := fun a => (hjobs.val a).trans rfl
  have hfup : (s.jobFreed m j).up .array = true := (hjobs.up .array).trans hup
  have hdone := State.jobComplete_done h
  have hvoid := fun x => State.jobComplete_void (x := x) h
  generalize s.jobFreed m j = t at *
  have hstand : u.arr = t.arr → u.arr.running = s.arr.running.filter (fun k => k.model != m) ∧
      u.arr.queue = s.arr.queue ∧ ∀ t, isTile t = true → t ∈ j.tiles → (u.tile t).op ≠ .roll := fun harr =>
    ⟨by rw [harr, hjobs.running]; rfl, by rw [harr, hjobs.queue]; rfl, fun k hk hmem => by
      rw [State.tile, harr]
      exact hfree k hk hmem⟩
  cases hj : j.spoilt with
  | none =>
    obtain ⟨harr, hd, hv⟩ := State.endJob_done_spec hfup (hu.trans (hdone hj))
    obtain ⟨hrunning, hqueue, hop⟩ := hstand harr
    exact ⟨hrunning, hqueue, hop, fun _ => ⟨by rw [hd, hover], by rw [hv, hover]⟩, nofun⟩
  | some x =>
    have hend := hu.trans (hvoid x hj)
    by_cases hr : x.1 = 0
    · rw [hr] at hend
      obtain ⟨hrunning, hqueue, hop⟩ := hstand (State.endJob_done_spec hfup hend).1
      exact ⟨hrunning, hqueue, hop, nofun, fun y hy hne => absurd (Option.some.inj hy ▸ hr) hne⟩
    · obtain ⟨harr, hwords⟩ := State.endJob_void_spec hr hend
      obtain ⟨hv, hd, hlast, -⟩ := hwords hfup
      obtain ⟨hrunning, hqueue, hop⟩ := hstand harr
      refine ⟨hrunning, hqueue, hop, nofun, fun y hy _ => ?_⟩
      obtain rfl := Option.some.inj hy
      exact ⟨hlast, by rw [hv, hover], by rw [hd, hover]⟩

/-! ### Offers of the classes -/

/-- An empty class has room. -/
theorem noneOfClass {l : List ArrJob} {c : Nat} (h : l.all (fun j => j.cls != c) = true) :
    (l.filter (fun k => k.cls == c)).length = 0 := by
  rw [List.length_eq_zero_iff, List.filter_eq_nil_iff]
  intro j hj
  simpa using List.all_eq_true.1 h j hj

/-- A job behind the others is the last of the queue. -/
theorem State.jobQueued_spec {s u : State} {j : ArrJob} (hu : u = s.jobQueued j) :
    u.arr.queue.dropLast = s.arr.queue ∧ u.arr.queue.getLast? = some j ∧ u.arr.running = s.arr.running ∧
      u.regs = s.regs := by
  have hqueue : u.arr.queue = s.arr.queue ++ [j] := by rw [hu]; rfl
  rw [hqueue]
  exact ⟨List.dropLast_concat, List.getLast?_concat, by rw [hu]; rfl, by rw [hu]; rfl⟩

/-- The INTEG job of slot `n`. -/
def State.integJob (s : State) (n : Nat) : ArrJob :=
  { cls := 1, model := 1, origin := n, deadline := 1000, inputs := [s.integInputs n] }

/-- The slot remembers what the job's verdict will be judged by. -/
theorem State.offerInteg_eq {s : State} {n : Nat} (h : s.integDue n = true) :
    ∃ x, s.offerInteg n = (s.setSlot n x).offer (s.integJob n) := by
  rw [State.offerInteg, if_pos h]
  exact ⟨_, rfl⟩

theorem State.offerInteg_idle {s : State} {n : Nat} (h : s.integDue n = false) : s.offerInteg n = s := by
  rw [State.offerInteg, h]
  rfl

theorem State.offerInteg_queued {s : State} {n : Nat} (hdue : s.integDue n = true) (hdom : s.dom .array = 2)
    (hroom : (s.arr.queue.filter (fun j => j.cls == 1)).length < 12) (hen : s.bit (F.ARR_Mm_CTL_EN 1) = true)
    (hload : s.arr.load = none) {u : State} (hu : u = s.offerInteg n) :
    u.arr.queue.dropLast = s.arr.queue ∧ u.arr.queue.getLast? = some (s.integJob n) ∧ u.regs = s.regs := by
  obtain ⟨x, h⟩ := State.offerInteg_eq hdue
  rw [h, State.offer_queued (s := s.setSlot n x) (j := s.integJob n) hdom hroom hen hload] at hu
  obtain ⟨hqueue, hlast, -, hregs⟩ := State.jobQueued_spec hu
  exact ⟨hqueue, hlast, hregs⟩

theorem State.offerInteg_void {s : State} {n : Nat} (hn : n < 12) (hdue : s.integDue n = true)
    (h : s.dom .array ≠ 2 ∨ 12 ≤ (s.arr.queue.filter (fun j => j.cls == 1)).length ∨
      s.bit (F.ARR_Mm_CTL_EN 1) = false) {u : State} (hu : u = s.offerInteg n) :
    u.arr.queue = s.arr.queue ∧ (u.slot n).job = 3 := by
  obtain ⟨x, hoffer⟩ := State.offerInteg_eq hdue
  obtain ⟨reason, hr, hvoid⟩ := State.offer_void (s := s.setSlot n x) (j := s.integJob n) h
  rw [hoffer, hvoid] at hu
  refine ⟨?_, ?_⟩
  · rw [(State.endJob_void_spec hr hu).1]
    rfl
  · rw [hu]
    exact State.endJob_integ (j := s.integJob n) rfl hn hr

/-- The PREDICTOR job of the next interval. -/
def State.predJob (s : State) : ArrJob :=
  { cls := 0, model := 0, origin := (s.get F.SRV_HIST_HEAD_NEXT + 4095) % 4096, deadline := 60000
    inputs := [s.predInputs] }

theorem State.offerPred_eq (s : State) : s.offerPred = if s.predOk then s.offer s.predJob else s := rfl

theorem State.offerPred_queued {s : State} (hok : s.predOk = true) (hdom : s.dom .array = 2)
    (hroom : s.arr.queue.all (fun j => j.cls != 0) = true) (hen : s.bit (F.ARR_Mm_CTL_EN 0) = true)
    (hload : s.arr.load = none) : s.offerPred = s.jobQueued s.predJob := by
  have hlen : (s.arr.queue.filter (fun k => k.cls == s.predJob.cls)).length < classLimit s.predJob.cls := by
    rw [show s.predJob.cls = 0 from rfl, noneOfClass hroom]
    decide
  rw [State.offerPred_eq, if_pos hok, State.offer_queued hdom hlen hen hload]

/-- The sweep over the flows moves on by 32 sets. -/
def State.sweepMoved (s : State) : State := { s with arr := { s.arr with sweep := (s.arr.sweep + 32) % 16384 } }

/-- The flows of the sets that the sweep comes to. -/
def State.sweptFlows (s : State) : List Flow :=
  (List.range 32).flatMap (fun k => s.net.adm.flows.filter (fun f => f.set_ == s.arr.sweep + k && s.flowCounts f))

theorem State.offerAbuse_idle {s : State} (h : s.up .pipe = false ∨ s.bit F.ADM_CTL_EN = false ∨
    s.bit F.ADM_CTL_SCORE_EN = false) : s.offerAbuse = s := by
  rw [State.offerAbuse, if_neg]
  rintro ⟨hpipe, hen, hscore⟩
  rcases h with h | h | h
  · exact absurd (h.symm.trans hpipe) (by decide)
  · exact absurd (h.symm.trans hen) (by decide)
  · exact absurd (h.symm.trans hscore) (by decide)

theorem State.offerAbuse_swept {s : State} (hpipe : s.up .pipe = true) (hen : s.bit F.ADM_CTL_EN = true)
    (hscore : s.bit F.ADM_CTL_SCORE_EN = true) :
    ∃ j, s.offerAbuse = if s.sweptFlows = [] then s.sweepMoved else s.sweepMoved.offer j := by
  rw [State.offerAbuse, if_pos ⟨hpipe, hen, hscore⟩]
  exact ⟨_, rfl⟩

theorem State.offerAbuse_spec {s : State} (hpipe : s.up .pipe = true) (hen : s.bit F.ADM_CTL_EN = true)
    (hscore : s.bit F.ADM_CTL_SCORE_EN = true) {u : State} (hu : u = s.offerAbuse) :
    u.arr.sweep = (s.arr.sweep + 32) % 16384 ∧ u.arr.running = s.arr.running ∧
      u.arr.queue.take s.arr.queue.length = s.arr.queue ∧ u.arr.queue.length ≤ s.arr.queue.length + 1 ∧
      (s.net.adm.flows = [] → u = s.sweepMoved) := by
  obtain ⟨j, h⟩ := State.offerAbuse_swept hpipe hen hscore
  rw [h] at hu
  split at hu
  · subst hu
    exact ⟨rfl, rfl, List.take_length, Nat.le_succ _, fun _ => rfl⟩
  · next hflows =>
    have hnone : s.net.adm.flows ≠ [] := fun hempty => hflows (by simp [State.sweptFlows, hempty])
    rcases s.sweepMoved.offer_arr j with harr | harr <;> rw [← hu] at harr <;> rw [harr]
    · exact ⟨rfl, rfl, List.take_length, Nat.le_succ _, fun hempty => absurd hempty hnone⟩
    · exact ⟨rfl, rfl, List.take_left, by simp [State.sweepMoved], fun hempty => absurd hempty hnone⟩

/-! ### USER_SUBMIT (R537) -/

section user
variable (s : State)

/-- USER_STAT shows a USER job that waits, with its TAG. -/
def State.userAsked : State :=
  ((s.put F.ARR_USER_STAT_STATE 1).put F.ARR_USER_STAT_REASON 0).put F.ARR_USER_STAT_TAG (s.get F.ARR_USER_DESC_TAG)

/-- The USER job of USER_DESC and ARRW.IN. -/
def State.userJob : ArrJob :=
  { cls := 3, model := s.get F.ARR_USER_DESC_MODEL, origin := s.get F.ARR_USER_DESC_TAG
    deadline := s.val A.ARR_USER_DEADLINE
    inputs := [s.userBytes.take (s.get (F.ARR_Mm_Ss_CTL_IN_LEN (s.get F.ARR_USER_DESC_MODEL) 0) -
      flagVal (s.bit (F.ARR_Mm_CTL_BIAS (s.get F.ARR_USER_DESC_MODEL))))] }

theorem State.userSubmit_refused {v : Nat} (h : v ≠ 1 ∨ within (s.get F.ARR_USER_STAT_STATE) 1 2 = true) :
    s.userSubmit v = s.rejected .range := by
  unfold State.userSubmit
  split
  · next hv => rw [if_pos (h.resolve_left (not_not_intro hv))]
  · rfl

theorem State.userSubmit_offers (h : within (s.get F.ARR_USER_STAT_STATE) 1 2 = false) :
    s.userSubmit 1 = (s.userAsked.offer s.userJob).ok := by
  rw [State.userSubmit, if_pos rfl, h, if_neg (by decide)]
  rfl

theorem State.userAsked_kept : s.wordsKept s.userAsked [A.ARR_USER_STAT] :=
  ((s.wordsKept_put F.ARR_USER_STAT_STATE 1).trans (State.wordsKept_put _ F.ARR_USER_STAT_REASON 0)).trans
    (State.wordsKept_put _ F.ARR_USER_STAT_TAG _)

theorem State.userAsked_arr : s.userAsked.arr = s.arr := by
  rw [State.userAsked, State.put_arr, State.put_arr, State.put_arr]

theorem State.userAsked_state : s.userAsked.get F.ARR_USER_STAT_STATE = 1 :=
  (State.get_put_beside _ A.ARR_USER_STAT 16 8 _).trans <| (State.get_put_beside _ A.ARR_USER_STAT 8 4 _).trans <|
    State.get_put_self s F.ARR_USER_STAT_STATE 1 (by decide)

theorem State.userAsked_tag : s.userAsked.get F.ARR_USER_STAT_TAG = s.get F.ARR_USER_DESC_TAG :=
  (State.get_put_self _ F.ARR_USER_STAT_TAG _ (by decide)).trans
    (Nat.mod_eq_of_lt (Nat.mod_lt _ (by decide)))

/-- A USER offer meets the domain and the model as they were before it. -/
theorem State.userAsked_dom : s.userAsked.dom .array = s.dom .array :=
  s.userAsked_kept.get (f := domField .array) (by decide)

theorem State.userAsked_en (m : Nat) : s.userAsked.bit (F.ARR_Mm_CTL_EN m) = s.bit (F.ARR_Mm_CTL_EN m) := by
  refine s.userAsked_kept.bit fun hmem => ?_
  have haddr : A.ARR_Mm_CTL m = A.ARR_USER_STAT := List.mem_singleton.1 hmem
  simp only [A.ARR_Mm_CTL, A.ARR_USER_STAT] at haddr
  omega

variable {s} {u : State} (hu : u = s.userAsked.offer s.userJob)
include hu

theorem State.userOffer_tag : u.get F.ARR_USER_STAT_TAG = s.get F.ARR_USER_DESC_TAG := by
  rw [← s.userAsked_tag]
  rcases s.userAsked.offer_cases s.userJob with h | ⟨reason, tile, hr, h4, hlt, h⟩ <;> rw [h] at hu
  · obtain ⟨-, -, -, hregs⟩ := State.jobQueued_spec hu
    exact State.get_of_regs hregs _
  · obtain ⟨-, -, htag⟩ := State.endJob_user rfl hr h4 hlt hu
    exact htag

theorem State.userOffer_running : u.arr.running = s.arr.running := by
  rcases s.userAsked.offer_arr s.userJob with harr | harr <;> rw [← hu] at harr <;> rw [harr, s.userAsked_arr]

variable (hdom : s.dom .array = 2) (hroom : s.arr.queue.all (fun j => j.cls != 3) = true)
include hdom hroom

theorem State.userOffer_queued (hen : s.bit (F.ARR_Mm_CTL_EN (s.get F.ARR_USER_DESC_MODEL)) = true)
    (hload : s.arr.load = none) : u.get F.ARR_USER_STAT_STATE = 1 ∧ u.arr.queue.dropLast = s.arr.queue ∧
      u.arr.queue.getLast?.map ArrJob.cls = some 3 ∧ s.wordsKept u [A.ARR_USER_STAT] := by
  have hlen : (s.userAsked.arr.queue.filter (fun k => k.cls == 3)).length < 1 := by
    rw [s.userAsked_arr, noneOfClass hroom]
    decide
  rw [State.offer_queued (j := s.userJob) (s.userAsked_dom.trans hdom) hlen ((s.userAsked_en _).trans hen)
    (by rw [s.userAsked_arr, hload])] at hu
  obtain ⟨hqueue, hlast, -, hregs⟩ := State.jobQueued_spec hu
  have hkept : s.wordsKept u [A.ARR_USER_STAT] := s.userAsked_kept.trans (State.wordsKept_of_regs hregs _)
  refine ⟨?_, by rw [hqueue, s.userAsked_arr], by rw [hlast]; rfl, hkept⟩
  rw [← s.userAsked_state, State.get_of_regs hregs]

theorem State.userOffer_disabled (hen : s.bit (F.ARR_Mm_CTL_EN (s.get F.ARR_USER_DESC_MODEL)) = false) :
    u.get F.ARR_USER_STAT_STATE = 3 ∧ u.get F.ARR_USER_STAT_REASON = 2 ∧ u.arr.queue = s.arr.queue := by
  have hlen : (s.userAsked.arr.queue.filter (fun k => k.cls == 3)).length < 1 := by
    rw [s.userAsked_arr, noneOfClass hroom]
    decide
  rw [State.offer_disabled (j := s.userJob) (s.userAsked_dom.trans hdom) hlen ((s.userAsked_en _).trans hen)] at hu
  obtain ⟨hstate, hreason, -⟩ := State.endJob_user rfl (by decide) (by decide) (by decide) hu
  exact ⟨hstate, hreason, by rw [(State.endJob_void_spec (by decide) hu).1, s.userAsked_arr]⟩

end user

/-! ### The commands -/

theorem State.bankWrite_userSubmit (s : State) (p : HostPort) (v : Nat) :
    s.bankWrite p (A.ARR_USER_SUBMIT / 256) (A.ARR_USER_SUBMIT % 256) v = some (s.userSubmit v) := rfl

theorem exec_userSubmit (s : State) (p : HostPort) (v : Word) :
    exec (.userSubmit p v) s = .next (s.after (s.hostParam p A.ARR_USER_SUBMIT v)) := rfl

theorem exec_abuseBatchOffer (s : State) : exec .abuseBatchOffer s = .next (s.after s.offerAbuse) := rfl

theorem exec_jobOffer_abuse (s : State) (n : Nat) : exec (.jobOffer 2 n) s = .next (s.after s.offerAbuse) := rfl

section commands
variable {s : State}

theorem exec_jobOffer_pred (hup : s.up .time = true) (n : Nat) (hopen : s.predOpen = true) :
    exec (.jobOffer 0 n) s = .next (s.after s.offerPred) :=
  happen_inside hup hopen State.offerPred

/-- Without an open interval or a servo in holdover there is no PREDICTOR job. -/
theorem exec_jobOffer_noPred (n : Nat) (h : s.predOpen = false ∨ s.predOk = false) :
    exec (.jobOffer 0 n) s = .next (s.after s) := by
  have hstill : s.inside .time s.predOpen State.offerPred = s := by
    rcases h with h | h
    · rw [h, State.inside_unmet]
    · unfold State.inside
      rw [State.offerPred_eq, h]
      exact ite_self s
  exact congrArg (fun u => Host.Outcome.next (s.after u)) hstill

theorem exec_jobOffer_integ (hup : s.up .time = true) {n : Nat} (hn : n < 12) :
    exec (.jobOffer 1 n) s = .next (s.after (s.offerInteg n)) :=
  happen_inside hup (decide_eq_true hn) (fun s => s.offerInteg n)

theorem exec_integJobOffer (hup : s.up .time = true) {n : Nat} (hn : n < 12) :
    exec (.integJobOffer n) s = .next (s.after (s.offerInteg n)) :=
  happen_inside hup (decide_eq_true hn) (fun s => s.offerInteg n)

theorem exec_userSubmit_refused {p : HostPort} {v : Word} (hw : s.mayWrite p A.ARR_USER_SUBMIT = true)
    (h : v.toNat ≠ 1 ∨ within (s.get F.ARR_USER_STAT_STATE) 1 2 = true) :
    exec (.userSubmit p v) s = .next (s.after (s.turnedAway p A.ARR_USER_SUBMIT v .range)) := by
  rw [exec_userSubmit, State.hostParam_ruled_rejected_unheld hw (by decide) (by decide)
    ((s.bankWrite_userSubmit p _).trans (congrArg some (s.userSubmit_refused h)))]

theorem exec_userSubmit_offers {p : HostPort} {v : Word} (hw : s.mayWrite p A.ARR_USER_SUBMIT = true)
    (hv : v.toNat = 1) (h : within (s.get F.ARR_USER_STAT_STATE) 1 2 = false) : exec (.userSubmit p v) s =
      .next (s.after ((s.userAsked.offer s.userJob).written p A.ARR_USER_SUBMIT v)) := by
  rw [exec_userSubmit, State.hostParam_ruled hw (by decide)
    ((s.bankWrite_userSubmit p _).trans (congrArg some (hv ▸ s.userSubmit_offers h)))]

variable (hup : s.up .array = true)
include hup

theorem exec_jobOffer_user {cls : Nat} (hcls : 3 ≤ cls) (n : Nat) :
    exec (.jobOffer cls n) s = .next (s.after (s.userSubmit 1).state) := by
  obtain ⟨k, rfl⟩ := Nat.exists_eq_add_of_le' hcls
  exact happen_inside hup rfl (fun s => (s.userSubmit 1).state)

theorem exec_jobStart (codes : List Nat) (ecc : List (Nat × Nat × Bool)) (reloads : List (Option Nat)) :
    exec (.jobStart codes ecc reloads) s = .next (s.after (s.jobStart codes ecc reloads)) :=
  happen_inside hup rfl (fun s => s.jobStart codes ecc reloads)

theorem exec_jobDeadline (k : Nat) : exec (.jobDeadline k) s = .next (s.after (s.jobDeadline k)) :=
  happen_inside hup rfl (fun s => s.jobDeadline k)

theorem exec_jobComplete (m : Nat) : exec (.jobComplete m) s = .next (s.after (s.jobComplete m)) :=
  happen_inside hup rfl (fun s => s.jobComplete m)

end commands

/-- Settles O60: an offer joins its queue or ends VOID, and a job starts, passes its deadline and completes by its own rule.
That a job's results are those of its start (log 59), that a job with a FAILED tile ends VOID where it would start (log 60),
and that JOB_OFFER makes the offer of its class (log 64), are the model's readings. -/
theorem jobsAreOfferedRunAndEnd : Obligations.JobsAreOfferedRunAndEnd := by
  intro s
  refine ⟨fun hup => ⟨fun n h => exec_jobOffer_noPred n h, fun n hopen u hu => ⟨?_, fun hok hdom hroom hen hload => ?_⟩,
      fun n hn u hu => ⟨?_, ?_, fun hdue => ?_, fun hdue hdom hroom hen hload => ?_, fun hdue h => ?_⟩⟩,
    fun u hu => ⟨?_, fun n => ?_, fun h => ?_, fun hpipe hen hscore => State.offerAbuse_spec hpipe hen hscore hu⟩,
    fun p v hw => ⟨exec_userSubmit_refused hw, fun hv hfree u hu => ?_⟩,
    fun hup => ⟨fun cls n hcls => exec_jobOffer_user hup hcls n, fun codes ecc reloads u hu => ⟨?_, fun hnone => ?_,
        fun j hnext => ?_⟩,
      fun k => ⟨fun j hk u hu => ⟨?_, State.jobDeadline_spec hup hk hu⟩, fun hk => ?_⟩,
      fun m => ⟨fun hnone => ?_, fun j hj u hu => ⟨?_, State.jobComplete_spec hup hj hu⟩⟩⟩⟩
  · rw [exec_jobOffer_pred hup n hopen, hu]
  · obtain ⟨hqueue, hlast, -, hregs⟩ := State.jobQueued_spec (hu.trans (State.offerPred_queued hok hdom hroom hen hload))
    exact ⟨hqueue, by rw [hlast]; rfl, by rw [hlast]; rfl, hregs⟩
  · rw [exec_integJobOffer hup hn, hu]
  · rw [exec_jobOffer_integ hup hn, hu]
  · rw [hu, State.offerInteg_idle hdue]
  · obtain ⟨hqueue, hlast, hregs⟩ := State.offerInteg_queued hdue hdom hroom hen hload hu
    exact ⟨hqueue, by rw [hlast]; rfl, by rw [hlast]; rfl, hregs⟩
  · exact State.offerInteg_void hn hdue h hu
  · rw [exec_abuseBatchOffer, hu]
  · rw [exec_jobOffer_abuse, hu]
  · rw [hu, State.offerAbuse_idle h]
  · rw [s.userSubmit_offers hfree] at hu
    exact ⟨by rw [exec_userSubmit_offers hw hv hfree, hu]; rfl, State.userOffer_tag hu, State.userOffer_running hu,
      fun hdom hroom hen hload => State.userOffer_queued hu hdom hroom hen hload,
      fun hdom hroom hen => State.userOffer_disabled hu hdom hroom hen⟩
  · rw [exec_jobStart hup, hu]
  · rw [hu, State.jobStart_none hnone]
  · refine ⟨?_, fun hfailed => (State.jobStart_voided hup hnext hfailed codes ecc reloads hu).2,
      fun hready => (State.jobStart_running hnext hready codes ecc reloads hu).2⟩
    rcases hfound : (s.modelTiles j.model).any (fun t => s.tileState t == 7) with _ | _
    · refine (State.jobStart_running hnext (List.all_eq_true.2 fun t ht => ?_) codes ecc reloads hu).1
      simpa using List.any_eq_false.1 hfound t ht
    · exact (State.jobStart_voided hup hnext hfound codes ecc reloads hu).1
  · rw [exec_jobDeadline hup, hu]
  · rw [exec_jobDeadline hup, State.jobDeadline_none hk]
  · rw [exec_jobComplete hup, State.jobComplete_none hnone]
  · rw [exec_jobComplete hup, hu]

end Sys2Proof.Machine
end

section
/-! SUPPORT. An output of the Pacer: what an operation on it touches, and what its time depends on (R221, R229 to R248). -/

-- As in the tests: elaborated in parallel, these proofs' thread stacks would exceed the check's memory limit.
set_option Elab.async false

namespace Sys2Proof.Machine

/-! ### What an output holds -/

theorem State.out_setOut_self (s : State) {n : Nat} (hn : n < 12) (o : OutState) : (s.setOut n o).out n = o := by
  rw [s.out_setOut hn, if_pos rfl]

@[simp] theorem State.out_setVal (s : State) (a x m : Nat) : (s.setVal a x).out m = s.out m := rfl
@[simp] theorem State.out_put (s : State) (f : Fld) (x m : Nat) : (s.put f x).out m = s.out m := rfl
@[simp] theorem State.out_setBit (s : State) (f : Fld) (b : Bool) (m : Nat) : (s.setBit f b).out m = s.out m := rfl
@[simp] theorem State.out_raise (s : State) (e : EventId) (m : Nat) : (s.raise e).out m = s.out m := rfl

/-! ### The reach of an operation on an output -/

/-- `u` follows `s` by an operation on output `n`: of the words only its STAT, of the outputs only itself; a quiet one
raises no event. -/
structure State.OutStep (s u : State) (n : Nat) (quiet : Bool) : Prop where
  words : s.wordsKept u [A.PCR_OUTn_STAT n]
  others : ∀ m, m ≠ n → u.out m = s.out m
  still : quiet = true → u.raised = s.raised
  frame : u = { s with regs := u.regs, raised := u.raised, pcr := u.pcr }

namespace State.OutStep
variable {s t u : State} {n : Nat} {quiet : Bool}

theorem refl (s : State) (n : Nat) (quiet : Bool) : s.OutStep s n quiet :=
  ⟨s.wordsKept_refl _, fun _ _ => rfl, fun _ => rfl, rfl⟩

theorem trans (h : s.OutStep t n quiet) (h' : t.OutStep u n quiet) : s.OutStep u n quiet :=
  ⟨h.words.trans h'.words, fun m hm => (h'.others m hm).trans (h.others m hm),
    fun hq => (h'.still hq).trans (h.still hq), by rw [h'.frame, h.frame]⟩

theorem setOut (h : s.OutStep t n quiet) (hn : n < 12) (o : OutState) : s.OutStep (t.setOut n o) n quiet :=
  h.trans ⟨State.wordsKept_of_regs rfl _, fun m hm => by rw [t.out_setOut hn, if_neg hm], fun _ => rfl, rfl⟩

theorem put (h : s.OutStep t n quiet) (f : Fld) (x : Nat) (hf : f.addr = A.PCR_OUTn_STAT n := by rfl) :
    s.OutStep (t.put f x) n quiet :=
  h.trans ⟨hf ▸ t.wordsKept_put f x, fun _ _ => rfl, fun _ => rfl, rfl⟩

theorem setBit (h : s.OutStep t n quiet) (f : Fld) (b : Bool) (hf : f.addr = A.PCR_OUTn_STAT n := by rfl) :
    s.OutStep (t.setBit f b) n quiet := h.put f _ hf

theorem raise (h : s.OutStep t n false) (e : EventId) : s.OutStep (t.raise e) n false :=
  h.trans ⟨t.wordsKept_raise e _, fun _ _ => rfl, nofun, rfl⟩

/-- A quiet step: the words and the hidden state of the outputs alone. -/
theorem quietFrame (h : s.OutStep u n true) : u = { s with regs := u.regs, pcr := u.pcr } := by
  rw [h.frame, h.still rfl]

theorem shotMissed (h : s.OutStep t n false) : s.OutStep (t.shotMissed n) n false :=
  ((h.put (F.PCR_OUTn_STAT_ONESHOT_STATE n) _).setBit (F.PCR_OUTn_STAT_MISSED_SEEN n) true).raise _

theorem skipEdges (h : s.OutStep t n false) (hn : n < 12) (c : Nat) : s.OutStep (t.skipEdges n c) n false :=
  ((h.setOut hn _).setBit (F.PCR_OUTn_STAT_SKIP_SEEN n) true).raise _

theorem align (h : s.OutStep t n false) (hn : n < 12) : s.OutStep (t.align n) n false := by
  have hset := fun o o' => (h.setOut hn o).setOut hn o'
  unfold State.align
  dsimp only
  split
  · exact ((hset _ _).setBit (F.PCR_OUTn_STAT_FOLLOW_OK n) _).raise _
  · exact (hset _ _).raise _

theorem outRestart (h : s.OutStep t n quiet) (hn : n < 12) : s.OutStep (t.outRestart n) n quiet := h.setOut hn _

theorem outStarts (h : s.OutStep t n quiet) (hn : n < 12) (fresh : Bool) : s.OutStep (t.outStarts n fresh) n quiet := by
  have hset := fun o => ((h.setOut hn o).put (F.PCR_OUTn_STAT_DRAINING n) 0).put (F.PCR_OUTn_STAT_FOLLOW_OK n) 0
  unfold State.outStarts
  cases fresh
  · exact ((hset _).setOut hn _).outRestart hn
  · exact (((hset _).put (F.PCR_OUTn_STAT_SLEWING n) 0).setOut hn _).outRestart hn

end State.OutStep

/-! ### The time of an output (R221, R241) -/

/-- `u` runs the time of output `n` as `s` does: the same Faces, the same offset, the same settings. -/
structure State.SameTime (s u : State) (n : Nat) : Prop where
  str : u.str = s.str
  tally : u.tally = s.tally
  out : u.out n = s.out n
  ctl : u.val (A.PCR_OUTn_CTL n) = s.val (A.PCR_OUTn_CTL n)
  slewMax : u.val A.PCR_SLEW_MAX = s.val A.PCR_SLEW_MAX
  utc : u.val A.STR_UTC_OFFSET = s.val A.STR_UTC_OFFSET

namespace State.SameTime
variable {s u : State} {n : Nat} (h : s.SameTime u n)
include h

theorem outPolicy : u.outPolicy n = s.outPolicy n := congrArg (bitsAt · _ _) h.ctl

theorem outFace : u.outFace n = s.outFace n := congrArg (fun v => faceOf (bitsAt v _ _)) h.ctl

theorem nowSub : u.nowSub = s.nowSub := by rw [State.nowSub, h.tally, State.nowSub]

theorem faces : u.faces = s.faces := by rw [State.faces, State.utcOffset, h.str, h.utc]; rfl

theorem pips (f : Face) (t : Int) : u.pips f t = s.pips f t := by
  have hat : u.facesAt t = s.facesAt t := by rw [State.facesAt, h.str, h.tally, h.faces]; rfl
  rw [State.pips, hat, State.pips]

theorem outRate : u.outRate n = s.outRate n := by
  rw [State.outRate, h.outFace, State.outRate]
  cases mainOf (s.outFace n) <;> simp only [State.face, h.str]

theorem runTerm (t : Int) : u.runTerm n t = s.runTerm n t := by
  rw [State.runTerm, h.str, h.tally, h.outRate, h.outFace]; rfl

theorem faceOfs (t : Int) : u.faceOfs n t = s.faceOfs n t := by
  rw [State.faceOfs, h.outFace, h.pips, h.runTerm, State.faceOfs]

theorem targetAt (t : Int) : u.targetAt n t = s.targetAt n t := by
  rw [State.targetAt, h.out, h.outPolicy, h.faceOfs]; rfl

theorem slewReach (t0 t : Int) : u.slewReach n t0 t = s.slewReach n t0 t := by
  rw [State.slewReach, h.slewMax, h.runTerm, h.runTerm, State.slewReach]

theorem ofsAt (t : Int) : u.ofsAt n t = s.ofsAt n t := by
  unfold State.ofsAt
  simp only [h.out, h.outPolicy, h.faceOfs, h.targetAt, h.slewReach]

theorem outTime (t : Int) : u.outTime n t = s.outTime n t := by
  rw [State.outTime, h.runTerm, h.ofsAt, State.outTime]

theorem alignTarget : u.alignTarget n = s.alignTarget n := by
  rw [State.alignTarget, h.nowSub, h.targetAt, State.alignTarget]

end State.SameTime

/-- A step that leaves what the output holds leaves its time. -/
theorem State.OutStep.sameTime {s u : State} {n : Nat} {quiet : Bool} (h : s.OutStep u n quiet)
    (hout : u.out n = s.out n) : s.SameTime u n where
  str := by rw [h.frame]
  tally := by rw [h.frame]
  out := hout
  ctl := h.words.val (by simp [A.PCR_OUTn_CTL, A.PCR_OUTn_STAT])
  slewMax := h.words.val (by simp [A.PCR_SLEW_MAX, A.PCR_OUTn_STAT]; omega)
  utc := h.words.val (by simp [A.STR_UTC_OFFSET, A.PCR_OUTn_STAT]; omega)

/-! ### Starts (R229) -/

theorem State.outStarts_spec (s : State) {n : Nat} (hn : n < 12) (fresh : Bool) :
    ((s.outStarts n fresh).out n).running = true ∧ ((s.outStarts n fresh).out n).stopping = false := by
  have hrestart : ∀ (t : State) (k : Int), ((t.setOut n { t.out n with lastK := k }).outRestart n).out n =
      { t.out n with lastK := k, gate := (((t.setOut n { t.out n with lastK := k }).outRestart n).out n).gate,
                     started := false } := fun t k => by
    simp only [State.outRestart, State.out_setOut_self _ hn]
  unfold State.outStarts
  cases fresh <;> dsimp only <;> rw [hrestart] <;> simp [State.out_setOut_self _ hn]

/-! ### Alignment (R240) -/

/-- ALIGN leaves the output at its target, without a slew or a measurement that waits. -/
theorem State.align_out (s : State) {n : Nat} (hn : n < 12) : ∃ applied, (s.align n).out n =
    { s.out n with ofs := s.alignTarget n, slew := none, pend := 0, applied := applied } := by
  have hout : ∀ (b : Bool), ((s.setOfs n (s.alignTarget n)).setOut n
      { (s.setOfs n (s.alignTarget n)).out n with pend := 0, applied := b }).out n =
        { s.out n with ofs := s.alignTarget n, slew := none, pend := 0, applied := b } := fun b => by
    simp only [State.setOfs, State.out_setOut_self _ hn]
  refine ⟨_, Eq.trans ?_ (hout ((s.out n).applied || (s.outPolicy n == policyInput && (s.out n).pend != 0)))⟩
  unfold State.align
  dsimp only
  split <;> rfl

theorem State.align_raises (s : State) (n : Nat) : Ev.OUT_ALIGN_DONE ∈ (s.align n).raised :=
  List.mem_append_right _ (List.mem_singleton_self _)

end Sys2Proof.Machine
end

section
/-! SUPPORT. The edges of an output: a rising edge that is unseen, skipped or launched, a high time that ends, a drain that
completes (R228 to R233, R245 to R248). -/

-- As in the tests: elaborated in parallel, these proofs' thread stacks would exceed the check's memory limit.
set_option Elab.async false

namespace Sys2Proof.Machine

/-! ### What a rising edge finds -/

/-- Every edge of the plan has passed: the next one is not committed. -/
def State.planPast (s : State) (n : Nat) : Bool := (s.out n).plan.all (fun x => decide (x.at_ < s.nowSub))

/-- The pad shows no rising edge: its driver is down, or it is squelched and the edge not committed. -/
def State.edgeUnseen (s : State) (n : Nat) : Bool := !s.padUp n || (s.planPast n && s.squelched n)

/-- A one-shot comes before the output may start (R229). -/
def State.shotEarly (s : State) (n : Nat) (e : OutEdge) : Bool :=
  s.outKind n == kindOneshot && s.planPast n && (s.out n).gate.any (fun g => decide (e.u < g))

/-- The one-shot that a rising edge is fires. -/
def State.shotFires (s : State) (n : Nat) (e : OutEdge) : Bool :=
  s.outKind n == kindOneshot && s.get (F.PCR_OUTn_STAT_ONESHOT_STATE n) == shotArmed && s.shotAt n == e.u

/-- The output as a rising edge leaves the plan. -/
def State.riseTaken (s : State) (n : Nat) (e : OutEdge) : OutState :=
  let o := s.out n
  let rest := o.plan.dropWhile (fun x => decide (x.at_ < s.nowSub))
  { o with plan := rest.drop 1, lastK := if !rest.isEmpty || s.outKind n == kindOneshot then o.lastK else e.k }

/-- An edge that is not launched: a one-shot is missed. -/
def State.shotLost (t : State) (n : Nat) (shot : Bool) : State := if shot then t.shotMissed n else t

/-- The rising edge begins a high time. -/
def State.edgeLaunched (s : State) (n : Nat) (e : OutEdge) : State :=
  s.setOut n { s.riseTaken n e with
    gate := none, started := true, high := some e, inv := e.inv, launched := (s.riseTaken n e).launch (!e.inv) e.at_ }

theorem State.planPast_eq (s : State) (n : Nat) :
    s.planPast n = ((s.out n).plan.dropWhile (fun x => decide (x.at_ < s.nowSub))).isEmpty := by
  rw [Bool.eq_iff_iff, List.isEmpty_iff, List.dropWhile_eq_nil_iff, State.planPast, List.all_eq_true]

/-- A rising edge is unseen, skipped, or launched. -/
theorem State.riseDue_eq (s : State) (n : Nat) (e : OutEdge) : s.riseDue n e =
    let shot := s.outKind n == kindOneshot
    if (s.edgeUnseen n || s.shotEarly n e) = true then (s.setOut n (s.riseTaken n e)).shotLost n shot
    else if s.tight n e.at_ = true then ((s.setOut n (s.riseTaken n e)).skipEdges n 1).shotLost n shot
    else if s.shotFires n e = true then (s.edgeLaunched n e).put (F.PCR_OUTn_STAT_ONESHOT_STATE n) shotFired
    else s.edgeLaunched n e := by
  have hpast := s.planPast_eq n
  unfold State.riseDue
  refine if_congr ?_ rfl rfl
  simp only [State.edgeUnseen, State.shotEarly, hpast, Bool.or_eq_true, Bool.and_eq_true, Bool.not_eq_true',
    Bool.not_not, Bool.not_eq_false', or_assoc]

section rise
variable (s : State) {n : Nat} (hn : n < 12) (e : OutEdge)

theorem State.OutStep.shotLost {t : State} (h : s.OutStep t n false) (shot : Bool) :
    s.OutStep (t.shotLost n shot) n false := by
  cases shot
  · exact h
  · exact h.shotMissed

theorem State.out_shotLost (t : State) (n m : Nat) (shot : Bool) : (t.shotLost n shot).out m = t.out m := by
  cases shot <;> simp [State.shotLost, State.shotMissed]

include hn in
theorem State.riseDue_step : s.OutStep (s.riseDue n e) n false := by
  have htaken := (State.OutStep.refl s n false).setOut hn (s.riseTaken n e)
  have hlaunched : s.OutStep (s.edgeLaunched n e) n false := (State.OutStep.refl s n false).setOut hn _
  rw [State.riseDue_eq]
  dsimp only
  split_ifs
  · exact htaken.shotLost _ _
  · exact (htaken.skipEdges hn 1).shotLost _ _
  · exact hlaunched.put (F.PCR_OUTn_STAT_ONESHOT_STATE n) shotFired
  · exact hlaunched

theorem State.get_shotState_put (t : State) (n x : Nat) :
    (t.put (F.PCR_OUTn_STAT_ONESHOT_STATE n) x).get (F.PCR_OUTn_STAT_ONESHOT_STATE n) = x % 4 :=
  State.get_put_self t (F.PCR_OUTn_STAT_ONESHOT_STATE n) x (show 4 + 2 ≤ 32 by decide)

/-- A missed one-shot is LATE, and reported (R228, R248). -/
theorem State.shotMissed_spec (t : State) (n : Nat) :
    (t.shotMissed n).get (F.PCR_OUTn_STAT_ONESHOT_STATE n) = 3 ∧ Ev.OUT_MISSED ∈ (t.shotMissed n).raised := by
  rw [State.shotMissed, State.get_raise]
  exact ⟨(State.get_put_beside _ (A.PCR_OUTn_STAT n) 9 1 1).trans (t.get_shotState_put n shotLate),
    List.mem_append_right _ (List.mem_singleton_self _)⟩

/-- Skipped edges are counted and reported (R233). -/
theorem State.skipEdges_spec (t : State) {n : Nat} (hn : n < 12) (c : Nat) :
    (t.skipEdges n c).out n = { t.out n with skipped := ((t.out n).skipped + c) % 2 ^ 32 } ∧
      (t.skipEdges n c).bit (F.PCR_OUTn_STAT_SKIP_SEEN n) = true ∧ Ev.OUT_SKIP ∈ (t.skipEdges n c).raised := by
  rw [State.skipEdges, State.out_raise, State.out_setBit, State.bit_raise]
  exact ⟨t.out_setOut_self hn _, State.bit_put_one _ (A.PCR_OUTn_STAT n) 8 1,
    List.mem_append_right _ (List.mem_singleton_self _)⟩

include hn in
theorem State.riseDue_unseen (h : s.edgeUnseen n = true) {u : State} (hu : u = s.riseDue n e) :
    (u.out n).high = (s.out n).high ∧ (u.out n).started = (s.out n).started ∧
      (s.outKind n = 2 → u.get (F.PCR_OUTn_STAT_ONESHOT_STATE n) = 3 ∧ Ev.OUT_MISSED ∈ u.raised) := by
  rw [State.riseDue_eq, h, Bool.true_or, if_pos rfl] at hu
  subst hu
  rw [State.out_shotLost, State.out_setOut_self _ hn]
  refine ⟨rfl, rfl, fun hshot => ?_⟩
  rw [beq_iff_eq.2 (show s.outKind n = kindOneshot from hshot)]
  exact State.shotMissed_spec _ n

variable (hseen : s.edgeUnseen n = false)
include hseen

theorem State.riseDue_tight (hkind : s.outKind n ≠ 2) (htight : s.tight n e.at_ = true) :
    s.riseDue n e = (s.setOut n (s.riseTaken n e)).skipEdges n 1 := by
  have hshot : (s.outKind n == kindOneshot) = false := beq_eq_false_iff_ne.2 hkind
  simp only [State.riseDue_eq, State.shotEarly, hseen, hshot, htight]
  rfl

theorem State.riseDue_free (hkind : s.outKind n ≠ 2) (htight : s.tight n e.at_ = false) :
    s.riseDue n e = s.edgeLaunched n e := by
  have hshot : (s.outKind n == kindOneshot) = false := beq_eq_false_iff_ne.2 hkind
  simp only [State.riseDue_eq, State.shotEarly, State.shotFires, hseen, hshot, htight]
  rfl

theorem State.riseDue_fires (hgate : (s.out n).gate = none) (htight : s.tight n e.at_ = false)
    (hfires : s.shotFires n e = true) :
    s.riseDue n e = (s.edgeLaunched n e).put (F.PCR_OUTn_STAT_ONESHOT_STATE n) shotFired := by
  simp only [State.riseDue_eq, State.shotEarly, hseen, hgate, htight, hfires]
  simp

end rise

/-! ### OUTPUT_EDGE (R230) -/

section edge
variable {s : State} {n : Nat}

/-- The next edge of a one-shot without a committed edge is that of its AT, and it is armed (R227). -/
theorem State.nextRise_fires {e : OutEdge} (hkind : s.outKind n = 2) (hplan : (s.out n).plan = [])
    (hnext : s.nextRise n = some e) : s.shotFires n e = true := by
  have hkind' : s.outKind n = kindOneshot := hkind
  rw [State.nextRise, hplan, List.dropWhile_nil] at hnext
  unfold State.uncommitted at hnext
  dsimp only at hnext
  rw [if_pos hkind'] at hnext
  split at hnext
  · exact absurd hnext nofun
  · split at hnext
    · next harmed =>
      have he : s.shotAt n = e.u := congrArg OutEdge.u (Option.some.inj hnext)
      simp [State.shotFires, hkind', harmed.1, he]
    · exact absurd hnext nofun

variable (hn : n < 12) (hrun : s.tallyRun = true)
include hn hrun

theorem State.outputEdge_none (hfall : s.fallsFirst n = false)
    (hdue : ∀ e, s.nextRise n = some e → e.at_ / 65536 ≠ s.tally) : s.outputEdge n = s := by
  rw [State.outputEdge, if_pos ⟨hn, hrun⟩, if_neg (by simp [hfall])]
  split
  · rfl
  · next e hnext => exact if_neg (hdue e hnext)

theorem State.outputEdge_rise {e : OutEdge} (hfall : s.fallsFirst n = false) (hnext : s.nextRise n = some e)
    (hdue : e.at_ / 65536 = s.tally) : s.outputEdge n = s.riseDue n e := by
  rw [State.outputEdge, if_pos ⟨hn, hrun⟩, if_neg (by simp [hfall]), hnext]
  exact if_pos hdue

theorem State.outputEdge_fall {e : OutEdge} (hfall : s.fallsFirst n = true) (hhigh : (s.out n).high = some e) :
    s.outputEdge n = if s.fallAt n e / 65536 ≤ s.tally then s.fallNow n e (max (s.fallAt n e) s.nowSub) else s := by
  rw [State.outputEdge, if_pos ⟨hn, hrun⟩, if_pos hfall, hhigh]
  rfl

/-- A rising edge that is due: unseen it begins no high time, too near a high time it is skipped, and else it begins one. -/
theorem State.outputEdge_rise_spec {e : OutEdge} (hfall : s.fallsFirst n = false) (hnext : s.nextRise n = some e)
    (hdue : e.at_ / 65536 = s.tally) {u : State} (hu : u = s.outputEdge n) :
    (s.edgeUnseen n = true → (u.out n).high = (s.out n).high ∧ (u.out n).started = (s.out n).started ∧
      (s.outKind n = 2 → u.get (F.PCR_OUTn_STAT_ONESHOT_STATE n) = 3 ∧ Ev.OUT_MISSED ∈ u.raised)) ∧
    (s.edgeUnseen n = false → s.outKind n ≠ 2 → s.tight n e.at_ = false →
      (u.out n).high = some e ∧ (u.out n).started = true ∧ u.regs = s.regs) ∧
    (s.edgeUnseen n = false → s.outKind n = 2 → s.tight n e.at_ = false → (s.out n).plan = [] → (s.out n).gate = none →
      (u.out n).high = some e ∧ u.get (F.PCR_OUTn_STAT_ONESHOT_STATE n) = 2) ∧
    (s.edgeUnseen n = false → s.outKind n ≠ 2 → s.tight n e.at_ = true →
      (u.out n).high = (s.out n).high ∧ (u.out n).skipped = ((s.out n).skipped + 1) % 2 ^ 32 ∧
      u.bit (F.PCR_OUTn_STAT_SKIP_SEEN n) = true ∧ Ev.OUT_SKIP ∈ u.raised) ∧ s.OutStep u n false := by
  have hdone := hu.trans (State.outputEdge_rise hn hrun hfall hnext hdue)
  have hlaunch : (s.edgeLaunched n e).out n = _ := s.out_setOut_self hn _
  refine ⟨fun hunseen => s.riseDue_unseen hn e hunseen hdone, fun hseen hkind hfree => ?_,
    fun hseen hkind hfree hplan hgate => ?_, fun hseen hkind htight => ?_, hdone ▸ s.riseDue_step hn e⟩
  · rw [hdone, s.riseDue_free e hseen hkind hfree, hlaunch]
    exact ⟨rfl, rfl, rfl⟩
  · rw [hdone, s.riseDue_fires e hseen hgate hfree (State.nextRise_fires hkind hplan hnext), State.out_put, hlaunch]
    exact ⟨rfl, State.get_shotState_put _ n shotFired⟩
  · obtain ⟨hout, hseen', hraised⟩ := State.skipEdges_spec (s.setOut n (s.riseTaken n e)) hn 1
    rw [hdone, s.riseDue_tight e hseen hkind htight, hout, State.out_setOut_self s hn]
    exact ⟨rfl, rfl, hseen', hraised⟩

end edge

/-! ### A high time ends (R230, R246) -/

section fall
variable {s : State} {n : Nat}

theorem State.fallNow_spec (hn : n < 12) (e : OutEdge) (t : Int) {u : State} (hu : u = s.fallNow n e t) :
    (u.out n).high = none ∧ (u.out n).lastFall = some t ∧ u = { s with pcr := u.pcr } ∧
      (∀ m, m < 12 → m ≠ n → u.out m = s.out m) := by
  subst hu
  have hout : (s.fallNow n e t).out n = _ := s.out_setOut_self hn _
  rw [hout]
  exact ⟨rfl, rfl, rfl, fun m _ hm => ((State.OutStep.refl s n true).setOut hn _).others m hm⟩

theorem State.squelchHold_ends {e : OutEdge} (hhigh : (s.out n).high = some e)
    (h : (s.squelched n || (s.out n).stopping) = true) : s.squelchHold n = s.fallNow n e s.nowSub := by
  rw [State.squelchHold, hhigh]
  exact if_pos h

theorem State.squelchHold_idle (h : (s.squelched n || (s.out n).stopping) = false ∨ (s.out n).high = none) :
    s.squelchHold n = s := by
  unfold State.squelchHold
  split
  · rfl
  · next e hhigh => exact if_neg (by simp [h.resolve_right (by simp [hhigh])])

/-- A squelched output without a high time is driven low (R245). -/
theorem State.pad_squelched (hpad : s.padUp n = true) (hsq : s.squelched n = true) (hhigh : (s.out n).high = none) :
    s.pad n = .driven false := by
  rw [State.pad, if_neg (by simp [hpad]), hhigh, hsq]
  simp

end fall

/-! ### A drain that completes (R246, R256) -/

section drain
variable {s : State} {n : Nat}

/-- The output as its stop completes, before a latched enable restarts it. -/
def State.outStopped (s : State) (n : Nat) : State :=
  s.setOut n { s.out n with running := false, stopping := false, started := false, plan := [] }

theorem State.outDrained_eq (hstop : (s.out n).stopping = true) (hhigh : (s.out n).high = none)
    (hnext : s.nextRise n = none) : s.outDrained n =
      if s.bit (F.PCR_OUTn_STAT_DRAINING n) then (s.outStopped n).outStarts n false else s.outStopped n := by
  rw [State.outDrained, if_pos (by simp [hstop, hhigh, hnext])]
  rfl

theorem State.outDrained_not
    (h : (s.out n).stopping = false ∨ (s.out n).high.isSome = true ∨ (s.nextRise n).isSome = true) :
    s.outDrained n = s := by
  rw [State.outDrained, if_neg]
  rintro ⟨hstop, hhigh, hnext⟩
  rcases h with h | h | h
  · exact absurd hstop (by simp [h])
  · exact absurd h (by simp [Option.isNone_iff_eq_none.1 hhigh])
  · exact absurd h (by simp [Option.isNone_iff_eq_none.1 hnext])

theorem State.outDrained_spec (hn : n < 12) (hstop : (s.out n).stopping = true) (hhigh : (s.out n).high = none)
    (hnext : s.nextRise n = none) {u : State} (hu : u = s.outDrained n) : (u.out n).stopping = false ∧
      (u.out n).running = s.bit (F.PCR_OUTn_STAT_DRAINING n) ∧ s.wordsKept u [A.PCR_OUTn_STAT n] ∧
      u = { s with regs := u.regs, pcr := u.pcr } := by
  have hstopped : s.OutStep (s.outStopped n) n true := (State.OutStep.refl s n true).setOut hn _
  rw [State.outDrained_eq hstop hhigh hnext] at hu
  split at hu
  · next hdrain =>
    have hstep := hu ▸ hstopped.outStarts hn false
    obtain ⟨hruns, hlasts⟩ := (s.outStopped n).outStarts_spec hn false
    exact ⟨hu ▸ hlasts, by rw [hu, hruns, hdrain], hstep.words, hstep.quietFrame⟩
  · next hdrain =>
    have hout : (s.outStopped n).out n = _ := s.out_setOut_self hn _
    rw [hu, hout]
    exact ⟨rfl, ((Bool.not_eq_true _).mp hdrain).symm, hstopped.words, hstopped.quietFrame⟩

end drain

end Sys2Proof.Machine
end

section
/-! SUPPORT. The host's writes of OUTn_CTL and of a one-shot's AT (R15, R227, R228, R239, R242, R253, R254, R256). -/

-- As in the tests: elaborated in parallel, these proofs' thread stacks would exceed the check's memory limit.
set_option Elab.async false

namespace Sys2Proof.Machine

/-! ### The words and their rules -/

theorem ruledWord_outCtl {n : Nat} (hn : n < 12) :
    ruledWord (A.PCR_OUTn_CTL n) = true ∧ appliedHolds (A.PCR_OUTn_CTL n) = [] := by
  have key : ∀ n < 12, ruledWord (A.PCR_OUTn_CTL n) = true ∧ appliedHolds (A.PCR_OUTn_CTL n) = [] := by decide
  exact key n hn

theorem ruledWord_shotAt {n : Nat} (hn : n < 12) : ruledWord (A.PCR_OUTn_AT_SEC_HI n) = true := by
  have key : ∀ n < 12, ruledWord (A.PCR_OUTn_AT_SEC_HI n) = true := by decide
  exact key n hn

theorem State.bankWrite_outCtl (s : State) (p : HostPort) {n : Nat} (hn : n < 12) (v : Nat) :
    s.bankWrite p (A.PCR_OUTn_CTL n / 256) (A.PCR_OUTn_CTL n % 256) v = some (s.outCtlWrite n v) := by
  interval_cases n <;> rfl

theorem State.bankWrite_shotAt (s : State) (p : HostPort) {n : Nat} (hn : n < 12) (v : Nat) :
    s.bankWrite p (A.PCR_OUTn_AT_SEC_HI n / 256) (A.PCR_OUTn_AT_SEC_HI n % 256) v = some (s.shotArm p n v) := by
  interval_cases n <;> rfl

/-! ### A write of POLICY (R242, R253) -/

section policy
variable (before t : State) {n : Nat} (hn : n < 12)
include hn

theorem State.policyMoves_step : t.OutStep (before.policyMoves t n) n false := by
  have hset := fun o o' o'' => ((((State.OutStep.refl t n false).setOut hn o).setOut hn o').put
    (F.PCR_OUTn_STAT_SLEWING n) 0).setOut hn o''
  unfold State.policyMoves
  dsimp only
  split_ifs
  · exact State.OutStep.refl t n false
  · exact (hset _ _ _).align hn
  · exact hset _ _ _

theorem State.align_stopping (s : State) : ((s.align n).out n).stopping = (s.out n).stopping := by
  obtain ⟨applied, hout⟩ := s.align_out hn
  rw [hout]

theorem State.policyMoves_stopping : ((before.policyMoves t n).out n).stopping = (t.out n).stopping := by
  unfold State.policyMoves
  dsimp only
  split_ifs
  · rfl
  · rw [State.align_stopping hn]
    simp only [State.keepPulses, State.setOfs, State.out_put, State.out_setOut_self _ hn]
  · simp only [State.keepPulses, State.setOfs, State.out_put, State.out_setOut_self _ hn]

end policy

/-! ### A write of EN (R254, R256) -/

/-- The output follows EN: it starts, stops, or latches what waits for the stop in progress. -/
def State.outSwitched (t : State) (n : Nat) (was on : Bool) : State :=
  if on = was then t
  else if on then (if (t.out n).stopping then t.setBit (F.PCR_OUTn_STAT_DRAINING n) true else t.outStarts n true)
  else if (t.out n).stopping then t.setBit (F.PCR_OUTn_STAT_DRAINING n) false
  else t.setOut n { t.out n with stopping := true }

section switch
variable (t : State) {n : Nat} (hn : n < 12)
include hn

theorem State.outSwitched_step (was on : Bool) : t.OutStep (t.outSwitched n was on) n true := by
  have hstay := State.OutStep.refl t n true
  unfold State.outSwitched
  split_ifs
  · exact hstay
  · exact hstay.setBit (F.PCR_OUTn_STAT_DRAINING n) true
  · exact hstay.outStarts hn true
  · exact hstay.setBit (F.PCR_OUTn_STAT_DRAINING n) false
  · exact hstay.setOut hn _

theorem State.outSwitched_starts (hstop : (t.out n).stopping = false) :
    ((t.outSwitched n false true).out n).running = true := by
  rw [State.outSwitched, if_neg (by decide), if_pos rfl, hstop]
  exact (t.outStarts_spec hn true).1

theorem State.outSwitched_stops : ((t.outSwitched n true false).out n).stopping = true := by
  rw [State.outSwitched, if_neg (by decide), if_neg (by decide)]
  split
  · next hstop => exact hstop
  · rw [State.out_setOut_self t hn]

end switch

/-! ### OUTPUT_CTL_WRITE -/

/-- The word that a write of OUTn_CTL leaves (R15). -/
def State.outCtlFit (s : State) (n v : Nat) : Nat :=
  fitted (s.val (A.PCR_OUTn_CTL n)) v (outCtlFields n (s.val (A.PCR_OUTn_CTL n)) v)

/-- The period that a word of OUTn_CTL gives the output (R226). -/
def State.periodOf (s : State) (n w : Nat) : Nat × Nat :=
  if bitsAt w 1 2 = kindFrame then framePeriod (bitsAt w 12 4)
  else (s.val (A.PCR_OUTn_PERIOD_NUM n), max 1 (s.val (A.PCR_OUTn_PERIOD_DEN n)))

/-- A word that would change a locked field, that R254 bars with EN, or that R239 bars with FOLLOW_INPUT. -/
def State.outBarred (s : State) (n w : Nat) : Bool :=
  ((s.bit (F.PCR_OUTn_CTL_EN n) || s.bit (F.PCR_OUTn_STAT_DRAINING n)) &&
      decide (lockedBits w ≠ lockedBits (s.val (A.PCR_OUTn_CTL n)))) || (bitOf w 0 && !s.mayEnable n w) ||
    (bitsAt w 5 2 == policyInput && !s.followFits (bitsAt w 8 4) (s.periodOf n w))

/-- The word that OUTn_CTL holds of one that fits. -/
def outCtlWord (w : Nat) : Nat := bitsAt w 0 19 + bitsAt w 20 2 * 2 ^ 20

theorem outCtlWord_lt (w : Nat) : outCtlWord w < 2 ^ 32 := by
  simp only [outCtlWord, bitsAt]
  omega

/-- The state with the word stored and what POLICY brings about, before EN acts. -/
def State.outCtlStored (s : State) (n w : Nat) : State :=
  s.policyMoves (s.setVal (A.PCR_OUTn_CTL n) (outCtlWord w)) n

/-- The state after an accepted write of OUTn_CTL. -/
def State.outCtlDone (s : State) (n w : Nat) : State :=
  (s.outCtlStored n w).outSwitched n (s.bit (F.PCR_OUTn_CTL_EN n)) (bitOf w 0)

/-- A write of OUTn_CTL is discarded whole, or stored as its fields allow. -/
theorem State.outCtlWrite_eq (s : State) (n v : Nat) : s.outCtlWrite n v =
    if s.outBarred n (s.outCtlFit n v) = true then s.rejected .range
    else (s.outCtlDone n (s.outCtlFit n v)).ok.judged (allFit (outCtlFields n (s.val (A.PCR_OUTn_CTL n)) v)) := by
  have hok : ∀ (t : State) (was on : Bool),
      (if on = was then t.ok
        else if on then
          if (t.out n).stopping then (t.setBit (F.PCR_OUTn_STAT_DRAINING n) true).ok else (t.outStarts n true).ok
        else if (t.out n).stopping then (t.setBit (F.PCR_OUTn_STAT_DRAINING n) false).ok
        else (t.setOut n { t.out n with stopping := true }).ok) = (t.outSwitched n was on).ok := fun t was on => by
    simp only [State.outSwitched, apply_ite State.ok]
  unfold State.outCtlWrite
  dsimp only
  rw [← ite_or, ← ite_or, hok]
  refine if_congr ?_ rfl rfl
  simp only [State.outBarred, State.outCtlFit, State.periodOf, Bool.or_eq_true, Bool.and_eq_true, Bool.not_eq_true',
    beq_iff_eq]
  exact or_congr_left (or_congr_left (and_congr_right fun _ => decide_eq_true_iff.symm))

section control
variable (s : State) {n : Nat} (hn : n < 12) (w : Nat)
include hn

theorem State.outCtlDone_spec :
    (s.outCtlDone n w).val (A.PCR_OUTn_CTL n) = outCtlWord w ∧
      (s.bit (F.PCR_OUTn_CTL_EN n) = false → bitOf w 0 = true → (s.out n).stopping = false →
        ((s.outCtlDone n w).out n).running = true) ∧
      (s.bit (F.PCR_OUTn_CTL_EN n) = true → bitOf w 0 = false → ((s.outCtlDone n w).out n).stopping = true) ∧
      s.wordsKept (s.outCtlDone n w) [A.PCR_OUTn_CTL n, A.PCR_OUTn_STAT n] := by
  have hset := s.wordsKept_setVal (A.PCR_OUTn_CTL n) (outCtlWord w)
  have hval := s.val_setVal_self (A.PCR_OUTn_CTL n) (outCtlWord w)
  have hstored : (s.setVal (A.PCR_OUTn_CTL n) (outCtlWord w)).OutStep (s.outCtlStored n w) n false :=
    State.policyMoves_step s _ hn
  have hstopping : ((s.outCtlStored n w).out n).stopping = (s.out n).stopping := by
    rw [State.outCtlStored, State.policyMoves_stopping s _ hn, State.out_setVal]
  have hswitched := (s.outCtlStored n w).outSwitched_step hn (s.bit (F.PCR_OUTn_CTL_EN n)) (bitOf w 0)
  have hkept := hstored.words.trans hswitched.words
  refine ⟨?_, fun hoff hon hstop => ?_, fun hwas hoff => ?_,
    (hset.mono (by simp)).trans (hkept.mono (by simp))⟩
  · rw [State.outCtlDone, hkept.val (by simp [A.PCR_OUTn_CTL, A.PCR_OUTn_STAT]), hval,
      Nat.mod_eq_of_lt (outCtlWord_lt w)]
  · rw [State.outCtlDone, hoff, hon]
    exact State.outSwitched_starts _ hn (hstopping.trans hstop)
  · rw [State.outCtlDone, hwas, hoff]
    exact State.outSwitched_stops _ hn

variable {s w} {p : HostPort} {v : Word} (hw : s.mayWrite p (A.PCR_OUTn_CTL n) = true)
  (hfit : w = s.outCtlFit n v.toNat)
include hw hfit

theorem State.hostParam_outCtl_barred (hbar : s.outBarred n w = true) :
    s.hostParam p (A.PCR_OUTn_CTL n) v = s.turnedAway p (A.PCR_OUTn_CTL n) v .range := by
  have hbank := s.bankWrite_outCtl p hn v.toNat
  rw [State.outCtlWrite_eq, ← hfit, if_pos hbar] at hbank
  exact State.hostParam_ruled_rejected_unheld hw (ruledWord_outCtl hn).1 (ruledWord_outCtl hn).2 hbank

variable (hbar : s.outBarred n w = false)
include hbar

omit hn hw in
theorem State.outCtlWrite_state : (s.outCtlWrite n v.toNat).state = s.outCtlDone n w := by
  rw [State.outCtlWrite_eq, ← hfit, if_neg (by simp [hbar]), Written.judged_state, State.ok_state]

/-- An accepted write, recorded as its fields allow (R15). -/
theorem State.hostParam_outCtl : s.hostParam p (A.PCR_OUTn_CTL n) v =
    if allFit (outCtlFields n (s.val (A.PCR_OUTn_CTL n)) v.toNat) then (s.outCtlDone n w).written p (A.PCR_OUTn_CTL n) v
    else (s.outCtlDone n w).turnedAway p (A.PCR_OUTn_CTL n) v .range := by
  have hbank := s.bankWrite_outCtl p hn v.toNat
  rw [State.outCtlWrite_eq, ← hfit, if_neg (by simp [hbar])] at hbank
  split
  · next hall =>
    rw [hall, Written.judged_true] at hbank
    exact State.hostParam_ruled hw (ruledWord_outCtl hn).1 hbank
  · next hall =>
    rw [(Bool.not_eq_true _).mp hall] at hbank
    exact State.hostParam_ruled_rejected_unheld hw (ruledWord_outCtl hn).1 (ruledWord_outCtl hn).2 hbank

end control

/-! ### ONESHOT_ARM (R227, R228) -/

/-- The lower words of a one-shot's AT. -/
def shotLowerWords (n : Nat) : List Nat := [A.PCR_OUTn_AT_SEC_LO n, A.PCR_OUTn_AT_NS n, A.PCR_OUTn_AT_PIP n]

/-- AT and its lower words are stored, and the one-shot is armed. -/
def State.shotStored (s : State) (p : HostPort) (n v : Nat) : State :=
  (((((s.dropHolds p (shotLowerWords n)).setVal (A.PCR_OUTn_AT_SEC_HI n) v).setVal (A.PCR_OUTn_AT_SEC_LO n)
    (s.lower p (A.PCR_OUTn_AT_SEC_LO n) (s.rd (A.PCR_OUTn_AT_SEC_LO n)))).setVal (A.PCR_OUTn_AT_NS n)
      (s.lower p (A.PCR_OUTn_AT_NS n) (s.rd (A.PCR_OUTn_AT_NS n)))).setVal (A.PCR_OUTn_AT_PIP n)
        (s.lower p (A.PCR_OUTn_AT_PIP n) (s.rd (A.PCR_OUTn_AT_PIP n)) % 65536)).put (F.PCR_OUTn_STAT_ONESHOT_STATE n)
          shotArmed

section shot
variable (s : State) (p : HostPort) {n : Nat} (v : Nat)

theorem State.shotArm_eq : s.shotArm p n v =
    if 10 * ((s.shotStored p n v).shotAt n - (s.shotStored p n v).outTime n (s.shotStored p n v).nowSub) ≤ 33554432
    then ((s.shotStored p n v).shotMissed n).ok else (s.shotStored p n v).ok := rfl

/-- The words of AT and STAT are all that is stored. -/
theorem State.shotStored_words : s.wordsKept (s.shotStored p n v) [A.PCR_OUTn_AT_SEC_HI n, A.PCR_OUTn_AT_SEC_LO n,
    A.PCR_OUTn_AT_NS n, A.PCR_OUTn_AT_PIP n, A.PCR_OUTn_STAT n] ∧
    (s.shotStored p n v).val (A.PCR_OUTn_AT_SEC_HI n) = v % 2 ^ 32 := by
  have hlow : ∀ t : State, ∀ a b c d,
      t.wordsKept ((((t.setVal (A.PCR_OUTn_AT_SEC_LO n) a).setVal (A.PCR_OUTn_AT_NS n) b).setVal
        (A.PCR_OUTn_AT_PIP n) c).put (F.PCR_OUTn_STAT_ONESHOT_STATE n) d) [A.PCR_OUTn_AT_SEC_LO n, A.PCR_OUTn_AT_NS n,
          A.PCR_OUTn_AT_PIP n, A.PCR_OUTn_STAT n] := fun t a b c d =>
    ((((t.wordsKept_setVal _ a).mono (by simp)).trans ((State.wordsKept_setVal _ _ b).mono (by simp))).trans
      ((State.wordsKept_setVal _ _ c).mono (by simp))).trans
        ((State.wordsKept_put _ (F.PCR_OUTn_STAT_ONESHOT_STATE n) d).mono (by simp [F.PCR_OUTn_STAT_ONESHOT_STATE]))
  have hset := (s.dropHolds p (shotLowerWords n)).wordsKept_setVal (A.PCR_OUTn_AT_SEC_HI n) v
  refine ⟨s.wordsKept_dropHolds p _ ((hset.mono (by simp)).trans ((hlow _ _ _ _ _).mono (by simp))), ?_⟩
  refine ((hlow _ _ _ _ _).val ?_).trans (State.val_setVal_self _ _ _)
  simp [A.PCR_OUTn_AT_SEC_HI, A.PCR_OUTn_AT_SEC_LO, A.PCR_OUTn_AT_NS, A.PCR_OUTn_AT_PIP, A.PCR_OUTn_STAT]

theorem State.shotStored_hidden : (s.shotStored p n v).str = s.str ∧ (s.shotStored p n v).tally = s.tally ∧
    (s.shotStored p n v).out n = s.out n := by
  have hout : (s.dropHolds p (shotLowerWords n)).out n = s.out n := by rw [State.dropHolds_eq]; rfl
  simp only [State.shotStored, State.put_str, State.setVal_str, State.dropHolds_str, State.put_tally, State.setVal_tally,
    State.dropHolds_tally, State.out_put, State.out_setVal, hout, and_self]

/-- Storing AT leaves the output's time. -/
theorem State.shotStored_sameTime : s.SameTime (s.shotStored p n v) n := by
  obtain ⟨hstr, htally, hout⟩ := s.shotStored_hidden p (n := n) v
  obtain ⟨hwords, -⟩ := s.shotStored_words p (n := n) v
  refine ⟨hstr, htally, hout, hwords.val ?_, hwords.val ?_, hwords.val ?_⟩ <;>
    simp only [A.PCR_OUTn_CTL, A.PCR_SLEW_MAX, A.STR_UTC_OFFSET, A.PCR_OUTn_AT_SEC_HI, A.PCR_OUTn_AT_SEC_LO,
      A.PCR_OUTn_AT_NS, A.PCR_OUTn_AT_PIP, A.PCR_OUTn_STAT, List.mem_cons, List.not_mem_nil, or_false] <;> omega

/-- A step of the output leaves AT. -/
theorem State.OutStep.shotAt {s u : State} {n : Nat} {quiet : Bool} (h : s.OutStep u n quiet) :
    u.shotAt n = s.shotAt n := by
  have hsec : u.multi (A.PCR_OUTn_AT_SEC_HI n) 2 = s.multi (A.PCR_OUTn_AT_SEC_HI n) 2 :=
    State.multi_congr _ fun i _ => h.words.val (by simp [A.PCR_OUTn_AT_SEC_HI, A.PCR_OUTn_STAT]; omega)
  rw [State.shotAt, hsec, h.words.get (by simp [F.PCR_OUTn_AT_NS_NS, A.PCR_OUTn_AT_NS, A.PCR_OUTn_STAT]),
    h.words.get (by simp [F.PCR_OUTn_AT_PIP_PIP, A.PCR_OUTn_AT_PIP, A.PCR_OUTn_STAT]), State.shotAt]

/-- AT is stored; the one-shot is armed, or, less than 64 ticks ahead, missed. -/
theorem State.shotArm_spec (v : Word) {u : State} (hu : u = (s.shotArm p n v.toNat).state) :
    s.shotArm p n v.toNat = u.ok ∧ u.val (A.PCR_OUTn_AT_SEC_HI n) = v.toNat ∧
      u.get (F.PCR_OUTn_STAT_ONESHOT_STATE n) =
        (if 10 * (u.shotAt n - s.outTime n s.nowSub) ≤ 33554432 then 3 else 1) ∧
      (10 * (u.shotAt n - s.outTime n s.nowSub) ≤ 33554432 → Ev.OUT_MISSED ∈ u.raised) ∧
      s.wordsKept u [A.PCR_OUTn_AT_SEC_HI n, A.PCR_OUTn_AT_SEC_LO n, A.PCR_OUTn_AT_NS n, A.PCR_OUTn_AT_PIP n,
        A.PCR_OUTn_STAT n] := by
  have htime := s.shotStored_sameTime p (n := n) v.toNat
  have hcond := s.shotArm_eq p (n := n) v.toNat
  obtain ⟨hwords, hval⟩ := s.shotStored_words p (n := n) v.toNat
  have hv : v.toNat % 2 ^ 32 = v.toNat := Nat.mod_eq_of_lt v.isLt
  have harmed : (s.shotStored p n v.toNat).get (F.PCR_OUTn_STAT_ONESHOT_STATE n) = 1 :=
    State.get_shotState_put _ n shotArmed
  rw [htime.nowSub, htime.outTime] at hcond
  generalize s.shotStored p n v.toNat = t at *
  rw [hcond] at hu ⊢
  split at hu
  · next hlate =>
    have hstep : t.OutStep u n false := hu ▸ (State.OutStep.refl t n false).shotMissed
    obtain ⟨hstate, hraised⟩ := t.shotMissed_spec n
    rw [if_pos hlate, hstep.shotAt, if_pos hlate]
    refine ⟨congrArg State.ok hu.symm, ?_, hu ▸ hstate, fun _ => hu ▸ hraised,
      hwords.trans (hstep.words.mono (by simp))⟩
    rw [hstep.words.val (by simp [A.PCR_OUTn_AT_SEC_HI, A.PCR_OUTn_STAT]), hval, hv]
  · next hahead =>
    obtain rfl : u = t := hu
    rw [if_neg hahead, if_neg hahead]
    exact ⟨rfl, hval.trans hv, harmed, fun hlate => absurd hlate hahead, hwords⟩

end shot

end Sys2Proof.Machine
end

section
/-! The outputs launch their edges, drain, and take their settings (O47). -/

-- As in the tests: elaborated in parallel, these proofs' thread stacks would exceed the check's memory limit.
set_option Elab.async false

namespace Sys2Proof.Machine

/-! ### The commands -/

section commands
variable {s : State} {n : Nat} (hup : s.up .time = true) (hn : n < 12)
include hup hn

theorem exec_outputEdge : exec (.outputEdge n) s = .next (s.after (s.outputEdge n)) :=
  happen_inside hup (decide_eq_true hn) (fun s => s.outputEdge n)

theorem exec_squelchHoldTimeout : exec (.squelchHoldTimeout n) s = .next (s.after (s.squelchHold n)) :=
  happen_inside hup (decide_eq_true hn) (fun s => s.squelchHold n)

theorem exec_outputDrainDone : exec (.outputDrainDone n) s = .next (s.after (s.outDrained n)) :=
  happen_inside hup (decide_eq_true hn) (fun s => s.outDrained n)

end commands

theorem exec_outputCtlWrite (s : State) (p : HostPort) (n : Nat) (v : Word) :
    exec (.outputCtlWrite p n v) s = .next (s.after (s.hostParam p (A.PCR_OUTn_CTL n) v)) := rfl

theorem exec_oneshotArm (s : State) (p : HostPort) (n : Nat) (v : Word) :
    exec (.oneshotArm p n v) s = .next (s.after (s.hostParam p (A.PCR_OUTn_AT_SEC_HI n) v)) := rfl

/-- Settles O47: an edge that is due launches, is skipped or is unseen by what it finds, and the host's writes follow their
words' rules. That a committed edge launches under squelch (log 39), that a rising edge in a high time is skipped (log 106),
that a one-shot on a pad that is down is missed (log 107), and that a field out of range keeps its code (log 90), are the
model's readings. -/
theorem outputsLaunchTheirEdges : Obligations.OutputsLaunchTheirEdges := by
  intro s n hup hn
  refine ⟨fun hrun => ⟨fun hfall hdue => ?_, fun e hhigh hfall => ⟨fun hlater => ?_, fun hdue u hu => ?_⟩,
      fun e hfall hnext hdue unseen hunseen u hu => ?_⟩, fun hpad hsq hhigh => State.pad_squelched hpad hsq hhigh,
    fun e hhigh hends u hu => ?_, fun hidle => ?_, fun hstop hhigh hnext u hu => ?_, fun hnot => ?_,
    fun p v hw x hx w hfit barred hbarred => ⟨fun hbar => ?_, fun hbar hall => ?_, fun hbar hnone => ?_, fun hbar => ?_⟩,
    fun p v hw u hu => ?_⟩
  · rw [exec_outputEdge hup hn, State.outputEdge_none hn hrun hfall hdue]
  · rw [exec_outputEdge hup hn, State.outputEdge_fall hn hrun hfall hhigh, if_neg (by omega)]
  · rw [exec_outputEdge hup hn, ← hu]
    rw [State.outputEdge_fall hn hrun hfall hhigh, if_pos hdue] at hu
    exact ⟨rfl, State.fallNow_spec hn e _ hu⟩
  · rw [exec_outputEdge hup hn, ← hu]
    obtain ⟨hhidden, hlaunch, hfire, hskip, hstep⟩ := State.outputEdge_rise_spec hn hrun hfall hnext hdue hu
    have hshow : unseen = s.edgeUnseen n := hunseen
    rw [hshow]
    exact ⟨rfl, hhidden, hlaunch, hfire, hskip, fun m _ hm => hstep.others m hm, hstep.words, hstep.frame⟩
  · rw [exec_squelchHoldTimeout hup hn, ← hu]
    obtain ⟨hlow, hlast, hframe, -⟩ := State.fallNow_spec hn e s.nowSub (hu.trans (State.squelchHold_ends hhigh hends))
    exact ⟨rfl, hlow, hlast, hframe⟩
  · rw [exec_squelchHoldTimeout hup hn, State.squelchHold_idle hidle]
  · rw [exec_outputDrainDone hup hn, ← hu]
    exact ⟨rfl, State.outDrained_spec hn hstop hhigh hnext hu⟩
  · rw [exec_outputDrainDone hup hn, State.outDrained_not hnot]
  · rw [exec_outputCtlWrite, State.hostParam_outCtl_barred hn hw hfit (hbarred.symm.trans hbar)]
  · rw [exec_outputCtlWrite, State.hostParam_outCtl hn hw hfit (hbarred.symm.trans hbar), if_pos hall, hx,
      State.outCtlWrite_state hfit (hbarred.symm.trans hbar)]
  · rw [exec_outputCtlWrite, State.hostParam_outCtl hn hw hfit (hbarred.symm.trans hbar), if_neg (by simp [hnone]), hx,
      State.outCtlWrite_state hfit (hbarred.symm.trans hbar)]
  · rw [hx, State.outCtlWrite_state hfit (hbarred.symm.trans hbar)]
    exact s.outCtlDone_spec hn w
  · obtain ⟨hok, hspec⟩ := s.shotArm_spec p v hu
    rw [exec_oneshotArm, State.hostParam_ruled hw (ruledWord_shotAt hn) ((s.bankWrite_shotAt p hn _).trans
      (congrArg some hok))]
    exact ⟨rfl, hspec⟩

end Sys2Proof.Machine
end

section
/-! SUPPORT. Alignment of an output, and its verification (R240, R241, R249 to R251). -/

-- As in the tests: elaborated in parallel, these proofs' thread stacks would exceed the check's memory limit.
set_option Elab.async false

namespace Sys2Proof.Machine

/-! ### ALIGN and slews (R240, R241) -/

section align
variable (s : State) {n : Nat} (hn : n < 12)

/-- ALIGN: SLEWING goes, and the output is set to its target. -/
def State.alignNow (s : State) (n : Nat) : State := (s.put (F.PCR_OUTn_STAT_SLEWING n) 0).align n

/-- A slew begins. -/
def State.slewBegun (s : State) (n : Nat) : State :=
  (s.setOut n { s.out n with ofs := s.outOfs n, slew := some (s.nowSub, s.alignTarget n) }).setBit
    (F.PCR_OUTn_STAT_SLEWING n) true

/-- A slew ends where it stands. -/
def State.slewEnded (s : State) (n : Nat) : State :=
  (s.setOfs n (s.outOfs n)).put (F.PCR_OUTn_STAT_SLEWING n) 0

theorem State.slewAlign_eq (n : Nat) :
    s.slewAlign n = if s.outOfs n = s.alignTarget n then s.alignNow n else s.slewBegun n := rfl

include hn in
theorem State.alignNow_spec : ((s.alignNow n).out n).ofs = s.alignTarget n ∧ ((s.alignNow n).out n).slew = none ∧
    Ev.OUT_ALIGN_DONE ∈ (s.alignNow n).raised ∧ s.OutStep (s.alignNow n) n false := by
  have hput := (State.OutStep.refl s n false).put (F.PCR_OUTn_STAT_SLEWING n) 0
  obtain ⟨applied, hout⟩ := (s.put (F.PCR_OUTn_STAT_SLEWING n) 0).align_out hn
  rw [(hput.sameTime (s.out_put _ 0 n)).alignTarget] at hout
  rw [State.alignNow, hout]
  exact ⟨rfl, rfl, State.align_raises _ n, hput.align hn⟩

/-- At the instant from which it is reckoned a slew has moved nothing. -/
theorem State.ofsAt_slewStart {u : State} {t g : Int} (h : (u.out n).slew = some (t, g)) :
    u.ofsAt n t = (u.out n).ofs := by
  simp [State.ofsAt, h, State.slewReach]

include hn in
theorem State.slewBegun_spec : ((s.slewBegun n).out n).ofs = s.outOfs n ∧
    ((s.slewBegun n).out n).slew = some (s.nowSub, s.alignTarget n) ∧ (s.slewBegun n).outOfs n = s.outOfs n ∧
    (s.slewBegun n).bit (F.PCR_OUTn_STAT_SLEWING n) = true ∧ s.OutStep (s.slewBegun n) n true := by
  have hout : (s.slewBegun n).out n = { s.out n with ofs := s.outOfs n, slew := some (s.nowSub, s.alignTarget n) } := by
    rw [State.slewBegun, State.out_setBit, State.out_setOut_self _ hn]
  have hnow : (s.slewBegun n).nowSub = s.nowSub := by
    rw [State.nowSub, State.slewBegun, State.setBit_tally, State.setOut_tally, State.nowSub]
  have hofs : (s.slewBegun n).outOfs n = ((s.slewBegun n).out n).ofs := by
    rw [State.outOfs, hnow, State.ofsAt_slewStart (g := s.alignTarget n) (by rw [hout])]
  rw [hofs, hout]
  exact ⟨rfl, rfl, rfl, State.bit_put_one _ (A.PCR_OUTn_STAT n) 3 1,
    ((State.OutStep.refl s n true).setOut hn _).setBit (F.PCR_OUTn_STAT_SLEWING n) true⟩

theorem State.slewStop_eq (n : Nat) : s.slewStop n = if (s.out n).slew = none then s else s.slewEnded n := by
  unfold State.slewStop
  cases (s.out n).slew <;> rfl

include hn in
theorem State.slewStop_spec {u : State} (hu : u = s.slewStop n) : (u.out n).slew = none ∧
    ((s.out n).slew.isSome = true → (u.out n).ofs = s.outOfs n) ∧ ((s.out n).slew = none → u = s) := by
  have hout : (s.slewEnded n).out n = { s.out n with ofs := s.outOfs n, slew := none } := by
    rw [State.slewEnded, State.out_put, State.setOfs, State.out_setOut_self _ hn]
  rw [State.slewStop_eq] at hu
  split at hu
  · next hnone =>
    rw [hu]
    exact ⟨hnone, fun hslew => absurd hslew (by simp [hnone]), fun _ => rfl⟩
  · next hslew =>
    rw [hu, hout]
    exact ⟨rfl, fun _ => rfl, fun hnone => absurd hnone hslew⟩

theorem State.slewDone_not (h : (s.out n).slew = none ∨ s.outOfs n ≠ s.alignTarget n) : s.slewDone n = s := by
  unfold State.slewDone
  split
  · rfl
  · next g hslew => exact if_neg (h.resolve_left (by simp [hslew]))

include hn in
theorem State.slewDone_spec {g : Int × Int} (hslew : (s.out n).slew = some g) (hthere : s.outOfs n = s.alignTarget n)
    {u : State} (hu : u = s.slewDone n) : (u.out n).slew = none ∧ (u.out n).ofs = s.alignTarget n ∧
      u.bit (F.PCR_OUTn_STAT_SLEWING n) = false ∧ Ev.OUT_ALIGN_DONE ∈ u.raised ∧
      s.wordsKept u [A.PCR_OUTn_STAT n] := by
  have hdone : s.slewDone n = (s.align n).put (F.PCR_OUTn_STAT_SLEWING n) 0 := by
    rw [State.slewDone, hslew]
    exact if_pos hthere
  obtain ⟨applied, hout⟩ := s.align_out hn
  rw [hu, hdone, State.out_put, hout, State.put_raised]
  exact ⟨rfl, rfl, State.bit_put_one _ (A.PCR_OUTn_STAT n) 3 0, s.align_raises n,
    (((State.OutStep.refl s n false).align hn).put (F.PCR_OUTn_STAT_SLEWING n) 0).words⟩

end align

/-! ### PCR.CMD -/

/-- The fields of a command word. -/
theorem cmdWord_fields {n k c : Nat} (hn : n < 12) (hk : k < 16) (hc : c = 16 * k) {v : Word}
    (hv : v = BitVec.ofNat 32 (n + c)) : bitsAt v.toNat 0 4 = n ∧ bitsAt v.toNat 4 4 = k := by
  subst hv hc
  simp only [bitsAt, BitVec.toNat_ofNat]
  omega

/-- What a command with OP `k` comes to at output `n`. -/
def State.cmdDone (s : State) (n k : Nat) : Written :=
  match k with
  | 1 => (s.alignNow n).ok
  | 2 => (s.slewAlign n).ok
  | 3 => (s.slewStop n).ok
  | 4 => (s.put (F.PCR_OUTn_STAT_ONESHOT_STATE n) shotIdle).ok
  | _ => s.rejected .range

section command
variable (s : State) {n v : Nat}

/-- A command for an output that there is. -/
theorem State.pcrCmd_op {k : Nat} (hn : n < 12) (h : bitsAt v 0 4 = n ∧ bitsAt v 4 4 = k) :
    s.pcrCmd v = s.cmdDone n k := by
  obtain ⟨rfl, rfl⟩ := h
  exact if_neg (by omega)

theorem State.cmdDone_none {k : Nat} (h : k = 0 ∨ 5 ≤ k) : s.cmdDone n k = s.rejected .range := by
  rcases h with rfl | h
  · rfl
  · obtain ⟨j, rfl⟩ := Nat.exists_eq_add_of_le' h
    rfl

theorem State.pcrCmd_range (h : 12 ≤ bitsAt v 0 4 ∨ bitsAt v 4 4 = 0 ∨ 5 ≤ bitsAt v 4 4) :
    s.pcrCmd v = s.rejected .range := by
  rcases Nat.lt_or_ge (bitsAt v 0 4) 12 with hn | hn
  · rw [s.pcrCmd_op hn ⟨rfl, rfl⟩, s.cmdDone_none (h.resolve_left (by omega))]
  · exact if_pos hn

theorem State.bankWrite_pcrCmd (p : HostPort) (v : Nat) :
    s.bankWrite p (A.PCR_CMD / 256) (A.PCR_CMD % 256) v = some (s.pcrCmd v) := rfl

variable {s} {p : HostPort} {w : Word} (hw : s.mayWrite p A.PCR_CMD = true)
include hw

theorem State.hostParam_pcrCmd {u : State} (h : s.pcrCmd w.toNat = u.ok) :
    s.hostParam p A.PCR_CMD w = u.written p A.PCR_CMD w :=
  State.hostParam_ruled hw (by decide) ((s.bankWrite_pcrCmd p _).trans (congrArg some h))

theorem State.hostParam_pcrCmd_range (h : s.pcrCmd w.toNat = s.rejected .range) :
    s.hostParam p A.PCR_CMD w = s.turnedAway p A.PCR_CMD w .range :=
  State.hostParam_ruled_rejected_unheld hw (by decide) (by decide) ((s.bankWrite_pcrCmd p _).trans (congrArg some h))

end command

/-! ### VER_CTL (R15, R249) -/

/-- A field that a mask leaves whole. -/
theorem bitsAt_and {v m lo w : Nat} (h : bitsAt m lo w = 2 ^ w - 1) : bitsAt (v &&& m) lo w = bitsAt v lo w := by
  unfold bitsAt at h ⊢
  rw [Nat.and_div_two_pow, Nat.and_mod_two_pow, h, Nat.and_two_pow_sub_one_eq_mod, Nat.mod_mod]

/-- The word that a write of VER_CTL leaves. -/
def State.verWord (s : State) (v : Nat) : Nat :=
  fitted (s.val A.PCR_VER_CTL) v [(4, 4, decide (bitsAt v 4 4 < 12))] &&& 0x7F1

/-- VER_CTL is stored, and the gate starts afresh. -/
def State.verStored (s : State) (v : Nat) : State :=
  let t := s.setVal A.PCR_VER_CTL (s.verWord v)
  { t with pcr := { t.pcr with errors := [] } }

section verify
variable (s : State) (v : Nat)

theorem State.verWord_fields : bitsAt (s.verWord v) 0 1 = bitsAt v 0 1 ∧ bitsAt (s.verWord v) 4 4 = s.verOut v ∧
    bitsAt (s.verWord v) 8 3 = bitsAt v 8 3 := by
  have hword : s.verWord v = (if bitsAt v 4 4 < 12 then v
      else withBits v 4 4 (bitsAt (s.val A.PCR_VER_CTL) 4 4)) &&& 0x7F1 := by
    simp only [State.verWord, fitted, List.foldl_cons, List.foldl_nil, decide_eq_true_eq]
  rw [hword, bitsAt_and (by decide), bitsAt_and (by decide), bitsAt_and (by decide), State.verOut]
  split
  · exact ⟨rfl, rfl, rfl⟩
  · refine ⟨?_, ?_, ?_⟩
    · simp only [withBits_eq, bitsAt]; omega
    · rw [bitsAt_withBits]
      exact Nat.mod_mod _ _
    · simp only [withBits_eq, bitsAt]; omega

theorem State.verStored_spec : (s.verStored v).bit F.PCR_VER_CTL_EN = bitOf v 0 ∧
    (s.verStored v).get F.PCR_VER_CTL_OUT = s.verOut v ∧ (s.verStored v).get F.PCR_VER_CTL_CH = bitsAt v 8 3 ∧
    (s.verStored v).pcr.errors = [] ∧ s.wordsKept (s.verStored v) [A.PCR_VER_CTL] := by
  have hlt : s.verWord v < 2 ^ 32 := lt_of_le_of_lt Nat.and_le_right (by decide)
  have hval : (s.verStored v).val A.PCR_VER_CTL = s.verWord v :=
    (s.val_setVal_self A.PCR_VER_CTL (s.verWord v)).trans (Nat.mod_eq_of_lt hlt)
  obtain ⟨hen, hout, hch⟩ := s.verWord_fields v
  refine ⟨?_, ?_, ?_, rfl, s.wordsKept_setVal A.PCR_VER_CTL _⟩
  · rw [State.bit, State.get, F.PCR_VER_CTL_EN, hval, hen, bitsAt_ne_zero]
  · rw [State.get, F.PCR_VER_CTL_OUT, hval, hout]
  · rw [State.get, F.PCR_VER_CTL_CH, hval, hch]

/-- A write of VER_CTL is discarded whole, or stored as its OUT allows. -/
theorem State.verCtlWrite_eq : s.verCtlWrite v = if bitOf v 0 = true ∧ s.verFits v = false then s.rejected .range
    else if bitsAt v 4 4 < 12 then (s.verStored v).ok else (s.verStored v).rejected .range := by
  have hrow : ∃ r, rowAt A.PCR_VER_CTL = some r ∧ r.rw = 0x7F1 := ⟨_, rfl, rfl⟩
  obtain ⟨r, hr, hrw⟩ := hrow
  have hstate : ∀ l, (s.fitWrite A.PCR_VER_CTL v l) =
      (s.setVal A.PCR_VER_CTL (fitted (s.val A.PCR_VER_CTL) v l &&& 0x7F1)).ok.judged (allFit l) := fun l => by
    rw [State.fitWrite, hr, ← hrw]
  rw [State.verCtlWrite, hstate]
  refine if_congr Iff.rfl rfl ?_
  split
  · next hout =>
    have hall : allFit [(4, 4, decide (bitsAt v 4 4 < 12))] = true := by simp [allFit, hout]
    rw [hall]
    rfl
  · next hout =>
    have hall : allFit [(4, 4, decide (bitsAt v 4 4 < 12))] = false := by simp [allFit]; omega
    rw [hall]
    rfl

theorem State.bankWrite_verCtl (p : HostPort) :
    s.bankWrite p (A.PCR_VER_CTL / 256) (A.PCR_VER_CTL % 256) v = some (s.verCtlWrite v) := rfl

variable {s} {p : HostPort} {w : Word} (hw : s.mayWrite p A.PCR_VER_CTL = true)
include hw

theorem State.hostParam_verCtl_unfit (h : bitOf w.toNat 0 = true ∧ s.verFits w.toNat = false) :
    s.hostParam p A.PCR_VER_CTL w = s.turnedAway p A.PCR_VER_CTL w .range := by
  have hbank := s.bankWrite_verCtl w.toNat p
  rw [State.verCtlWrite_eq, if_pos h] at hbank
  exact State.hostParam_ruled_rejected_unheld hw (by decide) (by decide) hbank

theorem State.hostParam_verCtl (h : ¬ (bitOf w.toNat 0 = true ∧ s.verFits w.toNat = false)) :
    s.hostParam p A.PCR_VER_CTL w = if bitsAt w.toNat 4 4 < 12 then (s.verStored w.toNat).written p A.PCR_VER_CTL w
      else (s.verStored w.toNat).turnedAway p A.PCR_VER_CTL w .range := by
  have hbank := s.bankWrite_verCtl w.toNat p
  rw [State.verCtlWrite_eq, if_neg h] at hbank
  split
  · next hout =>
    rw [if_pos hout] at hbank
    exact State.hostParam_ruled hw (by decide) hbank
  · next hout =>
    rw [if_neg hout] at hbank
    exact State.hostParam_ruled_rejected_unheld hw (by decide) (by decide) hbank

end verify

/-! ### VER_GATE_END (R250, R251) -/

/-- An entry into Safe Hold leaves the words and the outputs, and every event raised. -/
theorem State.enterSafe_keeps (s : State) (cause : Nat) : (s.enterSafe cause).regs = s.regs ∧
    (s.enterSafe cause).pcr = s.pcr ∧ s.raised ⊆ (s.enterSafe cause).raised := by
  unfold State.enterSafe
  split
  · exact ⟨rfl, rfl, List.Subset.refl _⟩
  · exact ⟨rfl, rfl, List.Subset.refl _⟩
  · exact ⟨rfl, rfl, fun e he => List.mem_append_left _ (List.mem_append_left _ he)⟩

/-- The mean and the largest error of a gate, and the state after the free values that a gate without a stamp takes. -/
def State.gateValues (s : State) : Int × Int × State :=
  match s.pcr.errors with
  | [] => (s.freeInt, s.drawn.freeInt, s.drawn.drawn)
  | e :: l => (centiPs ((s.pcr.errors.sum : Rat) / (s.pcr.errors.length : Rat)),
      centiPs ((l.foldl (fun b x => max b |x|) |e| : Int) : Rat), s)

/-- A gate's results are shown, and the next gate begins. -/
def State.gateEnded (s : State) : State :=
  let t := s.gateValues.2.2
  ((({ t with pcr := { t.pcr with errors := [] } }).setVal A.PCR_VER_COUNT s.pcr.errors.length).setIval A.PCR_VER_MEAN
    s.gateValues.1).setIval A.PCR_VER_MAXABS s.gateValues.2.1

/-- A mean beyond the limit is reported. -/
def State.failReported (t : State) : State := (t.setBit F.PCR_VER_STAT_FAIL_SEEN true).raise Ev.OUT_VERIFY_FAIL

/-- A mean beyond the limit: where VERIFY_SAFE asks for it Safe Hold follows the report. -/
def State.verifyFailed (t : State) : State :=
  if t.failReported.bit F.PCR_CTL_VERIFY_SAFE then t.failReported.enterSafe 18 else t.failReported

section gate
variable {s : State}

theorem State.verGate_idle (h : s.verifying = false) : s.verGate = s := if_pos h

theorem State.verGate_eq (h : s.verifying = true) : s.verGate =
    if (s.val A.PCR_VER_LIMIT : Int) * 100 < |s.gateValues.1| then s.gateEnded.verifyFailed else s.gateEnded := by
  rw [State.verGate, if_neg (by simp [h])]
  rfl

variable (s)

theorem State.gateEnded_spec : s.gateEnded.pcr.errors = [] ∧
    s.gateEnded.val A.PCR_VER_COUNT = s.pcr.errors.length % 2 ^ 32 ∧
    s.gateEnded.val A.PCR_VER_MEAN = codeOf 32 s.gateValues.1 ∧ s.gateEnded.raised = s.raised ∧
    s.gateEnded.mode = s.mode := by
  have hquiet : s.gateValues.2.2.raised = s.raised ∧ s.gateValues.2.2.mode = s.mode := by
    unfold State.gateValues
    split <;> exact ⟨rfl, rfl⟩
  have hne : ∀ (t : State) {a b : Nat} (i : Int), b ≠ a → (t.setIval a i).val b = t.val b := fun t a b i h => by
    rw [State.val, State.setIval, State.rd_wr_ne t h, State.val]
  obtain ⟨hraised, hmode⟩ := hquiet
  refine ⟨?_, ?_, ?_, ?_, ?_⟩
  · rw [State.gateEnded, State.setIval_pcr, State.setIval_pcr, State.setVal_pcr]
  · rw [State.gateEnded, hne _ _ (by decide), hne _ _ (by decide), State.val_setVal_self]
  · rw [State.gateEnded, hne _ _ (by decide), State.val_setIval_self]
  · rw [State.gateEnded, State.setIval_raised, State.setIval_raised, State.setVal_raised, hraised]
  · rw [State.gateEnded, State.setIval_mode, State.setIval_mode, State.setVal_mode, hmode]

theorem State.verifyFailed_spec (t : State) : t.verifyFailed.pcr = t.pcr ∧
    t.wordsKept t.verifyFailed [A.PCR_VER_STAT] ∧ t.verifyFailed.bit F.PCR_VER_STAT_FAIL_SEEN = true ∧
    Ev.OUT_VERIFY_FAIL ∈ t.verifyFailed.raised := by
  obtain ⟨hregs, hpcr, hraised⟩ : t.verifyFailed.regs = t.failReported.regs ∧
      t.verifyFailed.pcr = t.failReported.pcr ∧ t.failReported.raised ⊆ t.verifyFailed.raised := by
    unfold State.verifyFailed
    split
    · exact t.failReported.enterSafe_keeps 18
    · exact ⟨rfl, rfl, List.Subset.refl _⟩
  have hrd : ∀ a, t.verifyFailed.rd a = (t.setBit F.PCR_VER_STAT_FAIL_SEEN true).rd a := fun a => by
    rw [State.rd_of_regs hregs, State.failReported, State.rd_raise]
  refine ⟨?_, fun a ha => ?_, ?_, hraised (List.mem_append_right _ (List.mem_singleton_self _))⟩
  · rw [hpcr, State.failReported, State.raise_pcr, State.setBit_pcr]
  · rw [hrd, t.wordsKept_setBit F.PCR_VER_STAT_FAIL_SEEN true a ha]
  · rw [State.bit, State.get, State.val, hrd]
    exact State.bit_setBit_self t F.PCR_VER_STAT_FAIL_SEEN true rfl (by decide)

theorem State.gateValues_mean (h : s.pcr.errors ≠ []) :
    s.gateValues.1 = centiPs ((s.pcr.errors.sum : Rat) / (s.pcr.errors.length : Rat)) := by
  unfold State.gateValues
  split
  · next hnone => exact absurd hnone h
  · rfl

variable {s}

theorem State.verGate_spec (h : s.verifying = true) {u : State} (hu : u = s.verGate) : u.pcr.errors = [] ∧
    u.val A.PCR_VER_COUNT = s.pcr.errors.length % 2 ^ 32 ∧ u.val A.PCR_VER_MEAN = codeOf 32 s.gateValues.1 ∧
    ((s.val A.PCR_VER_LIMIT : Int) * 100 < |s.gateValues.1| →
      u.bit F.PCR_VER_STAT_FAIL_SEEN = true ∧ Ev.OUT_VERIFY_FAIL ∈ u.raised) ∧
    (|s.gateValues.1| ≤ (s.val A.PCR_VER_LIMIT : Int) * 100 → u.raised = s.raised ∧ u.mode = s.mode) := by
  obtain ⟨herrors, hcount, hmean, hraised, hmode⟩ := s.gateEnded_spec
  rw [State.verGate_eq h] at hu
  split at hu
  · next hbeyond =>
    obtain ⟨hpcr, hwords, hseen, hevent⟩ := s.gateEnded.verifyFailed_spec
    rw [hu, hpcr, hwords.val (by decide), hwords.val (by decide)]
    exact ⟨herrors, hcount, hmean, fun _ => ⟨hseen, hevent⟩, fun hin => absurd hbeyond hin.not_gt⟩
  · next hin =>
    rw [hu]
    exact ⟨herrors, hcount, hmean, fun hbeyond => absurd hbeyond hin, fun _ => ⟨hraised, hmode⟩⟩

end gate

end Sys2Proof.Machine
end

section
/-! The outputs are aligned and verified (O48). -/

-- As in the tests: elaborated in parallel, these proofs' thread stacks would exceed the check's memory limit.
set_option Elab.async false

namespace Sys2Proof.Machine

/-! ### The commands -/

section writes
variable (s : State) (p : HostPort) (v : Word)

theorem exec_alignOutput : exec (.alignOutput p v) s = .next (s.after (s.hostParam p A.PCR_CMD v)) := rfl

theorem exec_slewAlign : exec (.slewAlign p v) s = .next (s.after (s.hostParam p A.PCR_CMD v)) := rfl

theorem exec_slewStop : exec (.slewStop p v) s = .next (s.after (s.hostParam p A.PCR_CMD v)) := rfl

theorem exec_disarm : exec (.disarm p v) s = .next (s.after (s.hostParam p A.PCR_CMD v)) := rfl

theorem exec_verCtlWrite : exec (.verCtlWrite p v) s = .next (s.after (s.hostParam p A.PCR_VER_CTL v)) := rfl

end writes

section commands
variable {s : State} (hup : s.up .time = true)
include hup

theorem exec_slewDone {n : Nat} (hn : n < 12) : exec (.slewDone n) s = .next (s.after (s.slewDone n)) :=
  happen_inside hup (decide_eq_true hn) (fun s => s.slewDone n)

theorem exec_verGateEnd : exec .verGateEnd s = .next (s.after s.verGate) := happen_inside hup rfl State.verGate

end commands

/-- Settles O48: each OP of PCR.CMD does its own operation, a slew at its target ends, and VER_CTL and the gate follow their
rules. That a word whose OUT is out of range is judged and stored with the OUT held is the model's reading (log 90). -/
theorem outputsAlignAndVerify : Obligations.OutputsAlignAndVerify := by
  intro s n hup hn
  refine ⟨fun p hw => ⟨fun u hu v hv => ?_, fun haway u hu v hv => ?_, fun hthere v hv => ?_, fun u hu v hv => ?_,
      fun v hv => ?_, fun v hv => ?_⟩, fun g hslew hthere u hu => ?_, fun hnot => ?_,
    fun p v hw out ch hch hout fits hfits => ⟨fun hbad => ?_, fun hgood u hu => ?_⟩, fun hidle => ?_, fun hon u hu => ?_⟩
  · have hcmd := s.pcrCmd_op hn (cmdWord_fields (k := 1) hn (by decide) rfl hv)
    obtain ⟨hofs, hslew, hevent, hstep⟩ := s.alignNow_spec hn
    rw [exec_alignOutput, State.hostParam_pcrCmd hw hcmd, hu]
    exact ⟨rfl, hofs, hslew, hevent, fun m _ hm => hstep.others m hm, hstep.words, hstep.frame⟩
  · have hcmd := s.pcrCmd_op hn (cmdWord_fields (k := 2) hn (by decide) rfl hv)
    obtain ⟨hofs, hslew, hstays, hflag, hstep⟩ := s.slewBegun_spec hn
    rw [exec_slewAlign, State.hostParam_pcrCmd hw hcmd, hu, State.slewAlign_eq, if_neg haway]
    exact ⟨rfl, hofs, hslew, hstays, hflag, hstep.words, hstep.quietFrame⟩
  · have hcmd := s.pcrCmd_op hn (cmdWord_fields (k := 2) hn (by decide) rfl hv)
    rw [exec_slewAlign, State.hostParam_pcrCmd hw hcmd, State.slewAlign_eq, if_pos hthere]
    rfl
  · have hcmd := s.pcrCmd_op hn (cmdWord_fields (k := 3) hn (by decide) rfl hv)
    rw [exec_slewStop, State.hostParam_pcrCmd hw hcmd, ← hu]
    exact ⟨rfl, s.slewStop_spec hn hu⟩
  · have hcmd := s.pcrCmd_op hn (cmdWord_fields (k := 4) hn (by decide) rfl hv)
    rw [exec_disarm, State.hostParam_pcrCmd hw hcmd]
    rfl
  · rw [exec_alignOutput, State.hostParam_pcrCmd_range hw (s.pcrCmd_range hv)]
  · rw [exec_slewDone hup hn, ← hu]
    exact ⟨rfl, s.slewDone_spec hn hslew hthere hu⟩
  · rw [exec_slewDone hup hn, s.slewDone_not hnot]
  · have hver : fits = s.verFits v.toNat := by rw [hfits, hout, hch]; rfl
    rw [exec_verCtlWrite, State.hostParam_verCtl_unfit hw (hver ▸ hbad)]
  · have hver : fits = s.verFits v.toNat := by rw [hfits, hout, hch]; rfl
    have hfree : ¬ (bitOf v.toNat 0 = true ∧ s.verFits v.toNat = false) := by
      rw [← hver]
      rintro ⟨hen, hunfit⟩
      exact hgood.elim (fun h => by simp [hen] at h) (fun h => by simp [hunfit] at h)
    have hstored : u = s.verStored v.toNat := by
      rw [hu, State.verCtlWrite_eq, if_neg hfree]
      split <;> rfl
    rw [exec_verCtlWrite, State.hostParam_verCtl hw hfree, hstored, hout, hch]
    exact ⟨rfl, s.verStored_spec v.toNat⟩
  · rw [exec_verGateEnd hup, State.verGate_idle hidle]
  · obtain ⟨herrors, hcount, hmean, hfail, hpass⟩ := State.verGate_spec hon hu
    rw [exec_verGateEnd hup, ← hu]
    refine ⟨rfl, herrors, hcount, fun hsome m hm => ?_⟩
    rw [hm, ← s.gateValues_mean hsome]
    exact ⟨hmean, hfail, hpass⟩

end Sys2Proof.Machine
end
